-- ==== Sys2Proof/Word.lean ====
section
/-! DEFINITION. The word types of the LYS-1617 and their plainest arithmetic: 32-bit register words, bytes, bit fields,
saturating counters, and sparse tables (association lists in one canonical form) that registers and memory share. -/

namespace Sys2Proof

/-- A register word (R5, Numbers and units). -/
abbrev Word := BitVec 32

/-- A byte. -/
abbrev Byte := BitVec 8

/-- A 64-bit stamp: a Warp stamp (R5) or an RTC stamp (R6). -/
abbrev Stamp := BitVec 64

/-- Bits hi:lo of a word, as a number. -/
def Word.bits (w : Word) (hi lo : Nat) : Nat := (w.toNat >>> lo) % 2 ^ (hi + 1 - lo)

/-- Bit k of a word. -/
def Word.bit (w : Word) (k : Nat) : Bool := w.getLsbD k

/-- The mask of bits hi:lo. -/
def Word.mask (hi lo : Nat) : Word := BitVec.ofNat 32 ((2 ^ (hi + 1 - lo) - 1) <<< lo)

/-- A word with bits hi:lo replaced by v (v taken modulo the field's width). -/
def Word.withBits (w : Word) (hi lo v : Nat) : Word :=
  (w &&& ~~~ Word.mask hi lo) ||| BitVec.ofNat 32 ((v % 2 ^ (hi + 1 - lo)) <<< lo)

/-- The low and the high word of a 64-bit value (R59). -/
def Stamp.lo (x : Stamp) : Word := x.setWidth 32
/-- The high word of a 64-bit value (R59). -/
def Stamp.hi (x : Stamp) : Word := (x >>> 32).setWidth 32
/-- A 64-bit value from its two words. -/
def Stamp.ofWords (lo hi : Word) : Stamp := hi ++ lo

/-- The four bytes of a word, least significant first (R393: words are little-endian). -/
def Word.toBytes (w : Word) : List Byte :=
  [w.setWidth 8, (w >>> 8).setWidth 8, (w >>> 16).setWidth 8, (w >>> 24).setWidth 8]

/-- The n bytes of a number, least significant first. -/
def leBytes : Nat → Nat → List Byte
  | 0, _ => []
  | n + 1, v => BitVec.ofNat 8 v :: leBytes n (v / 256)

/-- The number that bytes spell, least significant first. -/
def leNat : List Byte → Nat
  | [] => 0
  | b :: t => b.toNat + 256 * leNat t

/-- The n bytes of a number, most significant first. -/
def beBytes (n v : Nat) : List Byte := (leBytes n v).reverse

/-- The number that bytes spell, most significant first. -/
def beNat (l : List Byte) : Nat := leNat l.reverse

/-- Words of a byte string, four bytes each, little-endian; a short tail is padded with zeros. -/
def leWords : Nat → List Byte → List Word
  | 0, _ => []
  | n + 1, l => BitVec.ofNat 32 (leNat (l.take 4)) :: leWords n (l.drop 4)

/-- A count that stops at its top. -/
def satAdd (top a b : Nat) : Nat := min top (a + b)

/-- 1 for true, 0 for false. -/
def b2n (b : Bool) : Nat := if b then 1 else 0

/-- A value read as a signed number of n bits. -/
def signedOf (n v : Nat) : Int := if v % 2 ^ n < 2 ^ (n - 1) then (v % 2 ^ n : Nat) else (v % 2 ^ n : Nat) - (2 ^ n : Nat)

/-- The n-bit two's complement pattern of a number. -/
def unsignedOf (n : Nat) (x : Int) : Nat := (x % (2 ^ n : Nat)).toNat

/-- A number held within the range of n-bit two's complement (saturation). -/
def clampS (n : Nat) (x : Int) : Int := max (-(2 ^ (n - 1) : Nat)) (min ((2 ^ (n - 1) : Nat) - 1) x)

/-- Shift right with rounding to nearest, ties to even (the rounding of R102). -/
def shrRne (x : Int) (s : Nat) : Int :=
  if s = 0 then x
  else
    let d : Int := (2 ^ s : Nat)
    let q := x / d
    let r := x % d
    if 2 * r < d then q else if d < 2 * r then q + 1 else if q % 2 = 0 then q else q + 1

/-- Quotient rounded to nearest, ties to even. -/
def divRne (x : Int) (d : Int) : Int :=
  let q := x / d
  let r := x % d
  if 2 * r < d then q else if d < 2 * r then q + 1 else if q % 2 = 0 then q else q + 1

/-- Sparse tables: what key k holds, d where nothing is listed. -/
def Sparse.get {α : Type} (d : α) (k : Nat) : List (Nat × α) → α
  | [] => d
  | (a, v) :: t => if a = k then v else Sparse.get d k t

/-- Put an entry at its place in rising order, replacing one of the same key. -/
def Sparse.put {α : Type} (k : Nat) (v : α) : List (Nat × α) → List (Nat × α)
  | [] => [(k, v)]
  | (a, w) :: t =>
    if k < a then (k, v) :: (a, w) :: t
    else if k = a then (k, v) :: t
    else (a, w) :: Sparse.put k v t

/-- Remove a key. -/
def Sparse.del {α : Type} (k : Nat) (l : List (Nat × α)) : List (Nat × α) := l.filter (fun p => p.1 ≠ k)

/-- Write: the value an unlisted key reads as removes the entry, so equal tables are equal lists. -/
def Sparse.set {α : Type} [DecidableEq α] (d : α) (k : Nat) (v : α) (l : List (Nat × α)) : List (Nat × α) :=
  if v = d then Sparse.del k l else Sparse.put k v l

/-- Keys strictly rising. -/
def Sparse.rising {α : Type} : List (Nat × α) → Bool
  | [] => true
  | [_] => true
  | (a, _) :: (b, w) :: t => decide (a < b) && Sparse.rising ((b, w) :: t)

/-- The canonical form: keys strictly rising and no entry at its default. -/
def Sparse.wf {α : Type} [DecidableEq α] (d : Nat → α) (l : List (Nat × α)) : Bool :=
  Sparse.rising l && l.all (fun p => decide (p.2 ≠ d p.1))

/-- Element k of a list, d past its end. -/
def nth {α : Type} (d : α) (l : List α) (k : Nat) : α := l.getD k d

/-- Element k of a list changed; nothing past its end. -/
def setNth {α : Type} (l : List α) (k : Nat) (v : α) : List α := l.set k v

/-- Element k of a list mapped through f. -/
def modNth {α : Type} (l : List α) (k : Nat) (f : α → α) : List α := l.modify k f

/-- f applied to a state for each k of a list in turn. -/
def forEach {α σ : Type} (l : List α) (f : α → σ → σ) (s : σ) : σ := l.foldl (fun s x => f x s) s

end Sys2Proof
end

