-- ==== Sys2Proof/Machine/Types.lean ====
section
/-! DEFINITION. The data types of the block's internal state, one group per unit of the spec. Registers the host can
address are not here: they are words of the register file, under the address the register map gives them. -/

namespace Sys2Proof.Machine

/-- Time (R5, R6, R32 to R34). `clk` counts system clock periods since the last pick strobe, `pickLen` is the length of
the current pick in those periods, `rtcClk` is the RTC in system clock periods since 2000-01-01 at the last strobe. -/
structure Time where
  cycle : Nat
  pick : Nat
  clk : Nat
  pickLen : Nat
  /-- By how much the exact instant of the last strobe lies after the strobe, in clock periods (R11); the exact period. -/
  phase : Rat
  period : Rat
  /-- Length of the pick before. -/
  lastLen : Nat
  rtcClk : Nat
  /-- System clock periods since the Warp started: Warp time, which no time set moves (R50). -/
  mono : Nat
  /-- Clock periods of the current cycle so far, and of the two cycles before it (R38, R208). -/
  cycleClk : Nat
  lastDur : Nat
  prevDur : Nat
  /-- RTC at the last pick-0 strobe (R50). -/
  rtcPick0 : Nat
  deriving DecidableEq, Repr

/-- Warp states (R44). -/
inductive WarpState | acquiring | locked | holdover | nominal
  deriving DecidableEq, Repr

/-- The Warp loop (R38 to R49) and its latch unit (R51 to R55). Frequencies in hertz, phase errors in picks. -/
structure Warp where
  state : WarpState
  srcActive : Nat
  freq : Rat
  /-- Frequency set for the next cycle; none keeps the current one. -/
  nextFreq : Option Rat
  /-- The cycle after the next is, the next is, the current is a realign cycle, with its phase error. -/
  realignNext : Option Rat
  realignNow : Bool
  /-- Cycles still to be measured that carry the error a realign cycle removes (R43). -/
  realignHold : Nat
  realignFreq : Rat
  /-- An injected realign decision waits for the next good cycle (R64). -/
  realignInjWait : Bool
  realignInj : Bool
  /-- e of the previous good cycle; none after a low cycle and at a start (R38). -/
  lastE : Option Rat
  lastFreq : Option Rat
  /-- FREQ of up to eight latest good cycles, newest first (R46). -/
  goodFreqs : List Rat
  holdFreq : Rat
  lockRun : Nat
  looseRun : Nat
  goodRun : Nat
  lowRun : Nat
  /-- A holdover episode is open, from its first entry to LOCKED (R47). -/
  holdEpisode : Bool
  holdEntryCycle : Nat
  holdInj : Bool
  /-- Cycles for which an injected holdover still freezes the loop (R47). -/
  frozen : Nat
  stepArmed : Bool
  stepQuiet : Nat
  /-- N in force and the commit of a new N (R51). -/
  nForce : Nat
  /-- A command latch waits (R53), and latch reasons not taken before READY (R594). -/
  cmdLatch : Bool
  reasonCarry : Nat
  /-- LOCKED or NOMINAL has been declared in this start (R595). -/
  everLocked : Bool
  /-- Boundaries handed over by the ledger unit: RTC stamp and reason bit (R52). -/
  boundaries : List (Nat × Nat)
  /-- Selvedge markers missing in a row (R45). -/
  missedMarkers : Nat
  /-- Latch reasons the lead announced for the next pick 0 (R55). -/
  joinLatch : Option Nat
  /-- The cycles measured last, newest first: FREQ of a good one, none for a low one (R38). -/
  measured : List (Nat × Option Rat)
  /-- PLL loss is in force: holdover by CLK detector 2 (R45). -/
  pllLost : Bool
  deriving DecidableEq, Repr

/-- The S1 to S6 filter state of one modulator (R101 to R116): input histories, newest first. -/
structure Chain where
  s1In : List Int
  s2In : List Int
  s3In : List Int
  s4In : List Int
  /-- Modulator clocks counted, for the decimation phases. -/
  clocks : Nat
  /-- Means and integrator of S6 (R113, R114), its last input y, and the GAIN they are held in (R115). -/
  dcMean : Rat
  integ : Rat
  lastY : Rat
  gain : Nat
  /-- Histories of the wideband branch, newest first: modulator bits and sinc³ outputs (R117), and its bit count. -/
  wb1 : List Int
  wb2 : List Int
  wbClocks : Nat
  deriving DecidableEq, Repr

/-- The correction in force for a modulator (R133, R134): G_eff in 2^-30, phase in 1/64 sub-pick, offset in codes. -/
structure Correction where
  gain : Int
  phase : Int
  ofs : Rat
  deriving DecidableEq, Repr

/-- The settings a word is made under: those of its stamp (R73, R102, R109, R114, R134, R135). inst: its S5 instant in 1/16 clock
periods of Warp time, with the S4 delay; s4: the S4 coefficients, none in bypass; raw: on a source, uncorrected (R74); load: the S6
states start at 0 (some none) or are taken from a modulator (R115, R116, R146) with this word; nominal, freq: f_nom and f_c. -/
structure WordCfg where
  inst : Int
  s4 : Option (List Int)
  shift : Word
  chain : Word
  corr : Correction
  raw : Bool
  inv : Bool
  rogowski : Bool
  nominal : Rat
  freq : Rat
  load : Option (Option Nat)
  locked : Bool
  deriving DecidableEq, Repr

/-- What a word still in the chain will carry when it is broadcast (R84, R111): its cause, clamp polarity, INJ, slot; the
pick it is stamped with and the pick of its broadcast, the channel's GAIN and CH_SCALE at its stamp (R69), and its settings. wide:
the cause that counts for the wideband branch, hold7: cause 7 applies (R120). -/
structure WordMark where
  cause : Nat
  wide : Nat
  hold7 : Bool
  clamp : Option Bool
  inj : Bool
  slot : Nat
  pick : Nat
  due : Nat
  gain : Nat
  scale : Word
  cfg : WordCfg
  deriving DecidableEq, Repr

/-- A word that has been broadcast: modulator, mark, S5 output x5, corrected value y (R134), the word. -/
structure OutWord where
  m : Nat
  mark : WordMark
  x5 : Int
  y : Int
  word : Word
  deriving DecidableEq, Repr

/-- A broadcast word as the engines keep it: the pick of its stamp, the word, GAIN and CH_SCALE it was made under. -/
structure HistWord where
  pick : Nat
  word : Word
  gain : Nat
  scale : Word
  deriving DecidableEq, Repr

/-- One of the seventeen modulators M0 to M16 (R65) and the markings of its words. Counts are picks still to run. -/
structure Modulator where
  powered : Bool
  /-- Held in overload reset, with the polarity of the clamp code (R81); true: positive. -/
  ovlHeld : Option Bool
  ovlLeft : Nat
  /-- An overload episode is open until its recovery event (R81). -/
  ovlEpisode : Bool
  ovlInj : Bool
  /-- Injected overload: picks still held in reset (R99), and the channel whose page injected it. -/
  ovlInjHold : Nat
  ovlPage : Option Nat
  cmFault : Bool
  cmLeft : Nat
  settleLeft : Nat
  /-- Picks left of an episode that the wideband branch shares: every cause but the settings of S4, S6 and the shifts (R120). -/
  settleWide : Nat
  /-- A settling episode's detector 6 is owed (R86). -/
  settleOwed : Bool
  /-- Neighbour marking of this channel's words (R82): a neighbour is over the rating, the picks left after it, injected picks left. -/
  nbrNow : Bool
  nbrLeft : Nat
  nbrInjLeft : Nat
  injOver : Bool
  /-- Words in the chain, oldest first (R111). -/
  line : List WordMark
  /-- Pick of a disable under DRAIN: words stamped before it are still to be broadcast (R87); 0 where none is draining. -/
  drainFrom : Nat
  /-- An episode of stale words is being broadcast (R88). -/
  staleEpisode : Bool
  /-- Reference or supply fault marks the words (R90): real, and injected picks left. -/
  refFault : Bool
  refInjLeft : Nat
  /-- On a calibration source or the diagnostic DAC (R74). -/
  onSource : Bool
  ovrEpisode : Bool
  ovrQuiet : Nat
  /-- PEAK is to be cleared at the next pick (R98). -/
  peakClr : Bool
  /-- The last word this modulator produced (R78). -/
  word : Word
  /-- The S5 output after its shift, before correction, of the last pick (R142). -/
  x5 : Int
  /-- S6 states start at 0, or are loaded from a modulator, with the word of this pick (R115, R116, R146). -/
  s6Load : Option (Option Nat)
  /-- Pick at which DC_SETTLING clears (R115). -/
  dcUntil : Nat
  chain : Chain
  deriving DecidableEq, Repr

/-- A match set (R133). -/
structure Match where
  mg : Rat
  mp : Int
  mo : Rat
  deriving DecidableEq, Repr

/-- The result of a reference calibration (R142) with the match set then in force, and its stamp. -/
structure RefResult where
  g : Rat
  z : Rat
  sym : Rat
  stamp : Nat
  set : Match
  deriving DecidableEq, Repr

/-- An anchor (R149). -/
structure Anchor where
  g : Rat
  z : Rat
  set : Match
  deriving DecidableEq, Repr

/-- Sums over the words of one modulator stamped in one cycle (R140, R144): Σ y·e^(−j2πp/1,024) and Σ y of corrected values;
bad: a word that does not qualify. -/
structure CycSum where
  cycle : Nat
  re : Rat
  im : Rat
  sum : Int
  bad : Bool
  deriving DecidableEq, Repr

/-- A qualifying window cycle (R144): the phasors of the outgoing and the incoming modulator, and b_c − a_c. -/
structure WinCyc where
  a : Rat × Rat
  b : Rat × Rat
  d : Rat
  deriving DecidableEq, Repr

/-- What a step is for (R150). -/
inductive StepKind | step | subst | release
  deriving DecidableEq, Repr

/-- The spare unit (R141 to R152). -/
structure Spare where
  /-- STATE of SP_STAT: 0 IDLE, 1 SP_CAL, 2 OVERLAP_OUT, 3 MOD_CAL, 4 OVERLAP_BACK, 5 HELD. -/
  state : Nat
  ch : Nat
  kind : StepKind
  heldWhy : Nat
  /-- A start accepted and due at the next pick 0. -/
  start : Option (StepKind × Nat)
  /-- Channel that SP serves. -/
  served : Option Nat
  /-- Rotation: channels still to come in this pass, cycles until the next step, an accepted STOP. -/
  rotActive : Bool
  rotLeft : List Nat
  rotWait : Option Nat
  rotStop : Bool
  /-- Reference calibration running (R142): source 0 zero, 1 plus, 2 minus; sums over the cycles kept. -/
  calSrc : Nat
  calCycles : Nat
  calKept : Nat
  /-- Sum and number of the S5 outputs of the kept cycles, and of the running cycle. -/
  calSum : Int
  calCnt : Nat
  cycSum : Int
  cycCnt : Nat
  cycBad : Bool
  /-- The calibration starts over at the next pick 0 (R142). -/
  calAgain : Bool
  calZ : Rat
  calP : Rat
  calDone : Bool
  /-- The overlap window (R144). -/
  prelim : Match
  /-- First window cycle, cycles so far, one failed the amplitude test, one of the first 16 did; the qualifying cycles, newest first. -/
  winFrom : Nat
  winElapsed : Nat
  winLow : Bool
  winLow16 : Bool
  winCyc : List WinCyc
  /-- Cycles in progress, of the outgoing and the incoming modulator, and finished ones that await the other's. -/
  winOut : CycSum
  winIn : CycSum
  endOut : Option CycSum
  endIn : Option CycSum
  /-- The match computed and not yet taken over (R145, R146), its cycle, and whether it is the preliminary one. -/
  computed : Option Match
  compCycle : Nat
  refUsed : Bool
  /-- Step result to write at the handback (R147): OK or DRIFT_LIMIT. -/
  resultAtEnd : Nat
  sets : List Match
  refs : List (Nat × RefResult)
  anchors : List (Nat × Anchor)
  corr : List Correction
  /-- Drift report of the last reference calibration of a modulator: DRIFT_G, DRIFT_O, DRIFT_SYM, stamp (R149). -/
  drift : List (Nat × (Word × Word × Word × Nat))
  /-- A step was in progress when the device last went down (R152). -/
  cut : Bool
  /-- Calibration words other than their defaults, key 128 × bank + 8 × channel + word (R136). -/
  banks : List (Nat × Word)
  /-- The step has failed before its handover: SP is disconnected at the next pick 0 (R148). -/
  ended : Bool
  /-- MEAS (R140): the first whole cycle is still awaited; closing stamp of the last cycle used; its channel and sums. -/
  measWait : Bool
  measEnd : Nat
  measCh : Nat
  measGood : Nat
  measElapsed : Nat
  measSum : Int
  measSq : Int
  measPh : Rat × Rat
  measCycSum : Int
  measCycSq : Int
  measCycPh : Rat × Rat
  measBad : Bool
  /-- Die temperatures delivered since the last latch (R138). -/
  tempSum : Rat
  tempCnt : Nat
  deriving DecidableEq, Repr

/-- A step is in progress (R141, R152). -/
def Spare.inStep (p : Spare) : Bool := decide (1 ≤ p.state) && decide (p.state ≤ 4) && !p.ended

/-- A running sequence of the auxiliary converter, under the entries it started with (R264, R265). -/
structure AuxSeq where
  entries : List Word
  last : Nat
  continuous : Bool
  cur : Nat
  stamp : Nat
  /-- The current entry was abandoned and is converted again (R268). -/
  preempted : Bool
  results : List Word
  clamped : Bool
  deriving DecidableEq, Repr

/-- A block delivered to an engine (R265): sequence number, SEQ_STAMP, the sixteen result words. -/
structure AuxBlock where
  no : Nat
  stamp : Nat
  words : List Word
  /-- The SEQ_ENTRY words it was made under. -/
  entries : List Word
  deriving DecidableEq, Repr

/-- The auxiliary converter and the diagnostic DAC (R260 to R271). -/
structure Aux where
  seq : Option AuxSeq
  /-- A trigger that arrived during self-calibration. -/
  trigWaits : Bool
  calWaits : Bool
  calRuns : Bool
  /-- The urgent conversion, its sampling stamp and whether it runs. -/
  urg : Option (Word × Nat × Bool)
  urgCnt : Nat
  /-- Latest block in each engine's data memory, by engine. -/
  blocks : List (Nat × AuxBlock)
  /-- The DAC's target in force: kind and target; and a disconnection due at the next pick 0. -/
  dac : Option (Nat × Nat)
  dacOffAt0 : Bool
  deriving DecidableEq, Repr

/-- A post on its way to the ledger (R210, R299). flags: bit 0 INVALID, 1 HOLDOVER, 2 SPARE, 3 INJ, 5 PARTIAL; hostT and
resumed mark heat posts. fine: exponent of the fine quantum (FQ or HQ). -/
structure Post where
  eng : Nat
  therm : Bool
  feed : Nat
  elem : Nat
  qty : Nat
  n : Nat
  fine : Nat
  flags : Nat
  hostT : Bool
  resumed : Bool
  stamp : Nat
  gen : Nat
  deriving DecidableEq, Repr

/-- P02's values of one cycle, for the 10/12-cycle windows (R204): flags, mean squares by position. -/
structure CycRms where
  cycle : Nat
  flags : Nat
  u : List Rat
  i : List Rat
  deriving DecidableEq, Repr

/-- P01 and P02 (R197 to R222): the configuration in force over the cycle that ended, carries (2^-32 quanta, key
(16 × feed + element) × 32 + quantity) and the FQ they are held in, episodes, established sign of P and its run, the cycles held for the
windows of P02 and the cycle up to which windows have closed, by feed. -/
structure FeedState where
  prev : List (Nat × Word)
  /-- The configuration of the cycle before that one. -/
  prev2 : List (Nat × Word)
  carry : List (Nat × Nat)
  carryFq : List Nat
  /-- Conversions that committed changes of FQ have made due: feed, first cycle under the new FQ, that FQ (R212). -/
  fqDue : List (Nat × Nat × Nat)
  invEp : List Bool
  noEp : List Bool
  dir : List (Nat × Nat)
  agg : List (List CycRms)
  aggEnd : List Nat
  deriving DecidableEq, Repr

/-- How far a circuit's volume has been processed (R295, R301): the cycle of the snapshot (2^64: none yet), µL forward and
reverse of the pulse inputs then, the reverse debt, and the carries of its four quantities in 2^-32 quanta. -/
structure CircProg where
  cycle : Nat
  fwd : List Nat
  rev : List Nat
  debt : Nat
  carry : List Nat
  deriving DecidableEq, Repr

/-- A heat circuit (R293 to R301). acked: what the ledger has accepted; sent: what its last posts cover. -/
structure Circuit where
  tf : Option Rat
  tr : Option Rat
  acked : CircProg
  sent : Option CircProg
  debtEp : Bool
  rangeEp : Bool
  deriving DecidableEq, Repr

/-- Deltas of an applied latch that P06 has still to show (R303): heat, electricity, INVALID; per circuit heat and volume;
clock periods; an interval of COP_CFG.DCH that ended with it: SHORT, heat, electricity, INVALID. -/
structure CopPend where
  heat : Nat
  elec : Nat
  inval : Bool
  circHeat : List Int
  circVol : List Nat
  clk : Nat
  intEnd : Option (Bool × Nat × Nat × Bool)
  deriving DecidableEq, Repr

/-- P06 and the pulse inputs (R284 to R304). -/
structure Therm where
  circs : List Circuit
  /-- Last temperatures of AUX0, AUX1, AUX3, and their and the reference's fault episodes. -/
  temps : List (Option Rat)
  faults : List Bool
  blockNo : Option Nat
  /-- Warp time of the last accepted host write, by HOST_T. -/
  hostAt : List (Option Nat)
  hostStaleEp : List Bool
  /-- µL counted by each input since the start, forward and reverse, and the snapshot of the last pick 0 with its cycle. -/
  fwd : List Nat
  rev : List Nat
  snapCycle : Nat
  snapFwd : List Nat
  snapRev : List Nat
  /-- The snapshot before that one. -/
  prevFwd : List Nat
  prevRev : List Nat
  quadEp : Bool
  cop : Option CopPend
  /-- Sums of the open COP interval: heat, electricity, INVALID. -/
  interval : Nat × Nat × Bool
  seasonWait : Bool
  deriving DecidableEq, Repr

/-- The coefficient memory and bank selection of the metering chain (R106 to R109). -/
structure Filter where
  /-- Coefficients other than the D96 default, key (2 × profile + bank) × 96 + index. -/
  coefs : List (Nat × Int)
  /-- COEF_ADDR has been written since reset (R127). -/
  addrSet : Bool
  satEpisode : List Nat
  satQuiet : List Nat
  deriving DecidableEq, Repr

/-- What a wideband block gathers while it fills (R119, R120). -/
structure WbBlock where
  stamp : Option Nat
  src : Nat
  /-- Modulator of its first sample (log 14). -/
  srcMod : Nat
  gain : Nat
  causes : List Nat
  inj : Bool
  handover : Bool
  spare : Bool
  hold7 : Bool
  sat : Nat
  /-- Packed samples, newest first. -/
  samples : List Int
  deriving DecidableEq, Repr

/-- One wideband stream (R117 to R122). -/
structure WbStream where
  running : Bool
  bseq : Nat
  cur : WbBlock
  /-- A full block on its way to the engines. -/
  ready : Option WbBlock
  /-- The next block written carries GAP (R121). -/
  gapNext : Bool
  dropEpisode : Bool
  satEpisode : Bool
  /-- The stream stops with the block in progress, until that has been delivered (R122, DRAIN). -/
  stopping : Bool
  /-- Warp time in clock periods before which no sample is taken (R122). -/
  startAt : Nat
  /-- The two buffers with the latest blocks, newest first (R119). -/
  blocks : List (List Byte)
  deriving DecidableEq, Repr

/-- Power states (R519). -/
inductive PwrState | off | vault | starting | run | lean | hold
  deriving DecidableEq, Repr

/-- The power unit (R515 to R525). -/
structure Power where
  st : PwrState
  /-- Next step of the start-up sequence (R593), 1 to 9; 0 once RUN. -/
  startStep : Nat
  startCause : Nat
  /-- A RUN or LEAN command waits for its latch; true: to LEAN (R520). -/
  pendLean : Option Bool
  /-- A power failure is declared: its cause (R521). -/
  failed : Option Nat
  /-- Pick of the HOLD entry; the save has begun (R522, R523). -/
  holdAbs : Nat
  saving : Bool
  /-- A commit of the save was refused its permit (R523). -/
  saveRefused : Bool
  /-- The first commit of the save has started (R525). -/
  saveStarted : Bool
  saveClk : Nat
  /-- The ledger has loaded its totals in this start (R519, R524). -/
  totalsLoaded : Bool
  ready : Bool
  /-- A charging episode runs, and has raised detector 8 (R517). -/
  charging : Bool
  chargeLate : Bool
  /-- Mono clock at which the charging episode began (R517). -/
  chargeFrom : Nat
  /-- Episodes: VBAK low (R536), VREG overloaded (R516), write permit lost (R518). -/
  vbakLow : Bool
  vregOver : Bool
  permitLost : Bool
  /-- VIN ≥ PF_TH + VIN_MARGIN (R518). -/
  vinAbove : Bool
  /-- A device reset waits for its reply or for a started commit (R524, R566, R592): its START_CAUSE. -/
  resetWait : Option Nat
  /-- The vault domain has lost power since the last start (R525, R12). -/
  vaultLost : Bool
  /-- Raises of the scan and of loading that READY makes (R596): page, detector, ARG. -/
  deferred : List (Nat × Nat × Nat)
  deriving DecidableEq, Repr

/-- A request to the power arbiter (R527 to R532). outcome: 0 none yet, 1 GRANT, 2 WAIT, 3 REFUSED. -/
structure ArbReq where
  page : Nat
  cls : Nat
  mw : Nat
  standing : Bool
  age : Nat
  outcome : Nat
  reason : Nat
  granted : Nat
  /-- WAIT_PICKS while it waits (R530). -/
  wait : Nat
  deriving DecidableEq, Repr

/-- The arbiter's requests and counts. -/
structure Arbiter where
  reqs : List ArbReq
  nextAge : Nat
  /-- Refusals per page and reason, key 8 × page + reason; entries to WAIT per page (R541). -/
  refused : List (Nat × Nat)
  waited : List (Nat × Nat)
  c0Over : Bool
  deriving DecidableEq, Repr

/-- What a commit writes (R430 to R437). -/
inductive CommitKind
  /-- A slot-pair record, committed as a set, with a duplicate pass where the record is DUP. -/
  | set
  /-- DUPLICATE: stored payloads rewritten under their SEQ. -/
  | dup
  /-- A positional unit at an address: journal entry, Sheaf, image. -/
  | at (addr : Nat)
  deriving DecidableEq, Repr

/-- A commit waiting or in progress (R435). -/
structure Commit where
  kind : CommitKind
  id : Nat
  cls : Nat
  /-- SEQ given by the owner (LSEQ, SHSEQ); none: one above the record's. -/
  seq : Option Nat
  flags : Nat
  payloads : List (List Byte)
  started : Bool
  /-- Part of the HOLD save (R440). -/
  save : Bool
  deriving DecidableEq, Repr

/-- A held journal entry: LSEQ, address, length with header. -/
structure JrnEntry where
  lseq : Nat
  addr : Nat
  len : Nat
  deriving DecidableEq, Repr

/-- The record store (R428 to R451). -/
structure RecStore where
  queue : List Commit
  conflicts : List Nat
  /-- States given by the scan: 0 VALID, 1 RECOVERED, 2 EMPTY, by ID, where not VALID. -/
  states : List (Nat × Nat)
  jrn : List JrnEntry
  /-- Where the next journal entry goes. -/
  jrnNext : Nat
  jrnRecovered : Bool
  permitEpisode : Bool
  coverRaised : Bool
  /-- Accepted RESOLVEs that wait: ID and slot (0 A, 1 B). -/
  resolve : List (Nat × Nat)
  deriving DecidableEq, Repr

/-- An entry of a program image (R176). type: 0 unused, 1 STREAM, 2 SLOT, 3 BLOCK; grain: 0 NONE, 1 CYCLE, 2 HALF. -/
structure ImgEntry where
  ofs : Nat
  type : Nat
  prog : Nat
  grain : Nat
  wcet : Nat
  deriving DecidableEq, Repr

/-- A program image (R176): header fields, digest, whether it is a ROM image, and its bytes where it is not. -/
structure Image where
  prog0 : Nat
  prog1 : Nat
  stateFmt : Nat
  ver : Nat
  roll : Nat
  stateLen : Nat
  workLen : Nat
  entries : List ImgEntry
  digest : List Byte
  rom : Bool
  bytes : List Byte
  deriving DecidableEq, Repr

/-- An invocation of an engine's schedule (R163 to R167). task: 0 to 31 slot, 32 STREAM, 33 BLOCK. -/
structure Invocation where
  task : Nat
  entry : Nat
  prog : Nat
  /-- Nominal start stamp, and the pick it lies at. -/
  stamp : Nat
  /-- Stamp that MISS_STAMP shows: the nominal start stamp, for a BLOCK task the ready stamp (R195). -/
  missStamp : Nat
  startAbs : Nat
  dueAbs : Nat
  /-- Pick before whose stamp every subscribed word is needed; 0 where none is. -/
  needAbs : Nat
  waiting : Bool
  started : Bool
  running : Bool
  late : Bool
  inj : Bool
  /-- Wideband stream and BSEQ of a BLOCK task. -/
  stream : Nat
  bseq : Nat
  deriving DecidableEq, Repr

/-- One metric engine (R161 to R185); its schedule's registers are in the register file. -/
structure Engine where
  bankA : Option Image
  bankB : Option Image
  queue : List Invocation
  busyClk : Nat
  runSince : Nat
  loadClr : Bool
  injMiss : Bool
  waitEpisode : Bool
  waitSeen : Bool
  /-- Input blocks complete so far (R162). -/
  blocksIn : Nat
  /-- The programs start at: 0 running, 1 the next pick 0, 2 the next latch, 3 not started, 4 the next pick 0 with the state loaded,
  5 the pick 0 after the one that has begun. -/
  startAt : Nat
  /-- Windows begun before this pick carry INVALID (R180, R181). -/
  validFrom : Nat
  /-- The ENGINE record's content (R178): the image digest, then the program IDs (log 22). -/
  named : List Byte
  /-- Per pick-bus slot, the picks of the commits that last subscribed it and that last ended its subscription (R162). -/
  subFrom : List Nat
  subTill : List Nat
  deriving DecidableEq, Repr

/-- A transfer of a schedule in progress (R180, R181). -/
structure Transfer where
  eng : Nat
  fresh : Bool
  since : Nat
  back : Bool
  deriving DecidableEq, Repr

/-- An image load in progress (R177): target and the bytes received, newest first. -/
structure ImgLoad where
  eng : Nat
  bank : Nat
  words : Nat
  bytes : List Byte
  deriving DecidableEq, Repr

/-- What a ring holds beside its descriptor registers (R409, R411, R414, R423). -/
structure RingMeta where
  /-- A GAP awaits its successor: SEQ, number and stamp of the missing entries. -/
  gapPending : Bool
  missFirst : Nat
  missCount : Nat
  missStamp : Nat
  losing : Bool
  full : Bool
  wm : Bool
  /-- Start counter, byte length and entry count of every group still held, oldest first. -/
  groups : List (Nat × Nat × Nat)
  /-- Placement changed while disabled: HEAD and TAIL restart at the next enable. -/
  moved : Bool
  /-- SEQ expected next from the host (R414). -/
  expect : Nat
  /-- A disabled host-produced ring with entries below HEAD still to answer (R418); true: each ABORTED. -/
  leaving : Option Bool
  deriving DecidableEq, Repr

/-- An entry offered to a ring: TYPE, stamp, FLAGS bits 4:0, producer GEN, and the bytes after the header. -/
structure Entry where
  type : Nat
  stamp : Nat
  flags : Nat
  gen : Nat
  body : List Byte
  deriving DecidableEq, Repr

/-- An entry held back by a ring's merge of several engines (R175). -/
structure MergeItem where
  ring : Nat
  stamp : Nat
  eng : Nat
  entries : List Entry
  /-- The pick in which they were written: no entry waits longer than its writers' latest deadline. -/
  since : Nat
  deriving DecidableEq, Repr

/-- The ENG block. -/
structure EngBlock where
  load : Option ImgLoad
  served : Option Nat
  savedBank : Nat
  transfer : Option Transfer
  bist : Option Nat
  bistGo : Bool
  merge : List MergeItem
  /-- Latest stamp written or placeheld, key 16 × ring + engine. -/
  mergeDone : List (Nat × Nat)
  /-- Digests in the four positions of the image store (R178). -/
  store : List (List Byte)
  /-- A slot of P07 has missed its deadline, and the spare unit has not acted on it yet (R148). -/
  recalMiss : Bool
  deriving DecidableEq, Repr

/-- What a log record was copied from (R457), where its writing has a further effect: the FeRAM address of a tamper entry
(R467), the number of a capture slot (R245), the SHSEQ of a Sheaf. -/
inductive LogSource | plain | tamper (addr : Nat) | capture (slot : Nat) | sheaf (no : Nat)
  deriving DecidableEq, Repr

/-- A record in the staging buffer (R459, R463). flags: bit 0 GAP, 1 RESTART, 4 INJ. -/
structure LogRec where
  type : Nat
  flags : Nat
  stamp : Nat
  body : List Byte
  src : LogSource
  deriving DecidableEq, Repr

/-- An erase unit of a stream that holds records (R458): unit of the device, USEQ, RSEQ of the first fragment that begins in
it and of the newest record that ended in it. -/
structure LogUnit where
  unit : Nat
  useq : Nat
  first : Nat
  last : Nat
  deriving DecidableEq, Repr

/-- One stream of the log store (R456 to R470). st: 1 WAITING, 2 RUN, 3 FULL, 4 FAILED; units in use oldest first, the last
open, written up to off; sent: payload bytes of the first staged record already programmed. -/
structure LogStream where
  st : Nat
  staged : List LogRec
  sent : Nat
  nextRseq : Nat
  units : List LogUnit
  off : Nat
  nextUseq : Nat
  head : Nat
  tail : Nat
  lost : Nat
  /-- Records lost since the last one that fitted, and the stamp of the first (R463). -/
  gapCnt : Nat
  gapStamp : Nat
  /-- A unit taken back whose erase is still to complete (R465). -/
  erasing : Option Nat
  weak : List Nat
  /-- Bad and retired units of the region (R461), and erase counts by unit. -/
  bad : List Nat
  erases : List (Nat × Nat)
  /-- Sheaves or tamper entries are to be copied again after a GAP (R467). -/
  catchUp : Bool
  /-- SHSEQ of the newest Sheaf in the stream. -/
  newest : Nat
  /-- REG_CFG and REG_UNITS show a mounted layout and take no write until the next FORMAT (R456). -/
  laid : Bool
  deriving DecidableEq, Repr

/-- The external log store (R453 to R476). cmd: the command that runs, its chip select and LEN; prog: the programs of the
last FLASH_PROGRAM_COMPLETE, device byte address and bytes; harm: entries of a HARM source since its last copy; super: what is known
of a chip select's superblock, 0 nothing, 1 that it is valid, 2 that there is none (R455). -/
structure Store where
  streams : List LogStream
  cmd : Option (Nat × Nat × Nat)
  prog : List (Nat × List Byte)
  harm : List (Nat × Nat)
  super : List Nat
  deriving DecidableEq, Repr

/-- A key slot of the Husk (R479, R480, R490); key: the key bytes (x ‖ y of a public key), empty where none is held. -/
structure KeySlot where
  ktype : Nat
  usage : Nat
  attr : Nat
  parent : Nat
  depth : Nat
  counter : Nat
  epoch : Nat
  parentEpoch : Nat
  key : List Byte
  unusable : Bool
  deriving DecidableEq, Repr

/-- What a crypto operation still does beside its response: nothing; a token's kind and duration (R503); an update message
with its slot and the slot's new content (R489); a child derived into a slot; a slot deleted (R493). -/
inductive CryptEffect
  | none
  | token (kind dur : Nat)
  | update (slot : Nat) (new : KeySlot) (msg : List Byte)
  | child (slot : Nat) (new : KeySlot)
  | delete (slot : Nat) (new : KeySlot)
  deriving DecidableEq, Repr

/-- A RING11 request taken (R498). phase: 0 not started, 1 running, 2 awaiting its record commit, 3 done. -/
structure CryptOp where
  seq : Nat
  op : Nat
  entry : List Byte
  phase : Nat
  status : Nat
  out : List Byte
  eff : CryptEffect
  stale : Bool
  deriving DecidableEq, Repr

/-- The Husk and the crypto unit (R477 to R514). trans: the life-cycle transition that runs, 0 a step, 1 RETIRED. stage: an
update between steps 1 and 4 of R489. The key SRAM's mask and polarity (R481) are beside the keys. -/
structure Husk where
  slots : List KeySlot
  fuses : List (Nat × Word)
  chal : Option (List Byte)
  chalUntil : Nat
  /-- Pick of the first word of UNLOCK, and the pick UNLOCK opened at (R505). -/
  unlock1 : Option (Nat × Nat)
  unlockAt : Option Nat
  testUntil : Nat
  stage : Option (Nat × Nat × KeySlot × Nat)
  /-- Children and deletions whose KEY commits are issued: slot, new content, SEQ of the request. -/
  waits : List (Nat × KeySlot × Nat)
  trans : Option Nat
  ops : List CryptOp
  chain : List Byte
  mask : Nat
  inverted : Bool
  deriving DecidableEq, Repr

/-- What the calendar gives at an instant (R332): rate, season, week profile, day profile, a special day. -/
structure TarNow where
  rate : Nat
  season : Nat
  week : Nat
  day : Nat
  special : Bool
  deriving DecidableEq, Repr

/-- Tariff, demand and billing time (R330 to R346): calendar images of 245 words, PASSIVE state, what is in force, the UTC
minute up to which boundaries are handled. -/
structure Tariff where
  active : List Word
  passive : List Word
  inForce : TarNow
  lastMin : Nat
  invalidEp : Bool
  deriving DecidableEq, Repr

/-- A demand channel (R336 to R340). e: units of the open grid interval, from RTC stamp start; subs: earlier sub-intervals of
a sliding window, newest first, energy, start, flags; short: the interval is not whole; maxs: nine maxima with their stamps. -/
structure DemCh where
  isOpen : Bool
  e : Nat
  start : Nat
  short : Bool
  flags : Nat
  subs : List (Nat × Nat × Nat)
  maxs : List (Nat × Nat)
  cum : Nat
  lastE : Nat
  lastD : Word
  lastEnd : Nat
  lastFlags : Nat
  deriving DecidableEq, Repr

/-- Sums of a source over a latch (R319, R326): units, fine quanta, exponent, flags (bit 0 INVALID, 1 HOLDOVER, 2 SPARE, 3
INJ, 5 PARTIAL), HOST_T, RESUMED, posts accepted. -/
structure LedAcc where
  units : Nat
  quanta : Nat
  fine : Nat
  flags : Nat
  hostT : Bool
  resumed : Bool
  cnt : Nat
  deriving DecidableEq, Repr

/-- A set of accumulators (R324): opening stamp, rate, Warp time at the opening, sums by source key, posts owed by key (R25). -/
structure LatchSet where
  opened : Nat
  rate : Nat
  mono : Nat
  acc : List (Nat × LedAcc)
  owed : List (Nat × Nat)
  deriving DecidableEq, Repr

/-- A tariff change at a latch (R333, R344): what is in force from the next latch, TFLAGS, the instant, and CAL_ID. -/
structure SwitchInfo where
  now : TarNow
  flags : Nat
  at_ : Nat
  cal : Nat
  deriving DecidableEq, Repr

/-- A demand channel at a latch: its configuration word until then, whether its grid interval ends and with which flags (SHORT
1, POWER_RESTORED 2, POWER_DOWN 4, TIME_SET 0x400), whether an interval opens, whether that one is not whole, and the marks it begins with. -/
structure DemEnd where
  ch : Nat
  cfg : Word
  ends : Bool
  flags : Nat
  again : Bool
  short : Bool
  next : Nat
  deriving DecidableEq, Repr

/-- A latch that has closed and is not applied yet (R324, R325). -/
structure ClosedLatch where
  set : LatchSet
  close : Nat
  rtc : Nat
  reason : Nat
  cycles : Nat
  picks : Nat
  mono : Nat
  applyAt : Nat
  defs : List (Nat × Word)
  ends : List DemEnd
  switch : Option SwitchInfo
  /-- TRIGGER and SKIPPED of a Sheaf taken here. -/
  sheaf : Option (Nat × Nat)
  powerfail : Bool
  /-- RING2 SEQ high-water mark (OP-3). -/
  hwm : Nat
  deriving DecidableEq, Repr

/-- A latch record formed and not yet visible (R325, R437): its LSEQ, its entries, its journal entry is committed. -/
structure LatchRec where
  lseq : Nat
  entries : List Entry
  ready : Bool
  deriving DecidableEq, Repr

/-- A Sheaf due (R341, R342): trigger, skipped, LSEQ, closing stamps, registers with their totals, channel blocks, rate and
CAL_ID at the close, the chain hash; once formed its SHSEQ, payload, FeRAM address, LEDGER_SLOT as its signature was requested
(R512), signature, and whether it is committed; the
channels' cumulative maxima and maxima before it; whether it is formed at the next start. -/
structure SheafDue where
  trigger : Nat
  skipped : Nat
  lseq : Nat
  stamp : Nat
  rtc : Nat
  totals : List (Nat × Nat)
  blocks : List (List Byte)
  rate : Nat
  cal : Nat
  hash : List Byte
  shseq : Nat
  payload : Option (List Byte)
  flags : Nat
  addr : Nat
  slot : Nat
  sig : Option (List Byte)
  committed : Bool
  before : List (Nat × List (Nat × Nat))
  late : Bool
  deriving DecidableEq, Repr

/-- A RING4 entry waiting for its turn (R339, R343, R344): LEDGER_SLOT as the signature was requested
(R512), body bytes 16 to 63 of a DEMAND_END with its flags, its chain hash and signature; a Sheaf; a TARIFF_SWITCH body. -/
inductive Out4
  | demand (lseq stamp slot : Nat) (body hash : List Byte) (late : Bool) (sig : Option (List Byte))
  | sheaf (d : SheafDue)
  | switch (lseq stamp : Nat) (body : List Byte)
  deriving DecidableEq, Repr

/-- A TARIFF_SWITCH saved in HOLD (R344, R346): the LSEQ of its latch and its body. -/
structure SavedSwitch where
  lseq : Nat
  body : List Byte
  deriving DecidableEq, Repr

/-- The ledger (R317 to R363). Definitions: word 2i + w, live and pending; totals, ROLLOVER flags and marks by register. -/
structure Ledger where
  loaded : Bool
  defs : List (Nat × Word)
  defShadow : List (Nat × Word)
  totals : List (Nat × Nat)
  roll : List Nat
  /-- The definitions the views were last formed under (R323). -/
  viewDefs : List (Nat × Word)
  clears : List Nat
  lateKeys : List Nat
  sets : LatchSet
  closed : Option ClosedLatch
  /-- Closing stamp and cycle, in picks since the Warp started, of the last latch. -/
  lastClose : Nat
  lastAbs : Nat
  lseq : Nat
  recs : List LatchRec
  /-- LSEQ of the newest record visible in RING3 and of the newest chained. -/
  visible : Nat
  out4 : List Out4
  cmdSheaf : Bool
  /-- What the next latch settles: channels, tariff change, Sheaf (R333, R336, R341). -/
  pendEnds : List DemEnd
  pendSwitch : Option SwitchInfo
  pendSheaf : Option (Nat × Nat)
  /-- RTC before and after a time set not yet handled (R345). -/
  timeSet : Option (Nat × Nat)
  /-- The settlement of R346 is still to come; the RTC of the save. -/
  restore : Option Nat
  /-- Flags of the billing period (R342), closing RTC of the previous Sheaf, Sheaf positions: address and SHSEQ, newest first. -/
  period : Nat
  prevSheaf : Nat
  sheaves : List (Nat × Nat)
  /-- Records saved in HOLD that READY chains (R328), DEMAND payloads saved unsigned, tariff switches not yet in RING4, a Sheaf that was due: TRIGGER,
  SKIPPED, LSEQ, closing Warp and RTC stamps. -/
  savedRecs : List JrnEntry
  savedDem : List (Nat × List Byte)
  savedSw : List SavedSwitch
  savedSheaf : Option (Nat × Nat × Nat × Nat × Nat)
  deriving DecidableEq, Repr

/-- Settings that a half-cycle value is judged by (R233): selected channels; the thresholds and the hysteresis in volts. -/
structure EvSet where
  sel : List Nat
  dip : Rat
  swell : Rat
  int : Rat
  hyst : Rat
  deriving DecidableEq, Repr

/-- An open dip, swell or interruption (R233, R234): kind 1, 2, 3; START stamp, mono clock and RTC of it; channels that crossed;
EFLAGS; extreme with its channel and those of CH0 to CH3, and the channels that have one; words with a cause, from SP. -/
structure PqEvent where
  kind : Nat
  id : Nat
  start : Nat
  clk : Nat
  rtc : Nat
  chans : Nat
  flags : Nat
  ext : Rat
  extCh : Nat
  exts : List Rat
  seen : List Nat
  inval : Bool
  spare : Bool
  /-- By an injected detector (R259); injWords: words with INJ lie within it. -/
  inj : Bool
  injWords : Bool
  deriving DecidableEq, Repr

/-- A window of P05 toward the 150/180-cycle values (R230, R231): its closing cycle and length, squares of U_W, of u2 and of u0, FLAG, and
its header flags. -/
structure PqWin where
  close : Nat
  len : Nat
  u : List Rat
  u2 : Rat
  u0 : Rat
  flag : Bool
  flags : Nat
  deriving DecidableEq, Repr

/-- The open 10-second interval (R232): its number, good cycles, sum of 1/FREQ, low cycles held, FLAG. -/
structure PqFreq where
  no : Option Nat
  k : Nat
  sum : Rat
  low : Bool
  flag : Bool
  /-- P05 started over within the interval (R180). -/
  early : Bool
  deriving DecidableEq, Repr

/-- P04's interval of a stream (R240, R241): filter state, BSEQ of its first block, stamp and BSEQ of the first one written, blocks, sums
and maxima of the groups so far, SFLAGS and header flags, source modulator; the stream's first interval; detector 7's episode. -/
structure SupraAcc where
  filt : List Rat
  bseq0 : Nat
  stamp : Nat
  firstB : Nat
  cnt : Nat
  groups : List Rat
  tops : List Rat
  sflags : Nat
  flags : Nat
  src : Nat
  fresh : Bool
  episode : Bool
  /-- BSEQ of the latest block. -/
  lastB : Nat
  deriving DecidableEq, Repr

/-- A capture that fills (R243, R244): trigger with its source code, EV_ID; masks; cycles and blocks before and after;
started: its CAP_START is written; cycles written from the trigger cycle on; blocks written, by stream. -/
structure Capture where
  id : Nat
  slot : Nat
  code : Nat
  stamp : Nat
  abs : Nat
  rtc : Nat
  evId : Nat
  inj : Bool
  mask : Nat
  smask : Nat
  pre : Nat
  post : Nat
  preB : Nat
  postB : Nat
  extra : Nat
  started : Bool
  cycles : Nat
  blocks : List (Nat × Nat)
  aborted : Bool
  deriving DecidableEq, Repr

/-- Power quality (R229 to R259). vals: stamp, mono clock and RTC of the last half-cycle value; at0, at512: mono clock and RTC of
the strobes of the latest picks 0 and 512, newest first. blks: recent blocks by stream, newest first: BSEQ, stamp and bytes. armed: slot and
pick since which it holds history. held: captures in their slots, slot and length. wins: the latest windows, newest first. forces: of the
latest picks 0, newest first, W and HARM_CFG as they were over the cycle that ended there. evSets: the settings of the latest half-cycle
values, by the pick they close at. -/
structure Pq where
  evs : List PqEvent
  injEnd : List PqEvent
  restart : Bool
  trunc : Bool
  last : Nat × Nat × Nat
  at0 : List (Nat × Nat)
  at512 : List (Nat × Nat)
  cycFlag : Bool
  winFlag : Bool
  wins : List PqWin
  forces : List (Nat × Word)
  evSets : List (Nat × EvSet)
  freq : PqFreq
  nomCycle : Nat
  supra : List SupraAcc
  blks : List (List (Nat × Nat × List Byte))
  armed : Option (Nat × Nat)
  cap : Option Capture
  held : List (Nat × Nat)
  copied : List Nat
  capId : Nat
  deriving DecidableEq, Repr

/-- Pulses spread over one cycle (R365): accumulator before and energy of the cycle in 2^-64 pulses, the cycle's pick 0,
first and last pulse number still to come. -/
structure PulseRun where
  acc : Nat
  delta : Nat
  start : Nat
  next : Nat
  last : Nat
  deriving DecidableEq, Repr

/-- A pulse output (R364 to R367). acc in 2^-64 pulses; energy: base units that have arrived; lastEdge, pulseEnd: mono clocks;
from_: energies stamped from there on count; off: it drains. -/
structure PulseOut where
  running : Bool
  off : Bool
  acc : Nat
  energy : Rat
  from_ : Nat
  runs : List PulseRun
  backlog : Nat
  lastEdge : Option Nat
  pulseEnd : Option Nat
  episode : Bool
  moved : Bool
  satEp : Bool
  deriving DecidableEq, Repr

/-- The display (R372 to R378): frame is the last one latched, bit i its bit i; since, lastAct: RTC seconds. -/
structure Disp where
  manual : Bool
  alt : Bool
  item : Nat
  since : Nat
  lastAct : Nat
  keyA : Bool
  keyB : Bool
  ignA : Bool
  ignB : Bool
  changed : Bool
  overEp : Bool
  frame : Nat
  deriving DecidableEq, Repr

/-- A tamper event in the vault buffer (R384, R385). flags: bit 0 VAULT, 1 INJ, 2 RTC_INVALID. -/
structure TampEvent where
  rtc : Nat
  warp : Nat
  input : Nat
  kind : Nat
  flags : Nat
  lost : Nat
  cnt : Nat
  deriving DecidableEq, Repr

/-- A tamper input's filter (R383): last samples and how often they came in a row; accepted loop fault; out of normal state. -/
structure TampInput where
  loopLast : Bool
  loopRun : Nat
  swLast : Bool
  swRun : Nat
  loop : Bool
  isOpen : Bool
  deriving DecidableEq, Repr

/-- The tamper unit (R383 to R387); it is in the vault domain. freed: TSEQ up to which entries are freed. -/
structure Tamp where
  inputs : List TampInput
  vbuf : List TampEvent
  lost : Nat
  tseq : Nat
  freed : Nat
  fullEp : Bool
  deriving DecidableEq, Repr

/-- A request on the crossbar (R19 to R21, R549, R550): issuing page and its GEN, target page and its GEN at acceptance, which the reply
carries, class, pick and order of arrival;
accepted by the target's generation, or still held; returned BLOCK_RESET or ABORTED as its reply. -/
structure XReq where
  init : Nat
  gen : Nat
  target : Nat
  tgen : Nat
  cls : Nat
  since : Nat
  accepted : Bool
  returned : Bool
  deriving DecidableEq, Repr

/-- Faults and test (R550, R557, R558, R563): pages within their reset with the pick it began at; requests, oldest first; the
scrub pass that runs, its start in clock periods; the start of the last one in seconds; the test that runs, the fuse region
being blown, staged fuse words, regions whose blow failed. -/
structure Faults where
  inReset : List (Nat × Nat)
  xbar : List XReq
  scrub : Option Nat
  lastScrub : Nat
  test : Option Nat
  blowing : Option Nat
  staged : List (Nat × Word)
  blowFail : List Nat
  deriving DecidableEq, Repr

/-- A node as the lead knows it (R576, R578): polls not answered in a row, present, marked absent, pick of its last poll, delays of
the last exchanges in 1/32 clock period, newest first. -/
structure JoinNode where
  id : Nat
  misses : Nat
  present : Bool
  absent : Bool
  lastPoll : Nat
  delays : List Nat
  deriving DecidableEq, Repr

/-- A RING15 entry taken (R576, R583): its SEQ, its DONE status once it has one, and the frame it sends. -/
structure JoinOut where
  seq : Nat
  status : Option Nat
  ftype : Nat
  dst : Nat
  payload : List Byte
  deriving DecidableEq, Repr

/-- An export record checked and due at the next latch apply (R586): totals by register, device ID, LSEQ, digest. -/
structure JoinImport where
  items : List (Nat × Nat)
  id : List Byte
  lseq : Nat
  digest : List Byte
  deriving DecidableEq, Repr

/-- The Selvedge controller (R573 to R590). tx: the frame last sent; polled: the node polled, and whether it has answered; meas: e and
FREQ of this cycle's good marker; req: a latch request (BILLING, pick at which it was sent); owed: LREPLYs owed (node, payload);
reads: LREADs sent (tag, pick); sources: last FSEQ by source; loose: cycles not LOCKED; exp: LSEQ and record of an export. -/
structure Join where
  tx : List Byte
  fseq : Nat
  nodes : List JoinNode
  next : Nat
  polled : Option (Nat × Bool)
  meas : Option (Rat × Rat)
  wasAcq : Bool
  ofsWait : Bool
  alignRun : Nat
  loose : Nat
  leadRtc : Option Nat
  req : Option (Bool × Option Nat)
  owed : List (Nat × List Byte)
  out : List JoinOut
  reads : List (Nat × Nat)
  sources : List (Nat × Nat)
  chunks : List (Nat × List Byte)
  total : Nat
  wantExport : Bool
  exp : Option (Nat × List Byte)
  imp : Option JoinImport
  deriving DecidableEq, Repr

/-- A microcode image (R600): PROG_VER, ROLL_CTR, digest, whether it is a ROM image, and its bytes where it is not. -/
structure McImage where
  ver : Nat
  roll : Nat
  digest : List Byte
  rom : Bool
  bytes : List Byte
  deriving DecidableEq, Repr

/-- The RTC page and the microcode of the two units (R600 to R605). set: the captured RTC_SET; banks: 2 × unit + bank; floors and
image-store positions (255: ROM) by unit; load: unit, words, bytes received (newest first); pend: unit whose ACTIVATE waits, the
position its image takes, and whether the ledger has applied a latch since; chained: CHAINED_LSEQ. -/
structure Micro where
  set : Option Nat
  banks : List (Option McImage)
  floors : List Nat
  pos : List Nat
  load : Option (Nat × Nat × List Byte)
  pend : Option (Nat × Option Nat × Bool)
  chained : Nat
  deriving DecidableEq, Repr

/-- The host port: the reply of the last frame, STATUS first (R393, R397); pages whose soft reset awaits the next strobe (R401), and
pages with the EVT_INJ bits that await it (R546). -/
structure HostPort where
  reply : List Byte
  frameNo : Nat
  resets : List Nat
  inj : List (Nat × Nat)
  deriving DecidableEq, Repr

/-! ### Units at rest -/

/-- A chain at rest. -/
def Chain.reset : Chain := ⟨[], [], [], [], 0, 0, 0, 0, 0, [], [], 0⟩
/-- The correction of unit gain. -/
def Correction.one : Correction := ⟨2 ^ 30, 0, 0⟩
/-- Sums not begun. -/
def CycSum.zero : CycSum := ⟨0, 0, 0, 0, false⟩
/-- A modulator with a chain at rest. -/
def Modulator.reset : Modulator :=
  { powered := true, ovlHeld := none, ovlLeft := 0, ovlEpisode := false, ovlInj := false, ovlInjHold := 0, ovlPage := none, cmFault := false,
    cmLeft := 0, settleLeft := 0, settleWide := 0, settleOwed := false, nbrNow := false, nbrLeft := 0, nbrInjLeft := 0,
    injOver := false, line := [], drainFrom := 0, staleEpisode := false, refFault := false, refInjLeft := 0, onSource := false, ovrEpisode := false, ovrQuiet := 0,
    peakClr := false, word := 0, x5 := 0, s6Load := none, dcUntil := 0, chain := Chain.reset }
/-- A ring with nothing lost and nothing pending. -/
def RingMeta.empty : RingMeta := ⟨false, 0, 0, 0, false, false, false, [], false, 0, none⟩
/-- The match set of unit gain. -/
def Match.one : Match := ⟨1, 0, 0⟩
/-- A block with no sample yet. -/
def WbBlock.empty (src gain : Nat) : WbBlock := ⟨none, src, 0, gain, [], false, false, false, false, 0, []⟩
/-- A stream at rest. -/
def WbStream.reset : WbStream := ⟨false, 0, WbBlock.empty 0 0, none, false, false, false, false, 0, []⟩
/-- An engine with no image. -/
def Engine.reset : Engine :=
  ⟨none, none, [], 0, 0, false, false, false, false, 0, 3, 0, [], List.replicate 17 0, List.replicate 17 0⟩
/-- A stream of the log store that waits. -/
def LogStream.reset : LogStream := ⟨1, [], 0, 1, [], 0, 0, 0, 0, 0, 0, 0, none, [], [], [], false, 0, false⟩
/-- An EMPTY key slot. -/
def KeySlot.empty : KeySlot := ⟨0, 0, 0, 0xFF, 0, 0, 0, 0, [], false⟩
/-- A demand channel at rest. -/
def DemCh.reset : DemCh := ⟨false, 0, 0, false, 0, [], List.replicate 9 (0, 0), 0, 0, 0, 0, 0⟩
/-- An interval of P04 not begun. -/
def SupraAcc.empty : SupraAcc := ⟨[], 0, 0, 0, 0, [], [], 0, 0, 0, false, false, 0⟩
/-- A pulse output at rest. -/
def PulseOut.reset : PulseOut := ⟨false, false, 0, 0, 0, [], 0, none, none, false, false, false⟩
/-- A tamper input in its normal state. -/
def TampInput.reset : TampInput := ⟨false, 0, false, 0, false, false⟩
/-- The Selvedge controller at rest. -/
def Join.reset : Join := ⟨[], 0, [], 0, none, none, true, true, 0, 0, none, none, [], [], [], [], [], 0, false, none, none⟩
/-- An open set with nothing in it. -/
def LatchSet.fresh (opened rate mono : Nat) : LatchSet := ⟨opened, rate, mono, [], []⟩
/-- Sums with no post. -/
def LedAcc.zero : LedAcc := ⟨0, 0, 0, 0, false, false, 0⟩
/-- The flat calendar (R334). -/
def flatCalendar : List Word :=
  [0, 0x80000101] ++ List.replicate 19 0#32 ++ [0x1000] ++ List.replicate 223 0#32

/-- Time at the start of the Warp: 0.0 (R49). -/
def Time.zero : Time := ⟨0, 0, 0, 1920, 0, 1920, 1920, 0, 0, 0, 0, 0, 0⟩
/-- The Warp before it starts (R49). -/
def Warp.reset : Warp :=
  { state := .acquiring, srcActive := 0, freq := 50, nextFreq := none, realignNext := none, realignNow := false, realignHold := 0,
    realignFreq := 50, realignInjWait := false, realignInj := false, lastE := none, lastFreq := none, goodFreqs := [],
    holdFreq := 50, lockRun := 0, looseRun := 0, goodRun := 0, lowRun := 0, holdEpisode := false, holdEntryCycle := 0,
    holdInj := false, frozen := 0, stepArmed := true, stepQuiet := 0, nForce := 10, cmdLatch := false, reasonCarry := 0,
    everLocked := false, boundaries := [], missedMarkers := 0, joinLatch := none, measured := [], pllLost := false }
/-- The spare unit IDLE. -/
def Spare.reset : Spare :=
  { state := 0, ch := 0, kind := .step, heldWhy := 0, start := none, served := none, rotActive := false, rotLeft := [],
    rotWait := none, rotStop := false, calSrc := 0, calCycles := 0, calKept := 0, calSum := 0, calCnt := 0, cycSum := 0, cycCnt := 0,
    cycBad := false, calAgain := false, calZ := 0, calP := 0, calDone := false, prelim := Match.one, winFrom := 0, winElapsed := 0,
    winLow := false, winLow16 := false, winCyc := [], winOut := CycSum.zero, winIn := CycSum.zero, endOut := none, endIn := none,
    computed := none, compCycle := 0, refUsed := false, resultAtEnd := 0, sets := List.replicate 17 Match.one,
    refs := [], anchors := [], corr := List.replicate 17 Correction.one, drift := [], cut := false, banks := [], ended := false,
    measWait := false, measEnd := 0, measCh := 0, measGood := 0, measElapsed := 0, measSum := 0, measSq := 0, measPh := (0, 0),
    measCycSum := 0, measCycSq := 0, measCycPh := (0, 0), measBad := false, tempSum := 0, tempCnt := 0 }
/-- A power unit that starts, for a cause. -/
def Power.starting (cause : Nat) (vaultLost : Bool) : Power :=
  { st := .starting, startStep := 1, startCause := cause, pendLean := none, failed := none, holdAbs := 0, saving := false,
    saveRefused := false, saveStarted := false, saveClk := 0, totalsLoaded := false, ready := false, charging := false,
    chargeLate := false, chargeFrom := 0, vbakLow := false, vregOver := false, permitLost := false, vinAbove := false, resetWait := none, vaultLost := vaultLost,
    deferred := [] }
/-- A record store before its scan; the journal's region begins at 0x02_9C00 (R428). -/
def RecStore.reset : RecStore := ⟨[], [], [], [], 0x029C00, false, false, false, []⟩
/-- The ENG block with no image in its store. -/
def EngBlock.reset : EngBlock := ⟨none, none, 0, none, none, false, [], [], List.replicate 4 [], false⟩
/-- The converter at rest. -/
def Aux.reset : Aux := ⟨none, false, false, false, none, 0, [], none, false⟩
/-- Feeds with no cycle measured. -/
def FeedState.reset : FeedState :=
  { prev := [], prev2 := [], carry := [], carryFq := [0, 0, 0, 0], fqDue := [], invEp := List.replicate 4 false,
    noEp := List.replicate 4 false, dir := List.replicate 4 (0, 0), agg := List.replicate 4 [], aggEnd := [0, 0, 0, 0] }
/-- A circuit with no temperature. -/
def Circuit.reset : Circuit := ⟨none, none, ⟨2 ^ 64, [0, 0, 0, 0], [0, 0, 0, 0], 0, [0, 0, 0, 0]⟩, none, false, false⟩
/-- P06 and the pulse inputs at rest. -/
def Therm.reset : Therm :=
  { circs := [Circuit.reset, Circuit.reset], temps := [none, none, none], faults := List.replicate 4 false, blockNo := none,
    hostAt := [none, none], hostStaleEp := [false, false], fwd := [0, 0, 0, 0], rev := [0, 0, 0, 0], snapCycle := 0,
    snapFwd := [0, 0, 0, 0], snapRev := [0, 0, 0, 0], prevFwd := [0, 0, 0, 0], prevRev := [0, 0, 0, 0], quadEp := false, cop := none,
    interval := (0, 0, false), seasonWait := false }
/-- A Husk before its keys are loaded, under given fuse words. -/
def Husk.reset (fuses : List (Nat × Word)) : Husk :=
  { slots := List.replicate 64 KeySlot.empty, fuses := fuses, chal := none, chalUntil := 0, unlock1 := none, unlockAt := none,
    testUntil := 0, stage := none, waits := [], trans := none, ops := [], chain := [], mask := 0, inverted := false }
/-- Tariffs under the flat calendar. -/
def Tariff.reset : Tariff := ⟨flatCalendar, List.replicate 245 0, ⟨1, 0, 0, 0, false⟩, 0, false⟩
/-- A ledger before it loads its totals. -/
def Ledger.reset : Ledger :=
  { loaded := false, defs := [], defShadow := [], totals := [], roll := [], viewDefs := [], clears := [], lateKeys := [],
    sets := LatchSet.fresh 0 1 0, closed := none, lastClose := 0, lastAbs := 0, lseq := 0, recs := [], visible := 0, out4 := [],
    cmdSheaf := false, pendEnds := [], pendSwitch := none, pendSheaf := none, timeSet := none, restore := none, period := 0,
    prevSheaf := 0, sheaves := [], savedRecs := [], savedDem := [], savedSw := [], savedSheaf := none }
/-- Power quality at rest. -/
def Pq.reset : Pq :=
  { evs := [], injEnd := [], restart := true, trunc := false, last := (0, 0, 0), at0 := [], at512 := [],
    cycFlag := false, winFlag := false, wins := [], forces := [], evSets := [], freq := ⟨none, 0, 0, false, false, true⟩, nomCycle := 0,
    supra := List.replicate 8 SupraAcc.empty, blks := List.replicate 8 [], armed := none, cap := none, held := [], copied := [],
    capId := 0 }
/-- The display with no frame sent. -/
def Disp.reset : Disp := ⟨false, false, 0, 0, 0, false, false, false, false, false, false, 0⟩
/-- The tamper unit in its normal state. -/
def Tamp.reset : Tamp := ⟨[TampInput.reset, TampInput.reset], [], 0, 0, 0, false⟩
/-- No fault and no test. -/
def Faults.reset : Faults := ⟨[], [], none, 0, none, none, [], []⟩
/-- A host port that has answered nothing. -/
def HostPort.reset : HostPort := ⟨[], 0, [], []⟩

end Sys2Proof.Machine
end

