-- ==== Sys2Proof/Syntax.lean ====
section
/-! DEFINITION. The commands of the block: one constructor for every row of the table of operations, with the operands the row
needs. What a pin, a frame, a memory chip or another node brings along is an operand; page, channel, engine and slot numbers are
operands too. -/

namespace Sys2Proof

open Machine (LogUnit)

/-- A host frame as it arrived (R393): header fields, the data words of a write, and the CRC received. -/
structure Frame where
  cmd : Byte
  addr : BitVec 24
  count : BitVec 16
  words : List Word
  crc : BitVec 16
  deriving DecidableEq, Repr

/-- What the pins bring to one pick strobe: the bits of the seventeen modulators in the pick that ends, oldest first; at pick 4, by
channel, the primary values of the last picks of the cycle that ended, whose words are still in the chain then (R38, R521, log 46). -/
structure PickInput where
  bits : List (List Bool)
  early : List (List Rat)
  deriving DecidableEq, Repr

/-- Who read the word with the double-bit error (R556). -/
inductive EccReader
  /-- An engine; true: in its working region of the shared SRAM. -/
  | engine (e : Nat) (shared : Bool)
  /-- The ring unit, taking an entry of a host-produced ring. -/
  | ringUnit (n : Nat)
  /-- The log-store controller, in the staging of a stream. -/
  | logStore (stream : Nat)
  /-- Any other reader, of memory 0 (shared SRAM) or 1 + e. -/
  | other (mem : Nat)
  deriving DecidableEq, Repr

/-- What a marker says (R577, R579). ofs: clock periods from the follower's own pick 0 to its first start edge (negative before it). -/
structure MarkerIn where
  ofs : Int
  cycle : Nat
  freq : Nat
  state : Nat
  rtc : Nat
  announce : Nat
  deriving DecidableEq, Repr

/-- The frame with which a polled node answers (R576). -/
inductive PollReply
  | empty
  | latchReq (billing : Bool)
  | lreply (dst : Nat) (payload : List Byte)
  | data (dst fseq : Nat) (payload : List Byte)
  deriving DecidableEq, Repr

/-- What the layout of a mounted device says of a stream (R455, R458, R466): REG_CFG and REG_UNITS words, units in use oldest
first, offset in the open one, next RSEQ and USEQ, bad and weak units, erase counts, SHSEQ of the newest Sheaf held. -/
structure StreamFound where
  cfg : Word
  units : Word
  used : List LogUnit
  off : Nat
  nextRseq : Nat
  nextUseq : Nat
  bad : List Nat
  weak : List Nat
  erases : List (Nat × Nat)
  newest : Nat
  deriving DecidableEq, Repr

/-- How a mount ends: streams by number with what the device holds, or the result code of a failure (R466). -/
inductive MountFound
  | streams (l : List (Nat × StreamFound))
  | failed (result : Nat)
  deriving DecidableEq, Repr

/-- The commands. -/
inductive Instr
  /-- PICK_STROBE (R32). -/
  | pickStrobe (x : PickInput)
  /-- DRAIN_COMPLETE (R402). -/
  | drainComplete (page : Nat)
  /-- SOFT_RESET (R401). -/
  | softReset (page : Nat)
  /-- RESET_INIT_END (R550). -/
  | resetInitEnd (page : Nat)
  /-- FREEZE_WRITE (R401). -/
  | freezeWrite (page : Nat) (on : Bool)
  /-- FREEZE_TIMEOUT (R401). -/
  | freezeTimeout (page : Nat)
  /-- EVT_RAW_CLEAR (R403). -/
  | evtRawClear (page : Nat) (bits : Word) (raised : Word)
  /-- EVT_INJ_WRITE (R64). -/
  | evtInjWrite (page : Nat) (bits : Word)
  /-- INJECTED_RAISE (R546). -/
  | injectedRaise (page : Nat)
  /-- FAULT_CODE_CLEAR (R404). -/
  | faultCodeClear (page : Nat) (value : Word)
  /-- SHADOW_DISCARD (R406). -/
  | shadowDiscard (page : Nat)
  /-- SHADOW_COMMIT_SELECT (R406). -/
  | shadowCommitSelect (page : Nat) (point : Nat)
  /-- REGISTER_WRITE (R9). -/
  | registerWrite (addr : Nat) (value : Word)
  /-- CRYSTAL_STOPPED (R17). -/
  | crystalStopped
  /-- PLL_UNLOCK (R17). -/
  | pllUnlock
  /-- PLL_RELOCK (R17). -/
  | pllRelock
  /-- MODULATOR_CLOCK_GAP (R17). -/
  | modulatorClockGap
  /-- CROSSBAR_REQUEST (R20). -/
  | crossbarRequest (init : Nat) (column : Nat) (target : Nat)
  /-- BLOCK_RESET_RETURN (R550). -/
  | blockResetReturn
  /-- CROSSBAR_REPLY (R551). -/
  | crossbarReply (target : Nat)
  /-- LATCH_CMD_WRITE (R654). -/
  | latchCmdWrite (value : Word)
  /-- OVERLOAD_ENTRY (R81). -/
  | overloadEntry (m : Nat) (positive : Bool)
  /-- OVERLOAD_RELEASE (R81). -/
  | overloadRelease (m : Nat)
  /-- OVERLOAD_RECOVERY_END (R81). -/
  | overloadRecoveryEnd (m : Nat)
  /-- NEIGHBOUR_OVERDRIVE (R82). -/
  | neighbourOverdrive (channel : Nat)
  /-- NEIGHBOUR_OVERDRIVE_END (R82). -/
  | neighbourOverdriveEnd (channel : Nat)
  /-- COMMON_MODE_FAULT (R83). -/
  | commonModeFault (channel : Nat)
  /-- SETTLING_END (R86). -/
  | settlingEnd (m : Nat)
  /-- REFERENCE_FAULT (R90). -/
  | referenceFault
  /-- AVDD_LOW (R90). -/
  | avddLow
  /-- PEAK_CLR_WRITE (R98). -/
  | peakClrWrite (channel : Nat)
  /-- COEF_ADDR_WRITE (R127). -/
  | coefAddrWrite (value : Word)
  /-- COEF_DATA_WRITE (R108). -/
  | coefDataWrite (value : Word)
  /-- COEF_DATA_READ (R127). -/
  | coefDataRead
  /-- WB_BLOCK_COMPLETE (R119). -/
  | wbBlockComplete (stream : Nat) (bufferHeld : Bool)
  /-- SP_CMD_STEP (R150). -/
  | spCmdStep (channel : Nat)
  /-- ROTATE (R150). -/
  | rotate
  /-- STOP (R150). -/
  | stop
  /-- SUBST (R150). -/
  | subst (channel : Nat)
  /-- RELEASE (R150). -/
  | release
  /-- ANCHOR (R149). -/
  | anchor (m : Nat)
  /-- CALSAVE (R150). -/
  | calsave
  /-- MEAS (R140). -/
  | meas (channel : Nat)
  /-- MEAS_COMPLETE (R140); `re` and `im` are a sender's report of MEAS_RE and MEAS_IM, which the model forms itself (log 34). -/
  | measComplete (re : Rat) (im : Rat)
  /-- SPARE_CAL_ADDR_WRITE (R159). -/
  | spareCalAddrWrite (value : Word)
  /-- SPARE_CAL_DATA_ACCESS (R136). -/
  | spareCalDataAccess (write : Option Word)
  /-- CAL_BANK_SELECT (R137). -/
  | calBankSelect (value : Word)
  /-- SP_CAL_SOURCE_SWITCH (R142). -/
  | spCalSourceSwitch
  /-- OVERLAP_START (R141). -/
  | overlapStart
  /-- MATCH_COMPUTE (R145); the operands are a sender's report of |r|, arg r, |r - 1|, d and the deviation, which the model forms
  itself (log 34). -/
  | matchCompute (rMag : Rat) (rArg : Rat) (rDist : Rat) (d : Rat) (dev : Rat)
  /-- WINDOW_TIMEOUT (R144). -/
  | windowTimeout
  /-- HANDOVER (R146). -/
  | handover
  /-- HANDBACK (R147). -/
  | handback
  /-- ROTATION_NEXT_STEP (R150). -/
  | rotationNextStep
  /-- OPEN (R177). -/
  | engOpen (engine : Nat) (bank : Nat)
  /-- IMG_DATA_WRITE (R177). -/
  | imgDataWrite (value : Word)
  /-- CHECK (R177). -/
  | engCheck
  /-- ABANDON (R177). -/
  | engAbandon
  /-- ACTIVATE (R178). -/
  | engActivate (engine : Nat) (bank : Nat)
  /-- TAKEOVER (R180). -/
  | takeover (engine : Nat) (fresh : Bool)
  /-- TAKEOVER_QUIET_PICK (R180). -/
  | takeoverQuietPick
  /-- NO_QUIET (R180). -/
  | noQuiet
  /-- GIVEBACK (R181). -/
  | giveback (engine : Nat) (fresh : Bool)
  /-- GIVEBACK_QUIET_PICK (R181). -/
  | givebackQuietPick
  /-- BIST (R182). -/
  | engBist (engine : Nat)
  /-- BIST_COMPLETE (R182). -/
  | bistComplete (signature : Word) (memoryFails : Bool) (badA : Bool) (badB : Bool)
  /-- INVOCATION_READY (R165). -/
  | invocationReady (engine : Nat)
  /-- INVOCATION_COMPLETE (R166). -/
  | invocationComplete (engine : Nat) (checkOk : Bool)
  /-- DEADLINE_MISS (R167). -/
  | deadlineMiss (engine : Nat)
  /-- LOAD_CLR_WRITE (R195). -/
  | loadClrWrite (engine : Nat)
  /-- ECC_UNCORRECTABLE (R556). -/
  | eccUncorrectable (reader : EccReader) (addr : Nat)
  /-- LEDGER_POST (R319). -/
  | ledgerPost
  /-- TRIGGER (R243). -/
  | capTrigger
  /-- CAP_RELEASE (R257). -/
  | capRelease (slot : Nat)
  /-- CAP_DONE (R245). -/
  | capDone
  /-- CAPTURE_COPY_DONE (R245). -/
  | captureCopyDone
  /-- CAL (R267). -/
  | auxCal
  /-- CAL_COMPLETE (R267). -/
  | calComplete (gain : Nat) (offset : Int)
  /-- URGENT (R268). -/
  | urgent (value : Word)
  /-- URGENT_COMPLETE (R268). -/
  | urgentComplete (sum : Nat)
  /-- START (R264). -/
  | auxStart
  /-- AUX_STOP (R264). -/
  | auxStop
  /-- AUX_ENTRY_COMPLETE (R260). -/
  | auxEntryComplete (sum : Nat)
  /-- SEQUENCE_END (R265). -/
  | sequenceEnd
  /-- PULSE_EDGE (R285). -/
  | pulseEdge (input : Nat) (coincident : Bool)
  /-- WIRE_BREAK (R287). -/
  | wireBreak (input : Nat)
  /-- WIRE_BREAK_END (R287). -/
  | wireBreakEnd (input : Nat)
  /-- HOST_T_WRITE (R294). -/
  | hostTWrite (k : Nat) (value : Word)
  /-- HOST_T_STALE (R294). -/
  | hostTStale (k : Nat)
  /-- SEASON_START (R304). -/
  | seasonStart
  /-- LATCH_APPLY (R325). -/
  | latchApply
  /-- LEDGER_SIGNATURE_DONE (R339). -/
  | ledgerSignatureDone
  /-- SHEAF_FORM (R342). -/
  | sheafForm
  /-- DST_TRANSITION (R330). -/
  | dstTransition
  /-- CLEAR_ONE (R321). -/
  | clearOne (index : Nat)
  /-- CLEAR_ALL (R321). -/
  | clearAll
  /-- DEF_DATA_ACCESS (R350). -/
  | defDataAccess (write : Option Word)
  /-- VIEW_STAT_CLEAR (R350). -/
  | viewStatClear (value : Word)
  /-- TARIFF_CAL_DATA_ACCESS (R334). -/
  | tariffCalDataAccess (write : Option Word)
  /-- TAR_CHECK (R332). -/
  | tarCheck
  /-- SCHEDULE (R334). -/
  | schedule
  /-- CANCEL (R334). -/
  | cancel
  /-- SHEAF (R341). -/
  | sheaf
  /-- POUT_EDGE (R365). -/
  | poutEdge (output : Nat)
  /-- POUT_PULSE_END (R366). -/
  | poutPulseEnd (output : Nat)
  /-- KEY_A_PRESS (R372). -/
  | keyAPress
  /-- KEY_B_HOLD (R372). -/
  | keyBHold
  /-- KEY_STUCK (R372). -/
  | keyStuck (keyB : Bool)
  /-- MANUAL_TIMEOUT (R372). -/
  | manualTimeout
  /-- DWELL_EXPIRY (R372). -/
  | dwellExpiry
  /-- SHOW (R372). -/
  | dispShow (alternate : Bool) (item : Nat)
  /-- AUTO (R372). -/
  | dispAuto
  /-- DISPLAY_FRAME (R376). -/
  | displayFrame
  /-- TAMPER_SAMPLE (R383). -/
  | tamperSample (cover0 : Bool) (cover1 : Bool) (term0 : Bool) (term1 : Bool)
  /-- TAMPER_LOG_MOVE (R384). -/
  | tamperLogMove
  /-- ACK (R386). -/
  | ack
  /-- WRITE (R393). -/
  | write (frame : Frame) (stuck : Bool)
  /-- READ (R393). -/
  | read (frame : Frame) (stuck : Bool)
  /-- WRITE_FIFO (R393). -/
  | writeFifo (frame : Frame) (stuck : Bool)
  /-- READ_FIFO (R393). -/
  | readFifo (frame : Frame) (stuck : Bool)
  /-- FRAME_CUT_SHORT (R396). -/
  | frameCutShort (frame : Frame)
  /-- I2C_REREAD (R397). -/
  | i2cReread
  /-- DESC_WRITE (R408). -/
  | descWrite (ring : Nat) (config : Bool) (value : Word)
  /-- DESC_TAIL_WRITE (R409). -/
  | descTailWrite (ring : Nat) (value : Word)
  /-- DESC_HEAD_WRITE (R409). -/
  | descHeadWrite (ring : Nat) (value : Word)
  /-- NONEMPTY_CLEAR (R423). -/
  | nonemptyClear (value : Word)
  /-- LOSS_STICKY_CLEAR (R423). -/
  | lossStickyClear (value : Word)
  /-- REG_WRITE (R415). -/
  | regWrite
  /-- REG_READ (R415). -/
  | regRead
  /-- COMMIT_START (R434). -/
  | commitStart
  /-- COMMIT (R447). -/
  | commit
  /-- RESOLVE (R445). -/
  | resolve (id : Nat) (slot : Nat)
  /-- DUPLICATE (R446). -/
  | duplicate (id : Nat)
  /-- SCAN_DONE (R441). -/
  | scanDone
  /-- MOUNT (R466). -/
  | mount (cs : Nat)
  /-- MOUNT_COMPLETE (R466). -/
  | mountComplete (cs : Nat) (found : MountFound)
  /-- UNMOUNT (R470). -/
  | unmount (cs : Nat)
  /-- STOR_READ (R469). -/
  | storRead (cs : Nat) (len : Nat)
  /-- STOR_READ_COMPLETE (R469). -/
  | storReadComplete (bytes : List Byte) (corrected : Nat) (sectorFails : Bool) (ioError : Bool)
  /-- FORMAT (R455). -/
  | format (cs : Nat)
  /-- FORMAT_COMPLETE (R455). -/
  | formatComplete (ok : Bool) (bad : List (Nat × List Nat))
  /-- FLASH_PROGRAM_COMPLETE (R464). -/
  | flashProgramComplete (stream : Nat) (ok : Bool)
  /-- FLASH_ERASE_COMPLETE (R465). -/
  | flashEraseComplete (stream : Nat) (ok : Bool)
  /-- DEVICE_TIMEOUT (R468). -/
  | deviceTimeout (cs : Nat)
  /-- ENCRYPT (R495). -/
  | encrypt
  /-- DECRYPT (R495). -/
  | decrypt
  /-- MAC_GEN (R495). -/
  | macGen
  /-- MAC_VER (R495). -/
  | macVer
  /-- HASH (R495). -/
  | hash
  /-- SIGN (R495). -/
  | sign
  /-- VERIFY (R495). -/
  | verify
  /-- ECDH (R492). -/
  | ecdh
  /-- DERIVE (R492). -/
  | derive
  /-- WRAP (R495). -/
  | wrap
  /-- RANDOM (R495). -/
  | random
  /-- GET_PUB (R495). -/
  | getPub
  /-- KEY_UPDATE (R488). -/
  | keyUpdate
  /-- KEY_DELETE (R493). -/
  | keyDelete
  /-- TOKEN (R503). -/
  | token
  /-- CRYPTO_OP_COMPLETE (R498). -/
  | cryptoOpComplete (ecc : Bool)
  /-- LC_STEP (R483). -/
  | lcStep (confirm : Nat)
  /-- RETIRE (R483). -/
  | retire (confirm : Nat)
  /-- LC_TRANSITION_COMPLETE (R484). -/
  | lcTransitionComplete (ok : Bool)
  /-- CHALLENGE (R503). -/
  | challenge
  /-- CHALLENGE_EXPIRY (R503). -/
  | challengeExpiry
  /-- TEST_CLOSE (R504). -/
  | testClose
  /-- TEST_SESSION_EXPIRY (R504). -/
  | testSessionExpiry
  /-- UNLOCK_WRITE (R505). -/
  | unlockWrite (value : Word)
  /-- UNLOCK_EXPIRY (R505). -/
  | unlockExpiry
  /-- REMASK_PASS (R481). -/
  | remaskPass
  /-- DRBG_RESTART (R498). -/
  | drbgRestart (ok : Bool)
  /-- TRNG_HEALTH_FAIL (R498). -/
  | trngHealthFail
  /-- POWER_FAIL_DECLARED (R521). -/
  | powerFailDeclared
  /-- HOLD_ENTRY (R522). -/
  | holdEntry
  /-- SAVE_PICK (R523). -/
  | savePick
  /-- SAVE_FINISHED (R523). -/
  | saveFinished (vin : Bool) (vbak : Bool)
  /-- VIN_GOOD (R519). -/
  | vinGood (elapsed : Nat)
  /-- VBAK_LOSS (R519). -/
  | vbakLoss
  /-- VBAK_LOW (R536). -/
  | vbakLow (low : Bool)
  /-- VREG_OVERLOAD (R516). -/
  | vregOverload (isOver : Bool)
  /-- VSTORE_FULL (R517). -/
  | vstoreFull
  /-- VSTORE_RECHARGE (R517). -/
  | vstoreRecharge
  /-- CHARGE_TIMEOUT (R517). -/
  | chargeTimeout
  /-- PERMIT_CHANGE (R518). -/
  | permitChange (vstore : Bool) (vin : Bool)
  /-- LEAN (R520). -/
  | lean
  /-- RUN (R520). -/
  | run
  /-- DEVICE_RESET (R566). -/
  | deviceReset (confirm : Nat)
  /-- SCRUB_NOW (R557). -/
  | scrubNow
  /-- SCRUB_PASS_START (R557). -/
  | scrubPassStart
  /-- SCRUB_PASS_END (R557). -/
  | scrubPassEnd (fixes : List (Nat × Nat))
  /-- FIRST_CODE_CLEAR (R566). -/
  | firstCodeClear (value : Word)
  /-- TEST_BIST (R558). -/
  | testBist (target : Nat)
  /-- TEST_BIST_COMPLETE (R559). -/
  | testBistComplete (fails : Nat)
  /-- FUSE_BLOW (R563). -/
  | fuseBlow (target : Nat)
  /-- FUSE_BLOW_COMPLETE (R563). -/
  | fuseBlowComplete (ok : Bool)
  /-- STEP_VENDOR (R564). -/
  | stepVendor
  /-- PT_DATA_ACCESS (R571). -/
  | ptDataAccess (write : Option Word)
  /-- MARKER_RECEIVED (R579). -/
  | markerReceived (marker : MarkerIn)
  /-- POLL (R576). -/
  | poll
  /-- POLL_RECEIVED (R576). -/
  | pollReceived (dst : Nat) (delay : Nat)
  /-- POLL_ANSWER (R578). -/
  | pollAnswer (src : Nat) (roundTrip : Nat) (answer : PollReply)
  /-- NODE_ABSENT (R576). -/
  | nodeAbsent
  /-- DATA (R583). -/
  | data (src : Nat) (dst : Nat) (fseq : Nat) (payload : List Byte)
  /-- LREAD_FRAME (R584). -/
  | lreadFrame (src : Nat) (dst : Nat) (first : Nat) (count : Nat) (tag : Nat)
  /-- LREPLY (R584). -/
  | lreply (dst : Nat) (payload : List Byte)
  /-- LREAD_TIMEOUT (R584). -/
  | lreadTimeout
  /-- LATCH_REQ (R581). -/
  | latchReq (billing : Bool)
  /-- SEND (R583). -/
  | send
  /-- LREAD (R583). -/
  | lread
  /-- IMPORT_CHUNK (R583). -/
  | importChunk
  /-- EXPORT (R585). -/
  | joinExport
  /-- IMPORT (R586). -/
  | joinImport (kslot : Nat)
  /-- IMPORT_DISCARD (R586). -/
  | importDiscard
  /-- JOIN_FALLBACK (R582). -/
  | joinFallback
  /-- SET (R604). -/
  | rtcSet
  /-- RTC_SET_APPLY (R604). -/
  | rtcSetApply
  /-- MC_OPEN (R601). -/
  | mcOpen (unit : Nat)
  /-- MC_DATA_WRITE (R601). -/
  | mcDataWrite (value : Word)
  /-- MC_CHECK (R601). -/
  | mcCheck
  /-- MC_ABANDON (R605). -/
  | mcAbandon
  /-- MC_ACTIVATE (R602). -/
  | mcActivate (unit : Nat)
  /-- MICROCODE_SWITCH (R602). -/
  | microcodeSwitch
  /-- RESET_N (R592). -/
  | resetN
  /-- RESET_RELEASE (R593). -/
  | resetRelease (hsel : Bool) (ha0 : Bool) (test : Bool) (vbak : Bool)
  /-- PLL_LOCKED (R593). -/
  | pllLocked (elapsed : Nat)
  /-- HUSK_LOADED (R491). -/
  | huskLoaded
  /-- READY (R596). -/
  | ready
  /-- COMMON_MODE_RESTORED (R83). -/
  | commonModeRestored (channel : Nat)
  /-- REFERENCE_RESTORED (R90). -/
  | referenceRestored
  /-- AVDD_RESTORED (R90). -/
  | avddRestored
  /-- CRYSTAL_RESTARTED (R17). -/
  | crystalRestarted
  /-- VBAK_RESTORED (R519). -/
  | vbakRestored
  /-- KEY_RELEASE (R372). -/
  | keyRelease (keyB : Bool)
  /-- ACCEPTED_LEVEL_CHANGE (R286). -/
  | acceptedLevelChange (input : Nat) (high : Bool)
  /-- REF_CAL_TIMEOUT (R142). -/
  | refCalTimeout
  /-- FRAME_DISCARDED (R575). -/
  | frameDiscarded (crcWrong : Bool)
  deriving DecidableEq, Repr

end Sys2Proof
end

