-- ==== Sys2Proof/Decode.lean ====
section
/-! DEFINITION. The commands arrive from outside as frames, pins and events. The table of operations gives no row bits of its own, so
no word spells a command; a host frame's own bytes are taken apart in Sys2Proof/Machine/Host.lean (R393). -/

namespace Sys2Proof

/-- The command that a word spells by the table's bits: none, since no row has any. -/
def decodeTableWord (_nbits _w : Nat) : Option Instr := none

end Sys2Proof
end

