-- ==== Sys2Proof/Machine/Sha.lean ====
section
/-! DEFINITION. SHA-256 and HMAC-SHA-256 (named by R176, R495; the functions are those of FIPS 180-4 and FIPS 198-1, log 21). -/

namespace Sys2Proof.Machine

def shaK : List Nat := [
    0x428A2F98, 0x71374491, 0xB5C0FBCF, 0xE9B5DBA5, 0x3956C25B, 0x59F111F1, 0x923F82A4, 0xAB1C5ED5,
    0xD807AA98, 0x12835B01, 0x243185BE, 0x550C7DC3, 0x72BE5D74, 0x80DEB1FE, 0x9BDC06A7, 0xC19BF174,
    0xE49B69C1, 0xEFBE4786, 0x0FC19DC6, 0x240CA1CC, 0x2DE92C6F, 0x4A7484AA, 0x5CB0A9DC, 0x76F988DA,
    0x983E5152, 0xA831C66D, 0xB00327C8, 0xBF597FC7, 0xC6E00BF3, 0xD5A79147, 0x06CA6351, 0x14292967,
    0x27B70A85, 0x2E1B2138, 0x4D2C6DFC, 0x53380D13, 0x650A7354, 0x766A0ABB, 0x81C2C92E, 0x92722C85,
    0xA2BFE8A1, 0xA81A664B, 0xC24B8B70, 0xC76C51A3, 0xD192E819, 0xD6990624, 0xF40E3585, 0x106AA070,
    0x19A4C116, 0x1E376C08, 0x2748774C, 0x34B0BCB5, 0x391C0CB3, 0x4ED8AA4A, 0x5B9CCA4F, 0x682E6FF3,
    0x748F82EE, 0x78A5636F, 0x84C87814, 0x8CC70208, 0x90BEFFFA, 0xA4506CEB, 0xBEF9A3F7, 0xC67178F2]

def shaInit : List Nat := [0x6A09E667, 0xBB67AE85, 0x3C6EF372, 0xA54FF53A, 0x510E527F, 0x9B05688C, 0x1F83D9AB, 0x5BE0CD19]

def rotr32 (x : BitVec 32) (n : Nat) : BitVec 32 := (x >>> n) ||| (x <<< (32 - n))

/-- The message schedule, newest word first: n further words. -/
def shaExtend : Nat → List (BitVec 32) → List (BitVec 32)
  | 0, w => w
  | n + 1, w =>
    let a := nth 0 w 1
    let b := nth 0 w 14
    let s1 := rotr32 a 17 ^^^ rotr32 a 19 ^^^ (a >>> 10)
    let s0 := rotr32 b 7 ^^^ rotr32 b 18 ^^^ (b >>> 3)
    shaExtend n ((s1 + nth 0 w 6 + s0 + nth 0 w 15) :: w)

/-- The eight working variables. -/
structure ShaVars where
  a : BitVec 32
  b : BitVec 32
  c : BitVec 32
  d : BitVec 32
  e : BitVec 32
  f : BitVec 32
  g : BitVec 32
  h : BitVec 32
  deriving DecidableEq, Repr

def shaRound (v : ShaVars) (kw : Nat × BitVec 32) : ShaVars :=
  let s1 := rotr32 v.e 6 ^^^ rotr32 v.e 11 ^^^ rotr32 v.e 25
  let ch := (v.e &&& v.f) ^^^ (~~~v.e &&& v.g)
  let t1 := v.h + s1 + ch + BitVec.ofNat 32 kw.1 + kw.2
  let s0 := rotr32 v.a 2 ^^^ rotr32 v.a 13 ^^^ rotr32 v.a 22
  let mj := (v.a &&& v.b) ^^^ (v.a &&& v.c) ^^^ (v.b &&& v.c)
  ⟨t1 + (s0 + mj), v.a, v.b, v.c, v.d + t1, v.e, v.f, v.g⟩

def shaBlock (v : ShaVars) (blk : List Byte) : ShaVars :=
  let w0 := (List.range 16).map (fun i => BitVec.ofNat 32 (beNat ((blk.drop (4 * i)).take 4)))
  let w := (shaExtend 48 w0.reverse).reverse
  let r := (shaK.zip w).foldl shaRound v
  ⟨v.a + r.a, v.b + r.b, v.c + r.c, v.d + r.d, v.e + r.e, v.f + r.f, v.g + r.g, v.h + r.h⟩

def shaBlocks : Nat → ShaVars → List Byte → ShaVars
  | 0, v, _ => v
  | n + 1, v, l => shaBlocks n (shaBlock v (l.take 64)) (l.drop 64)

/-- SHA-256. -/
def sha256 (m : List Byte) : List Byte :=
  let padLen := (119 - m.length % 64) % 64
  let full := m ++ [0x80#8] ++ List.replicate padLen 0 ++ beBytes 8 (8 * m.length)
  let i (k : Nat) : BitVec 32 := BitVec.ofNat 32 (nth 0 shaInit k)
  let v := shaBlocks (full.length / 64) ⟨i 0, i 1, i 2, i 3, i 4, i 5, i 6, i 7⟩ full
  ([v.a, v.b, v.c, v.d, v.e, v.f, v.g, v.h].map (fun x => beBytes 4 x.toNat)).flatten

def xorBytes (a b : List Byte) : List Byte := List.zipWith (· ^^^ ·) a b

/-- HMAC-SHA-256. -/
def hmac256 (key m : List Byte) : List Byte :=
  let k0 := if 64 < key.length then sha256 key else key
  let k := k0 ++ List.replicate (64 - k0.length) 0
  sha256 (xorBytes k (List.replicate 64 0x5C#8) ++ sha256 (xorBytes k (List.replicate 64 0x36#8) ++ m))

end Sys2Proof.Machine
end

