-- ==== Sys2Proof/Machine/Aes.lean ====
section
/-! DEFINITION. AES-128 and AES-256 with the modes R495 names, CMAC, GCM, RFC 3394 key wrap (the functions are those of
FIPS 197, SP 800-38A, 38B and 38D and RFC 3394, log 21). -/

namespace Sys2Proof.Machine

def aesSbox : List Nat :=
    [0x63, 0x7C, 0x77, 0x7B, 0xF2, 0x6B, 0x6F, 0xC5, 0x30, 0x01, 0x67, 0x2B, 0xFE, 0xD7, 0xAB, 0x76,
    0xCA, 0x82, 0xC9, 0x7D, 0xFA, 0x59, 0x47, 0xF0, 0xAD, 0xD4, 0xA2, 0xAF, 0x9C, 0xA4, 0x72, 0xC0,
    0xB7, 0xFD, 0x93, 0x26, 0x36, 0x3F, 0xF7, 0xCC, 0x34, 0xA5, 0xE5, 0xF1, 0x71, 0xD8, 0x31, 0x15,
    0x04, 0xC7, 0x23, 0xC3, 0x18, 0x96, 0x05, 0x9A, 0x07, 0x12, 0x80, 0xE2, 0xEB, 0x27, 0xB2, 0x75]
    ++ [0x09, 0x83, 0x2C, 0x1A, 0x1B, 0x6E, 0x5A, 0xA0, 0x52, 0x3B, 0xD6, 0xB3, 0x29, 0xE3, 0x2F, 0x84,
    0x53, 0xD1, 0x00, 0xED, 0x20, 0xFC, 0xB1, 0x5B, 0x6A, 0xCB, 0xBE, 0x39, 0x4A, 0x4C, 0x58, 0xCF,
    0xD0, 0xEF, 0xAA, 0xFB, 0x43, 0x4D, 0x33, 0x85, 0x45, 0xF9, 0x02, 0x7F, 0x50, 0x3C, 0x9F, 0xA8,
    0x51, 0xA3, 0x40, 0x8F, 0x92, 0x9D, 0x38, 0xF5, 0xBC, 0xB6, 0xDA, 0x21, 0x10, 0xFF, 0xF3, 0xD2]
    ++ [0xCD, 0x0C, 0x13, 0xEC, 0x5F, 0x97, 0x44, 0x17, 0xC4, 0xA7, 0x7E, 0x3D, 0x64, 0x5D, 0x19, 0x73,
    0x60, 0x81, 0x4F, 0xDC, 0x22, 0x2A, 0x90, 0x88, 0x46, 0xEE, 0xB8, 0x14, 0xDE, 0x5E, 0x0B, 0xDB,
    0xE0, 0x32, 0x3A, 0x0A, 0x49, 0x06, 0x24, 0x5C, 0xC2, 0xD3, 0xAC, 0x62, 0x91, 0x95, 0xE4, 0x79,
    0xE7, 0xC8, 0x37, 0x6D, 0x8D, 0xD5, 0x4E, 0xA9, 0x6C, 0x56, 0xF4, 0xEA, 0x65, 0x7A, 0xAE, 0x08]
    ++ [0xBA, 0x78, 0x25, 0x2E, 0x1C, 0xA6, 0xB4, 0xC6, 0xE8, 0xDD, 0x74, 0x1F, 0x4B, 0xBD, 0x8B, 0x8A,
    0x70, 0x3E, 0xB5, 0x66, 0x48, 0x03, 0xF6, 0x0E, 0x61, 0x35, 0x57, 0xB9, 0x86, 0xC1, 0x1D, 0x9E,
    0xE1, 0xF8, 0x98, 0x11, 0x69, 0xD9, 0x8E, 0x94, 0x9B, 0x1E, 0x87, 0xE9, 0xCE, 0x55, 0x28, 0xDF,
    0x8C, 0xA1, 0x89, 0x0D, 0xBF, 0xE6, 0x42, 0x68, 0x41, 0x99, 0x2D, 0x0F, 0xB0, 0x54, 0xBB, 0x16]

def aesInvSbox : List Nat :=
    [0x52, 0x09, 0x6A, 0xD5, 0x30, 0x36, 0xA5, 0x38, 0xBF, 0x40, 0xA3, 0x9E, 0x81, 0xF3, 0xD7, 0xFB,
    0x7C, 0xE3, 0x39, 0x82, 0x9B, 0x2F, 0xFF, 0x87, 0x34, 0x8E, 0x43, 0x44, 0xC4, 0xDE, 0xE9, 0xCB,
    0x54, 0x7B, 0x94, 0x32, 0xA6, 0xC2, 0x23, 0x3D, 0xEE, 0x4C, 0x95, 0x0B, 0x42, 0xFA, 0xC3, 0x4E,
    0x08, 0x2E, 0xA1, 0x66, 0x28, 0xD9, 0x24, 0xB2, 0x76, 0x5B, 0xA2, 0x49, 0x6D, 0x8B, 0xD1, 0x25]
    ++ [0x72, 0xF8, 0xF6, 0x64, 0x86, 0x68, 0x98, 0x16, 0xD4, 0xA4, 0x5C, 0xCC, 0x5D, 0x65, 0xB6, 0x92,
    0x6C, 0x70, 0x48, 0x50, 0xFD, 0xED, 0xB9, 0xDA, 0x5E, 0x15, 0x46, 0x57, 0xA7, 0x8D, 0x9D, 0x84,
    0x90, 0xD8, 0xAB, 0x00, 0x8C, 0xBC, 0xD3, 0x0A, 0xF7, 0xE4, 0x58, 0x05, 0xB8, 0xB3, 0x45, 0x06,
    0xD0, 0x2C, 0x1E, 0x8F, 0xCA, 0x3F, 0x0F, 0x02, 0xC1, 0xAF, 0xBD, 0x03, 0x01, 0x13, 0x8A, 0x6B]
    ++ [0x3A, 0x91, 0x11, 0x41, 0x4F, 0x67, 0xDC, 0xEA, 0x97, 0xF2, 0xCF, 0xCE, 0xF0, 0xB4, 0xE6, 0x73,
    0x96, 0xAC, 0x74, 0x22, 0xE7, 0xAD, 0x35, 0x85, 0xE2, 0xF9, 0x37, 0xE8, 0x1C, 0x75, 0xDF, 0x6E,
    0x47, 0xF1, 0x1A, 0x71, 0x1D, 0x29, 0xC5, 0x89, 0x6F, 0xB7, 0x62, 0x0E, 0xAA, 0x18, 0xBE, 0x1B,
    0xFC, 0x56, 0x3E, 0x4B, 0xC6, 0xD2, 0x79, 0x20, 0x9A, 0xDB, 0xC0, 0xFE, 0x78, 0xCD, 0x5A, 0xF4]
    ++ [0x1F, 0xDD, 0xA8, 0x33, 0x88, 0x07, 0xC7, 0x31, 0xB1, 0x12, 0x10, 0x59, 0x27, 0x80, 0xEC, 0x5F,
    0x60, 0x51, 0x7F, 0xA9, 0x19, 0xB5, 0x4A, 0x0D, 0x2D, 0xE5, 0x7A, 0x9F, 0x93, 0xC9, 0x9C, 0xEF,
    0xA0, 0xE0, 0x3B, 0x4D, 0xAE, 0x2A, 0xF5, 0xB0, 0xC8, 0xEB, 0xBB, 0x3C, 0x83, 0x53, 0x99, 0x61,
    0x17, 0x2B, 0x04, 0x7E, 0xBA, 0x77, 0xD6, 0x26, 0xE1, 0x69, 0x14, 0x63, 0x55, 0x21, 0x0C, 0x7D]

def subByte (b : Byte) : Byte := BitVec.ofNat 8 (nth 0 aesSbox b.toNat)
def invSubByte (b : Byte) : Byte := BitVec.ofNat 8 (nth 0 aesInvSbox b.toNat)

def xtime (b : Byte) : Byte := if b.getLsbD 7 then (b <<< 1) ^^^ 0x1B#8 else b <<< 1

/-- Product in GF(2^8) by a small constant. -/
def gmul (k : Nat) (b : Byte) : Byte :=
  let b2 := xtime b
  let b4 := xtime b2
  let b8 := xtime b4
  (if k % 2 = 1 then b else 0) ^^^ (if k / 2 % 2 = 1 then b2 else 0) ^^^ (if k / 4 % 2 = 1 then b4 else 0)
    ^^^ (if k / 8 % 2 = 1 then b8 else 0)

/-- Key expansion: words of four bytes, newest first. -/
def aesExpand (nk : Nat) : Nat → Nat → Byte → List (List Byte) → List (List Byte)
  | 0, _, _, w => w
  | n + 1, i, rcon, w =>
    let prev := nth [] w 0
    let back := nth [] w (nk - 1)
    if i % nk = 0 then
      let t := ((prev.drop 1) ++ (prev.take 1)).map subByte
      let t := xorBytes t [rcon, 0, 0, 0]
      aesExpand nk n (i + 1) (xtime rcon) (xorBytes back t :: w)
    else if nk = 8 ∧ i % nk = 4 then aesExpand nk n (i + 1) rcon (xorBytes back (prev.map subByte) :: w)
    else aesExpand nk n (i + 1) rcon (xorBytes back prev :: w)

/-- Round keys, 16 bytes each, in order. -/
def aesKeys (key : List Byte) : List (List Byte) :=
  let nk := key.length / 4
  let rounds := nk + 6
  let w0 := ((List.range nk).map (fun i => (key.drop (4 * i)).take 4)).reverse
  let w := (aesExpand nk (4 * (rounds + 1) - nk) nk 1#8 w0).reverse
  (List.range (rounds + 1)).map (fun r => ((w.drop (4 * r)).take 4).flatten)

def shiftRows (s : List Byte) : List Byte := (List.range 16).map (fun i => nth 0 s ((i + 4 * (i % 4)) % 16))
def invShiftRows (s : List Byte) : List Byte := (List.range 16).map (fun i => nth 0 s ((i + 16 - 4 * (i % 4)) % 16))

def mixWith (m : List Nat) (s : List Byte) : List Byte :=
  (List.range 16).map (fun i =>
    let c := i / 4 * 4
    (List.range 4).foldl (fun acc j => acc ^^^ gmul (nth 0 m ((j + 4 - i % 4) % 4)) (nth 0 s (c + j))) 0)

/-- One block enciphered. -/
def aesEnc (key blk : List Byte) : List Byte :=
  let ks := aesKeys key
  let n := ks.length - 1
  let s0 := xorBytes blk (nth [] ks 0)
  (List.range n).foldl (fun s r =>
    let t := shiftRows (s.map subByte)
    xorBytes (if r + 1 = n then t else mixWith [2, 3, 1, 1] t) (nth [] ks (r + 1))) s0

/-- One block deciphered. -/
def aesDec (key blk : List Byte) : List Byte :=
  let ks := aesKeys key
  let n := ks.length - 1
  let s0 := xorBytes blk (nth [] ks n)
  (List.range n).foldl (fun s r =>
    let t := xorBytes ((invShiftRows s).map invSubByte) (nth [] ks (n - 1 - r))
    if r + 1 = n then t else mixWith [14, 11, 13, 9] t) s0

/-- Blocks of 16 bytes, the last one short where the string is. -/
def blocks16 : Nat → List Byte → List (List Byte)
  | 0, _ => []
  | n + 1, l => l.take 16 :: blocks16 n (l.drop 16)

def blocksOf (l : List Byte) : List (List Byte) := blocks16 ((l.length + 15) / 16) l

def aesEcb (enc : Bool) (key m : List Byte) : List Byte :=
  ((blocksOf m).map (if enc then aesEnc key else aesDec key)).flatten

def aesCbc (enc : Bool) (key iv m : List Byte) : List Byte :=
  ((blocksOf m).foldl (fun (acc : List Byte × List Byte) b =>
    if enc then let c := aesEnc key (xorBytes b acc.2); (acc.1 ++ c, c)
    else (acc.1 ++ xorBytes (aesDec key b) acc.2, b)) ([], iv)).1

/-- The counter block advanced in its last n bytes. -/
def incCounter (n : Nat) (c : List Byte) : List Byte :=
  c.take (16 - n) ++ beBytes n (beNat (c.drop (16 - n)) + 1)

/-- Counter mode from a counter block on, its last n bytes counting. -/
def aesCtr (n : Nat) (key ctr m : List Byte) : List Byte :=
  ((blocksOf m).foldl (fun (acc : List Byte × List Byte) b =>
    (acc.1 ++ xorBytes b (aesEnc key acc.2), incCounter n acc.2)) ([], ctr)).1

/-- Product in GF(2^128) of GCM, bit strings most significant first. -/
def gfMul128 (x y : BitVec 128) : BitVec 128 :=
  ((List.range 128).foldl (fun (acc : BitVec 128 × BitVec 128) i =>
    let z := if x.getLsbD (127 - i) then acc.1 ^^^ acc.2 else acc.1
    let v := if acc.2.getLsbD 0 then (acc.2 >>> 1) ^^^ (0xE1#128 <<< 120) else acc.2 >>> 1
    (z, v)) (0, y)).1

def pad16 (l : List Byte) : List Byte := l ++ List.replicate ((16 - l.length % 16) % 16) 0

def ghash (h : BitVec 128) (l : List Byte) : BitVec 128 :=
  (blocksOf l).foldl (fun y b => gfMul128 (y ^^^ BitVec.ofNat 128 (beNat b)) h) 0

/-- GCM with a 96-bit IV: text and tag; enc says which side the authenticated text is on. -/
def aesGcm (enc : Bool) (key iv aad m : List Byte) : List Byte × List Byte :=
  let h := BitVec.ofNat 128 (beNat (aesEnc key (List.replicate 16 0)))
  let j0 := iv ++ [0#8, 0#8, 0#8, 1#8]
  let out := aesCtr 4 key (incCounter 4 j0) m
  let c := if enc then out else m
  let s := ghash h (pad16 aad ++ pad16 c ++ beBytes 8 (8 * aad.length) ++ beBytes 8 (8 * c.length))
  (out, xorBytes (beBytes 16 s.toNat) (aesEnc key j0))

/-- Doubling in GF(2^128) of CMAC. -/
def cmacDouble (l : List Byte) : List Byte :=
  let x := BitVec.ofNat 128 (beNat l)
  let y := x <<< 1
  beBytes 16 (if x.getLsbD 127 then y ^^^ 0x87#128 else y).toNat

/-- CMAC. -/
def aesCmac (key m : List Byte) : List Byte :=
  let k1 := cmacDouble (aesEnc key (List.replicate 16 0))
  let k2 := cmacDouble k1
  let n := max 1 ((m.length + 15) / 16)
  let head := m.take (16 * (n - 1))
  let last := m.drop (16 * (n - 1))
  let tail := if last.length = 16 then xorBytes last k1
    else xorBytes (last ++ [0x80#8] ++ List.replicate (15 - last.length) 0) k2
  let x := (blocksOf head).foldl (fun acc b => aesEnc key (xorBytes acc b)) (List.replicate 16 0)
  aesEnc key (xorBytes x tail)

/-- One pass of the six of RFC 3394's wrap. -/
def wrapPass (key : List Byte) (j : Nat) (acc : List Byte × List (List Byte)) : List Byte × List (List Byte) :=
  let n := acc.2.length
  (List.range n).foldl (fun (p : List Byte × List (List Byte)) i =>
    let b := aesEnc key (p.1 ++ nth [] p.2 i)
    (beBytes 8 (Nat.xor (beNat (b.take 8)) (n * j + i + 1)), setNth p.2 i (b.drop 8))) acc

def halves8 : Nat → List Byte → List (List Byte)
  | 0, _ => []
  | n + 1, l => l.take 8 :: halves8 n (l.drop 8)

/-- RFC 3394 wrap. -/
def aesWrap (key m : List Byte) : List Byte :=
  let r := (List.range 6).foldl (fun acc j => wrapPass key j acc)
    (List.replicate 8 0xA6#8, halves8 (m.length / 8) m)
  r.1 ++ r.2.flatten

def unwrapPass (key : List Byte) (j : Nat) (acc : List Byte × List (List Byte)) : List Byte × List (List Byte) :=
  let n := acc.2.length
  (List.range n).foldl (fun (p : List Byte × List (List Byte)) k =>
    let i := n - 1 - k
    let b := aesDec key (beBytes 8 (Nat.xor (beNat p.1) (n * j + i + 1)) ++ nth [] p.2 i)
    (b.take 8, setNth p.2 i (b.drop 8))) acc

/-- RFC 3394 unwrap; none where the integrity value is wrong. -/
def aesUnwrap (key c : List Byte) : Option (List Byte) :=
  let n := c.length / 8 - 1
  let r := (List.range 6).foldl (fun acc k => unwrapPass key (5 - k) acc) (c.take 8, halves8 n (c.drop 8))
  if r.1 = List.replicate 8 0xA6#8 then some r.2.flatten else none

end Sys2Proof.Machine
end

