-- ==== Sys2Proof/Machine/P256.lean ====
section
/-! DEFINITION. ECDSA and ECDH on P-256 (named by R176 and R495; the curve and the schemes are those of FIPS 186 and RFC
6979 for the deterministic nonce, log 21). -/

namespace Sys2Proof.Machine

def ecP : Nat := 2 ^ 256 - 2 ^ 224 + 2 ^ 192 + 2 ^ 96 - 1
def ecB : Nat := 0x5ac635d8aa3a93e7b3ebbd55769886bc651d06b0cc53b0f63bce3c3e27d2604b
def ecN : Nat := 0xffffffff00000000ffffffffffffffffbce6faada7179e84f3b9cac2fc632551
def ecGx : Nat := 0x6b17d1f2e12c4247f8bce6e563a440f277037d812deb33a0f4a13945d898c296
def ecGy : Nat := 0x4fe342e2fe1a7f9b8ee7eb4a7c0f9e162bce33576b315ececbb6406837bf51f5

/-- b^e mod m by repeated squaring over n bits of e. -/
def powMod (m : Nat) : Nat → Nat → Nat → Nat → Nat
  | 0, _, _, acc => acc
  | n + 1, b, e, acc => powMod m n (b * b % m) (e / 2) (if e % 2 = 1 then acc * b % m else acc)

/-- Inverse modulo a prime. -/
def invMod (m a : Nat) : Nat := powMod m 256 (a % m) (m - 2) 1

/-- A point in Jacobian coordinates; z = 0 is the point at infinity. -/
structure EcPoint where
  x : Nat
  y : Nat
  z : Nat
  deriving DecidableEq, Repr

def fsub (a b : Nat) : Nat := (a + ecP - b % ecP) % ecP

def ecDouble (a : EcPoint) : EcPoint :=
  if a.z = 0 ∨ a.y = 0 then ⟨1, 1, 0⟩
  else
    let z2 := a.z * a.z % ecP
    let m := 3 * (fsub a.x z2) * ((a.x + z2) % ecP) % ecP
    let y2 := a.y * a.y % ecP
    let s := 4 * a.x * y2 % ecP
    let x := fsub (m * m % ecP) (2 * s)
    let y := fsub (m * fsub s x % ecP) (8 * (y2 * y2 % ecP))
    ⟨x, y, 2 * a.y * a.z % ecP⟩

def ecAdd (a b : EcPoint) : EcPoint :=
  if a.z = 0 then b
  else if b.z = 0 then a
  else
    let z1 := a.z * a.z % ecP
    let z2 := b.z * b.z % ecP
    let u1 := a.x * z2 % ecP
    let u2 := b.x * z1 % ecP
    let s1 := a.y * (b.z * z2 % ecP) % ecP
    let s2 := b.y * (a.z * z1 % ecP) % ecP
    if u1 = u2 then (if s1 = s2 then ecDouble a else ⟨1, 1, 0⟩)
    else
      let h := fsub u2 u1
      let r := fsub s2 s1
      let h2 := h * h % ecP
      let h3 := h * h2 % ecP
      let v := u1 * h2 % ecP
      let x := fsub (fsub (r * r % ecP) h3) (2 * v)
      let y := fsub (r * fsub v x % ecP) (s1 * h3 % ecP)
      ⟨x, y, h * (a.z * b.z % ecP) % ecP⟩

/-- k times a point, over n bits of k. -/
def ecMulAux : Nat → Nat → EcPoint → EcPoint → EcPoint
  | 0, _, _, acc => acc
  | n + 1, k, q, acc => ecMulAux n (k / 2) (ecDouble q) (if k % 2 = 1 then ecAdd acc q else acc)

def ecMul (k : Nat) (q : EcPoint) : EcPoint := ecMulAux 256 k q ⟨1, 1, 0⟩

/-- Affine coordinates; none at infinity. -/
def ecAffine (a : EcPoint) : Option (Nat × Nat) :=
  if a.z % ecP = 0 then none
  else
    let zi := invMod ecP a.z
    let z2 := zi * zi % ecP
    some (a.x * z2 % ecP, a.y * (z2 * zi % ecP) % ecP)

def ecG : EcPoint := ⟨ecGx, ecGy, 1⟩

/-- x and y are the coordinates of a point of the curve. -/
def onCurve (x y : Nat) : Bool :=
  decide (x < ecP) && decide (y < ecP) && (y * y % ecP == (x * x % ecP * x + ecB + (ecP - 3) * x) % ecP)

/-- Public key of a private one: x then y, 64 bytes. -/
def ecPublic (d : Nat) : List Byte := match ecAffine (ecMul d ecG) with
  | some (x, y) => beBytes 32 x ++ beBytes 32 y
  | none => List.replicate 64 0

/-- ECDSA verification of a 32-byte digest. -/
def ecdsaVerify (pub digest sig : List Byte) : Bool :=
  let qx := beNat (pub.take 32)
  let qy := beNat (pub.drop 32)
  let r := beNat (sig.take 32)
  let s := beNat (sig.drop 32)
  if !onCurve qx qy || r = 0 || s = 0 || ecN ≤ r || ecN ≤ s then false
  else
    let w := invMod ecN s
    let e := beNat digest
    let q := ecAdd (ecMul (e * w % ecN) ecG) (ecMul (r * w % ecN) ⟨qx, qy, 1⟩)
    match ecAffine q with
    | some (x, _) => x % ecN == r
    | none => false

/-- The deterministic nonce of RFC 6979 with HMAC-SHA-256: tries up to a bound. -/
def rfc6979 (d : Nat) (digest : List Byte) : Nat :=
  let x := beBytes 32 d
  let h := beBytes 32 (beNat digest % ecN)
  let v := List.replicate 32 1#8
  let k := List.replicate 32 0#8
  let k := hmac256 k (v ++ [0#8] ++ x ++ h)
  let v := hmac256 k v
  let k := hmac256 k (v ++ [1#8] ++ x ++ h)
  let v := hmac256 k v
  let rec go : Nat → List Byte → List Byte → Nat
    | 0, _, v => beNat v % ecN
    | n + 1, k, v =>
      let v := hmac256 k v
      let c := beNat v
      if 1 ≤ c ∧ c < ecN then c
      else
        let k := hmac256 k (v ++ [0#8])
        go n k (hmac256 k v)
  go 8 k v

/-- ECDSA signature r ‖ s of a 32-byte digest with nonce k. -/
def ecdsaSignWith (k d : Nat) (digest : List Byte) : List Byte :=
  match ecAffine (ecMul k ecG) with
  | none => List.replicate 64 0
  | some (x, _) =>
    let r := x % ecN
    let s := invMod ecN k * ((beNat digest + r * d) % ecN) % ecN
    beBytes 32 r ++ beBytes 32 s

/-- ECDSA signature of a digest. -/
def ecdsaSign (d : Nat) (digest : List Byte) : List Byte := ecdsaSignWith (rfc6979 d digest) d digest

/-- Shared secret of ECDH: the x coordinate; none for a peer off the curve. -/
def ecdhSecret (d : Nat) (peer : List Byte) : Option (List Byte) :=
  let x := beNat (peer.take 32)
  let y := beNat (peer.drop 32)
  if !onCurve x y then none
  else (ecAffine (ecMul d ⟨x, y, 1⟩)).map (fun p => beBytes 32 p.1)

end Sys2Proof.Machine
end

