-- ==== Sys2Proof/Machine/Codes.lean ====
section
/-! DEFINITION. The checksums of the spec: CRC-32 (R108) and CRC-16/CCITT-FALSE (R393). -/

namespace Sys2Proof.Machine

def crc32Bit (c : BitVec 32) : BitVec 32 := if c.getLsbD 0 then (c >>> 1) ^^^ 0xEDB88320#32 else c >>> 1

def crc32Byte (c : BitVec 32) (b : Byte) : BitVec 32 :=
  crc32Bit (crc32Bit (crc32Bit (crc32Bit (crc32Bit (crc32Bit (crc32Bit (crc32Bit (c ^^^ b.setWidth 32))))))))

/-- CRC-32: polynomial 0x04C1_1DB7 reflected, initial value and final XOR 0xFFFF_FFFF (R108). -/
def crc32 (l : List Byte) : BitVec 32 := (l.foldl crc32Byte 0xFFFFFFFF#32) ^^^ 0xFFFFFFFF#32

def crc16Bit (c : BitVec 16) : BitVec 16 := if c.getLsbD 15 then (c <<< 1) ^^^ 0x1021#16 else c <<< 1

def crc16Byte (c : BitVec 16) (b : Byte) : BitVec 16 :=
  crc16Bit (crc16Bit (crc16Bit (crc16Bit (crc16Bit (crc16Bit (crc16Bit (crc16Bit (c ^^^ (b.setWidth 16 <<< 8)))))))))

/-- CRC-16/CCITT-FALSE: polynomial 0x1021, initial value 0xFFFF, no reflection, no final XOR (R393). -/
def crc16 (l : List Byte) : BitVec 16 := l.foldl crc16Byte 0xFFFF#16

end Sys2Proof.Machine
end

