-- ==== Sys2Proof/Config.lean ====
section
/-! DEFINITION. What an implementation fixes and the spec does not state: free values (opaque constants, no body) and the
per-part constants that fuses carry. Nothing in Lean can evaluate a free value, so no proof can lean on one. -/

namespace Sys2Proof.Config

/-- A fresh unconstrained number for each value of the model's own counter (log 2). -/
opaque freeNat : Nat → Nat
/-- A fresh unconstrained word for each value of the model's own counter (log 2). -/
opaque freeWord : Nat → Word
/-- A fresh unconstrained real number (as a rational) for each value of the model's own counter (log 2). -/
opaque freeRat : Nat → Rat
/-- The system clock periods since the last pick strobe at which a happening falls (R34): the environment's, log 3. -/
opaque arrival : Nat → Nat
/-- The fuse words a part is delivered with (R561), by word number; unknown to the spec (log 8). -/
opaque fuse : Nat → Word
/-- Silicon revision (R567, from fuses; log 8). -/
opaque siRev : Nat
/-- The D96 coefficients in ROM (R107: the spec names what they keep and gives no values; `d96` reads them, log 12), by index. -/
opaque d96Rom : Nat → Int
/-- The prototype of S5 (R110: no values given; `s5Row` reads it, log 12): tap t of phase p. -/
opaque s5Rom : Nat → Nat → Int
/-- The compensation taps of the wideband branch (R117: no values given; `wbTaps` reads them, log 12), by index. -/
opaque wbRom : Nat → Int
/-- Sensor transfer: degrees Celsius from a die-temperature result (R263; the constants are per-part fuse trims, log 8). -/
opaque dieTemp : Int → Rat
/-- Reference temperature coefficients per kelvin and per kelvin squared (R133: from fuse trim, not visible; log 8). -/
opaque rho1 : Rat
opaque rho2 : Rat
/-- Signature of the known-answer tests as this part computes it (R559; log 20). -/
opaque katSignature : Word
/-- The ROM catalogue image of engine e (R174, R178): digest, version, working-region and state bytes (log 17). -/
opaque romDigest : Nat → List Byte
opaque romVersion : Nat → Nat
opaque romWorkLen : Nat → Nat
opaque romStateLen : Nat → Nat
/-- Where the engine pool places a region (R161: the placement is not stated, log 17), by engine and length. -/
opaque poolBase : Nat → Nat → Nat
/-- The vendor image key in ROM (R176), x then y (log 17). -/
opaque vendorKey : List Byte
/-- Crystal load code and reference trim code from the TRIM fuse words 13 to 31 (R15, R93, R561: their places are not stated, log 8). -/
opaque xtalTrim : List Word → Nat
opaque refTrim : List Word → Nat
/-- ROM version of the microcode of unit u (R600; log 17). -/
opaque romMcVersion : Nat → Word
/-- DRBG output bytes (R498; true randomness, log 19), by the model's own counter. -/
opaque randomByte : Nat → Byte
/-- Where the spec states no rounding, a value between two integers takes one of the two: which one is free (log 5). -/
opaque roundsUp : Rat → Bool
/-- P04's high-pass (R240: an 8th-order Butterworth of which no digital form is given, log 12): of each of its four second-order sections
the gain (0) and the two coefficients of its denominator (1, 2). -/
opaque highPass : Nat → Nat → Rat
end Sys2Proof.Config
end

