-- ==== Sys2Proof/Machine/RegTable.lean ====
section
/-! DEFINITION. The register map of R627 to R653: for every page its block registers with their access codes (R9), the
mask of the bits a host write can reach (the field tables; reserved bits are outside it, R8) and their reset values (R7).
Registers the map marks L have reset 0 here until the start loads them (log 7). Both register tables and the header of
R399 are data; `regReset` is what a register holds that nothing has written. -/

namespace Sys2Proof.Machine

/-- Access codes of R9; `sp` marks a register whose owning rule states its access. -/
inductive Acc | ro | rw | w1c | wo | rws | rwl | sp
  deriving DecidableEq, Repr

/-- One row of the register map: count registers from off, stride bytes apart. -/
structure RegRow where
  off : Nat
  count : Nat
  stride : Nat
  acc : Acc
  mask : Nat
  reset : Nat
  deriving DecidableEq, Repr

/-- The row covers the offset. -/
def RegRow.covers (r : RegRow) (o : Nat) : Bool :=
  decide (r.off ≤ o) && decide (o < r.off + r.count * r.stride) && decide ((o - r.off) % r.stride = 0)

/-- The block registers of page SYS (R632). -/
def RegTable.sys : List RegRow := [
  ⟨0x040, 1, 4, .ro, 0, 0⟩ /- SYS_INFO -/,
  ⟨0x044, 1, 4, .ro, 0, 0⟩ /- PAGE_SUM0 -/,
  ⟨0x048, 1, 4, .ro, 0, 0⟩ /- PAGE_SUM1 -/,
  ⟨0x04C, 1, 4, .wo, 0, 0⟩ /- SYS_CMD -/,
  ⟨0x050, 1, 4, .ro, 0, 0⟩ /- SYS_STAT -/,
  ⟨0x054, 1, 4, .sp, 0xFFFF, 0⟩ /- FIRST_CODE -/,
  ⟨0x058, 1, 4, .ro, 0, 0⟩ /- FIRST_STAMP_LO -/,
  ⟨0x05C, 1, 4, .ro, 0, 0⟩ /- FIRST_STAMP_HI -/,
  ⟨0x060, 1, 4, .ro, 0, 0⟩ /- FAULT_PAGES0 -/,
  ⟨0x064, 1, 4, .ro, 0, 0⟩ /- FAULT_PAGES1 -/,
  ⟨0x068, 1, 4, .rw, 0x100FF, 0x10004⟩ /- SCRUB_CFG -/,
  ⟨0x06C, 1, 4, .ro, 0, 0⟩ /- SCRUB_STAT -/,
  ⟨0x070, 1, 4, .ro, 0, 0⟩ /- ECC_CORR_CNT -/,
  ⟨0x074, 1, 4, .ro, 0, 0⟩ /- ECC_UNC_CNT -/,
  ⟨0x078, 1, 4, .ro, 0, 0⟩ /- ECC_LAST -/,
  ⟨0x07C, 1, 4, .ro, 0, 0⟩ /- STALE_CNT -/,
  ⟨0x080, 1, 4, .ro, 0, 0⟩ /- DENY_CNT -/,
  ⟨0x084, 1, 4, .ro, 0, 0⟩ /- BLKRST_CNT -/]

/-- The block registers of page PWR (R633). -/
def RegTable.pwr : List RegRow := [
  ⟨0x040, 1, 4, .rw, 0xFF9FFF, 0xA032B⟩ /- PWR_CFG -/,
  ⟨0x044, 1, 4, .rw, 0x800000FF, 0x14⟩ /- PERMIT_CFG -/,
  ⟨0x048, 1, 4, .rw, 0x8000001F, 0x80000014⟩ /- CHG_CFG -/,
  ⟨0x04C, 1, 4, .wo, 0, 0⟩ /- PWR_CMD -/,
  ⟨0x050, 1, 4, .ro, 0, 0⟩ /- PWR_STAT -/,
  ⟨0x054, 1, 4, .ro, 0, 0⟩ /- LAST_END -/,
  ⟨0x058, 1, 4, .ro, 0, 0⟩ /- LAST_HOLD_LO -/,
  ⟨0x05C, 1, 4, .ro, 0, 0⟩ /- LAST_HOLD_HI -/,
  ⟨0x060, 1, 4, .ro, 0, 0⟩ /- SAVE_TIME -/,
  ⟨0x064, 1, 4, .ro, 0, 0⟩ /- HOLD_CNT -/,
  ⟨0x068, 1, 4, .ro, 0, 0⟩ /- CHG_TIME -/]

/-- The block registers of page ARB (R633). -/
def RegTable.arb : List RegRow := [
  ⟨0x040, 1, 4, .rws, 0xFFFFFF, 0xC28C8⟩ /- ARB_BUD -/,
  ⟨0x044, 1, 4, .rws, 0xFFFFFF, 0xC1010⟩ /- C0_RES -/,
  ⟨0x048, 1, 4, .rws, 0xFFFFFF, 0x783C78⟩ /- ARB_CAP -/,
  ⟨0x04C, 1, 4, .ro, 0, 0⟩ /- ARB_STAT -/,
  ⟨0x050, 1, 4, .rw, 0x3F, 0⟩ /- ARB_SEL -/,
  ⟨0x054, 1, 4, .ro, 0, 0⟩ /- REQ_INFO -/,
  ⟨0x058, 1, 4, .ro, 0, 0⟩ /- REQ_REFUSE -/,
  ⟨0x05C, 1, 4, .ro, 0, 0⟩ /- REQ_WAIT -/,
  ⟨0x060, 1, 4, .ro, 0, 0⟩ /- C0_OVER_CNT -/,
  ⟨0x064, 1, 4, .ro, 0, 0⟩ /- REFUSE_TOTAL -/,
  ⟨0x068, 1, 4, .ro, 0, 0⟩ /- WITHDRAW_CNT -/]

/-- The block registers of page CLK (R634). -/
def RegTable.clk : List RegRow := [
  ⟨0x040, 1, 4, .ro, 0, 0x7⟩ /- CLK_STAT -/,
  ⟨0x044, 1, 4, .rwl, 0x3F, 0⟩ /- XTAL_TRIM -/,
  ⟨0x048, 1, 4, .ro, 0, 0⟩ /- UNLOCK_CNT -/,
  ⟨0x04C, 1, 4, .ro, 0, 0⟩ /- XTAL_FAIL_CNT -/]

/-- The block registers of page RTC (R634). -/
def RegTable.rtc : List RegRow := [
  ⟨0x040, 1, 4, .ro, 0, 0⟩ /- RTC_NOW_LO -/,
  ⟨0x044, 1, 4, .ro, 0, 0⟩ /- RTC_NOW_HI -/,
  ⟨0x048, 1, 4, .rw, 0xFFFFFFFF, 0⟩ /- RTC_SET_LO -/,
  ⟨0x04C, 1, 4, .rw, 0xFFFFFFFF, 0⟩ /- RTC_SET_HI -/,
  ⟨0x050, 1, 4, .wo, 0, 0⟩ /- RTC_CMD -/,
  ⟨0x054, 1, 4, .ro, 0, 0⟩ /- RTC_STAT -/,
  ⟨0x058, 1, 4, .ro, 0, 0⟩ /- LAST_OLD_LO -/,
  ⟨0x05C, 1, 4, .ro, 0, 0⟩ /- LAST_OLD_HI -/,
  ⟨0x060, 1, 4, .ro, 0, 0⟩ /- SET_CNT -/,
  ⟨0x064, 1, 4, .wo, 0, 0⟩ /- MC_CMD -/,
  ⟨0x068, 1, 4, .wo, 0, 0⟩ /- MC_DATA -/,
  ⟨0x06C, 1, 4, .ro, 0, 0⟩ /- MC_STAT -/,
  ⟨0x070, 1, 4, .ro, 0, 0⟩ /- MC_VER_LED -/,
  ⟨0x074, 1, 4, .ro, 0, 0⟩ /- MC_VER_CRY -/]

/-- The block registers of page WARP (R635). -/
def RegTable.warp : List RegRow := [
  ⟨0x040, 1, 4, .rws, 0x1317, 0⟩ /- WARP_CFG -/,
  ⟨0x044, 1, 4, .rws, 0xFFFF, 0⟩ /- REF_TARGET -/,
  ⟨0x048, 1, 4, .rws, 0xFFFFFFFF, 0x43660000⟩ /- UDIN -/,
  ⟨0x04C, 1, 4, .rw, 0xFFFF, 0x1F4⟩ /- FSTEP_TH -/,
  ⟨0x050, 1, 4, .rws, 0x1FFF, 0xA⟩ /- LATCH_N -/,
  ⟨0x054, 1, 4, .wo, 0, 0⟩ /- LATCH_CMD -/,
  ⟨0x058, 1, 4, .ro, 0, 0⟩ /- WARP_STAT -/,
  ⟨0x05C, 1, 4, .ro, 0, 0x7A120⟩ /- FREQ -/,
  ⟨0x060, 1, 4, .ro, 0, 0⟩ /- PHASE_ERR -/,
  ⟨0x064, 1, 4, .ro, 0, 0⟩ /- REF_MAG -/,
  ⟨0x068, 1, 4, .ro, 0, 0⟩ /- CYCLE_LO -/,
  ⟨0x06C, 1, 4, .ro, 0, 0⟩ /- CYCLE_HI -/,
  ⟨0x070, 1, 4, .ro, 0, 0⟩ /- HOLD_FREQ -/,
  ⟨0x074, 1, 4, .ro, 0, 0⟩ /- HOLD_ENTRY_LO -/,
  ⟨0x078, 1, 4, .ro, 0, 0⟩ /- HOLD_ENTRY_HI -/,
  ⟨0x07C, 1, 4, .ro, 0, 0⟩ /- HOLD_EXIT_LO -/,
  ⟨0x080, 1, 4, .ro, 0, 0⟩ /- HOLD_EXIT_HI -/,
  ⟨0x084, 1, 4, .ro, 0, 0⟩ /- HOLD_CNT -/,
  ⟨0x088, 1, 4, .ro, 0, 0⟩ /- HOLD_CYCLES -/,
  ⟨0x08C, 1, 4, .ro, 0, 0⟩ /- LAST_LATCH_CYC_LO -/,
  ⟨0x090, 1, 4, .ro, 0, 0⟩ /- LAST_LATCH_CYC_HI -/,
  ⟨0x094, 1, 4, .ro, 0, 0⟩ /- LAST_LATCH_RTC_LO -/,
  ⟨0x098, 1, 4, .ro, 0, 0⟩ /- LAST_LATCH_RTC_HI -/,
  ⟨0x09C, 1, 4, .ro, 0, 0⟩ /- LAST_LATCH_REASON -/,
  ⟨0x0A0, 1, 4, .ro, 0, 0⟩ /- LATCH_BASE_LO -/,
  ⟨0x0A4, 1, 4, .ro, 0, 0⟩ /- LATCH_BASE_HI -/,
  ⟨0x0A8, 1, 4, .ro, 0, 0⟩ /- EPOCH -/]

/-- The block registers of page ACQ (R636). -/
def RegTable.acq : List RegRow := [
  ⟨0x040, 1, 4, .rws, 0x3, 0x3⟩ /- ACQ_CFG -/,
  ⟨0x044, 1, 4, .ro, 0, 0⟩ /- MOD_RUN -/,
  ⟨0x048, 1, 4, .w1c, 0x1FFFF, 0⟩ /- OVR_STICKY -/,
  ⟨0x04C, 1, 4, .w1c, 0x1FFFF, 0⟩ /- OVL_STICKY -/,
  ⟨0x050, 1, 4, .w1c, 0x1FFFF, 0⟩ /- INJ_STICKY -/,
  ⟨0x054, 1, 4, .w1c, 0x1FFFF, 0⟩ /- NBR_STICKY -/,
  ⟨0x058, 1, 4, .rwl, 0xFF, 0⟩ /- REF_TRIM -/,
  ⟨0x05C, 1, 4, .ro, 0, 0⟩ /- REF_STAT -/]

/-- The block registers of page CH (R637). -/
def RegTable.ch : List RegRow := [
  ⟨0x040, 1, 4, .rws, 0x31F7, 0⟩ /- CH_CFG -/,
  ⟨0x044, 1, 4, .rws, 0xFFFFFFFF, 0x3F800000⟩ /- CH_SCALE -/,
  ⟨0x048, 1, 4, .ro, 0, 0⟩ /- CH_SETTLE -/,
  ⟨0x04C, 1, 4, .ro, 0, 0⟩ /- CH_STAT -/,
  ⟨0x050, 1, 4, .ro, 0, 0⟩ /- OVR_CNT -/,
  ⟨0x054, 1, 4, .ro, 0, 0⟩ /- OVL_CNT -/,
  ⟨0x058, 1, 4, .ro, 0, 0⟩ /- INJ_CNT -/,
  ⟨0x05C, 1, 4, .ro, 0, 0⟩ /- NBR_CNT -/,
  ⟨0x060, 1, 4, .ro, 0, 0⟩ /- STALE_CNT -/,
  ⟨0x064, 1, 4, .ro, 0, 0⟩ /- PEAK -/,
  ⟨0x068, 1, 4, .wo, 0, 0⟩ /- PEAK_CLR -/]

/-- The block registers of page SPARE (R638). -/
def RegTable.spare : List RegRow := [
  ⟨0x040, 1, 4, .wo, 0, 0⟩ /- SP_CMD -/,
  ⟨0x044, 1, 4, .rws, 0xFFFF0033, 0x1⟩ /- SP_CFG -/,
  ⟨0x048, 1, 4, .rws, 0xFFFF, 0xFFFF⟩ /- ROT_MASK -/,
  ⟨0x04C, 1, 4, .ro, 0, 0⟩ /- SP_STAT -/,
  ⟨0x050, 1, 4, .ro, 0, 0⟩ /- STEP_RES -/,
  ⟨0x054, 1, 4, .rws, 0xFFFFFFFF, 0x3C23D70A⟩ /- MATCH_MIN -/,
  ⟨0x058, 1, 4, .rws, 0xFFFFFFFF, 0x3BA3D70A⟩ /- MATCH_LIM -/,
  ⟨0x05C, 1, 4, .rws, 0xFFFF, 0x3E8⟩ /- STEP_MAX -/,
  ⟨0x060, 1, 4, .rws, 0xFFFF, 0x1F4⟩ /- DRIFT_TH_G -/,
  ⟨0x064, 1, 4, .rws, 0xFFFFFFFF, 0x4000⟩ /- DRIFT_TH_O -/,
  ⟨0x068, 1, 4, .rws, 0xFFFFFFFF, 0x1000⟩ /- SYM_TH -/,
  ⟨0x06C, 1, 4, .rws, 0x1, 0⟩ /- CAL_BANK -/,
  ⟨0x070, 1, 4, .rw, 0xFF, 0⟩ /- CAL_ADDR -/,
  ⟨0x074, 1, 4, .rw, 0xFFFFFFFF, 0⟩ /- CAL_DATA -/,
  ⟨0x078, 1, 4, .ro, 0, 0⟩ /- CAL_CRC -/,
  ⟨0x07C, 1, 4, .ro, 0, 0x41C80000⟩ /- TEMP_USED -/,
  ⟨0x080, 1, 4, .rw, 0x1F, 0⟩ /- MATCH_SEL -/,
  ⟨0x084, 1, 4, .ro, 0, 0x3F800000⟩ /- MATCH_G -/,
  ⟨0x088, 1, 4, .ro, 0, 0⟩ /- MATCH_P -/,
  ⟨0x08C, 1, 4, .ro, 0, 0⟩ /- MATCH_O -/,
  ⟨0x090, 1, 4, .ro, 0, 0x80000000⟩ /- DRIFT_G -/,
  ⟨0x094, 1, 4, .ro, 0, 0x80000000⟩ /- DRIFT_O -/,
  ⟨0x098, 1, 4, .ro, 0, 0⟩ /- DRIFT_SYM -/,
  ⟨0x09C, 1, 4, .ro, 0, 0⟩ /- DRIFT_STAMP_LO -/,
  ⟨0x0A0, 1, 4, .ro, 0, 0⟩ /- DRIFT_STAMP_HI -/,
  ⟨0x0A4, 1, 4, .rw, 0xFFFF, 0x32⟩ /- MEAS_CFG -/,
  ⟨0x0A8, 1, 4, .ro, 0, 0⟩ /- MEAS_MEAN -/,
  ⟨0x0AC, 1, 4, .ro, 0, 0⟩ /- MEAS_RE -/,
  ⟨0x0B0, 1, 4, .ro, 0, 0⟩ /- MEAS_IM -/,
  ⟨0x0B4, 1, 4, .ro, 0, 0⟩ /- MEAS_RMS -/,
  ⟨0x0B8, 1, 4, .ro, 0, 0⟩ /- MEAS_STAMP_LO -/,
  ⟨0x0BC, 1, 4, .ro, 0, 0⟩ /- MEAS_STAMP_HI -/,
  ⟨0x0C0, 1, 4, .ro, 0, 0⟩ /- LAST_SUBST -/,
  ⟨0x0C4, 1, 4, .ro, 0, 0⟩ /- SP_OVR_CNT -/,
  ⟨0x0C8, 1, 4, .ro, 0, 0⟩ /- SP_OVL_CNT -/,
  ⟨0x0CC, 1, 4, .ro, 0, 0⟩ /- STEP_CNT -/]

/-- The block registers of page FLT (R639). -/
def RegTable.flt : List RegRow := [
  ⟨0x040, 17, 4, .rws, 0xFFFFFF, 0x1FFF20⟩ /- SHIFT -/,
  ⟨0x084, 17, 4, .rws, 0x1F1F0107, 0x14120100⟩ /- CHAIN_CFG -/,
  ⟨0x0C8, 4, 4, .sp, 0x1007F7F, 0x6060⟩ /- PROF_CFG -/,
  ⟨0x0D8, 1, 4, .rw, 0x3FF, 0⟩ /- COEF_ADDR -/,
  ⟨0x0DC, 1, 4, .rw, 0x3FFFF, 0⟩ /- COEF_DATA -/,
  ⟨0x0E0, 1, 4, .ro, 0, 0⟩ /- COEF_CRC -/,
  ⟨0x0E4, 1, 4, .w1c, 0x1FFFF, 0⟩ /- SAT_STICKY -/,
  ⟨0x0E8, 1, 4, .ro, 0, 0⟩ /- SAT_LAST -/,
  ⟨0x0EC, 1, 4, .ro, 0, 0x1FFFF⟩ /- S6_STAT -/,
  ⟨0x0F0, 1, 4, .ro, 0, 0⟩ /- HELD_MASK -/,
  ⟨0x0F4, 1, 4, .ro, 0, 0x17⟩ /- LAT_MAX -/]

/-- The block registers of page WB (R639). -/
def RegTable.wb : List RegRow := [
  ⟨0x040, 8, 4, .rws, 0xF1F01, 0⟩ /- WB_CFG -/,
  ⟨0x060, 1, 4, .ro, 0, 0⟩ /- WB_STAT -/,
  ⟨0x064, 8, 4, .ro, 0, 0⟩ /- BLK_CNT -/,
  ⟨0x084, 8, 4, .ro, 0, 0⟩ /- DROP_CNT -/,
  ⟨0x0A4, 1, 4, .w1c, 0xFF, 0⟩ /- SAT_STICKY -/]

/-- The block registers of page AUX (R640). -/
def RegTable.aux : List RegRow := [
  ⟨0x040, 1, 4, .rws, 0x30100, 0⟩ /- AUX_CFG -/,
  ⟨0x044, 1, 4, .rws, 0xFFFFFCF3, 0x119091⟩ /- SEQ_CFG -/,
  ⟨0x048, 1, 4, .wo, 0, 0⟩ /- AUX_CMD -/,
  ⟨0x04C, 1, 4, .ro, 0, 0⟩ /- AUX_STAT -/,
  ⟨0x050, 1, 4, .ro, 0, 0x4000⟩ /- CAL_GAIN -/,
  ⟨0x054, 1, 4, .ro, 0, 0⟩ /- CAL_OFS -/,
  ⟨0x058, 1, 4, .ro, 0, 0⟩ /- URG_RES -/,
  ⟨0x05C, 1, 4, .ro, 0, 0⟩ /- URG_STAMP_LO -/,
  ⟨0x060, 1, 4, .ro, 0, 0⟩ /- URG_STAMP_HI -/,
  ⟨0x064, 1, 4, .ro, 0, 0⟩ /- SEQ_STAMP_LO -/,
  ⟨0x068, 1, 4, .ro, 0, 0⟩ /- SEQ_STAMP_HI -/,
  ⟨0x06C, 1, 4, .ro, 0, 0x41C80000⟩ /- DIE_TEMP -/,
  ⟨0x070, 1, 4, .ro, 0, 0⟩ /- OVERRUN_CNT -/,
  ⟨0x074, 1, 4, .ro, 0, 0⟩ /- PREEMPT_CNT -/,
  ⟨0x078, 1, 4, .rws, 0xFFFF, 0x1000⟩ /- DELIV_MASK -/,
  ⟨0x080, 16, 4, .rws, 0xFF71000F, 0⟩ /- SEQ_ENTRY -/,
  ⟨0x0C0, 16, 4, .ro, 0, 0⟩ /- RES -/]

/-- The block registers of page DAC (R640). -/
def RegTable.dac : List RegRow := [
  ⟨0x040, 1, 4, .rws, 0x3FF1F31, 0x2000000⟩ /- DAC_CFG -/,
  ⟨0x044, 1, 4, .ro, 0, 0⟩ /- DAC_STAT -/,
  ⟨0x048, 1, 4, .ro, 0, 0⟩ /- DAC_CNT -/]

/-- The block registers of page ENG (R641). -/
def RegTable.eng : List RegRow := [
  ⟨0x040, 1, 4, .wo, 0, 0⟩ /- ENG_CMD -/,
  ⟨0x044, 1, 4, .ro, 0, 0⟩ /- ENG_STAT -/,
  ⟨0x048, 1, 4, .wo, 0, 0⟩ /- IMG_DATA -/,
  ⟨0x04C, 1, 4, .ro, 0, 0⟩ /- IMG_STAT -/,
  ⟨0x050, 16, 4, .rws, 0xFF01FFFF, 0⟩ /- SUB -/,
  ⟨0x090, 10, 4, .ro, 0, 0⟩ /- ROLL_FLOOR -/,
  ⟨0x0B8, 1, 4, .ro, 0, 0⟩ /- VKEY_ID -/,
  ⟨0x0BC, 1, 4, .ro, 0, 0⟩ /- POOL_USED -/]

/-- The block registers of page ME (R642). -/
def RegTable.me : List RegRow := [
  ⟨0x040, 1, 4, .ro, 0, 0⟩ /- ME_STAT -/,
  ⟨0x044, 4, 4, .rws, 0xFFFFFFFF, 0⟩ /- PROG_ARG -/,
  ⟨0x054, 1, 4, .ro, 0, 0⟩ /- MISS_CNT -/,
  ⟨0x058, 1, 4, .ro, 0, 0⟩ /- MISS_LAST -/,
  ⟨0x05C, 1, 4, .ro, 0, 0⟩ /- MISS_STAMP_LO -/,
  ⟨0x060, 1, 4, .ro, 0, 0⟩ /- MISS_STAMP_HI -/,
  ⟨0x064, 1, 4, .ro, 0, 0⟩ /- REFUSE_CNT -/,
  ⟨0x068, 1, 4, .ro, 0, 0⟩ /- WAIT_CNT -/,
  ⟨0x06C, 1, 4, .ro, 0, 0⟩ /- STALE_CNT -/,
  ⟨0x070, 1, 4, .ro, 0, 0⟩ /- BANK_A_INFO -/,
  ⟨0x074, 1, 4, .ro, 0, 0⟩ /- BANK_A_VER -/,
  ⟨0x078, 1, 4, .ro, 0, 0⟩ /- BANK_B_INFO -/,
  ⟨0x07C, 1, 4, .ro, 0, 0⟩ /- BANK_B_VER -/,
  ⟨0x080, 1, 4, .ro, 0, 0⟩ /- BIST_RES -/,
  ⟨0x084, 1, 4, .ro, 0, 0⟩ /- LOAD -/,
  ⟨0x088, 1, 4, .wo, 0, 0⟩ /- LOAD_CLR -/,
  ⟨0x08C, 1, 4, .ro, 0, 0⟩ /- WORK_BASE -/,
  ⟨0x090, 1, 4, .ro, 0, 0⟩ /- WORK_LEN -/,
  ⟨0x100, 32, 8, .rws, 0x873FFFFF, 0⟩ /- SLOT_A -/,
  ⟨0x104, 32, 8, .rws, 0xFFF03FFF, 0⟩ /- SLOT_B -/]

/-- The block registers of page RING (R643). -/
def RegTable.ring : List RegRow := [
  ⟨0x040, 16, 32, .rw, 0xFFFFFF, 0⟩ /- DESC_BASE -/,
  ⟨0x044, 16, 32, .rw, 0xF81FFFFF, 0⟩ /- DESC_CFG -/,
  ⟨0x048, 16, 32, .sp, 0xFFFFFFFF, 0⟩ /- DESC_HEAD -/,
  ⟨0x04C, 16, 32, .sp, 0xFFFFFFFF, 0⟩ /- DESC_TAIL -/,
  ⟨0x050, 16, 32, .ro, 0, 0⟩ /- DESC_SEQ -/,
  ⟨0x054, 16, 32, .ro, 0, 0⟩ /- DESC_LOST -/,
  ⟨0x058, 16, 32, .ro, 0, 0⟩ /- DESC_STAT -/,
  ⟨0x240, 1, 4, .w1c, 0xFFFF, 0⟩ /- NONEMPTY -/,
  ⟨0x244, 1, 4, .ro, 0, 0⟩ /- WM_STAT -/,
  ⟨0x248, 1, 4, .w1c, 0xFFFF, 0⟩ /- LOSS_STICKY -/]

/-- The block registers of page FEED (R644). -/
def RegTable.feed : List RegRow := [
  ⟨0x040, 4, 4, .rws, 0x800F1DF7, 0x800000F0⟩ /- FEED_CFG -/,
  ⟨0x050, 4, 4, .rws, 0xFFFFFFFF, 0x32107654⟩ /- FEED_MAP -/,
  ⟨0x060, 4, 4, .rws, 0xFFFFF, 0xFFFFF⟩ /- QTY_EN -/,
  ⟨0x070, 4, 4, .rws, 0xFFFFFFFF, 0⟩ /- START_I -/,
  ⟨0x080, 4, 4, .rws, 0xFFFFFFFF, 0⟩ /- CREEP_P -/,
  ⟨0x090, 1, 4, .rws, 0x7, 0x7⟩ /- D_CFG -/,
  ⟨0x094, 1, 4, .ro, 0, 0⟩ /- FEED_STAT -/,
  ⟨0x098, 4, 4, .ro, 0, 0⟩ /- NOLOAD_CNT -/,
  ⟨0x0A8, 4, 4, .ro, 0, 0⟩ /- INVPICK_CNT -/,
  ⟨0x100, 4, 128, .ro, 0, 0⟩ /- PSTAMP_LO -/,
  ⟨0x104, 4, 128, .ro, 0, 0⟩ /- PSTAMP_HI -/,
  ⟨0x108, 4, 128, .ro, 0, 0⟩ /- PFLAGS -/,
  ⟨0x10C, 4, 128, .ro, 0, 0⟩ /- P -/,
  ⟨0x110, 4, 128, .ro, 0, 0⟩ /- P1 -/,
  ⟨0x114, 4, 128, .ro, 0, 0⟩ /- PH -/,
  ⟨0x118, 4, 128, .ro, 0, 0⟩ /- Q1 -/,
  ⟨0x11C, 4, 128, .ro, 0, 0⟩ /- Q -/,
  ⟨0x120, 4, 128, .ro, 0, 0⟩ /- SA -/,
  ⟨0x124, 4, 128, .ro, 0, 0⟩ /- SV -/,
  ⟨0x128, 4, 128, .ro, 0, 0⟩ /- SE -/,
  ⟨0x12C, 4, 128, .ro, 0, 0⟩ /- PF -/,
  ⟨0x130, 4, 128, .ro, 0, 0⟩ /- DPF -/,
  ⟨0x134, 4, 128, .ro, 0, 0⟩ /- RSTAMP_LO -/,
  ⟨0x138, 4, 128, .ro, 0, 0⟩ /- RSTAMP_HI -/,
  ⟨0x13C, 4, 128, .ro, 0, 0⟩ /- RFLAGS -/,
  ⟨0x140, 4, 16, .ro, 0, 0⟩ /- EL_U -/,
  ⟨0x144, 4, 16, .ro, 0, 0⟩ /- EL_I -/,
  ⟨0x148, 4, 16, .ro, 0, 0⟩ /- EL_P -/,
  ⟨0x14C, 4, 16, .ro, 0, 0⟩ /- EL_Q1 -/,
  ⟨0x1C0, 4, 16, .ro, 0, 0⟩ /- EL_U -/,
  ⟨0x1C4, 4, 16, .ro, 0, 0⟩ /- EL_I -/,
  ⟨0x1C8, 4, 16, .ro, 0, 0⟩ /- EL_P -/,
  ⟨0x1CC, 4, 16, .ro, 0, 0⟩ /- EL_Q1 -/,
  ⟨0x240, 4, 16, .ro, 0, 0⟩ /- EL_U -/,
  ⟨0x244, 4, 16, .ro, 0, 0⟩ /- EL_I -/,
  ⟨0x248, 4, 16, .ro, 0, 0⟩ /- EL_P -/,
  ⟨0x24C, 4, 16, .ro, 0, 0⟩ /- EL_Q1 -/,
  ⟨0x2C0, 4, 16, .ro, 0, 0⟩ /- EL_U -/,
  ⟨0x2C4, 4, 16, .ro, 0, 0⟩ /- EL_I -/,
  ⟨0x2C8, 4, 16, .ro, 0, 0⟩ /- EL_P -/,
  ⟨0x2CC, 4, 16, .ro, 0, 0⟩ /- EL_Q1 -/,
  ⟨0x300, 4, 64, .ro, 0, 0⟩ /- ASTAMP_LO -/,
  ⟨0x304, 4, 64, .ro, 0, 0⟩ /- ASTAMP_HI -/,
  ⟨0x308, 4, 64, .ro, 0, 0⟩ /- AFLAGS -/,
  ⟨0x310, 4, 4, .ro, 0, 0⟩ /- U_AGG -/,
  ⟨0x320, 4, 4, .ro, 0, 0⟩ /- I_AGG -/,
  ⟨0x350, 4, 4, .ro, 0, 0⟩ /- U_AGG -/,
  ⟨0x360, 4, 4, .ro, 0, 0⟩ /- I_AGG -/,
  ⟨0x390, 4, 4, .ro, 0, 0⟩ /- U_AGG -/,
  ⟨0x3A0, 4, 4, .ro, 0, 0⟩ /- I_AGG -/,
  ⟨0x3D0, 4, 4, .ro, 0, 0⟩ /- U_AGG -/,
  ⟨0x3E0, 4, 4, .ro, 0, 0⟩ /- I_AGG -/]

/-- The block registers of page LEDGER (R645). -/
def RegTable.ledger : List RegRow := [
  ⟨0x040, 1, 4, .rws, 0x3FF, 0x92⟩ /- LEDGER_CFG -/,
  ⟨0x044, 1, 4, .ro, 0, 0⟩ /- LEDGER_STAT -/,
  ⟨0x048, 1, 4, .ro, 0, 0⟩ /- LSEQ_LO -/,
  ⟨0x04C, 1, 4, .ro, 0, 0⟩ /- LSEQ_HI -/,
  ⟨0x050, 1, 4, .rw, 0x7FF, 0⟩ /- DEF_ADDR -/,
  ⟨0x054, 1, 4, .rws, 0xFFFFFFFF, 0⟩ /- DEF_DATA -/,
  ⟨0x058, 1, 4, .wo, 0, 0⟩ /- LEDGER_CMD -/,
  ⟨0x05C, 1, 4, .rw, 0x3FF, 0⟩ /- VIEW_ADDR -/,
  ⟨0x060, 1, 4, .ro, 0, 0⟩ /- VIEW_VAL -/,
  ⟨0x064, 1, 4, .ro, 0, 0⟩ /- VIEW_ROLL -/,
  ⟨0x068, 1, 4, .w1c, 0x1, 0⟩ /- VIEW_STAT -/,
  ⟨0x06C, 32, 4, .ro, 0, 0⟩ /- ROLL_SUM -/,
  ⟨0x0EC, 1, 4, .ro, 0, 0⟩ /- LATE_CNT -/,
  ⟨0x0F0, 1, 4, .ro, 0, 0⟩ /- SAT_CNT -/,
  ⟨0x0F4, 1, 4, .ro, 0, 0⟩ /- TOTSAT_CNT -/]

/-- The block registers of page TARIFF (R646). -/
def RegTable.tariff : List RegRow := [
  ⟨0x040, 1, 4, .rws, 0xFFFF, 0⟩ /- TZ -/,
  ⟨0x044, 1, 4, .rws, 0x800000FF, 0x3C⟩ /- DST_CFG -/,
  ⟨0x048, 1, 4, .rws, 0xF7707FF, 0x3560078⟩ /- DST_START -/,
  ⟨0x04C, 1, 4, .rws, 0xF7707FF, 0xA5600B4⟩ /- DST_END -/,
  ⟨0x050, 1, 4, .rw, 0x1FF, 0⟩ /- CAL_ADDR -/,
  ⟨0x054, 1, 4, .rw, 0xFFFFFFFF, 0⟩ /- CAL_DATA -/,
  ⟨0x058, 1, 4, .ro, 0, 0⟩ /- CAL_CRC -/,
  ⟨0x05C, 1, 4, .wo, 0, 0⟩ /- TAR_CMD -/,
  ⟨0x060, 1, 4, .rw, 0xFFFFFFFF, 0⟩ /- ACT_TIME_LO -/,
  ⟨0x064, 1, 4, .rw, 0xFFFFFFFF, 0⟩ /- ACT_TIME_HI -/,
  ⟨0x068, 1, 4, .ro, 0, 0⟩ /- TAR_STAT -/,
  ⟨0x06C, 1, 4, .ro, 0, 0⟩ /- ACTIVE_ID -/,
  ⟨0x070, 1, 4, .ro, 0, 0⟩ /- PASSIVE_ID -/,
  ⟨0x074, 1, 4, .ro, 0, 0⟩ /- NEXT_SW_LO -/,
  ⟨0x078, 1, 4, .ro, 0, 0⟩ /- NEXT_SW_HI -/]

/-- The block registers of page DEMAND (R646). -/
def RegTable.demand : List RegRow := [
  ⟨0x040, 1, 4, .rws, 0x1, 0⟩ /- CFG -/,
  ⟨0x044, 16, 4, .rws, 0xCF3F03FF, 0x800F0060⟩ /- DCH_CFG -/,
  ⟨0x084, 1, 4, .rw, 0xF0F, 0⟩ /- DSEL -/,
  ⟨0x088, 1, 4, .ro, 0, 0⟩ /- CUR_E_LO -/,
  ⟨0x08C, 1, 4, .ro, 0, 0⟩ /- CUR_E_HI -/,
  ⟨0x090, 1, 4, .ro, 0, 0⟩ /- LAST_E_LO -/,
  ⟨0x094, 1, 4, .ro, 0, 0⟩ /- LAST_E_HI -/,
  ⟨0x098, 1, 4, .ro, 0, 0⟩ /- LAST_D -/,
  ⟨0x09C, 1, 4, .ro, 0, 0⟩ /- LAST_END_LO -/,
  ⟨0x0A0, 1, 4, .ro, 0, 0⟩ /- LAST_END_HI -/,
  ⟨0x0A4, 1, 4, .ro, 0, 0⟩ /- LAST_FLAGS -/,
  ⟨0x0A8, 1, 4, .ro, 0, 0⟩ /- MAX_E_LO -/,
  ⟨0x0AC, 1, 4, .ro, 0, 0⟩ /- MAX_E_HI -/,
  ⟨0x0B0, 1, 4, .ro, 0, 0⟩ /- MAX_D -/,
  ⟨0x0B4, 1, 4, .ro, 0, 0⟩ /- MAX_END_LO -/,
  ⟨0x0B8, 1, 4, .ro, 0, 0⟩ /- MAX_END_HI -/,
  ⟨0x0BC, 1, 4, .ro, 0, 0⟩ /- CUM_LO -/,
  ⟨0x0C0, 1, 4, .ro, 0, 0⟩ /- CUM_HI -/,
  ⟨0x0C4, 1, 4, .ro, 0, 0⟩ /- NEXT_END_LO -/,
  ⟨0x0C8, 1, 4, .ro, 0, 0⟩ /- NEXT_END_HI -/,
  ⟨0x0CC, 1, 4, .ro, 0, 0⟩ /- DEM_STAT -/]

/-- The block registers of page BILL (R646). -/
def RegTable.bill : List RegRow := [
  ⟨0x040, 1, 4, .rws, 0x71F07FF, 0x3010000⟩ /- BILL_CFG -/,
  ⟨0x044, 1, 4, .wo, 0, 0⟩ /- BILL_CMD -/,
  ⟨0x048, 1, 4, .ro, 0, 0⟩ /- BILL_STAT -/,
  ⟨0x04C, 1, 4, .ro, 0, 0⟩ /- SHSEQ -/,
  ⟨0x050, 1, 4, .ro, 0, 0⟩ /- HWM_LO -/,
  ⟨0x054, 1, 4, .ro, 0, 0⟩ /- HWM_HI -/,
  ⟨0x058, 1, 4, .ro, 0, 0⟩ /- NEXT_BILL_LO -/,
  ⟨0x05C, 1, 4, .ro, 0, 0⟩ /- NEXT_BILL_HI -/,
  ⟨0x060, 1, 4, .rw, 0x1F, 0⟩ /- SHEAF_SEL -/,
  ⟨0x064, 1, 4, .ro, 0, 0⟩ /- SHEAF_ADDR -/,
  ⟨0x068, 1, 4, .ro, 0, 0⟩ /- SHEAF_NO -/]

/-- The block registers of page PQ (R647). -/
def RegTable.pq : List RegRow := [
  ⟨0x040, 1, 4, .rws, 0x7F001F, 0x320005⟩ /- HARM_CFG -/,
  ⟨0x044, 1, 4, .rws, 0x1, 0⟩ /- SUPRA_CFG -/,
  ⟨0x048, 1, 4, .rws, 0xF0101, 0x70001⟩ /- EV_CFG -/,
  ⟨0x04C, 1, 4, .rws, 0xFFFFFFFF, 0x3F666666⟩ /- DIP_TH -/,
  ⟨0x050, 1, 4, .rws, 0xFFFFFFFF, 0x3F8CCCCD⟩ /- SWELL_TH -/,
  ⟨0x054, 1, 4, .rws, 0xFFFFFFFF, 0x3D4CCCCD⟩ /- INT_TH -/,
  ⟨0x058, 1, 4, .rws, 0xFFFFFFFF, 0x3CA3D70A⟩ /- HYST -/,
  ⟨0x05C, 1, 4, .rws, 0xFFFFFF3C, 0x1011010C⟩ /- CAP_CFG -/,
  ⟨0x060, 1, 4, .rws, 0xFFFF003F, 0x7000007⟩ /- CAP_TRIG -/,
  ⟨0x064, 1, 4, .rws, 0xFFFF, 0x4000⟩ /- WB_LVL -/,
  ⟨0x068, 1, 4, .rws, 0x3FFFFFFF, 0x10040000⟩ /- CAP_BUF -/,
  ⟨0x06C, 1, 4, .wo, 0, 0⟩ /- CAP_CMD -/,
  ⟨0x070, 1, 4, .ro, 0, 0⟩ /- CAP_STAT -/,
  ⟨0x074, 1, 4, .ro, 0, 0⟩ /- CAP_LOST -/,
  ⟨0x078, 1, 4, .ro, 0, 0⟩ /- CAP_CNT -/,
  ⟨0x07C, 1, 4, .ro, 0, 0⟩ /- EV_STAT -/,
  ⟨0x080, 1, 4, .ro, 0, 0⟩ /- EV_ID -/,
  ⟨0x084, 1, 4, .ro, 0, 0⟩ /- DIP_CNT -/,
  ⟨0x088, 1, 4, .ro, 0, 0⟩ /- SWELL_CNT -/,
  ⟨0x08C, 1, 4, .ro, 0, 0⟩ /- INT_CNT -/,
  ⟨0x090, 4, 4, .ro, 0, 0⟩ /- URMS_HALF -/,
  ⟨0x0A0, 4, 4, .ro, 0, 0⟩ /- U_W -/,
  ⟨0x0B0, 4, 4, .ro, 0, 0⟩ /- U_150 -/,
  ⟨0x0C0, 1, 4, .ro, 0, 0⟩ /- U2 -/,
  ⟨0x0C4, 1, 4, .ro, 0, 0⟩ /- U0 -/,
  ⟨0x0C8, 1, 4, .ro, 0, 0⟩ /- WSTAMP_LO -/,
  ⟨0x0CC, 1, 4, .ro, 0, 0⟩ /- WSTAMP_HI -/,
  ⟨0x0D0, 1, 4, .ro, 0, 0⟩ /- WFLAGS -/,
  ⟨0x0D4, 1, 4, .ro, 0, 0⟩ /- FREQ10 -/,
  ⟨0x0D8, 1, 4, .ro, 0, 0⟩ /- FREQ10_RTC_LO -/,
  ⟨0x0DC, 1, 4, .ro, 0, 0⟩ /- FREQ10_RTC_HI -/,
  ⟨0x0E0, 1, 4, .ro, 0, 0⟩ /- FREQ10_FLAGS -/,
  ⟨0x100, 16, 4, .ro, 0, 0⟩ /- THD -/,
  ⟨0x140, 16, 4, .ro, 0, 0⟩ /- H1 -/,
  ⟨0x180, 8, 4, .ro, 0, 0⟩ /- SUPRA_TOP -/,
  ⟨0x1A0, 8, 4, .ro, 0, 0⟩ /- SUPRA_TOPG -/]

/-- The block registers of page THERM (R648). -/
def RegTable.therm : List RegRow := [
  ⟨0x040, 1, 4, .rws, 0x8F8F377F, 0x82000104⟩ /- CIRC_CFG -/,
  ⟨0x044, 1, 4, .rws, 0x8F8F377F, 0x2002434⟩ /- CIRC_CFG -/,
  ⟨0x048, 1, 4, .rws, 0xFF003F, 0x3C0015⟩ /- SENS_CFG -/,
  ⟨0x04C, 1, 4, .rws, 0xFFFFFFFF, 0x447A0000⟩ /- RREF -/,
  ⟨0x050, 1, 4, .rws, 0xFFFFFFFF, 0⟩ /- DT_CUT -/,
  ⟨0x054, 1, 4, .rws, 0xF30F03, 0x830000⟩ /- COP_CFG -/,
  ⟨0x058, 1, 4, .wo, 0, 0⟩ /- THERM_CMD -/,
  ⟨0x05C, 2, 4, .rw, 0xFFFFFFFF, 0⟩ /- HOST_T -/,
  ⟨0x064, 1, 4, .ro, 0, 0x3⟩ /- HOST_STAT -/,
  ⟨0x068, 1, 4, .ro, 0, 0⟩ /- COP_LATCH -/,
  ⟨0x06C, 1, 4, .ro, 0, 0⟩ /- COP_INT -/,
  ⟨0x070, 1, 4, .ro, 0, 0⟩ /- COP_SEASON -/,
  ⟨0x074, 1, 4, .ro, 0, 0⟩ /- COP_STAT -/,
  ⟨0x078, 1, 4, .ro, 0, 0⟩ /- SEAS_START_LO -/,
  ⟨0x07C, 1, 4, .ro, 0, 0⟩ /- SEAS_START_HI -/,
  ⟨0x080, 2, 32, .ro, 0, 0⟩ /- CSTAMP_LO -/,
  ⟨0x084, 2, 32, .ro, 0, 0⟩ /- CSTAMP_HI -/,
  ⟨0x088, 2, 32, .ro, 0, 0⟩ /- CFLAGS -/,
  ⟨0x08C, 2, 32, .ro, 0, 0⟩ /- TF -/,
  ⟨0x090, 2, 32, .ro, 0, 0⟩ /- TR -/,
  ⟨0x094, 2, 32, .ro, 0, 0⟩ /- K -/,
  ⟨0x098, 2, 32, .ro, 0, 0⟩ /- PTH -/,
  ⟨0x09C, 2, 32, .ro, 0, 0⟩ /- FLOW -/,
  ⟨0x0C0, 1, 4, .ro, 0, 0⟩ /- T_AUX0 -/,
  ⟨0x0C4, 1, 4, .ro, 0, 0⟩ /- T_AUX1 -/,
  ⟨0x0C8, 1, 4, .ro, 0, 0⟩ /- T_AUX3 -/,
  ⟨0x0CC, 1, 4, .ro, 0, 0x5555⟩ /- TEMP_STAT -/,
  ⟨0x100, 8, 16, .ro, 0, 0⟩ /- SEAS_HEAT_LO -/,
  ⟨0x104, 8, 16, .ro, 0, 0⟩ /- SEAS_HEAT_HI -/,
  ⟨0x108, 8, 16, .ro, 0, 0⟩ /- SEAS_ELEC_LO -/,
  ⟨0x10C, 8, 16, .ro, 0, 0⟩ /- SEAS_ELEC_HI -/]

/-- The block registers of page POUT (R649). -/
def RegTable.pout : List RegRow := [
  ⟨0x040, 4, 4, .rws, 0x8FFF0103, 0x91E0000⟩ /- POUT_CFG -/,
  ⟨0x050, 4, 4, .rws, 0x8000FFFF, 0x60⟩ /- POUT_SRC -/,
  ⟨0x060, 4, 4, .rws, 0xFFFFFFFF, 0x3E8000⟩ /- POUT_CONST -/,
  ⟨0x070, 1, 4, .ro, 0, 0⟩ /- POUT_STAT -/,
  ⟨0x074, 4, 4, .ro, 0, 0⟩ /- PULSE_CNT -/,
  ⟨0x084, 4, 4, .ro, 0, 0⟩ /- BACKLOG -/]

/-- The block registers of page PLSI (R648). -/
def RegTable.plsi : List RegRow := [
  ⟨0x040, 4, 4, .rws, 0xF30301, 0xC20001⟩ /- PIN_CFG -/,
  ⟨0x050, 4, 4, .rws, 0xFFFFFFFF, 0x2710⟩ /- WEIGHT -/,
  ⟨0x060, 4, 4, .ro, 0, 0⟩ /- CNT -/,
  ⟨0x070, 4, 4, .ro, 0, 0⟩ /- REV_CNT -/,
  ⟨0x080, 1, 4, .ro, 0, 0⟩ /- PLSI_STAT -/,
  ⟨0x084, 4, 4, .ro, 0, 0⟩ /- BREAK_CNT -/]

/-- The block registers of page DISP (R649). -/
def RegTable.disp : List RegRow := [
  ⟨0x040, 1, 4, .rws, 0xC01F0000, 0x80080000⟩ /- DISP_CFG -/,
  ⟨0x044, 1, 4, .ro, 0, 0⟩ /- DISP_STAT -/,
  ⟨0x048, 1, 4, .wo, 0, 0⟩ /- DISP_CMD -/,
  ⟨0x04C, 1, 4, .ro, 0, 0⟩ /- FRAME_CNT -/,
  ⟨0x080, 32, 4, .rws, 0xFFFFFFFF, 0⟩ /- SEG_MAP -/,
  ⟨0x100, 64, 4, .rws, 0xFFFFFFFF, 0x10000060⟩ /- ITEM_N -/,
  ⟨0x200, 64, 4, .rws, 0xFFFFFFFF, 0⟩ /- ITEM_A -/]

/-- The block registers of page TAMP (R649). -/
def RegTable.tamp : List RegRow := [
  ⟨0x040, 1, 4, .rwl, 0xF0303, 0x20303⟩ /- TAMP_CFG -/,
  ⟨0x044, 1, 4, .ro, 0, 0⟩ /- TAMP_STAT -/,
  ⟨0x048, 1, 4, .wo, 0, 0⟩ /- TAMP_CMD -/,
  ⟨0x04C, 1, 4, .rw, 0xFFFFFFFF, 0⟩ /- ACK_SEQ -/,
  ⟨0x050, 1, 4, .ro, 0, 0⟩ /- COVER_CNT -/,
  ⟨0x054, 1, 4, .ro, 0, 0⟩ /- TERM_CNT -/,
  ⟨0x058, 1, 4, .ro, 0, 0⟩ /- LOOP_CNT -/,
  ⟨0x05C, 1, 4, .ro, 0, 0⟩ /- TSEQ -/,
  ⟨0x060, 1, 4, .ro, 0, 0⟩ /- LOG_BASE -/]

/-- The block registers of page REC (R650). -/
def RegTable.rec : List RegRow := [
  ⟨0x040, 1, 4, .wo, 0, 0⟩ /- REC_CMD -/,
  ⟨0x044, 1, 4, .ro, 0, 0⟩ /- REC_STAT -/,
  ⟨0x048, 1, 4, .rw, 0xFFFF, 0x1⟩ /- REC_SEL -/,
  ⟨0x04C, 1, 4, .ro, 0, 0⟩ /- REC_INFO -/,
  ⟨0x050, 1, 4, .ro, 0, 0⟩ /- REC_SEQ -/,
  ⟨0x054, 1, 4, .ro, 0, 0x20000⟩ /- REC_SLOT_A -/,
  ⟨0x058, 1, 4, .ro, 0, 0x20050⟩ /- REC_SLOT_B -/,
  ⟨0x05C, 1, 4, .ro, 0, 0⟩ /- CONFLICT -/,
  ⟨0x060, 1, 4, .ro, 0, 0⟩ /- JRN_NEW_LO -/,
  ⟨0x064, 1, 4, .ro, 0, 0⟩ /- JRN_NEW_HI -/,
  ⟨0x068, 1, 4, .ro, 0, 0⟩ /- JRN_OLD_LO -/,
  ⟨0x06C, 1, 4, .ro, 0, 0⟩ /- JRN_OLD_HI -/,
  ⟨0x070, 1, 4, .ro, 0, 0⟩ /- JRN_STAT -/,
  ⟨0x074, 1, 4, .ro, 0, 0⟩ /- SCAN_RES -/,
  ⟨0x078, 1, 4, .ro, 0, 0⟩ /- COMMIT_CNT -/,
  ⟨0x07C, 1, 4, .ro, 0, 0⟩ /- TORN_CNT -/,
  ⟨0x080, 1, 4, .ro, 0, 0⟩ /- BLOCKED_CNT -/,
  ⟨0x084, 1, 4, .ro, 0, 0⟩ /- WAIT_CNT -/,
  ⟨0x088, 1, 4, .ro, 0, 0⟩ /- SKIP_CNT -/]

/-- The block registers of page STOR (R650). -/
def RegTable.stor : List RegRow := [
  ⟨0x040, 2, 4, .rw, 0xF1F1FFF, 0x8100850⟩ /- DEV_CFG -/,
  ⟨0x048, 2, 4, .rw, 0x81FF00FF, 0⟩ /- DEV_MODE -/,
  ⟨0x050, 2, 4, .rw, 0xFFFFFFFF, 0⟩ /- DEV_MODE_ADDR -/,
  ⟨0x058, 1, 4, .wo, 0, 0⟩ /- STOR_CMD -/,
  ⟨0x05C, 1, 4, .ro, 0, 0⟩ /- STOR_STAT -/,
  ⟨0x060, 1, 4, .rw, 0xFFFFFFFF, 0⟩ /- RD_ADDR -/,
  ⟨0x064, 1, 4, .ro, 0, 0⟩ /- RD_RES -/,
  ⟨0x068, 5, 4, .rw, 0xD00FFFFF, 0⟩ /- REG_CFG -/,
  ⟨0x07C, 5, 4, .rw, 0xFFFFF, 0⟩ /- REG_UNITS -/,
  ⟨0x090, 1, 4, .rw, 0xFFFF, 0x12C⟩ /- HARM_DIV -/,
  ⟨0x094, 1, 4, .rw, 0x7, 0⟩ /- SSEL -/,
  ⟨0x098, 1, 4, .ro, 0, 0⟩ /- S_STAT -/,
  ⟨0x09C, 1, 4, .ro, 0, 0⟩ /- S_HEAD_LO -/,
  ⟨0x0A0, 1, 4, .ro, 0, 0⟩ /- S_HEAD_HI -/,
  ⟨0x0A4, 1, 4, .ro, 0, 0⟩ /- S_TAIL_LO -/,
  ⟨0x0A8, 1, 4, .ro, 0, 0⟩ /- S_TAIL_HI -/,
  ⟨0x0AC, 1, 4, .ro, 0, 0⟩ /- S_LOST -/,
  ⟨0x0B0, 1, 4, .ro, 0, 0⟩ /- STAGE_USED -/,
  ⟨0x0B4, 1, 4, .ro, 0, 0⟩ /- RETIRED_CNT -/,
  ⟨0x0B8, 1, 4, .ro, 0, 0⟩ /- ECC_CORR_CNT -/,
  ⟨0x0BC, 1, 4, .ro, 0, 0⟩ /- ECC_FAIL_CNT -/,
  ⟨0x0C0, 1, 4, .ro, 0, 0⟩ /- MAX_ERASE -/,
  ⟨0x200, 128, 4, .ro, 0, 0⟩ /- RDBUF -/]

/-- The block registers of page HUSK (R651). -/
def RegTable.husk : List RegRow := [
  ⟨0x040, 1, 4, .wo, 0, 0⟩ /- HUSK_CMD -/,
  ⟨0x044, 1, 4, .ro, 0, 0⟩ /- HUSK_STAT -/,
  ⟨0x048, 1, 4, .wo, 0, 0⟩ /- UNLOCK -/,
  ⟨0x04C, 1, 4, .rw, 0x3F, 0⟩ /- SLOT_SEL -/,
  ⟨0x050, 1, 4, .ro, 0, 0⟩ /- SLOT_INFO -/,
  ⟨0x054, 1, 4, .ro, 0, 0⟩ /- SLOT_CTR_LO -/,
  ⟨0x058, 1, 4, .ro, 0, 0⟩ /- SLOT_CTR_HI -/,
  ⟨0x05C, 1, 4, .ro, 0, 0⟩ /- SLOT_EPOCH -/,
  ⟨0x060, 1, 4, .ro, 0, 0⟩ /- TEST_LEFT -/,
  ⟨0x064, 1, 4, .ro, 0, 0⟩ /- REMASK_CNT -/,
  ⟨0x070, 4, 4, .ro, 0, 0⟩ /- DEVICE_ID -/,
  ⟨0x080, 4, 4, .ro, 0, 0⟩ /- CHAL -/,
  ⟨0x0C0, 16, 4, .ro, 0, 0⟩ /- ID_PUB -/]

/-- The block registers of page CRYPT (R651). -/
def RegTable.crypt : List RegRow := [
  ⟨0x040, 1, 4, .rws, 0xFF, 0xFF⟩ /- CRYPT_CFG -/,
  ⟨0x044, 1, 4, .wo, 0, 0⟩ /- CRYPT_CMD -/,
  ⟨0x048, 1, 4, .ro, 0, 0⟩ /- CRYPT_STAT -/,
  ⟨0x04C, 1, 4, .ro, 0, 0⟩ /- CHAIN_LSEQ_LO -/,
  ⟨0x050, 1, 4, .ro, 0, 0⟩ /- CHAIN_LSEQ_HI -/,
  ⟨0x060, 8, 4, .ro, 0, 0⟩ /- CHAIN -/,
  ⟨0x080, 1, 4, .ro, 0, 0⟩ /- OP_CNT -/,
  ⟨0x084, 1, 4, .ro, 0, 0⟩ /- SIGN_CNT -/,
  ⟨0x088, 1, 4, .ro, 0, 0⟩ /- FAIL_CNT -/,
  ⟨0x08C, 1, 4, .ro, 0, 0⟩ /- ABORT_CNT -/]

/-- The block registers of page JOIN (R652). -/
def RegTable.join : List RegRow := [
  ⟨0x040, 1, 4, .rws, 0x8FFF03FF, 0x1800000⟩ /- JOIN_CFG -/,
  ⟨0x044, 1, 4, .rws, 0x3FF03FF, 0x3FF0001⟩ /- POLL_CFG -/,
  ⟨0x048, 1, 4, .rw, 0xFFFF, 0⟩ /- REP_UNC -/,
  ⟨0x04C, 1, 4, .wo, 0, 0⟩ /- JOIN_CMD -/,
  ⟨0x050, 1, 4, .ro, 0, 0⟩ /- JOIN_STAT -/,
  ⟨0x054, 1, 4, .ro, 0, 0xFFFFFFFF⟩ /- DELAY -/,
  ⟨0x058, 1, 4, .ro, 0, 0⟩ /- ALIGN_ERR -/,
  ⟨0x05C, 1, 4, .ro, 0, 0⟩ /- LEAD_OFS_LO -/,
  ⟨0x060, 1, 4, .ro, 0, 0⟩ /- LEAD_OFS_HI -/,
  ⟨0x064, 1, 4, .ro, 0, 0⟩ /- NODES_SEEN -/,
  ⟨0x068, 1, 4, .ro, 0, 0⟩ /- FRAME_CNT -/,
  ⟨0x06C, 1, 4, .ro, 0, 0⟩ /- CRC_CNT -/,
  ⟨0x070, 1, 4, .ro, 0, 0⟩ /- MARK_MISS_CNT -/,
  ⟨0x074, 1, 4, .ro, 0, 0⟩ /- ABSENT_CNT -/]

/-- The block registers of page HOST (R653). -/
def RegTable.host : List RegRow := [
  ⟨0x040, 1, 4, .ro, 0, 0⟩ /- HOST_INFO -/,
  ⟨0x044, 1, 4, .ro, 0, 0xFFFF0000⟩ /- HOST_STAT -/,
  ⟨0x048, 1, 4, .ro, 0, 0⟩ /- LAST_ADDR -/,
  ⟨0x04C, 1, 4, .ro, 0, 0⟩ /- FRAME_CNT -/,
  ⟨0x050, 1, 4, .ro, 0, 0⟩ /- CRC_CNT -/,
  ⟨0x054, 1, 4, .ro, 0, 0⟩ /- ERR_CNT -/,
  ⟨0x058, 1, 4, .ro, 0, 0⟩ /- VIOL_CNT -/,
  ⟨0x05C, 1, 4, .ro, 0, 0⟩ /- VIOL_ADDR -/,
  ⟨0x060, 1, 4, .ro, 0, 0⟩ /- CMD_SEQ -/]

/-- The block registers of page TEST (R653). -/
def RegTable.test : List RegRow := [
  ⟨0x040, 1, 4, .wo, 0, 0⟩ /- TEST_CMD -/,
  ⟨0x044, 1, 4, .ro, 0, 0⟩ /- TEST_STAT -/,
  ⟨0x048, 1, 4, .ro, 0, 0⟩ /- BIST_RES -/,
  ⟨0x04C, 1, 4, .ro, 0, 0⟩ /- BIST_SIG -/,
  ⟨0x050, 1, 4, .ro, 0, 0⟩ /- BIST_EXP -/,
  ⟨0x054, 1, 4, .rw, 0x7F, 0⟩ /- PT_ADDR -/,
  ⟨0x058, 1, 4, .rw, 0xFFFFFFFF, 0⟩ /- PT_DATA -/,
  ⟨0x05C, 1, 4, .ro, 0, 0⟩ /- PT_CHECK -/,
  ⟨0x060, 1, 4, .ro, 0, 0⟩ /- FUSE_STAT -/,
  ⟨0x064, 1, 4, .ro, 0, 0⟩ /- INJ_CNT -/,
  ⟨0x068, 1, 4, .ro, 0, 0⟩ /- INJ_LAST -/]

/-- The table of a page (R398: page n at n × 0x400). -/
def RegTable.ofPage (p : Nat) : List RegRow :=
  if 0x07 ≤ p ∧ p ≤ 0x16 then ch
  else if 0x1D ≤ p ∧ p ≤ 0x2C then me
  else match p with
    | 0x00 => sys | 0x01 => pwr | 0x02 => arb | 0x03 => clk | 0x04 => rtc | 0x05 => warp | 0x06 => acq
    | 0x17 => spare | 0x18 => flt | 0x19 => wb | 0x1A => aux | 0x1B => dac | 0x1C => eng | 0x2D => ring
    | 0x2E => feed | 0x2F => ledger | 0x30 => tariff | 0x31 => demand | 0x32 => bill | 0x33 => pq | 0x34 => therm
    | 0x35 => pout | 0x36 => plsi | 0x37 => disp | 0x38 => tamp | 0x39 => rec | 0x3A => stor | 0x3B => husk
    | 0x3C => crypt | 0x3D => join | 0x3E => host | 0x3F => test
    | _ => []

/-- The row of an offset of a page. -/
def RegTable.row (p o : Nat) : Option RegRow := (RegTable.ofPage p).find? (fun r => r.covers o)

/-- Pages whose RWS registers commit at the latch only (R406, R631). -/
def commitsAtLatch (p : Nat) : Bool :=
  p == 0x2E || p == 0x34 || p == 0x2F || p == 0x30 || p == 0x31 || p == 0x32

/-- PAGE_ID of R400 and R630. -/
def pageIdReset (p : Nat) : Nat :=
  if 0x07 ≤ p ∧ p ≤ 0x16 then 0x07000100 + (p - 0x07) * 0x10000
  else if 0x1D ≤ p ∧ p ≤ 0x2C then 0x1D000100 + (p - 0x1D) * 0x10000
  else p * 0x1000000 + 0x0100

/-- Reset values of the common header (R399). -/
def headerReset (p o : Nat) : Nat :=
  match o with
  | 0x00 => pageIdReset p
  | 0x04 => 1
  | 0x08 => 1
  | 0x2C => b2n (commitsAtLatch p)
  | _ => 0

/-- CH_CFG reset of channel n (R96). -/
def chCfgReset (n : Nat) : Nat := (n % 4) * 0x1000 + (if n < 4 then 0 else 0x110)

/-- A slot's SLOT_A word: EN, ENTRY, START, PERIOD (R194). -/
def slotA (entry start period : Nat) : Nat := 0x80000000 + entry * 0x1000000 + start * 0x1000 + period

/-- The reset slots of engine e (R174), each as (SLOT_A, DEADLINE). -/
def slotReset (e : Nat) : List (Nat × Nat) :=
  if e ≤ 3 then [(slotA 0 24 1, 120), (slotA 1 160 1, 256)]
  else if e ≤ 7 then [(slotA 0 32 1, 480)]
  else if e ≤ 10 then []
  else match e with
    | 11 => [(slotA 0 40 1, 200), (slotA 0 552 1, 200)]
    | 12 => [(slotA 0 300 1, 600)]
    | 13 => [(slotA 0 48 1, 700)]
    | 14 => [(slotA 0 40 1, 400), (slotA 1 800 1, 900)]
    | _ => [(slotA 0 1000 1, 24)]

/-- SUB[e] reset (R174). -/
def subReset (e : Nat) : Nat :=
  nth 0 [0x000000FF, 0x00000F0F, 0x0000F00F, 0x0000FFFF, 0x0000000F, 0x000000F0, 0x00000F00, 0x0000F000,
    0x03000000, 0x0C000000, 0x30000000, 0x0000000F, 0x00000000, 0x0001FFFF, 0x3F00FFFF, 0x00000000] e

/-- PROG_ARG[0] reset of engine e (R174). -/
def progArgReset (e : Nat) : Nat :=
  nth 0 [0, 1, 2, 3, 0x000F, 0x00F0, 0x0F00, 0xF000, 0x03, 0x0C, 0x30, 0, 0x3, 0, 0xFFFF, 0] e

/-- Ring placement and configuration after reset (R420): DESC_BASE and DESC_CFG of ring n. -/
def ringReset (n : Nat) : Nat × Nat :=
  nth (0, 0) [(0x138000, 0xC00C0000), (0x139000, 0x880C0080), (0x130000, 0x880E0200), (0x100000, 0x88100800),
    (0x134000, 0x880D0100), (0x136000, 0x900C0080), (0x110000, 0x90100800), (0x120000, 0x90100800),
    (0x13F800, 0x880A0020), (0x13C000, 0x800C0080), (0x13FC00, 0x900A0020), (0x137000, 0xC00C0000),
    (0x13A000, 0x880D0100), (0x13F000, 0x900B0040), (0x13D000, 0x880C0080), (0x13E000, 0xC00C0000)] n

/-- Reset values that differ within one row of the map ("per R…", R627); none where the row's own value holds. -/
def perRuleReset (p o : Nat) : Option Nat :=
  if 0x07 ≤ p ∧ p ≤ 0x16 ∧ o = 0x40 then some (chCfgReset (p - 0x07))
  else if 0x1D ≤ p ∧ p ≤ 0x2C then
    if o = 0x44 then some (progArgReset (p - 0x1D))
    else if 0x100 ≤ o ∧ o < 0x200 then
      match (slotReset (p - 0x1D))[(o - 0x100) / 8]? with
      | some (a, d) => some (if o % 8 = 0 then a else d)
      | none => some 0
    else none
  else if p = 0x05 ∧ o = 0x40 then some 0x1100
  else if p = 0x19 ∧ 0x40 ≤ o ∧ o < 0x60 then
    some (nth 0 [0x001, 0x101, 0x201, 0x401, 0x501, 0x601, 0, 0] ((o - 0x40) / 4))
  else if p = 0x1A ∧ 0x80 ≤ o ∧ o < 0xC0 then
    some (nth 0 [0x40200002, 0x40200000, 0x40200001, 0x40200003, 0x40200002, 0x40010004, 0x20010005, 0x20010006,
      0x20010007, 0x20010008, 0x09000000, 0x09000000, 0x09000000, 0x09000000, 0x09000000, 0x09000000] ((o - 0x80) / 4))
  else if p = 0x1C ∧ 0x50 ≤ o ∧ o < 0x90 then some (subReset ((o - 0x50) / 4))
  else if p = 0x2D ∧ 0x40 ≤ o ∧ o < 0x240 ∧ (o - 0x40) % 0x20 = 0 then some (ringReset ((o - 0x40) / 0x20)).1
  else if p = 0x2D ∧ 0x40 ≤ o ∧ o < 0x240 ∧ (o - 0x40) % 0x20 = 4 then some (ringReset ((o - 0x40) / 0x20)).2
  else if p = 0x2E ∧ 0x50 ≤ o ∧ o < 0x60 then some (nth 0 [0x32107654, 0x3210BA98, 0x3210FEDC, 0] ((o - 0x50) / 4))
  else if p = 0x31 ∧ 0x44 ≤ o ∧ o < 0x84 then some (if o = 0x44 then 0x800F0060 else 0x000F0000)
  else if p = 0x37 ∧ 0x80 ≤ o ∧ o < 0x100 then
    let j := (o - 0x80) / 4
    some (4 * j + (4 * j + 1) * 0x100 + (4 * j + 2) * 0x10000 + (4 * j + 3) * 0x1000000)
  else if p = 0x37 ∧ 0x100 ≤ o ∧ o < 0x200 then some (if o = 0x100 then 0x10000060 else 0)
  else none

/-- What the register at host address a holds after reset (R7, R399, R627 to R653). -/
def regReset (a : Nat) : Word :=
  let p := a / 0x400
  let o := a % 0x400
  if o < 0x40 then BitVec.ofNat 32 (headerReset p o)
  else match perRuleReset p o with
    | some v => BitVec.ofNat 32 v
    | none => match RegTable.row p o with
      | some r => BitVec.ofNat 32 r.reset
      | none => 0

end Sys2Proof.Machine
end

