-- ==== Sys2Proof/Machine/State.lean ====
section
/-! DEFINITION. The state of the block, its reset value, and the reasons a step can stop. -/

namespace Sys2Proof.Machine

/-- Reasons to stop with a fault. No command of this block ends in one. -/
inductive Fault
  /-- Raised by nothing: kept so that the type is not empty; safe. -/
  | none
  deriving DecidableEq, Repr

/-- Reasons to refuse a command. -/
inductive Refusal
  /-- Raised by an arm of `exec` whose command has no meaning yet; safe (the block stops). -/
  | notModelled (mnemonic : String)
  deriving DecidableEq, Repr

/-- What the commands act on: everything the spec gives the block. -/
structure Block where
  /-- The model's own counter of free values drawn (log 2). -/
  freeCnt : Nat
  /-- The register file: every register whose word differs from its reset value (R398, R627). -/
  regs : List (Nat × Word)
  /-- Pending RWS words awaiting commit (R406). -/
  shadow : List (Nat × Word)
  /-- RO words captured by PAGE_CTRL.FREEZE (R401) and the pick at which a page's freeze ends. -/
  frozen : List (Nat × Word)
  freezeEnd : List (Nat × Nat)
  /-- _HI words captured by the last read of their _LO (R59, R628). -/
  hiCap : List (Nat × Word)
  /-- Open episodes of detectors that raise once per episode, by key. -/
  episodes : List Nat
  /-- Shared SRAM (0x10_0000 to 0x17_FFFF) and FeRAM window bytes that are not 0x00. -/
  sram : List Host.Cell
  feram : List Host.Cell
  time : Time
  warp : Warp
  mods : List Modulator
  /-- The words last broadcast in slots 0 to 16 (R65). -/
  slots : List Word
  /-- The latest words of each slot, newest first, as the engines' data memories hold them (R162). -/
  hist : List (List HistWord)
  rings : List RingMeta
  spare : Spare
  flt : Filter
  wb : List WbStream
  pwr : Power
  arb : Arbiter
  recs : RecStore
  engines : List Engine
  eng : EngBlock
  aux : Aux
  feed : FeedState
  /-- Posts that engines have made and the ledger has not taken (R210), oldest first. -/
  posts : List Post
  therm : Therm
  stor : Store
  husk : Husk
  tar : Tariff
  dem : List DemCh
  led : Ledger
  pq : Pq
  pout : List PulseOut
  disp : Disp
  tamp : Tamp
  faults : Faults
  join : Join
  mc : Micro
  host : HostPort
  deriving DecidableEq, Repr

/-- The ROM microcode of unit u: 0 ledger, 1 crypto (R600). -/
def romMicro (u : Nat) : McImage := ⟨(Config.romMcVersion u).toNat, 0, [], true, []⟩

/-- Microcode banks of a start: the ROM images in bank A (R601). -/
def Micro.reset : Micro := ⟨none, [some (romMicro 0), none, some (romMicro 1), none], [0, 0], [255, 255], none, none, 0⟩

/-- Every unit as a start finds it (R592): registers at their reset values, shared SRAM and engine memories empty. -/
def Block.start (cause : Nat) (vaultLost : Bool) (fuses : List (Nat × Word)) : Block :=
  { freeCnt := 0, regs := [], shadow := [], frozen := [], freezeEnd := [], hiCap := [], episodes := [],
    sram := [], feram := [], time := Time.zero, warp := Warp.reset, mods := List.replicate 17 Modulator.reset |>.set 16 { Modulator.reset with powered := false },
    slots := List.replicate 17 0, hist := List.replicate 17 [], rings := List.replicate 16 RingMeta.empty, spare := Spare.reset,
    flt := ⟨[], false, [], []⟩, wb := List.replicate 8 WbStream.reset, pwr := Power.starting cause vaultLost,
    arb := ⟨[], 0, [], [], false⟩, recs := RecStore.reset, engines := List.replicate 16 Engine.reset, eng := EngBlock.reset,
    aux := Aux.reset, feed := FeedState.reset, posts := [], therm := Therm.reset,
    stor := ⟨List.replicate 5 LogStream.reset, none, [], [], [0, 0]⟩, husk := Husk.reset fuses, tar := Tariff.reset,
    dem := List.replicate 16 DemCh.reset, led := Ledger.reset, pq := Pq.reset, pout := List.replicate 4 PulseOut.reset,
    disp := Disp.reset, tamp := Tamp.reset, faults := Faults.reset, join := Join.reset, mc := Micro.reset, host := HostPort.reset }

/-- The device right after its first power-up (R592, R593): step 1 of a start from OFF, START_CAUSE POWER_ON, the vault domain
unpowered before it, the FeRAM as delivered (0x00, R656), and a part in MAKER: two step fuses blown (R482; log 8). -/
def Block.reset : Block := Block.start 0 true [(12, 3)]

/-- The state: the block and the queue of the commands that wait. -/
structure State where
  /-- Commands waiting, first in, first out. -/
  pending : List Instr
  block : Block
  deriving DecidableEq, Repr

/-- Right after reset nothing waits. -/
def State.reset : State := ⟨[], Block.reset⟩

end Sys2Proof.Machine
end

