-- ==== Sys2Proof/Machine/Ops.lean ====
section
/-! DEFINITION. Named operations over the registers, the shared SRAM and the FeRAM; stamps; detector raises (R543, R544)
and the rings they write to (R408 to R416, R423). Every unit reads and writes state through these. -/

namespace Sys2Proof.Machine

/-- Host address of offset o of page p (R398). -/
def pg (p o : Nat) : Nat := p * 0x400 + o

/-! ### Registers -/

/-- The word a register holds. -/
def Block.getR (s : Block) (a : Nat) : Word := Sparse.get (regReset a) a s.regs

/-- A register given a word. -/
def Block.setR (s : Block) (a : Nat) (v : Word) : Block := { s with regs := Sparse.set (regReset a) a v s.regs }

/-- Bits hi:lo of a register. -/
def Block.fld (s : Block) (a hi lo : Nat) : Nat := (s.getR a).bits hi lo

/-- One bit of a register. -/
def Block.rbit (s : Block) (a k : Nat) : Bool := (s.getR a).bit k

/-- Bits hi:lo of a register replaced. -/
def Block.setF (s : Block) (a hi lo v : Nat) : Block := s.setR a ((s.getR a).withBits hi lo v)

/-- One bit of a register replaced. -/
def Block.setB (s : Block) (a k : Nat) (b : Bool) : Block := s.setF a k k (b2n b)

/-- A whole register given a number. -/
def Block.setN (s : Block) (a v : Nat) : Block := s.setR a (BitVec.ofNat 32 v)

/-- A register as a number. -/
def Block.getN (s : Block) (a : Nat) : Nat := (s.getR a).toNat

/-- A counter in bits hi:lo advanced by n, holding at its top. -/
def Block.bump (s : Block) (a hi lo n : Nat) : Block := s.setF a hi lo (satAdd (2 ^ (hi + 1 - lo) - 1) (s.fld a hi lo) n)

/-- A 32-bit counter advanced by n, wrapping. -/
def Block.wrapAdd (s : Block) (a n : Nat) : Block := s.setN a (s.getN a + n)

/-- A 64-bit value kept in a _LO/_HI pair (R59). -/
def Block.set64 (s : Block) (a v : Nat) : Block := (s.setN a v).setN (a + 4) (v / 2 ^ 32)

/-- The value of a _LO/_HI pair. -/
def Block.get64 (s : Block) (a : Nat) : Nat := s.getN a + 2 ^ 32 * s.getN (a + 4)

/-- The word a host read or a commit sees in an RWS register: pending first (R9). -/
def Block.pendR (s : Block) (a : Nat) : Word := Sparse.get (s.getR a) a s.shadow

/-! ### Memories -/

/-- What a byte that nothing has written reads as: 0x00 (R656 for the FeRAM; log 6 for the shared SRAM). -/
def unlisted : Byte := 0

/-- One byte of the shared SRAM, by host address. -/
def Block.sramGet (s : Block) (a : Nat) : Byte := Sparse.get unlisted a s.sram

/-- One byte of the FeRAM window, by host address. -/
def Block.feramGet (s : Block) (a : Nat) : Byte := Sparse.get unlisted a s.feram

/-- Bytes written from an address on. -/
def memWrite (m : List Host.Cell) (a : Nat) : List Byte → List Host.Cell
  | [] => m
  | b :: t => memWrite (Sparse.set unlisted a b m) (a + 1) t

/-- n bytes read from an address on. -/
def memRead (m : List Host.Cell) (a : Nat) : Nat → List Byte
  | 0 => []
  | n + 1 => Sparse.get unlisted a m :: memRead m (a + 1) n

/-- The canonical form of a memory. -/
def Memory.wf (m : List Host.Cell) : Bool := Sparse.wf (fun _ => unlisted) m

/-- Bytes written to the shared SRAM. -/
def Block.sramPut (s : Block) (a : Nat) (l : List Byte) : Block := { s with sram := memWrite s.sram a l }

/-- Bytes written to the FeRAM. -/
def Block.feramPut (s : Block) (a : Nat) (l : List Byte) : Block := { s with feram := memWrite s.feram a l }

/-! ### Time and free values -/

/-- Picks since the Warp started. -/
def Block.absPick (s : Block) : Nat := s.time.cycle * 1024 + s.time.pick

/-- The Warp stamp of pick p of cycle c with sub-pick k (R5). -/
def mkStamp (c p k : Nat) : Nat := (c % 2 ^ 48) * 65536 + p * 64 + k

/-- The stamp of the last strobe. -/
def Block.strobeStamp (s : Block) : Nat := mkStamp s.time.cycle s.time.pick 0

/-- The stamp of now (R34: sub-pick floor(64 t / T)). -/
def Block.stampNow (s : Block) : Nat := mkStamp s.time.cycle s.time.pick (64 * s.time.clk / max 1 s.time.pickLen)

/-- System clock periods per RTC fraction step: 98.304 MHz / 65,536. -/
def rtcStep : Nat := 1500

/-- The RTC stamp of now (R6). -/
def Block.rtcNow (s : Block) : Nat := ((s.time.rtcClk + s.time.clk) / rtcStep) % 2 ^ 64

/-- Whole RTC seconds. -/
def Block.rtcSec (s : Block) : Nat := s.rtcNow / 65536

/-- A happening between strobes falls at a moment of its own, never before the one that came last (R34, log 3). -/
def Block.arrive (s : Block) : Block :=
  { s with
    freeCnt := s.freeCnt + 1
    time := { s.time with clk := max s.time.clk (Config.arrival s.freeCnt % max 1 s.time.pickLen) } }

/-- Draw a free number. -/
def Block.draw (s : Block) : Nat × Block := (Config.freeNat s.freeCnt, { s with freeCnt := s.freeCnt + 1 })

/-- Draw a free word. -/
def Block.drawWord (s : Block) : Word × Block := (Config.freeWord s.freeCnt, { s with freeCnt := s.freeCnt + 1 })

/-- Draw n random bytes (R498, log 19). -/
def Block.drawBytes (s : Block) : Nat → List Byte × Block
  | 0 => ([], s)
  | n + 1 =>
    let b := Config.randomByte s.freeCnt
    let r := Block.drawBytes { s with freeCnt := s.freeCnt + 1 } n
    (b :: r.1, r.2)

/-- The core is powered: in OFF and VAULT it is not (R18). -/
def Block.powered (s : Block) : Bool := s.pwr.st != .off && s.pwr.st != .vault

/-- Strobes are issued (R593 step 5, R523): from the start of the Warp to the end of a save, in RUN and in LEAN. -/
def Block.warpRuns (s : Block) : Bool :=
  s.powered && !(s.pwr.st == .starting && decide (s.pwr.startStep < 5))

/-- A command's effect where the core is powered, at its own moment; in OFF and VAULT nothing (R18). -/
def Block.act (s : Block) (f : Block → Block) : Block := if s.powered then f s.arrive else s

/-- Life-cycle state shown in HUSK_STAT (R508): 0 BLANK, 1 VENDOR, 2 MAKER, 3 FIELD, 4 RETIRED. -/
def Block.lifeState (s : Block) : Nat := s.fld (pg 0x3B 0x44) 31 28
/-- A TEST session is open (R504). -/
def Block.testOpen (s : Block) : Bool := s.rbit (pg 0x3B 0x44) 19

/-- The stamp of a moment k clock periods from now (R34), in this pick or the next ones. -/
def Block.stampAfter (s : Block) (k : Nat) : Nat :=
  let len := max 1 s.time.pickLen
  let t := s.time.clk + k
  let p := s.absPick + t / len
  mkStamp (p / 1024) (p % 1024) (64 * (t % len) / len)

/-! ### Generations and page states -/

/-- GEN of a page (R402). -/
def Block.gen (s : Block) (p : Nat) : Nat := s.fld (pg p 0x24) 15 0

/-- GEN advanced, wrapping at 2^16 (R402). -/
def Block.bumpGen (s : Block) (p : Nat) : Block := s.setF (pg p 0x24) 15 0 (s.gen p + 1)

/-- PAGE_STAT.STATE values (R402). -/
def psOff : Nat := 0
def psStarting : Nat := 1
def psRun : Nat := 2
def psDraining : Nat := 3
def psUpdating : Nat := 4
def psFault : Nat := 5

/-- PAGE_STAT.STATE of a page. -/
def Block.pageState (s : Block) (p : Nat) : Nat := s.fld (pg p 0x08) 2 0

/-- PAGE_STAT.STATE set. -/
def Block.setPageState (s : Block) (p v : Nat) : Block := s.setF (pg p 0x08) 2 0 v

/-! ### Rings (R408 to R414, R423) -/

def dBase (n : Nat) : Nat := pg 0x2D (0x40 + 0x20 * n)
def dCfg (n : Nat) : Nat := pg 0x2D (0x44 + 0x20 * n)
def dHead (n : Nat) : Nat := pg 0x2D (0x48 + 0x20 * n)
def dTail (n : Nat) : Nat := pg 0x2D (0x4C + 0x20 * n)
def dSeq (n : Nat) : Nat := pg 0x2D (0x50 + 0x20 * n)
def dLost (n : Nat) : Nat := pg 0x2D (0x54 + 0x20 * n)

def Block.ringMeta (s : Block) (n : Nat) : RingMeta := nth RingMeta.empty s.rings n
def Block.modRing (s : Block) (n : Nat) (f : RingMeta → RingMeta) : Block := { s with rings := modNth s.rings n f }

/-- Ring size in bytes (R408). -/
def Block.ringSize (s : Block) (n : Nat) : Nat := 2 ^ s.fld (dCfg n) 20 16
/-- Enabled (R421). -/
def Block.ringOn (s : Block) (n : Nat) : Bool := s.rbit (dCfg n) 31
/-- Host-produced (R421). -/
def Block.ringHost (s : Block) (n : Nat) : Bool := s.rbit (dCfg n) 30
/-- Bytes held (R409). -/
def Block.ringUsed (s : Block) (n : Nat) : Nat := (s.getR (dHead n) - s.getR (dTail n)).toNat
/-- Free bytes. -/
def Block.ringFree (s : Block) (n : Nat) : Nat := s.ringSize n - s.ringUsed n

/-- Bytes at counter value x on of ring n: entries continue past the region's end at its base (R409). -/
def Block.ringRead (s : Block) (n x : Nat) : Nat → List Byte
  | 0 => []
  | k + 1 => s.sramGet (s.getN (dBase n) + x % s.ringSize n) :: s.ringRead n (x + 1) k

/-- Bytes written at counter value x of ring n. -/
def Block.ringWrite (s : Block) (n x : Nat) : List Byte → Block
  | [] => s
  | b :: t => Block.ringWrite (s.sramPut (s.getN (dBase n) + x % s.ringSize n) [b]) n (x + 1) t

/-- Length of an entry in bytes: header and body, in whole 16-byte units (R410). -/
def Entry.len (e : Entry) : Nat := (16 + e.body.length + 15) / 16 * 16

/-- The bytes of an entry under SEQ q (R410). -/
def Entry.bytes (e : Entry) (q : Nat) : List Byte :=
  let raw := leBytes 4 q ++ leBytes 8 e.stamp ++ leBytes 2 e.type ++ leBytes 1 (e.len / 16)
    ++ leBytes 1 (e.flags % 32 + (e.gen % 8) * 32) ++ e.body
  raw ++ List.replicate (e.len - raw.length) 0

/-- Total length of a group. -/
def groupLen (es : List Entry) : Nat := (es.map Entry.len).foldl (· + ·) 0

/-- One entry written at HEAD, before HEAD moves over it. -/
def Block.ringStore (s : Block) (n : Nat) (x : Nat × Nat) (e : Entry) : Block × (Nat × Nat) :=
  (s.ringWrite n x.1 (e.bytes x.2), (x.1 + e.len, x.2 + 1))

/-- Entries written one behind the other from counter x and SEQ q on. -/
def Block.ringStoreAll (s : Block) (n : Nat) (x : Nat × Nat) : List Entry → Block × (Nat × Nat)
  | [] => (s, x)
  | e :: t => let r := s.ringStore n x e; Block.ringStoreAll r.1 n r.2 t

/-- The GAP entry that names what is missing (R411). -/
def gapEntry (m : RingMeta) (next : Entry) : Entry :=
  { type := 0xFFFE, stamp := next.stamp, flags := 2, gen := next.gen,
    body := leBytes 4 m.missFirst ++ leBytes 4 (min 0xFFFFFFFF m.missCount) ++ leBytes 8 m.missStamp }

/-- Entries made visible by one HEAD advance (R409): the GAP first where one is owed. -/
def Block.ringCommit (s : Block) (n : Nat) (es : List Entry) : Block :=
  let m := s.ringMeta n
  let es' := match es with
    | e :: _ => if m.gapPending then gapEntry m e :: es else es
    | [] => []
  let h := s.getN (dHead n)
  let q := s.getN (dSeq n)
  let r := s.ringStoreAll n (h, q) es'
  let gapLen := groupLen es' - groupLen es
  let groups := (if m.gapPending && !es.isEmpty then [(h, gapLen, 1)] else [])
    ++ [((h + gapLen) % 2 ^ 32, groupLen es, es.length)]
  ((r.1.setN (dHead n) r.2.1).setN (dSeq n) r.2.2).modRing n
    (fun m => { m with gapPending := false, missCount := 0, losing := false, full := false, groups := m.groups ++ groups })

/-- Entries lost whole: each consumes its SEQ (R411). -/
def Block.ringLose (s : Block) (n : Nat) (es : List Entry) (full : Bool) : Block :=
  match es with
  | [] => s
  | e :: _ =>
    let q := s.getN (dSeq n)
    ((s.setN (dSeq n) (q + es.length)).bump (dLost n) 31 0 es.length).modRing n (fun m =>
      { m with
        gapPending := true
        missFirst := if m.gapPending then m.missFirst else q
        missStamp := if m.gapPending then m.missStamp else e.stamp
        missCount := m.missCount + es.length
        losing := true
        full := full })

/-- Oldest groups discarded until need bytes are free (R411, OVERWRITE-OLDEST); the discarded entries are the missing ones. -/
def Block.ringDiscard (s : Block) (n need : Nat) : Nat → Block
  | 0 => s
  | fuel + 1 =>
    if need + 32 ≤ s.ringFree n then s
    else match (s.ringMeta n).groups with
      | [] => s
      | (x, len, k) :: rest =>
        let hdr := s.ringRead n x 12
        let s1 := (s.setN (dTail n) (x + len)).bump (dLost n) 31 0 k
        Block.ringDiscard (s1.modRing n (fun m =>
          { m with
            groups := rest
            gapPending := true
            missFirst := if m.gapPending then m.missFirst else leNat (hdr.take 4)
            missStamp := if m.gapPending then m.missStamp else leNat (hdr.drop 4)
            missCount := m.missCount + k })) n need fuel

/-- What an offer to a ring brought about: it became non-empty, its watermark was reached, a loss episode began. -/
structure RingNews where
  nonempty : Bool
  watermark : Bool
  loss : Bool
  deriving DecidableEq, Repr

/-- A group of entries offered to ring n under its policy (R411), and the news of it. In HOLD no entry is written (R522). -/
def Block.ringOffer (s : Block) (n : Nat) (es : List Entry) : Block × RingNews :=
  let m := s.ringMeta n
  let total := groupLen es
  let need := total + (if m.gapPending then 32 else 0)
  let wasEmpty := s.ringUsed n == 0
  let wmOf (t : Block) : Bool := t.fld (dCfg n) 15 0 * 16 ≤ t.ringUsed n
  if es.isEmpty || s.pwr.st == .hold || !s.powered then (s, ⟨false, false, false⟩)
  else if !s.ringOn n || s.ringSize n / 2 < total then
    ((s.ringLose n es (s.ringOn n)).setF (pg 0x2D 0x248) n n 1, ⟨false, false, !m.losing⟩)
  else if need ≤ s.ringFree n then
    let t := s.ringCommit n es
    let w := wmOf t
    (t.modRing n (fun m => { m with wm := w }), ⟨wasEmpty && s.rbit (dCfg n) 27, w && !m.wm, false⟩)
  else if s.fld (dCfg n) 29 28 = 1 then
    let t := ((s.ringDiscard n total (m.groups.length + 1)).ringCommit n es).setF (pg 0x2D 0x248) n n 1
    let w := wmOf t
    (t.modRing n (fun m => { m with wm := w }), ⟨false, w && !m.wm, !m.losing⟩)
  else
    ((s.ringLose n es true).setF (pg 0x2D 0x248) n n 1, ⟨false, false, !m.losing⟩)

/-! ### Detector raises (R543, R544, R416) -/

/-- The code of detector d of page p (R10). -/
def codeOf (p d : Nat) : Nat := p * 0x100 + d

/-- Step 3 of R543: FAULT_CODE and FAULT_STAMP keep the first code since they were cleared, and count every raise (R404). -/
def Block.noteFault (s : Block) (p d stamp : Nat) : Block :=
  let first := s.fld (pg p 0x18) 15 0 == 0
  let t := s.bump (pg p 0x18) 23 16 1
  if first then (t.setF (pg p 0x18) 15 0 (codeOf p d)).set64 (pg p 0x1C) stamp else t

/-- SYS.FIRST_CODE: the first code of an enabled detector, with its stamp, and how often it came again (R544). -/
def Block.noteFirst (s : Block) (p d stamp : Nat) : Block :=
  if !s.rbit (pg p 0x10) d then s
  else if s.fld (pg 0 0x54) 15 0 = 0 then (s.setF (pg 0 0x54) 15 0 (codeOf p d)).set64 (pg 0 0x58) stamp
  else if s.fld (pg 0 0x54) 15 0 = codeOf p d then s.bump (pg 0 0x54) 23 16 1
  else s

/-- Step 5 of R543: the page's EVT_RAW bit, SYS.FIRST_CODE. -/
def Block.noteEvent (s : Block) (p d stamp : Nat) : Block := (s.setB (pg p 0x0C) d true).noteFirst p d stamp

/-- A raise without an entry of its own (R416): steps 3 and 5 of R543. -/
def Block.raiseRegs (s : Block) (p d : Nat) : Block := (s.noteFault p d s.stampNow).noteEvent p d s.stampNow

/-- The EVENT entry of a raise (R416), made before step 3: FIRST says whether CODE was 0. -/
def Block.eventEntry (s : Block) (p d arg : Nat) (exit inj : Bool) (stamp : Nat) : Entry :=
  { type := 0x0201, stamp := stamp, flags := b2n inj, gen := s.gen p,
    body := leBytes 2 (codeOf p d)
      ++ leBytes 1 (b2n exit + 2 * b2n (s.fld (pg p 0x18) 15 0 == 0))
      ++ leBytes 1 (s.gen p) ++ leBytes 4 arg ++ leBytes 8 s.rtcNow }

/-- RING2 lost an entry: RING's detector 3, which writes no entry for RING2 (R416). -/
def Block.lossNews (s : Block) (b : Bool) : Block := if b then s.raiseRegs 0x2D 3 else s
/-- RING2 became non-empty: RING's detector 1, the same. -/
def Block.firstNews (s : Block) (b : Bool) : Block := if b then (s.raiseRegs 0x2D 1).setF (pg 0x2D 0x240) 2 2 1 else s
/-- RING2 reached its watermark: RING's detector 2, which writes one more entry. -/
def Block.waterNews (s : Block) (b : Bool) : Block :=
  if b then
    let r := (s.noteFault 0x2D 2 s.stampNow).ringOffer 2 [s.eventEntry 0x2D 2 2 false false s.stampNow]
    (r.1.noteEvent 0x2D 2 s.stampNow).lossNews r.2.loss
  else s

/-- What an entry in RING2 brings about there (R409, R411, R423). -/
def Block.eventNews (s : Block) (n : RingNews) : Block := ((s.lossNews n.loss).firstNews n.nonempty).waterNews n.watermark

/-- RING2 takes an entry. -/
def Block.eventOut (s : Block) (e : Entry) : Block :=
  let r := s.ringOffer 2 [e]
  r.1.eventNews r.2

/-- A detector raise under a stamp, in the order of R543: the fault code, the entry in RING2, EVT_RAW and FIRST_CODE, then what the
entry itself brings about in RING2. -/
def Block.raiseAt (s : Block) (p d arg : Nat) (exit inj : Bool) (stamp : Nat) : Block :=
  let r := (s.noteFault p d stamp).ringOffer 2 [s.eventEntry p d arg exit inj stamp]
  (r.1.noteEvent p d stamp).eventNews r.2

/-- A detector raise now. -/
def Block.raiseX (s : Block) (p d arg : Nat) (exit inj : Bool) : Block := s.raiseAt p d arg exit inj s.stampNow

/-- A raise that is neither an exit nor injected. -/
def Block.raise (s : Block) (p d arg : Nat) : Block := s.raiseX p d arg false false

/-- A raise within the start-up scan and loading: made at READY (R596). -/
def Block.raiseLater (s : Block) (p d arg : Nat) : Block :=
  if s.pwr.st == .starting then { s with pwr := { s.pwr with deferred := s.pwr.deferred ++ [(p, d, arg)] } } else s.raise p d arg

/-- A raise once per episode, the episode named by key; the episode then runs. -/
def Block.raiseOnce (s : Block) (key p d arg : Nat) : Block :=
  if s.episodes.contains key then s else ({ s with episodes := key :: s.episodes }).raise p d arg

/-- Keys of episodes that end with a whole cycle without a happening (R551): stale replies and block resets, by page. -/
def staleKey (p : Nat) : Nat := 0x3000000 + p
def blockKey (p q : Nat) : Nat := 0x5000000 + p * 256 + q

/-- A raise once per such an episode; the happening is noted for the cycle. -/
def Block.raiseSeen (s : Block) (key p d arg : Nat) : Block :=
  let s := s.raiseOnce key p d arg
  if s.episodes.contains (key + 2 ^ 32) then s else { s with episodes := (key + 2 ^ 32) :: s.episodes }

/-- At pick 0 the episodes end that had no happening in the cycle. -/
def Block.staleCycle (s : Block) : Block :=
  { s with episodes := s.episodes.filter (fun k => decide (k < 2 ^ 32) && (decide (k < 0x3000000) || s.episodes.contains (k + 2 ^ 32))) }

/-- An episode ends. -/
def Block.endEpisode (s : Block) (key : Nat) : Block := { s with episodes := s.episodes.filter (· ≠ key) }

/-- A group of entries put to ring n, with the RING detectors it raises (R409, R411, R423). -/
def Block.put (s : Block) (n : Nat) (es : List Entry) : Block :=
  if n = 2 then forEach es (fun e s => s.eventOut e) s
  else
    let r := s.ringOffer n es
    let s := if r.2.loss then r.1.raise 0x2D 3 n else r.1
    let s := if r.2.nonempty then (s.raise 0x2D 1 n).setF (pg 0x2D 0x240) n n 1 else s
    if r.2.watermark then s.raise 0x2D 2 n else s

/-- Ring room for a group now, without losing or discarding anything. -/
def Block.ringRoom (s : Block) (n bytes : Nat) : Bool :=
  s.ringOn n && decide (bytes + (if (s.ringMeta n).gapPending then 32 else 0) ≤ s.ringFree n)

end Sys2Proof.Machine
end

