-- ==== Sys2Proof/Machine/Operands.lean ====
section
/-! DEFINITION. Operand forms the commands share: IEEE-754 single-precision words, roundings, and the checks of register
fields (R8: a reserved value leaves its field unchanged; the owning rule names the detector it raises). -/

namespace Sys2Proof.Machine

/-- A value between integers, rounded to one of its two neighbours (log 5). -/
def roundAny (q : Rat) : Int :=
  if (q.floor : Rat) = q then q.floor else if Config.roundsUp q then q.floor + 1 else q.floor

/-- Round to nearest, ties to even. -/
def roundRne (q : Rat) : Int := divRne q.num q.den

/-- Absolute value. -/
def ratAbs (q : Rat) : Rat := if q < 0 then -q else q

/-- A value held between bounds. -/
def ratClamp (lo hi q : Rat) : Rat := max lo (min hi q)

/-- 2 to an integer power. -/
def pow2 (e : Int) : Rat := if 0 ≤ e then ((2 ^ e.toNat : Nat) : Rat) else 1 / ((2 ^ (-e).toNat : Nat) : Rat)

/-- The value of a single-precision word; none for infinities and NaN. -/
def f32val (w : Word) : Option Rat :=
  let e := w.bits 30 23
  let m := w.bits 22 0
  let sgn : Rat := if w.bit 31 then -1 else 1
  if e = 255 then none
  else if e = 0 then some (sgn * (m : Rat) * pow2 (-149))
  else some (sgn * ((m + 0x800000 : Nat) : Rat) * pow2 ((e : Int) - 150))

/-- The value of a single-precision word, 0 where it has none. -/
def f32 (w : Word) : Rat := (f32val w).getD 0

/-- Finite and above 0. -/
def f32pos (v : Nat) : Bool := match f32val (BitVec.ofNat 32 v) with
  | some q => decide (0 < q)
  | none => false

/-- Finite and not below 0. -/
def f32nonneg (v : Nat) : Bool := match f32val (BitVec.ofNat 32 v) with
  | some q => decide (0 ≤ q)
  | none => false

/-- Finite and within bounds. -/
def f32within (lo hi : Rat) (v : Nat) : Bool := match f32val (BitVec.ofNat 32 v) with
  | some q => decide (lo ≤ q) && decide (q ≤ hi)
  | none => false

/-- The single-precision word nearest to a value, ties to even (IEEE-754's default rounding, log 5). -/
def f32of (q : Rat) : Word :=
  if q = 0 then 0
  else
    let sgn : Nat := if q < 0 then 0x80000000 else 0
    let a := ratAbs q
    let e0 : Int := (Nat.log2 a.num.natAbs : Int) - (Nat.log2 a.den : Int)
    let e1 : Int := if a < pow2 e0 then e0 - 1 else e0
    let e : Int := max e1 (-126)
    let m : Nat := (roundRne (a * pow2 (23 - e))).toNat
    let enc : Nat := if e = -126 then m else ((e + 126).toNat * 0x800000) + m
    BitVec.ofNat 32 (sgn + min enc 0x7F800000)

/-- Rounded to the nearest whole number; a tie, where the spec names no rule, goes to either side (log 5). -/
def roundNear (q : Rat) : Int :=
  if q - (q.floor : Rat) = 1 / 2 then roundAny q else roundRne q

/-- A check of a field: registers from lo to hi (offsets), bits hb:lb, the values allowed, the detector of a rejection
(0: the value is dropped in silence, R8). -/
structure FieldRule where
  lo : Nat
  hi : Nat
  hb : Nat
  lb : Nat
  ok : Nat → Bool
  det : Nat

/-- A written word with every rejected field put back, and the detectors of the rejections, in ascending order, once each. -/
def checkFields (rules : List FieldRule) (o : Nat) (old new : Word) : Word × List Nat :=
  rules.foldl (fun acc r =>
    if decide (r.lo ≤ o) && decide (o ≤ r.hi) && !r.ok (acc.1.bits r.hb r.lb) then
      (acc.1.withBits r.hb r.lb (old.bits r.hb r.lb),
        if r.det = 0 || acc.2.contains r.det then acc.2 else acc.2 ++ [r.det])
    else acc) (new, [])

/-- A fuse word (R561). -/
def Block.fuse (s : Block) (k : Nat) : Word := Sparse.get (Config.fuse k) k s.husk.fuses

end Sys2Proof.Machine
end

