-- ==== Sys2Proof/Machine/Real.lean ====
section
/-! DEFINITION. Real functions that the rules define and give no rounding for: square root, sine, cosine, tangent and argument,
computed in fixed point to more than sixty bits (log 5). -/

namespace Sys2Proof.Machine

/-- Bits k − 1 to 0 of the integer square root of n, above what r already holds. -/
def isqrtBits (n : Nat) : Nat → Nat → Nat
  | 0, r => r
  | k + 1, r => isqrtBits n k (if (r + 2 ^ k) * (r + 2 ^ k) ≤ n then r + 2 ^ k else r)

/-- The integer square root. -/
def isqrt (n : Nat) : Nat := isqrtBits n (n.log2 / 2 + 1) 0

/-- The square root of a value, rounded down at 63 significant bits or more; 0 for a value not above 0. -/
def sqrtRat (q : Rat) : Rat :=
  if q ≤ 0 then 0
  else
    let s := 64 + (q.den.log2 + 1 - q.num.toNat.log2) / 2
    (isqrt (q.num.toNat * 4 ^ s / q.den) : Nat) / (2 ^ s : Nat)

/-- Fixed point: values are multiples of 2^-100. -/
def fxOne : Nat := 2 ^ 100

/-- π in fixed point. -/
def fxPi : Int := 3982441812995697363688351113953

/-- π. -/
def piRat : Rat := fxPi / fxOne

/-- Terms k, k + 2, … of the series of cosine (k = 0) or sine (k = 1), the first one given, at an angle whose square is x2. -/
def circTerms (x2 : Int) : Nat → Nat → Int → Int
  | 0, _, _ => 0
  | f + 1, k, t => t + circTerms x2 f (k + 2) (-(t * x2 / fxOne) / ((k + 1) * (k + 2) : Nat))

/-- Cosine and sine of the angle that is k of n parts of a turn. -/
def cosSin (k n : Nat) : Rat × Rat :=
  let r := k % n
  let x : Int := fxPi * ((4 * r) % n : Nat) / (2 * n : Nat)
  let x2 := x * x / fxOne
  let c : Rat := (circTerms x2 20 0 fxOne : Rat) / fxOne
  let s : Rat := (circTerms x2 20 1 x : Rat) / fxOne
  match 4 * r / n with
  | 0 => (c, s)
  | 1 => (-s, c)
  | 2 => (-c, -s)
  | _ => (s, -c)

/-- Tangent of πm/n. -/
def tanOf (m n : Nat) : Rat := (cosSin m (2 * n)).2 / (cosSin m (2 * n)).1

/-- tan(π/1,024) (R114). -/
def tanPick : Rat := tanOf 1 1024

/-- Terms of the arctangent's series from order k on, power and its square given. -/
def atanTerms (t2 : Int) : Nat → Nat → Int → Int
  | 0, _, _ => 0
  | f + 1, k, p => p / (k : Nat) + atanTerms t2 f (k + 2) (-(p * t2 / fxOne))

/-- Arctangent of a value up to 1/16, in fixed point. -/
def atanSmall (t : Rat) : Int :=
  let x := (t * fxOne).floor
  atanTerms (x * x / fxOne) 14 1 x

/-- Arctangent of k/16. -/
def atanStep : Nat → Int
  | 0 => 0
  | k + 1 => atanStep k + atanSmall ((16 : Rat) / (256 + k * (k + 1) : Nat))

/-- Arctangent of a value from 0 to 1, in turns. -/
def atanTurn (t : Rat) : Rat :=
  let k := (16 * t).floor.toNat
  let u := (t - (k : Rat) / 16) / (1 + t * k / 16)
  ((atanStep k + atanSmall u : Int) : Rat) / (2 * fxPi)

/-- Argument of a complex number in turns, above −1/2 and up to 1/2; 0 for the number 0. -/
def argTurn (re im : Rat) : Rat :=
  let x := ratAbs re
  let y := ratAbs im
  let a := if x = 0 ∧ y = 0 then 0 else if y ≤ x then atanTurn (y / x) else 1 / 4 - atanTurn (x / y)
  let b := if re < 0 then 1 / 2 - a else a
  if im < 0 then -b else b

/-- Argument in degrees. -/
def argDeg (re im : Rat) : Rat := 360 * argTurn re im

/-- A number of turns brought within −1/2 and 1/2 (R38's wrap). -/
def wrapTurn (q : Rat) : Rat := let r := q - q.floor; if 1 / 2 < r then r - 1 else r

/-- Complex numbers as pairs. -/
def cMul (a b : Rat × Rat) : Rat × Rat := (a.1 * b.1 - a.2 * b.2, a.1 * b.2 + a.2 * b.1)
def cAdd (a b : Rat × Rat) : Rat × Rat := (a.1 + b.1, a.2 + b.2)
def cSub (a b : Rat × Rat) : Rat × Rat := (a.1 - b.1, a.2 - b.2)
def cNorm (a : Rat × Rat) : Rat := a.1 * a.1 + a.2 * a.2
/-- Quotient; 0 by 0. -/
def cDiv (a b : Rat × Rat) : Rat × Rat :=
  if cNorm b = 0 then (0, 0) else ((a.1 * b.1 + a.2 * b.2) / cNorm b, (a.2 * b.1 - a.1 * b.2) / cNorm b)
/-- Magnitude. -/
def cAbs (a : Rat × Rat) : Rat := sqrtRat (cNorm a)

/-! ### Sums over a cycle -/

/-- Σ a[p] × b[p]. -/
def dot : List Rat → List Rat → Rat
  | x :: xs, y :: ys => x * y + dot xs ys
  | _, _ => 0

/-- Mean over the 1,024 picks of a cycle, or over the picks of a partial one. -/
def meanOf (n : Nat) (x : Rat) : Rat := x / (max 1 n : Nat)

/-- Root of the mean square over n picks. -/
def rmsOf (n : Nat) (a : List Rat) : Rat := sqrtRat (meanOf n (dot a a))

/-- Σ x[p]·e^(−j2πhp/n), from pick p on. -/
def binSumFrom (n h : Nat) : Nat → List Rat → Rat × Rat
  | _, [] => (0, 0)
  | p, x :: t => cAdd (x * (cosSin (h * p) n).1, -(x * (cosSin (h * p) n).2)) (binSumFrom n h (p + 1) t)

/-- The phasor of order h over n picks, rms: (√2/n) × Σ x[p]·e^(−j2πhp/n) (R38, R140, R201). -/
def phasor (n h : Nat) (a : List Rat) : Rat × Rat :=
  let b := binSumFrom n h 0 a
  (sqrtRat 2 * b.1 / (max 1 n : Nat), sqrtRat 2 * b.2 / (max 1 n : Nat))

end Sys2Proof.Machine
end

