-- ==== Sys2Proof/Machine/Warp.lean ====
section
/-! DEFINITION. The Warp time base (R32 to R64, R654): picks and cycles, the reference loop, holdover, latches. -/

namespace Sys2Proof.Machine

def Block.modWarp (s : Block) (f : Warp → Warp) : Block := { s with warp := f s.warp }

/-- System clock, hertz. -/
def sysHz : Nat := 98304000

/-- Field checks of the WARP page (R35, R51, R61). -/
def warpRules : List FieldRule := [
  ⟨0x40, 0x40, 2, 0, fun v => v ≠ 7, 7⟩,
  ⟨0x48, 0x48, 31, 0, f32pos, 7⟩,
  ⟨0x50, 0x50, 12, 0, fun v => 1 ≤ v && v ≤ 4096, 7⟩]

/-- REF_SEL in force (R35). -/
def Block.refSel (s : Block) : Nat := s.fld (pg 5 0x40) 2 0

/-- Nominal frequency (R48). -/
def Block.nominalHz (s : Block) : Rat := if s.rbit (pg 5 0x40) 4 then 60 else 50

/-- TC of the loop (R40). -/
def Block.warpTC (s : Block) : Nat := 2 ^ (s.fld (pg 5 0x40) 9 8 + 1)

/-- Udin (R37). -/
def Block.udin (s : Block) : Rat := f32 (s.getR (pg 5 0x48))

/-- STATE code (R44). -/
def WarpState.code : WarpState → Nat
  | .acquiring => 0
  | .locked => 1
  | .holdover => 2
  | .nominal => 3

/-- The Warp's sample-word marking is in force: cause 7 (R44). -/
def Block.cause7 (s : Block) : Bool := s.warp.state == .acquiring || s.warp.state == .holdover

/-- Frequency kept within 42.5 Hz to 69 Hz (R33, R40). -/
def clampHz (f : Rat) : Rat := ratClamp (85/2) 69 f

/-- Pick period in system clock periods of a cycle at frequency f (R33). -/
def pickClk (f : Rat) : Rat := if f ≤ 0 then 1920 else 96000 / f

/-- VALUE of a sample word. -/
def wordCode (w : Word) : Int := signedOf 24 (w.bits 31 8)

/-- The primary value of a word (R69). -/
def primary (h : HistWord) : Rat := (wordCode h.word : Rat) * f32 h.scale / 2 / ((2 ^ h.gain : Nat) * (2 ^ 23 : Nat))

/-- Primary values of a channel over a cycle at pick 4 of the next one: of the words broadcast so far, then the early ones (log 46). -/
def Block.cycleValues (s : Block) (n c : Nat) (early : List (List Rat)) : List Rat :=
  ((((nth [] s.hist n).filter (fun h => decide (h.pick / 1024 = c))).reverse.map primary) ++ nth [] early n).take 1024

/-- X_c of the reference in use (R38); for reference 4 the positive-sequence phasor of CH0 to CH2. -/
def Block.refPhasor (s : Block) (c : Nat) (early : List (List Rat)) : Rat × Rat :=
  let x (n : Nat) : Rat × Rat := phasor 1024 1 (s.cycleValues n c early)
  if s.warp.srcActive = 4 then
    let a := cosSin 1 3
    let y := cAdd (x 0) (cAdd (cMul a (x 1)) (cMul (cMul a a) (x 2)))
    (y.1 / 3, y.2 / 3)
  else x s.warp.srcActive

/-- The target phase in sub-picks (R35, R36). -/
def Block.targetPhase (s : Block) : Int :=
  if s.rbit (pg 5 0x40) 12 then (match s.warp.srcActive with
    | 1 => -21845
    | 2 => 21845
    | _ => 0)
  else signedOf 16 (s.fld (pg 5 0x44) 15 0)

/-- e_c in picks from X_c: a sine of phase θ at pick 0 has the argument θ less a quarter turn (R38). -/
def Block.phaseError (s : Block) (x : Rat × Rat) : Rat :=
  1024 * wrapTurn (argTurn x.1 x.2 - ((s.targetPhase : Rat) / 65536 - 1 / 4))

/-- WARP_STAT from the state (R63); REF_GOOD keeps. -/
def Block.showWarp (s : Block) : Block :=
  let a := pg 5 0x58
  let s := s.setF a 2 0 s.warp.state.code
  let s := s.setF a 10 8 s.warp.srcActive
  s.setB a 5 s.warp.realignNow

/-- f_hold: the mean of the eight latest good cycles, or nominal (R46). -/
def Block.holdMean (s : Block) : Rat :=
  let l := s.warp.goodFreqs.take 8
  if l.length < 8 then s.nominalHz else l.foldl (· + ·) 0 / 8

/-- The holdover frequency is formed and shown (R46). -/
def Block.formHold (s : Block) : Block :=
  let f := s.holdMean
  (s.modWarp (fun w => { w with holdFreq := f })).setN (pg 5 0x70) (roundAny (f * 10000)).toNat

/-- HOLDOVER is entered (R45, R47): the episode opens or goes on, detector 3 raises its entry. -/
def Block.enterHoldover (s : Block) (inj : Bool) : Block :=
  let again := s.warp.holdEpisode
  let s := if again then s else
    (s.set64 (pg 5 0x74) s.stampNow).bump (pg 5 0x84) 15 0 1
  let s := s.modWarp (fun w =>
    { w with
      state := .holdover
      holdEpisode := true
      holdEntryCycle := if again then w.holdEntryCycle else s.absPick
      holdInj := inj
      frozen := if inj then 4 else w.frozen
      goodRun := 0
      lockRun := 0
      looseRun := 0
      nextFreq := some w.holdFreq })
  s.showWarp.raiseX 5 3 (b2n again) false inj

/-- LOCKED is declared (R41); an open holdover episode ends with it (R47). -/
def Block.declareLocked (s : Block) : Block :=
  let w := s.warp
  let s := s.modWarp (fun w => { w with state := .locked, everLocked := true, lockRun := 0, looseRun := 0 })
  let s := s.showWarp.setB (pg 1 0x50) 8 true
  if w.holdEpisode then
    let s := s.set64 (pg 5 0x7C) s.stampNow
    let s := s.bump (pg 5 0x88) 31 0 ((s.absPick - w.holdEntryCycle) / 1024)
    let s := s.modWarp (fun w => { w with holdEpisode := false, holdInj := false })
    s.raiseX 5 3 0 true w.holdInj
  else s.modWarp (fun w => { w with holdInj := false })

/-- LOCKED is left for ACQUIRING (R41). -/
def Block.loseLock (s : Block) (inj : Bool) : Block :=
  let s := s.modWarp (fun w =>
    { w with state := .acquiring, looseRun := 0, lockRun := 0, holdInj := inj })
  s.showWarp.raiseX 5 5 0 false inj

/-- A frequency step (R64, detector 4): once per episode, re-armed after two cycles within the threshold, as the table of R64 says and
not later as the frequency-step timeline shows (DEDUCED, log 47). -/
def Block.freqStep (s : Block) (f : Rat) : Block :=
  match s.warp.lastFreq with
  | none => s
  | some f0 =>
    if ((s.fld (pg 5 0x4C) 15 0 : Nat) : Rat) < ratAbs (f - f0) * 10000 then
      let armed := s.warp.stepArmed
      let s := s.modWarp (fun w => { w with stepArmed := false, stepQuiet := 0 })
      if armed then s.raise 5 4 0 else s
    else s.modWarp (fun w =>
      { w with stepQuiet := w.stepQuiet + 1, stepArmed := w.stepArmed || decide (2 ≤ w.stepQuiet + 1) })

/-- The cycle that has ended is measured: good with a frequency, or low. -/
def Block.noteMeasured (s : Block) (f : Option Rat) : Block :=
  s.modWarp (fun w => { w with measured := ((s.time.cycle - 1, f) :: w.measured).take 4 })

/-- The frequency that good cycle c sets for cycle c+2, with realignment (R40, R43). A cycle that takes LOCKED to ACQUIRING may itself
decide a realign cycle (DEDUCED, log 47). -/
def Block.setLoop (s : Block) (f e : Rat) : Block :=
  let w := s.warp
  if 0 < w.realignHold then
    s.modWarp (fun w => { w with nextFreq := some w.realignFreq, realignHold := w.realignHold - 1 })
  else if w.state == .acquiring && (decide (64 < ratAbs e) || w.realignInjWait) then
    s.modWarp (fun w =>
      { w with
        realignNext := some e
        realignInj := w.realignInjWait
        realignInjWait := false
        realignHold := 2
        realignFreq := f
        nextFreq := some (f * 1024 / (1024 - e)) })
  else
    let corr := ratClamp (-128) 128 (e / (s.warpTC : Nat))
    s.modWarp (fun w => { w with nextFreq := some (clampHz (f * (1 + corr / 1024))) })

/-- A good cycle (R38, R40, R41, R43, R47). One that decides a realign cycle counts for no lock (DEDUCED, log 47). -/
def Block.goodCycle (s : Block) (f e : Rat) : Block :=
  let counted := s.warp.realignHold = 0
  let s := s.noteMeasured (some f)
  let s := s.setN (pg 5 0x60) (unsignedOf 32 (roundAny (e * 64)))
  let s := s.setB (pg 5 0x58) 4 true
  let s := s.freqStep f
  let s := s.modWarp (fun w =>
    { w with
      lastE := some e
      lastFreq := some f
      goodFreqs := (f :: w.goodFreqs).take 8
      goodRun := w.goodRun + 1
      lowRun := 0 })
  match s.warp.state with
  | .nominal => s
  | .holdover =>
    if 0 < s.warp.frozen || s.warp.pllLost then s
    else if 2 ≤ s.warp.goodRun then
      let s := (s.modWarp (fun w => { w with state := .acquiring, lockRun := 0, looseRun := 0 })).showWarp
      let s := s.modWarp (fun w => { w with lockRun := if ratAbs e ≤ 4 then 1 else 0 })
      s.setLoop f e
    else s.modWarp (fun w => { w with nextFreq := some w.holdFreq })
  | .acquiring =>
    let near := counted && decide (ratAbs e ≤ 4) && !s.warp.realignInjWait
    let s := s.modWarp (fun w => { w with lockRun := if near then w.lockRun + 1 else 0 })
    let s := s.setLoop f e
    if 2 ≤ s.warp.lockRun then s.declareLocked else s
  | .locked =>
    let s := s.modWarp (fun w => { w with looseRun := if 32 < ratAbs e then w.looseRun + 1 else 0 })
    let s := if 2 ≤ s.warp.looseRun then s.loseLock false else s
    s.setLoop f e

/-- A low cycle (R38, R45, R46). Inside HOLDOVER a low cycle after a lone good one is no first low cycle: f_hold stays and detector 1
raises nothing (DEDUCED, log 47). The second of a run inside an injected HOLDOVER makes it a real one (R548). -/
def Block.lowCycle (s : Block) (freqOut : Bool) : Block :=
  let s := (s.noteMeasured none).setB (pg 5 0x58) 4 false
  let s := if freqOut then s.raise 5 2 0 else s
  let s := if s.warp.lowRun = 0 && s.warp.state != .holdover then s.formHold.raise 5 1 0 else s
  let s := s.modWarp (fun w =>
    { w with
      lowRun := w.lowRun + 1
      goodRun := 0
      lockRun := 0
      looseRun := 0
      lastE := none
      lastFreq := none
      realignHold := w.realignHold - 1
      nextFreq := some w.holdFreq })
  if s.warp.lowRun < 2 then s
  else if s.warp.state == .acquiring || s.warp.state == .locked then s.enterHoldover false
  else if s.warp.state == .holdover then s.modWarp (fun w => { w with holdInj := false })
  else s

/-- Measurement of cycle c at pick 4 of cycle c+1 (R38). Cycle 0 has no cycle before it: T_(c−1) is taken equal to T_c there (DEDUCED,
log 46). -/
def Block.warpMeasure (s : Block) (early : List (List Rat)) : Block :=
  let w := s.warp
  let x := s.refPhasor (s.time.cycle - 1) early
  let mag := cAbs x
  let e := s.phaseError x
  let e0 := w.lastE.getD e
  let before := if s.time.cycle ≤ 1 then s.time.lastDur else s.time.prevDur
  let span : Rat := ((before + s.time.lastDur : Nat) : Rat) / (2 * (sysHz : Nat))
  let f : Rat := if span = 0 then w.freq else (1 + (e - e0) / 1024) / span
  let s := s.setR (pg 5 0x64) (f32of mag)
  let magOk := decide (s.udin / 10 ≤ mag)
  let inBand := decide ((85/2 : Rat) ≤ f) && decide (f ≤ 69)
  let s := if magOk then s.setN (pg 5 0x5C) (roundAny (f * 10000)).toNat else s
  let s := if magOk && inBand then s.goodCycle f e else s.lowCycle magOk
  s.modWarp (fun w => { w with frozen := w.frozen - 1 })

/-- The length of the pick that has begun, under the Warp's frequency (R11, R33): the strobe after it falls on the nearest period. -/
def Block.setPickLen (s : Block) : Block :=
  let p := pickClk s.warp.freq
  { s with time := { s.time with period := p, pickLen := max 1 (s.time.phase + p + 1 / 2).floor.toNat } }

/-- Pick-0 work of the Warp: the cycle's frequency takes effect, from pick 0 on (R40, R43). -/
def Block.warpCycleStart (s : Block) : Block :=
  let w := s.warp
  let realign := w.realignNext.isSome
  let f := if w.state == .nominal then s.nominalHz else w.nextFreq.getD w.freq
  let s := s.modWarp (fun w =>
    { w with freq := f, nextFreq := none, realignNext := none, realignNow := realign, realignInj := false })
  let s := (s.setPickLen.showWarp.setN (pg 5 0x68) s.time.cycle).setF (pg 5 0x6C) 15 0 (s.time.cycle / 2 ^ 32)
  if realign then s.raiseX 5 6 0 false w.realignInj else s

/-- The next strobe: one pick on, cycle count up at pick 0 (R32), RTC and cycle durations carried in clock periods (R38,
R50), the pick instant rounded to a system clock period (R11, log 4). -/
def Block.tickTime (s : Block) : Block :=
  let t := s.time
  let last := t.pick = 1023
  let t1 : Time :=
    { t with
      cycle := if last then t.cycle + 1 else t.cycle
      pick := if last then 0 else t.pick + 1
      clk := 0
      phase := t.phase + t.period - (t.pickLen : Nat)
      lastLen := t.pickLen
      rtcClk := t.rtcClk + t.pickLen
      mono := t.mono + t.pickLen
      cycleClk := if last then 0 else t.cycleClk + t.pickLen
      prevDur := if last then t.lastDur else t.prevDur
      lastDur := if last then t.cycleClk + t.pickLen else t.lastDur
      rtcPick0 := if last then (t.rtcClk + t.pickLen) / rtcStep else t.rtcPick0 }
  Block.setPickLen { s with time := t1 }

/-- Reason bits (R62). -/
def rsRegular : Nat := 0
def rsDemand : Nat := 1
def rsTariff : Nat := 2
def rsBilling : Nat := 3
def rsCommand : Nat := 4
def rsPowerfail : Nat := 5
def rsJoin : Nat := 6
def rsHoldover : Nat := 7

/-- Reason words joined. -/
def reasonOr (a b : Nat) : Nat := a ||| b

/-- The grid, boundary and command reasons of pick 0 of a cycle, with the RTC sampled there (R51 to R53). -/
def Block.gridReasons (s : Block) (cycle rtc : Nat) : Nat :=
  let w := s.warp
  let base := s.get64 (pg 5 0xA0)
  let reg := if (cycle - base) % max 1 w.nForce = 0 && decide (base ≤ cycle) then 1 else 0
  let due := (w.boundaries.filter (fun b => decide (b.1 ≤ rtc))).foldl (fun r b => reasonOr r (2 ^ b.2)) 0
  reasonOr (reasonOr reg due) (if w.cmdLatch then 2 ^ rsCommand else 0)

/-- This node leads a link (R577): NODE_ID 0, EN. -/
def Block.leading (s : Block) : Bool := s.rbit (pg 0x3D 0x50) 1
/-- It follows the lead's latches (R55, R582): a running link, reference 5, no fallback. -/
def Block.following (s : Block) : Bool :=
  s.warp.srcActive == 5 && s.rbit (pg 0x3D 0x50) 0 && !s.rbit (pg 0x3D 0x50) 1 && !s.rbit (pg 0x3D 0x50) 5

/-- Latch reasons that fall on this pick 0 (R51 to R55); in a joined system those announced before (R577, R580). -/
def Block.latchReasons (s : Block) : Nat :=
  if s.following || s.leading then s.warp.joinLatch.getD 0 else s.gridReasons s.time.cycle s.time.rtcPick0

/-- The reasons up to an RTC stamp are used up. -/
def Block.dropReasons (s : Block) (rtc : Nat) : Block :=
  s.modWarp (fun w =>
    { w with
      cmdLatch := false
      boundaries := w.boundaries.filter (fun b => decide (rtc < b.1)) })

/-- The reasons of this pick 0 are used up. -/
def Block.takeReasons (s : Block) : Block :=
  let s := if s.leading then s else s.dropReasons s.time.rtcPick0
  s.modWarp (fun w => { w with joinLatch := none })

/-- The registers of a closing latch (R50, R51, R62). -/
def Block.recordLatch (s : Block) (reasons : Nat) (regularGrid : Bool) : Block :=
  let r := if s.warp.holdEpisode && s.cause7 then reasonOr reasons (2 ^ rsHoldover) else reasons
  let s := (s.setN (pg 5 0x8C) s.time.cycle).setF (pg 5 0x90) 15 0 (s.time.cycle / 2 ^ 32)
  let s := (s.set64 (pg 5 0x94) (if regularGrid then s.time.rtcPick0 % 2 ^ 64 else s.rtcNow)).setN (pg 5 0x9C) r
  let n := s.fld (pg 5 0x50) 12 0
  if regularGrid && n ≠ s.warp.nForce then
    let s := s.modWarp (fun w => { w with nForce := n })
    (s.setN (pg 5 0xA0) s.time.cycle).setF (pg 5 0xA4) 15 0 (s.time.cycle / 2 ^ 32)
  else s

/-- Effects of a commit on the WARP page (R56): the old words of WARP_CFG and REF_TARGET are given. An open holdover episode stays
open through NOMINAL until a later LOCKED (DESIGN CHOICE, log 47); what the old reference had set for cycles to come is dropped
(DEDUCED, log 47). -/
def Block.warpCommitted (s : Block) (oldCfg oldTarget : Word) : Block :=
  let cfg := s.getR (pg 5 0x40)
  let sel := cfg.bits 2 0
  let moved := sel ≠ oldCfg.bits 2 0 || cfg.bit 4 != oldCfg.bit 4
    || (!cfg.bit 12 && s.getR (pg 5 0x44) != oldTarget)
  if sel = 6 then
    let s := s.modWarp (fun w =>
      { w with
        state := .nominal
        srcActive := 6
        everLocked := true
        nextFreq := none
        realignNext := none
        realignNow := false
        realignHold := 0
        realignInjWait := false
        freq := s.nominalHz })
    s.setPickLen.showWarp
  else if moved then
    (s.modWarp (fun w =>
      { w with
        state := .acquiring
        srcActive := sel
        nextFreq := none
        realignNext := none
        realignHold := 0
        lockRun := 0
        looseRun := 0
        lastE := none
        lastFreq := none
        missedMarkers := 0 })).showWarp
  else s

/-- Soft reset of the WARP page (R57): registers back, count, EPOCH, LATCH_BASE, NOMINAL and the holdover records HOLD_ENTRY, HOLD_EXIT,
HOLD_CNT and HOLD_CYCLES kept; HOLD_FREQ returns (DEDUCED, log 47). -/
def Block.warpSoftReset (s : Block) : Block :=
  let nom := s.fld (pg 5 0x40) 4 4
  let back := [0x44, 0x48, 0x4C, 0x50, 0x58, 0x5C, 0x60, 0x64, 0x70, 0x8C, 0x90, 0x94, 0x98, 0x9C]
  let s := forEach back (fun o s => s.setR (pg 5 o) (regReset (pg 5 o))) s
  let s := s.setN (pg 5 0x40) (0x1100 + nom * 16)
  let s := s.modWarp (fun w =>
    { w with
      state := .acquiring
      srcActive := 0
      nextFreq := none
      realignNext := none
      realignNow := false
      realignHold := 0
      realignInjWait := false
      lastE := none
      lastFreq := none
      goodRun := 0
      lowRun := 0
      lockRun := 0
      looseRun := 0
      stepArmed := true
      stepQuiet := 0 })
  s.showWarp

/-- Injection of WARP detectors (R64, R47). In HOLDOVER, and in an episode that is real, detector 3 is an event only (R548). In NOMINAL it enters
HOLDOVER, where nothing is measured until a commit of the WARP page ends it (DEDUCED, log 47). -/
def Block.warpInject (s : Block) (d : Nat) : Block :=
  match d with
  | 3 =>
    if s.warp.state == .holdover || (s.warp.holdEpisode && !s.warp.holdInj) then s.raiseX 5 3 (b2n s.warp.holdEpisode) false true
    else s.formHold.enterHoldover true
  | 5 => if s.warp.state == .locked then s.loseLock true else s.raiseX 5 5 0 false true
  | 6 => if s.warp.state == .acquiring then s.modWarp (fun w => { w with realignInjWait := true })
    else s.raiseX 5 6 0 false true
  | _ => s.raiseX 5 d 0 false true

end Sys2Proof.Machine
end

