-- ==== Sys2Proof/Machine/Power.lean ====
section
/-! DEFINITION. Supplies, power states and the power arbiter (R515 to R542). -/

namespace Sys2Proof.Machine

def Block.modPwr (s : Block) (f : Power → Power) : Block := { s with pwr := f s.pwr }
def Block.modArb (s : Block) (f : Arbiter → Arbiter) : Block := { s with arb := f s.arb }

/-- Field checks of PWR, ARB (R534, R535). -/
def pwrRules : List FieldRule := [
  ⟨0x40, 0x40, 23, 16, fun v => 1 ≤ v && v ≤ 64, 5⟩,
  ⟨0x40, 0x40, 12, 8, fun v => 1 ≤ v && v ≤ 20, 5⟩,
  ⟨0x40, 0x40, 7, 0, fun v => 40 ≤ v && v ≤ 160, 5⟩,
  ⟨0x44, 0x44, 7, 0, fun v => 5 ≤ v && v ≤ 100, 5⟩,
  ⟨0x48, 0x48, 4, 0, fun v => v ≤ 20, 5⟩]

/-- Write permit (R518): in HOLD only VSTORE gives one. -/
def Block.permit (s : Block) : Bool :=
  s.rbit (pg 1 0x50) 16 || (s.pwr.st != .hold && s.rbit (pg 1 0x44) 31 && s.pwr.vinAbove)

/-- The permit lost and regained in RUN and LEAN: detector 3 raises an entry and an exit (R518). -/
def Block.permitEvents (s : Block) : Block :=
  if s.pwr.st == .run || s.pwr.st == .lean then
    if !s.permit && !s.pwr.permitLost then (s.modPwr (fun p => { p with permitLost := true })).raise 1 3 0
    else if s.permit && s.pwr.permitLost then (s.modPwr (fun p => { p with permitLost := false })).raiseX 1 3 0 true false
    else s
  else s

/-- PWR_STAT.STATE and the permit conditions with their OR (R518, R536). -/
def Block.showPwr (s : Block) : Block :=
  let v := match s.pwr.st with
    | .run => 1
    | .lean => 2
    | _ => 0
  let s := s.setF (pg 1 0x50) 2 0 v
  let s := s.setB (pg 1 0x50) 15 (s.rbit (pg 1 0x44) 31 && s.pwr.vinAbove)
  (s.setB (pg 1 0x50) 14 s.permit).permitEvents

/-! ### The arbiter -/

/-- Budget and C0 reservation of the state (R527, R540). -/
def Block.budget (s : Block) : Nat × Nat :=
  let pick (a : Nat) : Nat := match s.pwr.st with
    | .hold => s.fld a 23 16
    | .lean => s.fld a 15 8
    | _ => s.fld a 7 0
  (pick (pg 2 0x40), pick (pg 2 0x44))

/-- Class cap (R540). -/
def Block.classCap (s : Block) (c : Nat) : Nat :=
  match c with
  | 1 => s.fld (pg 2 0x48) 7 0
  | 2 => s.fld (pg 2 0x48) 15 8
  | 3 => s.fld (pg 2 0x48) 23 16
  | _ => 255

/-- Declared C0 power (R528): 4 + ceil(n/2) for n modulators running. -/
def Block.c0Power (s : Block) : Nat := 4 + ((s.mods.filter (fun d => d.powered && d.ovlHeld.isNone)).length + 1) / 2

/-- The unit of a page runs in the state of the device (R18). -/
def Block.unitRuns (s : Block) (p : Nat) : Bool :=
  match s.pwr.st with
  | .run | .starting => true
  | .lean => !((0x21 ≤ p && p ≤ 0x2C) || p == 0x19 || p == 0x1A || p == 0x1B || p == 0x17)
  | .hold => p == 0x06 || p == 0x2F || p == 0x39 || p == 0x05 || p == 0x36
  | _ => false

def Block.arbFind (s : Block) (p : Nat) : Option ArbReq := s.arb.reqs.find? (fun r => r.page = p)

/-- The page's request is granted. -/
def Block.granted (s : Block) (p : Nat) : Bool := match s.arbFind p with
  | some r => r.outcome == 1
  | none => false

/-- The BUDGET word of a request (R405, R532). -/
def Block.showBudget (s : Block) (r : ArbReq) : Block :=
  s.setN (pg r.page 0x28) (min 255 r.mw * 2 ^ 24 + min 255 r.granted * 2 ^ 16 + r.outcome * 2 ^ 14 + r.reason * 2 ^ 11
    + (if r.outcome = 2 then r.wait % 2048 else 0))

/-- An outcome written down, with its counts and events (R532): none in HOLD. redo: decided again under R531. -/
def Block.arbSettle (s : Block) (redo : Bool) (old new : ArbReq) : Block :=
  let s := s.modArb (fun a => { a with reqs := a.reqs.map (fun r => if r.page = new.page then new else r) })
  let s := s.showBudget new
  let withdrawn := redo && old.outcome = 1 && new.outcome ≠ 1
  let s := if new.outcome = 3 then
      let k := 8 * new.page + new.reason
      let s := s.modArb (fun a => { a with refused := Sparse.put k (min 255 (Sparse.get 0 k a.refused + 1)) a.refused })
      let s := s.wrapAdd (pg 2 0x64) 1
      if s.pwr.st == .hold then s else s.raise 2 1 (new.page + new.reason * 256)
    else s
  let s := if new.outcome = 2 && old.outcome ≠ 2 then
      s.modArb (fun a => { a with waited := Sparse.put new.page (min 0xFFFF (Sparse.get 0 new.page a.waited + 1)) a.waited })
    else s
  if withdrawn then
    let s := s.bump (pg 2 0x68) 15 0 1
    if s.pwr.st == .hold then s else s.raise 2 4 0
  else s

/-- One request decided with free power left and whether an older or higher one waits (R529, R530). -/
def Block.arbDecide (s : Block) (free : Nat) (blocked : Bool) (r : ArbReq) : ArbReq :=
  let bud := s.budget
  if s.pwr.st == .hold then { r with outcome := 3, reason := 4, granted := 0 }
  else if r.page = 1 then
    let g := if blocked then 0 else min free (min r.mw (s.classCap 3))
    if 0 < g then { r with outcome := 1, reason := 0, granted := g } else { r with outcome := 2, reason := 0, granted := 0 }
  else if !s.unitRuns r.page then { r with outcome := 3, reason := 3, granted := 0 }
  else if s.classCap r.cls < r.mw || bud.1 - bud.2 < r.mw then { r with outcome := 3, reason := 1, granted := 0 }
  else if r.mw ≤ free && !blocked then { r with outcome := 1, reason := 0, granted := r.mw }
  else if r.cls = 1 then { r with outcome := 3, reason := 2, granted := 0 }
  else { r with outcome := 2, reason := 0, granted := 0 }

/-- Requests in order of class, the charger last, and of age within a class (R529). -/
def arbOrder (l : List ArbReq) : List ArbReq :=
  let key (r : ArbReq) : Nat := (if r.page = 1 then 9 else r.cls) * 2 ^ 40 + r.age
  l.foldl (fun out r => (out.filter (fun x => key x ≤ key r)) ++ [r] ++ (out.filter (fun x => key r < key x))) []

/-- WAIT_PICKS of a request that begins to wait (R530): 2,047 where only standing grants stand in the way; else the durations that
per-operation grants declare, which the spec does not give: a free number. -/
def Block.arbWait (s : Block) (free : Nat) (r : ArbReq) : Block × Nat :=
  let ops := ((s.arb.reqs.filter (fun x => x.outcome = 1 && !x.standing)).map (·.granted)).foldl (· + ·) 0
  if r.page ≠ 1 && decide (0 < ops) && decide (r.mw ≤ free + ops) then
    let d := s.draw
    (d.2, d.1 % 2048)
  else (s, 2047)

/-- Requests decided one after the other. -/
def Block.arbRun (s : Block) (redo : Bool) (free : Nat) (blocked : Bool) : List ArbReq → Block
  | [] => s
  | r :: t =>
    let d := s.arbDecide free blocked r
    let w := if d.outcome = 2 then s.arbWait free d else (s, 0)
    Block.arbRun (w.1.arbSettle redo r { d with wait := w.2 }) redo (free - d.granted) (blocked || d.outcome == 2) t

/-- Power free for C1 to C3 before any of the given grants (R529). -/
def Block.arbFree (s : Block) (held : List ArbReq) : Nat :=
  let bud := s.budget
  let c0 := s.c0Power
  bud.1 - bud.2 - (c0 - bud.2) - (held.map (·.granted)).foldl (· + ·) 0

/-- C0 against its reservation, once per episode (R529); ARB_STAT (R541). -/
def Block.arbC0 (s : Block) : Block :=
  let c0 := s.c0Power
  let isOver := decide (s.budget.2 < c0)
  let s := if isOver && !s.arb.c0Over then
      let s := s.bump (pg 2 0x60) 15 0 1
      if s.pwr.st == .hold then s else s.raise 2 2 0
    else s
  let s := s.modArb (fun a => { a with c0Over := isOver })
  let sum (c : Nat) : Nat := min 255 (((s.arb.reqs.filter (fun r => r.cls = c && r.outcome = 1)).map (·.granted)).foldl (· + ·) 0)
  let s := s.setN (pg 2 0x4C) (min 255 c0 * 2 ^ 24 + sum 1 * 2 ^ 16 + sum 2 * 2 ^ 8 + sum 3)
  s.setN (pg 6 0x28) (min 255 c0 * 2 ^ 24 + min 255 c0 * 2 ^ 16 + 2 ^ 14)

/-- Charge current from the grant (R517). -/
def Block.chargeCurrent (s : Block) : Block :=
  let g := match s.arbFind 1 with
    | some r => r.granted
    | none => 0
  s.setF (pg 1 0x50) 28 24 (min (s.fld (pg 1 0x48) 4 0) (g / 5))

/-- Evaluation at a pick strobe: requests that wait or are new; the charger's partial grant gives way (R529). -/
def Block.arbEval (s : Block) : Block :=
  let open_ := s.arb.reqs.filter (fun r => r.outcome = 0 || r.outcome = 2 || (r.page = 1 && r.outcome = 1))
  let held := s.arb.reqs.filter (fun r => r.outcome = 1 && r.page ≠ 1)
  let s := if open_.isEmpty then s else s.arbRun false (s.arbFree held) false (arbOrder open_)
  s.arbC0.chargeCurrent

/-- Re-evaluation of every standing grant with the waiting requests (R531): a per-operation grant in progress stays, but in HOLD
(R522), and a refused per-operation request is not tried again (R530). -/
def Block.arbReeval (s : Block) : Block :=
  let stays (r : ArbReq) : Bool := !r.standing && r.outcome == 1 && s.pwr.st != .hold
  let held := s.arb.reqs.filter stays
  let rest := s.arb.reqs.filter (fun r => !stays r && (r.standing || r.outcome != 3))
  (s.arbRun true (s.arbFree held) false (arbOrder rest)).arbC0.chargeCurrent

/-- A request is made, or a standing one changes its power (R528, R531). -/
def Block.arbRequest (s : Block) (page cls mw : Nat) (standing : Bool) : Block :=
  match s.arbFind page with
  | some r =>
    if r.mw = mw then s
    else (s.modArb (fun a => { a with reqs := a.reqs.map (fun r => if r.page = page then { r with mw := mw } else r) })).arbReeval
  | none =>
    let r : ArbReq := ⟨page, cls, mw, standing, s.arb.nextAge, 0, 0, 0, 0⟩
    (s.modArb (fun a => { a with reqs := a.reqs ++ [r], nextAge := a.nextAge + 1 })).showBudget r

/-- A request of the page that was refused is evaluated again (R168). -/
def Block.arbRetry (s : Block) (page : Nat) : Block :=
  s.modArb (fun a => { a with reqs := a.reqs.map (fun r => if r.page = page && r.outcome = 3 then { r with outcome := 0 } else r) })

/-- A request made and decided at once, for an operation that starts on the grant. -/
def Block.arbAsk (s : Block) (page cls mw : Nat) : Block := (s.arbRequest page cls mw false).arbEval

/-- A request is released: its grant is free again; BUDGET still shows its power, or its refusal (R405). -/
def Block.arbRelease (s : Block) (page : Nat) : Block :=
  match s.arbFind page with
  | none => s
  | some r =>
    let s := s.modArb (fun a => { a with reqs := a.reqs.filter (fun r => r.page ≠ page) })
    if r.outcome = 3 then s else s.setN (pg page 0x28) (min 255 r.mw * 2 ^ 24)

/-- A unit asks for one operation (R528, R530): again where its last request was refused. True: granted. -/
def Block.arbOperation (s : Block) (page cls mw : Nat) : Block × Bool :=
  let s := match s.arbFind page with
    | some r => if r.outcome = 3 then s.arbRelease page else s
    | none => s
  let s := if (s.arbFind page).isSome then s else s.arbAsk page cls mw
  (s, s.granted page)

/-- Class and kind of a page's requests; none: no requester (R528). -/
def arbKind (p : Nat) : Option (Nat × Bool) :=
  if 0x1D ≤ p ∧ p ≤ 0x2C then some (1, true)
  else match p with
    | 0x06 => some (0, true)
    | 0x2F | 0x39 => some (0, false)
    | 0x19 | 0x3D => some (2, true)
    | 0x3A | 0x3C => some (2, false)
    | 0x01 | 0x37 => some (3, true)
    | 0x1C | 0x3F => some (3, false)
    | _ => none

/-- ARB's view of a page (R541): REQ_INFO, REQ_REFUSE, REQ_WAIT. -/
def Block.reqInfo (s : Block) (p : Nat) : Nat :=
  match arbKind p with
  | none => 0
  | some (c, st) =>
    let base := c * 2 ^ 30 + b2n st * 2 ^ 29
    match s.arbFind p with
    | none => if p = 0x06 then base + 2 ^ 28 else base
    | some r =>
      let rank := (s.arb.reqs.filter (fun x => x.cls = r.cls && decide (x.age < r.age))).length
      base + b2n (r.outcome = 1 || r.outcome = 2) * 2 ^ 28 + rank % 65536
def Block.reqRefuse (s : Block) (p : Nat) : Nat :=
  let n (k : Nat) : Nat := Sparse.get 0 (8 * p + k) s.arb.refused
  n 4 * 2 ^ 24 + n 3 * 2 ^ 16 + n 2 * 2 ^ 8 + n 1

/-- Commit of the ARB page (R540): a set of words that leaves a reservation above its budget is refused whole. True: kept. -/
def arbWordsOk (bud res : Word) : Bool :=
  res.bits 23 16 ≤ bud.bits 23 16 && res.bits 15 8 ≤ bud.bits 15 8 && res.bits 7 0 ≤ bud.bits 7 0 && 4 ≤ bud.bits 23 16

/-- Soft reset of ARB and of PWR (R533, R539). -/
def Block.arbSoftReset (s : Block) : Block :=
  let s := forEach [0x40, 0x44, 0x48, 0x50, 0x60, 0x64, 0x68] (fun o s => s.setR (pg 2 o) (regReset (pg 2 o))) s
  (s.modArb (fun a => { a with refused := [], waited := [] })).arbReeval
def Block.pwrSoftReset (s : Block) : Block :=
  forEach [0x40, 0x44, 0x48] (fun o s => s.setR (pg 1 o) (regReset (pg 1 o))) s

/-! ### The charger and the supplies -/

/-- The charger's episode: it requests while it may (R517). -/
def Block.chargerUpdate (s : Block) : Block :=
  let on := (s.pwr.st == .run || s.pwr.st == .lean) && s.pwr.ready && s.rbit (pg 1 0x48) 31 && !s.rbit (pg 1 0x50) 17
  if on then
    let s := if s.pwr.charging then s else
      s.modPwr (fun p => { p with charging := true, chargeLate := s.rbit (pg 1 0x50) 16, chargeFrom := s.time.mono + s.time.clk })
    s.arbRequest 1 3 (5 * s.fld (pg 1 0x48) 4 0) true
  else if s.pwr.charging then
    ((s.modPwr (fun p => { p with charging := false })).arbRelease 1).chargeCurrent
  else s

/-- VSTORE at 4.8 V: the grant is released (R517). -/
def Block.vstoreFull (s : Block) : Block := (s.setB (pg 1 0x50) 17 true).chargerUpdate

/-- VSTORE below 4.7 V: the charger requests again (R517). -/
def Block.vstoreRecharge (s : Block) : Block := (s.setB (pg 1 0x50) 17 false).chargerUpdate

/-- CHG_TIME (R537): whole seconds of the episode, 0 outside one. -/
def Block.chargeTime (s : Block) : Nat :=
  if s.pwr.charging then min 0xFFFF ((s.time.mono + s.time.clk - s.pwr.chargeFrom) / sysHz) else 0

/-- 600 s into an episode that has not reached the permit threshold (R517): once per episode. -/
def Block.chargeTimeout (s : Block) : Block :=
  if s.pwr.charging && !s.pwr.chargeLate && 600 ≤ s.chargeTime && !s.rbit (pg 1 0x50) 16 then
    (s.modPwr (fun p => { p with chargeLate := true })).raise 1 8 0
  else s

/-- VSTORE ≥ 2.7 V, or VIN ≥ PF_TH + VIN_MARGIN, has changed (R518). -/
def Block.permitChange (s : Block) (vstore vin : Bool) : Block :=
  ((s.setB (pg 1 0x50) 16 vstore).modPwr (fun p =>
    { p with
      vinAbove := vin
      chargeLate := p.chargeLate || (p.charging && vstore) })).showPwr

/-- VBAK crosses its low threshold (R536). -/
def Block.vbakLowChange (s : Block) (low : Bool) : Block :=
  if s.pwr.vbakLow == low then s
  else ((s.modPwr (fun p => { p with vbakLow := low })).setB (pg 1 0x50) 19 low).raiseX 1 4 0 (!low) false

/-- VREG current above its limit, once per episode (R516). -/
def Block.vregOverload (s : Block) (isOver : Bool) : Block :=
  if isOver then
    if s.pwr.vregOver then s else (s.modPwr (fun p => { p with vregOver := true })).raise 1 7 0
  else s.modPwr (fun p => { p with vregOver := false })

/-- PWR_CMD LEAN or RUN (R520). -/
def Block.pwrCmd (s : Block) (lean : Bool) : Block :=
  let cur := s.pwr.st == .lean
  if s.pwr.st != .run && s.pwr.st != .lean then s.raise 1 5 0
  else if cur == lean && s.pwr.pendLean.isNone then s.raise 1 5 0
  else (s.modPwr (fun p => { p with pendLean := some lean })).setB (pg 1 0x50) 9 true

/-- A power failure is declared (R521): cause 1 VIN, 2 MAINS. -/
def Block.failDeclared (s : Block) (cause : Nat) : Block :=
  let mains := cause = 2
  if s.pwr.failed.isSome then s
  else if mains && !(s.rbit (pg 1 0x40) 15 && s.rbit (pg 1 0x50) 8) then s
  else match s.pwr.st with
    | .run | .lean | .starting => s.modPwr (fun p => { p with failed := some (if mains then 2 else 1) })
    | _ => s

/-- Injection: events only, for PWR and ARB (R533, R539). -/
def Block.injectEvent (s : Block) (p d : Nat) : Block := s.raiseX p d 0 false true

end Sys2Proof.Machine
end

