-- ==== Sys2Proof/Machine/Record.lean ====
section
/-! DEFINITION. The FeRAM record store (R428 to R452, R655, R656): slots as bytes of the FeRAM, commits, the scan, the
journal. The owners of the records say what a payload holds. -/

namespace Sys2Proof.Machine

def Block.modRec (s : Block) (f : RecStore → RecStore) : Block := { s with recs := f s.recs }

/-- A slot-pair record: window address of segment 0 slot A, distance to slot B, segments, payload bytes, DUP, class. -/
structure RecDef where
  base : Nat
  stride : Nat
  nseg : Nat
  len : Nat
  dup : Bool
  cls : Nat
  deriving DecidableEq, Repr

/-- Window addresses, sizes and classes of the slot-pair records (R428, R429, R655); the KEY region of R508. -/
def recDef (id : Nat) : Option RecDef :=
  if id = 0x01 then some ⟨0x020000, 0x50, 1, 64, false, 0⟩
  else if 0x10 ≤ id ∧ id ≤ 0x1F then some ⟨0x0200A0 + 0x80 * (id - 0x10), 0x40, 1, 48, true, 2⟩
  else if id = 0x20 then some ⟨0x0208A0, 0xD0, 1, 192, false, 0⟩
  else if id = 0x21 then some ⟨0x020A40, 0x30, 1, 32, false, 0⟩
  else if id = 0x22 then some ⟨0x020AA0, 0x40, 1, 48, false, 0⟩
  else if id = 0x30 then some ⟨0x02F400, 272, 13, 256, true, 2⟩
  else if id = 0x31 then some ⟨0x031000, 272, 8, 256, true, 2⟩
  else if id = 0x32 then some ⟨0x032400, 176, 16, 160, false, 0⟩
  else if id = 0x33 then some ⟨0x025800, 272, 32, 256, true, 0⟩
  else if id = 0x34 then some ⟨0x021000, 288, 32, 264, false, 0⟩
  else if 0x40 ≤ id ∧ id ≤ 0x7F then some ⟨0x033C00 + 176 * (id - 0x40), 88, 1, 72, true, 2⟩
  else if id = 0x80 then some ⟨0x036800, 512, 1, 256, true, 2⟩
  else none

/-- Address of a segment's slot: 0 A, 1 B. -/
def RecDef.slot (d : RecDef) (seg ab : Nat) : Nat := d.base + 2 * d.stride * seg + ab * d.stride

/-- A slot's bytes: the header of R430 and the payload. -/
def slotBytes (id seg nseg seq flags : Nat) (payload : List Byte) : List Byte :=
  let h := leBytes 2 id ++ leBytes 1 seg ++ leBytes 1 nseg ++ leBytes 4 seq ++ leBytes 2 payload.length ++ leBytes 1 flags
    ++ leBytes 1 1
  h ++ leBytes 4 (crc32 (h ++ payload)).toNat ++ payload

def Block.feramRead (s : Block) (a n : Nat) : List Byte := memRead s.feram a n

/-- The header names the place: ID, SEG and NSEG (R441). -/
def Block.slotNamed (s : Block) (a id seg nseg : Nat) : Bool :=
  s.feramRead a 4 == leBytes 2 id ++ leBytes 1 seg ++ leBytes 1 nseg

/-- A slot is valid (R430). -/
def Block.slotValid (s : Block) (a id seg nseg len : Nat) : Bool :=
  s.slotNamed a id seg nseg
    && s.feramRead (a + 8) 2 == leBytes 2 len
    && s.feramRead (a + 11) 1 == [1#8]
    && s.feramRead (a + 12) 4 == leBytes 4 (crc32 (s.feramRead a 12 ++ s.feramRead (a + 16) len)).toNat

def Block.slotSeq (s : Block) (a : Nat) : Nat := leNat (s.feramRead (a + 4) 4)

/-- SEQ a is newer than b (R430). -/
def seqNewer (a b : Nat) : Bool :=
  let d := (a + 2 ^ 32 - b % 2 ^ 32) % 2 ^ 32
  1 ≤ d && d ≤ 2 ^ 31 - 1

/-- The SEQs that valid slots of a segment hold: A's and B's. -/
def Block.segSeqs (s : Block) (id : Nat) (d : RecDef) (seg : Nat) : Option Nat × Option Nat :=
  let one (ab : Nat) : Option Nat :=
    if s.slotValid (d.slot seg ab) id seg d.nseg d.len then some (s.slotSeq (d.slot seg ab)) else none
  (one 0, one 1)

/-- A segment holds SEQ q. -/
def holds (p : Option Nat × Option Nat) (q : Nat) : Bool := p.1 == some q || p.2 == some q

/-- The newest SEQ that every segment holds (R431, R432). -/
def Block.chosenSeq (s : Block) (id : Nat) (d : RecDef) : Option Nat :=
  let segs := (List.range d.nseg).map (s.segSeqs id d)
  let cands := (segs.head?.map (fun p => p.1.toList ++ p.2.toList)).getD []
  let full := cands.filter (fun q => segs.all (fun p => holds p q))
  full.foldl (fun best q => match best with
    | none => some q
    | some b => if seqNewer q b then some q else some b) none

/-- The payload of a segment under a SEQ: slot A before slot B (R441). -/
def Block.segPayload (s : Block) (id : Nat) (d : RecDef) (seg q : Nat) : List Byte :=
  let p := s.segSeqs id d seg
  if p.1 = some q then s.feramRead (d.slot seg 0 + 16) d.len
  else if p.2 = some q then s.feramRead (d.slot seg 1 + 16) d.len
  else []

/-- The record's content: the payloads of its chosen SEQ; none where EMPTY. -/
def Block.recContent (s : Block) (id : Nat) : Option (List (List Byte)) :=
  match recDef id with
  | none => none
  | some d => (s.chosenSeq id d).map (fun q => (List.range d.nseg).map (fun k => s.segPayload id d k q))

/-- Segments whose slots hold the chosen SEQ with different payloads (R433). -/
def Block.conflictSegs (s : Block) (id : Nat) (d : RecDef) : List Nat :=
  match s.chosenSeq id d with
  | none => []
  | some q => (List.range d.nseg).filter (fun k =>
      s.segSeqs id d k == (some q, some q) && s.feramRead (d.slot k 0 + 16) d.len != s.feramRead (d.slot k 1 + 16) d.len)

/-! ### Commits -/

/-- A commit joins the queue (R435). -/
def Block.enqueue (s : Block) (c : Commit) : Block :=
  let s := s.modRec (fun r => { r with queue := r.queue ++ [c] })
  s.setF (pg 0x39 0x44) 31 24 (min 255 (s.recs.queue.filter (fun c => !c.started)).length)

/-- A record's content is to be committed as a set. -/
def Block.commitRec (s : Block) (id : Nat) (payloads : List (List Byte)) : Block :=
  match recDef id with
  | none => s
  | some d => s.enqueue ⟨.set, id, d.cls, none, 0, payloads, false, false⟩

/-- The commit in progress: a C0 one before the C2 one that yielded to it (R435). -/
def Block.activeCommit (s : Block) : Option Commit :=
  match s.recs.queue.find? (fun c => c.started && c.cls = 0) with
  | some c => some c
  | none => s.recs.queue.find? (fun c => c.started)

/-- The commit served next: a C0 one in progress, else the oldest C0, to which a C2 one in progress yields between two slot writes, else
the C2 one in progress, else the oldest (R435); in HOLD the one in progress, then in issue order (R440). -/
def Block.nextCommit (s : Block) : Option Commit :=
  match s.activeCommit with
  | some c =>
    if c.cls = 0 || s.pwr.st == .hold then some c
    else match s.recs.queue.find? (fun c => c.cls = 0) with
      | some d => some d
      | none => some c
  | none => if s.pwr.st == .hold then s.recs.queue.head? else match s.recs.queue.find? (fun c => c.cls = 0) with
    | some c => some c
    | none => s.recs.queue.head?

/-- A queued commit replaced, the first that equals it. -/
def replaceFirst (c : Commit) (new : List Commit) : List Commit → List Commit
  | [] => []
  | x :: t => if x = c then new ++ t else x :: replaceFirst c new t

/-- COMMIT_START (R434, R436): under a permit the next commit starts; without one it waits, one event per episode. In HOLD
a refused commit ends the save's writing (R523). -/
def Block.commitStart (s : Block) : Block :=
  match s.nextCommit with
  | none => s
  | some c =>
    if c.started || s.pwr.saveRefused then s
    else if s.permit then
      let s := s.modRec (fun r => { r with queue := replaceFirst c [{ c with started := true }] r.queue, permitEpisode := false })
      let s := if c.save && !s.pwr.saveStarted then
          (s.modPwr (fun p => { p with saveStarted := true })).setF (pg 1 0x54) 3 0 3
        else s
      let s := (s.setB (pg 0x39 0x44) 8 false).setB (pg 0x39 0x44) 1 true
      s.setF (pg 0x39 0x44) 31 24 (min 255 (s.recs.queue.filter (fun c => !c.started)).length)
    else if s.pwr.st == .hold then
      if s.pwr.saving then s.modPwr (fun p => { p with saveRefused := true }) else s
    else if s.recs.permitEpisode then s
    else
      let s := s.modRec (fun r => { r with permitEpisode := true })
      (((s.setB (pg 0x39 0x44) 8 true).bump (pg 0x39 0x84) 15 0 1)).raise 0x39 4 0

/-- The COMMIT entry of a commit (R447). -/
def Block.commitEntry (s : Block) (c : Commit) (segs seq addr len result : Nat) : Block :=
  if s.pwr.st == .hold then s
  else
    let body := leBytes 2 c.id ++ leBytes 1 segs ++ leBytes 1 c.flags ++ leBytes 4 seq ++ leBytes 3 addr ++ leBytes 1 c.cls
      ++ leBytes 2 len ++ leBytes 1 result ++ [0#8]
    s.put 9 [⟨0x0901, s.stampNow, 0, s.gen 0x39, body⟩]

/-- One segment written under R431; the address written. -/
def Block.writeSeg (s : Block) (id : Nat) (d : RecDef) (seg : Nat) (newest : Option Nat) (seq flags : Nat) (pl : List Byte) : Block × Nat :=
  let p := s.segSeqs id d seg
  let ab := match newest with
    | none => 0
    | some q => if p.1 = some q && p.2 ≠ some q then 1 else 0
  (s.feramPut (d.slot seg ab) (slotBytes id seg d.nseg seq flags pl), ab)

/-- A DEMAND segment whose window waits for its signature carries SIGN_PENDING (R339, R443). -/
def segFlags (id : Nat) (pl : List Byte) : Nat := if id = 0x32 && ((pl.drop 125).headD 0).getLsbD 2 then 2 else 0

/-- All segments of a set, in ascending order (R432); the slots written. -/
def Block.writeSet (s : Block) (id : Nat) (d : RecDef) (newest : Option Nat) (seq flags : Nat) :
    Nat → List (List Byte) → Block × List Nat
  | _, [] => (s, [])
  | k, pl :: t =>
    let r := s.writeSeg id d k newest seq (flags ||| segFlags id pl) pl
    let r2 := Block.writeSet r.1 id d newest seq flags (k + 1) t
    (r2.1, r.2 :: r2.2)

/-- The duplicate pass (R432): the other slot of every segment, FLAGS.DUP set. -/
def Block.writeDup (s : Block) (id : Nat) (d : RecDef) (seq flags : Nat) : Nat → List (List Byte) → List Nat → Block
  | k, pl :: t, ab :: u =>
    Block.writeDup (s.feramPut (d.slot k (1 - ab)) (slotBytes id k d.nseg seq (flags ||| 1) pl)) id d seq flags (k + 1) t u
  | _, _, _ => s

/-- REC_STAT after a change of the queue. -/
def Block.showQueue (s : Block) : Block :=
  let s := s.setF (pg 0x39 0x44) 31 24 (min 255 (s.recs.queue.filter (fun c => !c.started)).length)
  s.setB (pg 0x39 0x44) 1 (s.recs.queue.any (fun c => c.started))

/-- The journal's registers (R451). -/
def Block.showJrn (s : Block) : Block :=
  let l := s.recs.jrn
  let new := (l.getLast?.map (·.lseq)).getD 0
  let old := (l.head?.map (·.lseq)).getD 0
  let s := (s.set64 (pg 0x39 0x60) new).set64 (pg 0x39 0x68) old
  s.setF (pg 0x39 0x70) 6 0 l.length

/-- The journal region (R428) and the placement of an entry of n bytes (R439). -/
def jrnBase : Nat := 0x029C00
def jrnEnd : Nat := 0x02F400
def Block.jrnPlace (s : Block) (n : Nat) : Nat := if s.recs.jrnNext + n ≤ jrnEnd then s.recs.jrnNext else jrnBase

/-- The consecutive LSEQs at the end of a list of entries (R439, R451). -/
def jrnHeld (l : List JrnEntry) : List JrnEntry :=
  l.foldl (fun run e => match run.getLast? with
    | some x => if x.lseq + 1 = e.lseq then run ++ [e] else [e]
    | none => [e]) []

/-- An entry written at a place overwrites what it overlaps; the newest 64 are kept (R439). -/
def Block.jrnAdd (s : Block) (lseq addr n : Nat) : Block :=
  let n16 := (n + 15) / 16 * 16
  let keep := s.recs.jrn.filter (fun e => e.addr + e.len ≤ addr || addr + n16 ≤ e.addr)
  let l := jrnHeld (keep ++ [⟨lseq, addr, n16⟩])
  (s.modRec (fun r => { r with jrn := l.drop (l.length - 64), jrnNext := addr + n16 })).showJrn

/-- The slot that DUPLICATE writes first (R446): the one that does not hold the SEQ, or B. -/
def Block.dupFirst (s : Block) (id : Nat) (d : RecDef) (k q : Nat) : Nat :=
  let p := s.segSeqs id d k
  if p.2 = some q && p.1 ≠ some q then 0 else 1

/-- COMMIT: the commit in progress completes (R431, R432, R437, R447): its bytes are in the FeRAM and its entry in RING9.
A record in CONFLICT is skipped (R444). Answers the commit that completed and whether it was written. -/
def Block.commitDone (s : Block) : Block × Option (Commit × Bool) :=
  match s.activeCommit with
  | none => (s, none)
  | some c =>
    let s := s.modRec (fun r => { r with queue := replaceFirst c [] r.queue })
    let s := s.showQueue
    match c.kind, recDef c.id with
    | .at addr, _ =>
      let pl := c.payloads.headD []
      let seq := c.seq.getD 0
      let addr := if c.id = 0x0100 then s.jrnPlace (16 + pl.length) else addr
      let s := s.feramPut addr (slotBytes c.id 0 1 seq c.flags pl)
      let s := if c.id = 0x0100 then s.jrnAdd (leNat (pl.take 6)) addr (16 + pl.length) else s
      let s := s.wrapAdd (pg 0x39 0x78) 1
      (s.commitEntry c 1 seq addr pl.length 0, some (c, true))
    | .set, some d =>
      if s.recs.conflicts.contains c.id then
        let s := s.bump (pg 0x39 0x80) 15 0 1
        (s.commitEntry c 0 0 (d.slot 0 0) d.len 1, some (c, false))
      else
        let newest := s.chosenSeq c.id d
        let seq := c.seq.getD (match newest with
          | none => 1
          | some q => (q + 1) % 2 ^ 32)
        let r := s.writeSet c.id d newest seq c.flags 0 c.payloads
        let s := if d.dup then r.1.writeDup c.id d seq c.flags 0 c.payloads r.2 else r.1
        let s := s.modRec (fun r => { r with states := r.states.filter (fun p => p.1 ≠ c.id) })
        let s := s.wrapAdd (pg 0x39 0x78) 1
        (s.commitEntry c d.nseg seq (d.slot 0 (r.2.headD 0)) d.len 0, some (c, true))
    | .dup, some d =>
      match s.chosenSeq c.id d with
      | none => (s, none)
      | some q =>
        if s.recs.conflicts.contains c.id then
          (((s.bump (pg 0x39 0x80) 15 0 1)).commitEntry c 0 q (d.slot 0 0) d.len 1, some (c, false))
        else
          let at0 := s.dupFirst c.id d 0 q
          let s := forEach (List.range d.nseg) (fun k s =>
            let pl := s.segPayload c.id d k q
            let first := s.dupFirst c.id d k q
            let b := slotBytes c.id k d.nseg q (1 ||| segFlags c.id pl) pl
            (s.feramPut (d.slot k first) b).feramPut (d.slot k (1 - first)) b) s
          let s := s.wrapAdd (pg 0x39 0x78) 1
          (s.commitEntry { c with flags := 1 } d.nseg q (d.slot 0 at0) d.len 0, some (c, true))
    | _, none => (s, none)

/-- Latch commits waiting (R436): their journal entries not started. -/
def Block.latchWaiting (s : Block) : List Commit := s.recs.queue.filter (fun c => c.id = 0x0100 && !c.started)

/-- The latch commit of R437 joins the queue: journal entry, TOTALS set, DEMAND set, THERMAL record. Older TOTALS sets
that wait are dropped; a ninth waiting latch abandons the oldest (R436). more: in the save another latch follows, behind which
DEMAND and THERMAL come (R440). Answers the LSEQ abandoned. -/
def Block.enqueueLatch (s : Block) (lseq : Nat) (jrn : List Byte) (totals demand : List (List Byte)) (therm : List Byte)
    (flags : Nat) (save more : Bool) : Block × Option Nat :=
  let drop := if 8 ≤ s.latchWaiting.length then s.latchWaiting.head? else none
  let s := match drop with
    | none => s
    | some c =>
      let s := s.modRec (fun r => { r with queue := replaceFirst c [] r.queue })
      let s := s.bump (pg 0x39 0x88) 15 0 1
      (s.raise 0x39 5 (c.seq.getD 0)).commitEntry c 0 (c.seq.getD 0) 0 (c.payloads.headD []).length 2
  let s := s.modRec (fun r => { r with queue := r.queue.filter (fun c => !(c.id = 0x34 && !c.started && !c.save)) })
  let mk (kind : CommitKind) (id : Nat) (seq : Option Nat) (pl : List (List Byte)) : Commit :=
    ⟨kind, id, 0, seq, flags / 4 * 4, pl, false, save⟩
  let s := s.enqueue { mk (.at 0) 0x0100 (some (lseq % 2 ^ 32)) [jrn] with flags := flags }
  let s := s.enqueue (mk .set 0x34 (some (lseq % 2 ^ 32)) totals)
  let s := if more then s else (s.enqueue (mk .set 0x32 none demand)).enqueue (mk .set 0x20 none [therm])
  (s, drop.map (fun c => leNat ((c.payloads.headD []).take 6)))

/-! ### Scan (R441 to R443) -/

/-- Every slot-pair record the scan reads, in its order: SYSTEM first, then ascending ID. -/
def scanIds : List Nat :=
  [0x01] ++ (List.range 16).map (· + 0x10) ++ [0x20, 0x21, 0x22, 0x30, 0x31, 0x32, 0x33, 0x34] ++ (List.range 65).map (· + 0x40)

/-- Torn slots of a record (R441): named for their place and invalid; each with whether it holds no older SEQ. -/
def Block.tornSlots (s : Block) (id : Nat) (d : RecDef) (chosen : Option Nat) : List Bool :=
  ((List.range d.nseg).map (fun k => ([0, 1].filter (fun ab =>
      s.slotNamed (d.slot k ab) id k d.nseg && !s.slotValid (d.slot k ab) id k d.nseg d.len)).map (fun ab =>
        match chosen with
        | none => true
        | some q => !seqNewer q (s.slotSeq (d.slot k ab))))).flatten

/-- One record scanned: its state, and what it raises (R441). -/
def Block.scanRec (s : Block) (id : Nat) : Block :=
  match recDef id with
  | none => s
  | some d =>
    let q := s.chosenSeq id d
    let torn := s.tornSlots id d q
    let s := s.bump (pg 0x39 0x7C) 15 0 torn.length
    match q with
    | none =>
      let s := s.modRec (fun r => { r with states := Sparse.put id 2 r.states })
      let s := s.bump (pg 0x39 0x74) 23 16 1
      s.raiseLater 0x39 2 id
    | some q =>
      if !(s.conflictSegs id d).isEmpty then
        let s := s.modRec (fun r => { r with conflicts := r.conflicts ++ [id] })
        (s.bump (pg 0x39 0x74) 15 8 1).raiseLater 0x39 1 id
      else
        let newerPart := (List.range d.nseg).any (fun k =>
          let p := s.segSeqs id d k
          (match p.1 with
            | some a => seqNewer a q
            | none => false) || (match p.2 with
            | some a => seqNewer a q
            | none => false))
        if torn.any (fun b => b) || newerPart then
          let s := s.modRec (fun r => { r with states := Sparse.put id 1 r.states })
          (s.bump (pg 0x39 0x74) 31 24 1).raiseLater 0x39 3 id
        else s

/-- CONFLICT and REC_STAT after conflicts changed (R450, R451). -/
def Block.showConflicts (s : Block) : Block :=
  let l := s.recs.conflicts
  let low := l.foldl (fun m x => if m = 0 ∨ x < m then x else m) 0
  (s.setN (pg 0x39 0x5C) (min 255 l.length * 65536 + low)).setB (pg 0x39 0x44) 2 (!l.isEmpty)

/-- A valid journal entry at an address (R430, R438): its LSEQ and length. -/
def Block.jrnAt (s : Block) (a : Nat) : Option JrnEntry :=
  let len := leNat (s.feramRead (a + 8) 2)
  if a + 16 + len ≤ jrnEnd && 32 ≤ len && s.slotValid a 0x0100 0 1 len then
    some ⟨leNat (s.feramRead (a + 16) 6), a, (16 + len + 15) / 16 * 16⟩
  else none

/-- All valid journal entries of the region. -/
def Block.jrnFind (s : Block) : List JrnEntry :=
  (List.range ((jrnEnd - jrnBase) / 16)).filterMap (fun i => s.jrnAt (jrnBase + 16 * i))

/-- The held run (R442): consecutive LSEQs that end at the newest valid entry, oldest first. -/
def jrnRun (l : List JrnEntry) : Nat → List JrnEntry
  | 0 => []
  | fuel + 1 =>
    let newest := l.foldl (fun (m : Option JrnEntry) e => match m with
      | none => some e
      | some x => if x.lseq < e.lseq then some e else some x) none
    match newest with
    | none => []
    | some n => (l.filter (fun e => e.lseq + fuel ≥ n.lseq && (List.range (n.lseq - e.lseq + 1)).all (fun i =>
        l.any (fun x => x.lseq = e.lseq + i)))).foldl (fun out e =>
          (out.filter (fun x => x.lseq < e.lseq)) ++ [e] ++ (out.filter (fun x => e.lseq < x.lseq))) []

/-- Torn journal entries (R441): headers that name one, where no valid entry lies and the next is not due. -/
def Block.jrnTorn (s : Block) (found : List JrnEntry) (next : Nat) : List Nat :=
  ((List.range ((jrnEnd - jrnBase) / 16)).map (fun i => jrnBase + 16 * i)).filter (fun a =>
    a ≠ next && s.slotNamed a 0x0100 0 1 && !found.any (fun e => decide (e.addr ≤ a) && decide (a < e.addr + e.len)))

/-- The record scan up to SCAN_DONE: records, then the journal. -/
def Block.scanAll (s : Block) : Block :=
  let s := forEach scanIds (fun id s => s.scanRec id) s
  let found := s.jrnFind
  let run := jrnRun found 64
  let next := match run.getLast? with
    | some e => e.addr + e.len
    | none => jrnBase
  let cut := !(found.any (fun e => e.addr = next)) && s.slotNamed next 0x0100 0 1 && decide (next + 16 ≤ jrnEnd)
  let s := s.modRec (fun r => { r with jrn := run, jrnNext := next, jrnRecovered := cut })
  let s := s.bump (pg 0x39 0x7C) 15 0 (s.jrnTorn found next).length
  let s := if cut then (s.bump (pg 0x39 0x7C) 15 0 1).raiseLater 0x39 3 0x0100 else s
  (s.showJrn.showConflicts).setB (pg 0x39 0x44) 0 true

/-! ### Registers of the page (R450, R451) -/

/-- SEQs of the positions of the image store that hold an image (R178, R430). -/
def Block.imageSeqs (s : Block) : List Nat :=
  ((List.range 4).filter (fun k => s.slotNamed (0x038C00 + 16640 * k) 0x0120 0 1)).map (fun k => s.slotSeq (0x038C00 + 16640 * k))
def newestSeq (l : List Nat) : Nat := (l.head?.map (fun x => l.foldl (fun b q => if seqNewer q b then q else b) x)).getD 0

/-- State of a record as REC_INFO shows it. -/
def Block.recState (s : Block) (id : Nat) : Nat :=
  if s.recs.conflicts.contains id then 3
  else if (recDef id).isSome then Sparse.get 0 id s.recs.states
  else if id = 0x100 then (if s.recs.jrnRecovered then 1 else if s.recs.jrn.isEmpty then 2 else 0)
  else if id = 0x110 then (if s.led.sheaves.isEmpty then 2 else 0)
  else if id = 0x120 then (if s.imageSeqs.isEmpty then 2 else 0)
  else 4

def Block.recInfo (s : Block) (id : Nat) : Nat :=
  match recDef id with
  | some d => s.recState id * 2 ^ 28 + b2n d.dup * 2 ^ 24 + d.nseg * 2 ^ 16 + d.len
  | none => s.recState id * 2 ^ 28 + (if s.recState id = 4 then 0 else 2 ^ 16)

def Block.recSeq (s : Block) (id : Nat) : Nat :=
  match recDef id with
  | some d => (s.chosenSeq id d).getD 0
  | none => match id with
    | 0x100 => ((s.recs.jrn.getLast?.map (·.lseq)).getD 0) % 2 ^ 32
    | 0x110 => (s.led.sheaves.head?.map (·.2)).getD 0
    | 0x120 => newestSeq s.imageSeqs
    | _ => 0

def recSlotAddr (id ab : Nat) : Nat :=
  match recDef id with
  | some d => d.slot 0 ab
  | none => if ab = 1 then 0 else match id with
    | 0x100 => jrnBase
    | 0x110 => 0x049000
    | 0x120 => 0x038C00
    | _ => 0

/-- DUPLICATE (R446, R450). -/
def Block.recDuplicate (s : Block) (id : Nat) : Block :=
  match recDef id with
  | some d =>
    if s.recState id = 2 || s.recState id = 3 then s.raise 0x39 7 0
    else s.enqueue ⟨.dup, id, d.cls, none, 1, [], false, false⟩
  | none => s.raise 0x39 7 0

/-- RESOLVE accepted (R445, R450): on a record in CONFLICT only. -/
def Block.recResolve (s : Block) (id slot : Nat) : Block :=
  if s.recs.conflicts.contains id then s.modRec (fun r => { r with resolve := r.resolve.filter (fun x => x.1 ≠ id) ++ [(id, slot)] })
  else s.raise 0x39 7 0

/-- Soft reset of REC (R448). -/
def Block.recSoftReset (s : Block) : Block :=
  forEach [0x48, 0x78, 0x80, 0x84, 0x88] (fun o s => s.setR (pg 0x39 o) (regReset (pg 0x39 o))) s

end Sys2Proof.Machine
end

