-- ==== Sys2Proof/Machine/Stage.lean ====
section
/-! DEFINITION. The log store's settings and its staging buffer (R453, R456, R457, R463): what units offer to its streams. -/

namespace Sys2Proof.Machine

def Block.modStor (s : Block) (f : Store → Store) : Block := { s with stor := f s.stor }

def Block.logStream (s : Block) (k : Nat) : LogStream := nth LogStream.reset s.stor.streams k
def Block.modStream (s : Block) (k : Nat) (f : LogStream → LogStream) : Block :=
  s.modStor (fun t => { t with streams := modNth t.streams k f })

/-- Field checks of the page (R473, R475). -/
def storRules : List FieldRule := [⟨0x40, 0x44, 27, 24, fun v => 2 ≤ v, 2⟩, ⟨0x94, 0x94, 2, 0, fun v => v ≤ 4, 2⟩]

def devCfg (cs : Nat) : Nat := pg 0x3A (0x40 + 4 * cs)
def regCfg (k : Nat) : Nat := pg 0x3A (0x68 + 4 * k)
def regUnits (k : Nat) : Nat := pg 0x3A (0x7C + 4 * k)

/-- Block of a chip select in STOR_STAT (R474). -/
def Block.csState (s : Block) (cs : Nat) : Nat := s.fld (pg 0x3A 0x5C) (19 + 4 * cs) (16 + 4 * cs)
def Block.setCs (s : Block) (cs v : Nat) : Block := s.setF (pg 0x3A 0x5C) (19 + 4 * cs) (16 + 4 * cs) v
def csUnmounted : Nat := 0
def csMounting : Nat := 1
def csMounted : Nat := 2
def csReadOnly : Nat := 3
def csAbsent : Nat := 4
def csFailed : Nat := 5
def csFormatting : Nat := 6

/-- Chip select of a stream, and whether its region is enabled (R475). -/
def Block.streamCs (s : Block) (k : Nat) : Nat := s.fld (regCfg k) 28 28
def Block.streamOn (s : Block) (k : Nat) : Bool := s.rbit (regCfg k) 31
/-- Streams whose region lies on a chip select. -/
def Block.streamsOf (s : Block) (cs : Nat) : List Nat := (List.range 5).filter (fun k => s.streamOn k && s.streamCs k == cs)

/-- DEV_CFG keeps the ranges of R453. -/
def Block.devOk (s : Block) (cs : Nat) : Bool :=
  let w := s.getR (devCfg cs)
  let page := w.bits 12 8
  let unit := w.bits 20 16
  let size := w.bits 7 2
  decide (20 ≤ size) && decide (size ≤ 32) && (match w.bits 1 0 with
    | 1 => decide (8 ≤ page) && decide (page ≤ 9) && decide (12 ≤ unit) && decide (unit ≤ 18)
    | 0 => false
    | _ => decide (11 ≤ page) && decide (page ≤ 12) && decide (17 ≤ unit) && decide (unit ≤ 19))

def Block.unitSize (s : Block) (cs : Nat) : Nat := 2 ^ s.fld (devCfg cs) 20 16

/-- Units of a stream's region that can be used (R456, R461). -/
def Block.usable (s : Block) (k : Nat) : List Nat :=
  let start := s.fld (regCfg k) 19 0
  let super := if s.fld (devCfg (s.streamCs k)) 1 0 = 1 then [0, 1] else []
  ((List.range (s.fld (regUnits k) 19 0)).map (start + ·)).filter (fun u =>
    !(s.logStream k).bad.contains u && !super.contains u)

/-- Regions a FORMAT of cs may lay out (R456). -/
def Block.regionsOk (s : Block) (cs : Nat) : Bool :=
  let l := (s.streamsOf cs).map (fun k => (s.fld (regCfg k) 19 0, s.fld (regUnits k) 19 0))
  let total := 2 ^ (s.fld (devCfg cs) 7 2 - s.fld (devCfg cs) 20 16)
  l.all (fun r => decide (4 ≤ r.2) && decide (r.1 + r.2 ≤ total))
    && (List.range l.length).all (fun i => (List.range i).all (fun j =>
      let a := nth (0, 0) l i
      let b := nth (0, 0) l j
      decide (a.1 + a.2 ≤ b.1) || decide (b.1 + b.2 ≤ a.1)))

/-! ### RING10 and the staging buffer -/

/-- A STOR_STATUS entry (R471). -/
def Block.storEntry (s : Block) (kind stream cs rseq cnt : Nat) : Block :=
  s.put 10 [⟨0x0A01, s.stampNow, 0, s.gen 0x3A,
    leBytes 1 kind ++ leBytes 1 stream ++ leBytes 1 cs ++ [0#8] ++ leBytes 8 rseq ++ leBytes 4 (min 0xFFFFFFFF cnt)⟩]

/-- Bytes a record takes: header and payload in whole 16 bytes (R459); a capture's payload stays in its slot (R245). -/
def LogRec.size (r : LogRec) : Nat := match r.src with
  | .capture _ => 32
  | _ => 32 + (r.body.length + 15) / 16 * 16

/-- Bytes staged (R475). -/
def Block.stageUsed (s : Block) : Nat :=
  (s.stor.streams.map (fun t => (t.staged.map LogRec.size).foldl (· + ·) 0)).foldl (· + ·) 0

/-- The controller holds its request while staging holds data (R463). -/
def Block.storRequest (s : Block) : Block :=
  if (s.pwr.st == .run || s.pwr.st == .lean) && decide (0 < s.stageUsed) then (s.arbOperation 0x3A 2 10).1
  else s.arbRelease 0x3A

/-- A record lost whole (R463). -/
def Block.logLose (s : Block) (k stamp : Nat) : Block :=
  let first := (s.logStream k).gapCnt = 0
  let s := s.modStream k (fun t =>
    { t with
      lost := satAdd 0xFFFFFFFF t.lost 1
      gapCnt := satAdd 0xFFFFFFFF t.gapCnt 1
      gapStamp := if t.gapCnt = 0 then stamp else t.gapStamp })
  if first then s.raise 0x3A 3 0 else s

/-- The GAP record owed (R459). -/
def gapRec (t : LogStream) (stamp : Nat) : LogRec := ⟨0xFFFE, 1, stamp, leBytes 4 t.gapCnt ++ [0#8, 0#8, 0#8, 0#8] ++ leBytes 8 t.gapStamp, .plain⟩

/-- The stream takes records: not switched off with its page, FULL, FAILED, on a chip select that is ABSENT, READ_ONLY or FAILED, or
on one that UNMOUNT drains (R461, R465, R466, R468, R470). -/
def Block.streamTakes (s : Block) (k : Nat) : Bool :=
  let t := s.logStream k
  let c := s.csState (s.streamCs k)
  let leaving := match s.stor.cmd with
    | some (2, cs, _) => s.streamOn k && cs == s.streamCs k
    | _ => false
  s.pageState 0x3A == psRun && decide (t.st ≤ 2) && !leaving && !(s.streamOn k && (c == csAbsent || c == csReadOnly || c == csFailed))

/-- A record is offered to a stream (R457, R463). -/
def Block.stage (s : Block) (k : Nat) (r : LogRec) : Block :=
  let t := s.logStream k
  if s.pwr.st == .hold || !s.powered then s
  else if !s.streamOn k && s.csState (s.streamCs k) == csMounted then s
  else if !s.streamTakes k then s.logLose k r.stamp
  else
    let gap := if 0 < t.gapCnt then [gapRec t r.stamp] else []
    let need := ((gap ++ [r]).map LogRec.size).foldl (· + ·) 0
    if 0x10000 < s.stageUsed + need then s.logLose k r.stamp
    else
      let s := if gap.isEmpty then s else s.storEntry 4 k (s.streamCs k) (t.nextRseq + t.staged.length) t.gapCnt
      let s := s.modStream k (fun t =>
        { t with
          staged := t.staged ++ gap ++ [r]
          gapCnt := 0
          catchUp := t.catchUp || (!gap.isEmpty && (k == 1 || k == 2)) })
      s.storRequest

/-- A copy of ring entries, verbatim (R457): the record's TYPE, stamp and INJ are those of its first entry. -/
def logOf (es : List Entry) (seq : Nat) (src : LogSource) : LogRec :=
  let bytes := (es.foldl (fun (p : List Byte × Nat) e => (p.1 ++ e.bytes p.2, p.2 + 1)) ([], seq)).1
  match es with
  | e :: _ => ⟨e.type, (e.flags % 2) * 16, e.stamp, bytes, src⟩
  | [] => ⟨0, 0, 0, bytes, src⟩

/-- Entries of RING6 and RING7: every HARM_DIV-th of a source is copied (R457). -/
def Block.putHarm (s : Block) (ring src : Nat) (e : Entry) : Block :=
  let r := logOf [e] (s.getN (dSeq ring)) .plain
  let s := s.put ring [e]
  let div := s.fld (pg 0x3A 0x90) 15 0
  let key := 64 * ring + src
  let n := Sparse.get 0 key s.stor.harm + 1
  if div = 0 then s
  else if n < div then s.modStor (fun t => { t with harm := Sparse.set 0 key n t.harm })
  else (s.modStor (fun t => { t with harm := Sparse.set 0 key 0 t.harm })).stage 3 r

end Sys2Proof.Machine
end

