-- ==== Sys2Proof/Machine/Flags.lean ====
section
/-! DEFINITION. The flag computations of the metering path: causes and their precedence (R79), the sample word (R78), and
which modulator stands in which slot (R65, R76). -/

namespace Sys2Proof.Machine

def Block.mod (s : Block) (m : Nat) : Modulator := nth Modulator.reset s.mods m
def Block.modMod (s : Block) (m : Nat) (f : Modulator → Modulator) : Block := { s with mods := modNth s.mods m f }
def Block.modAll (s : Block) (f : Modulator → Modulator) : Block := { s with mods := s.mods.map f }
def Block.modSpare (s : Block) (f : Spare → Spare) : Block := { s with spare := f s.spare }

/-- Page of channel n (R95). -/
def chPage (n : Nat) : Nat := 0x07 + n

/-- Channel SP is connected to in parallel with its own modulator (R141): OVERLAP_OUT, or OVERLAP_BACK. -/
def Block.parallel (s : Block) : Option Nat :=
  if s.spare.state = 2 || s.spare.state = 4 then some s.spare.ch else none

/-- The modulator whose words slot n carries (R65). -/
def Block.slotMod (s : Block) (n : Nat) : Nat :=
  if n = 16 then s.spare.served.getD 16 else if s.spare.served = some n then 16 else n

/-- The channel whose settings modulator m runs under: its own, or for SP the one it serves or is connected to (R75,
R116); 16 where SP runs alone. -/
def Block.chanOf (s : Block) (m : Nat) : Nat :=
  if m < 16 then m
  else match s.spare.served with
    | some n => n
    | none => if s.spare.state = 2 then s.spare.ch else 16

/-- The channel whose pins modulator m is on, if any: a freed or idle one is on none (R74, R75). -/
def Block.pinsOf (s : Block) (m : Nat) : Option Nat :=
  if m < 16 then (if s.spare.served = some m && s.spare.state ≠ 4 then none else some m)
  else match s.spare.served with
    | some n => some n
    | none => if s.spare.state = 2 then some s.spare.ch else none

/-- Precedence of a cause, 1 highest (R79). -/
def causeRank (c : Nat) : Nat := nth 9 [9, 5, 4, 3, 1, 6, 2, 7] c

/-- The cause of highest precedence among several; 0 where none applies. -/
def topCause (l : List Nat) : Nat := l.foldl (fun best c => if best = 0 ∨ causeRank c < causeRank best then c else best) 0

/-- The causes that apply to the words of modulator m now (R79 to R90, R44). -/
def Block.causes (s : Block) (m : Nat) : List Nat :=
  let d := s.mod m
  let pin := (s.pinsOf m).map s.mod
  let ch := pin.getD d
  (if !d.powered then [4] else [])
    ++ (if d.onSource then [3] else [])
    ++ (if d.ovlHeld.isSome || 0 < d.ovlLeft || 0 < d.ovlInjHold || (pin.isSome && (ch.cmFault || decide (0 < ch.cmLeft))) then [2] else [])
    ++ (if 0 < d.settleLeft || d.refFault || 0 < d.refInjLeft then [1] else [])
    ++ (if pin.isSome && (ch.nbrNow || decide (0 < ch.nbrLeft) || decide (0 < ch.nbrInjLeft)) then [5] else [])
    ++ (if s.cause7 then [7] else [])

/-- The causes that count for the wideband branch: not 7, and not 1 of a change in S4, S6 or the shifts (R120). -/
def Block.wideCauses (s : Block) (m : Nat) : List Nat :=
  let d := s.mod m
  (s.causes m).filter (fun c => c ≠ 7 && !(c == 1 && !d.refFault && d.refInjLeft = 0 && d.settleWide = 0))

/-- An injected happening marks the words of modulator m (R78 bit 4). -/
def Block.wordInj (s : Block) (m : Nat) : Bool :=
  let d := s.mod m
  let nbr := match s.pinsOf m with
    | some n => decide (0 < (s.mod n).nbrInjLeft) && !(s.mod n).nbrNow && (s.mod n).nbrLeft == 0
    | none => false
  (d.ovlInj && (decide (0 < d.ovlLeft) || decide (0 < d.ovlInjHold))) || nbr
    || decide (0 < d.refInjLeft) || (s.cause7 && s.warp.holdInj)

/-- The sample word (R78): code, OVR, SPARE, INJ, CAUSE; VALID when no cause applies. -/
def sampleWord (code : Int) (ovr spare inj : Bool) (cause : Nat) : Word :=
  BitVec.ofNat 32 (unsignedOf 24 code * 256 + b2n (cause == 0) * 128 + b2n ovr * 64 + b2n spare * 32 + b2n inj * 16 + cause % 16)

/-- The clamp code of a polarity (R80). -/
def clampCode (pos : Bool) : Int := if pos then 0x7FFFFF else -0x7FFFFF

end Sys2Proof.Machine
end

