-- ==== Sys2Proof/Machine/Filter.lean ====
section
/-! DEFINITION. The metering chain S1 to S6 (R101 to R116), its coefficient banks (R106 to R109, R127) and the calibration
point (R112, R134). -/

namespace Sys2Proof.Machine

/-! ### Coefficient banks -/

def Block.modFlt (s : Block) (f : Filter → Filter) : Block := { s with flt := f s.flt }

/-- Address of PROF_CFG[k]. -/
def profCfg (k : Nat) : Nat := pg 0x18 (0xC8 + 4 * k)

/-- Active bank of profile k (R126). -/
def Block.profActive (s : Block) (k : Nat) : Nat := s.fld (profCfg k) 16 16
/-- Taps of a bank of profile k. -/
def Block.taps (s : Block) (k bank : Nat) : Nat := if bank = 0 then s.fld (profCfg k) 6 0 else s.fld (profCfg k) 14 8

/-- What the spec states of D96 (R106, R107): symmetric, unity DC gain, signed 18-bit coefficients. -/
def d96Ok (c : Nat → Int) : Bool :=
  (List.range 96).all (fun i => c i == c (95 - i) && decide (-131072 ≤ c i) && decide (c i ≤ 131071))
    && ((List.range 96).map c).foldl (· + ·) 0 == 32768

/-- The default profile D96: the ROM's coefficients, which keep `d96Ok` (R107). -/
def d96 (i : Nat) : Int := if d96Ok Config.d96Rom then Config.d96Rom i else if i = 47 || i = 48 then 16384 else 0

/-- A coefficient: what the host wrote, or D96 (R107). -/
def Block.coef (s : Block) (k bank i : Nat) : Int := Sparse.get (d96 i) ((2 * k + bank) * 96 + i) s.flt.coefs

/-- The bank is in use or waits for its activation (R108). -/
def Block.bankBusy (s : Block) (k bank : Nat) : Bool :=
  s.profActive k == bank || (s.rbit (profCfg k) 18 && s.fld (profCfg k) 24 24 == bank)

/-- CRC of a bank: TAPS, then the coefficients sign-extended (R108). -/
def Block.bankCrc (s : Block) (k bank : Nat) : Word :=
  let n := s.taps k bank
  crc32 (leBytes 4 n ++ ((List.range n).map (fun i => leBytes 4 (unsignedOf 32 (s.coef k bank i)))).flatten)

/-- PROFILE, BANK and INDEX of COEF_ADDR (R127). -/
def Block.coefAt (s : Block) : Nat × Nat × Nat := (s.fld (pg 0x18 0xD8) 9 8, s.fld (pg 0x18 0xD8) 7 7, s.fld (pg 0x18 0xD8) 6 0)

/-- COEF_DATA shows the addressed coefficient. -/
def Block.loadCoef (s : Block) : Block :=
  let a := s.coefAt
  s.setN (pg 0x18 0xDC) (unsignedOf 32 (s.coef a.1 a.2.1 a.2.2))

/-- INDEX advances, from 95 to 0; COEF_DATA follows it once COEF_ADDR has been written (R127). -/
def Block.nextCoef (s : Block) : Block :=
  let i := s.fld (pg 0x18 0xD8) 6 0
  let t := s.setF (pg 0x18 0xD8) 6 0 (if 95 ≤ i then 0 else i + 1)
  if s.flt.addrSet then t.loadCoef else t

/-- COEF_CRC follows the addressed bank once COEF_ADDR has been written (R108, R127). -/
def Block.loadCrc (s : Block) : Block :=
  if s.flt.addrSet then s.setR (pg 0x18 0xE0) (s.bankCrc s.coefAt.1 s.coefAt.2.1) else s

/-- A write of COEF_ADDR (R127). -/
def Block.coefAddr (s : Block) (v : Word) : Block :=
  if 95 < v.bits 6 0 then s.raise 0x18 3 0
  else
    (((s.setF (pg 0x18 0xD8) 9 0 (v.bits 9 0)).modFlt (fun f => { f with addrSet := true })).loadCoef).loadCrc

/-- A write of COEF_DATA (R108, R127). -/
def Block.coefWrite (s : Block) (v : Word) : Block :=
  let a := s.coefAt
  if s.bankBusy a.1 a.2.1 then (s.raise 0x18 2 0).nextCoef
  else
    let s := s.modFlt (fun f => { f with coefs := Sparse.put ((2 * a.1 + a.2.1) * 96 + a.2.2) (signedOf 18 (v.bits 17 0)) f.coefs })
    s.loadCrc.nextCoef

/-- A write of PROF_CFG[k] (R108, R109, R126): tap counts of a bank that is free, and the bank to activate. -/
def Block.profWrite (s : Block) (k : Nat) (v : Word) : Block :=
  let a := profCfg k
  let one (s : Block) (bank hi lo : Nat) : Block :=
    let n := v.bits hi lo
    if n = s.fld a hi lo then s
    else if n = 0 || 96 < n then s.raise 0x18 3 0
    else if s.bankBusy k bank then s.raise 0x18 2 0
    else s.setF a hi lo n
  let s := one (one s 0 6 0) 1 14 8
  let s := s.loadCrc.setF a 24 24 (v.bits 24 24)
  let pending := decide (v.bits 24 24 ≠ s.profActive k)
  (s.setB a 18 pending).setB a 17 (pending && s.rbit a 17)

/-- Field checks of the FLT and WB pages (R125, R130). -/
def fltRules : List FieldRule := [
  ⟨0x84, 0xC4, 28, 24, fun v => 16 ≤ v && v ≤ 24, 3⟩,
  ⟨0x84, 0xC4, 20, 16, fun v => 14 ≤ v && v ≤ 22, 3⟩]
def wbRules : List FieldRule := [
  ⟨0x40, 0x5C, 19, 16, fun v => v ≤ 8, 3⟩,
  ⟨0x40, 0x5C, 12, 8, fun v => v ≤ 16, 3⟩]

/-! ### Settings of a modulator's chain -/

def Block.chainCfg (s : Block) (m : Nat) : Word := s.getR (pg 0x18 (0x84 + 4 * s.chanOf m))
def Block.shiftCfg (s : Block) (m : Nat) : Word := s.getR (pg 0x18 (0x40 + 4 * s.chanOf m))
/-- CH_CFG under which modulator m runs; SP alone keeps its last channel's (R75). -/
def Block.chCfg (s : Block) (m : Nat) : Word :=
  s.getR (pg (chPage (if s.chanOf m < 16 then s.chanOf m else s.spare.ch)) 0x40)

/-- Half-length H of the S4 filter (R106). -/
def Block.halfLen (s : Block) (m : Nat) : Nat :=
  let c := s.chainCfg m
  if c.bit 2 then 0 else (s.taps (c.bits 1 0) (s.profActive (c.bits 1 0)) + 1) / 2

/-- Settling count (R85). -/
def Block.settleCount (s : Block) (m : Nat) : Nat :=
  (((94 : Rat) / 1000000 + (s.halfLen m : Nat) / 128000) * 1024 * s.warp.freq).ceil.toNat + 8

/-- The correction modulator m's words are made under (R134): none on a source (R135). -/
def Block.corrOf (s : Block) (m : Nat) : Correction := if (s.mod m).onSource then Correction.one else nth Correction.one s.spare.corr m

/-- Latency in picks (R111); the phase correction counts where it moves the instant later. -/
def Block.latency (s : Block) (m : Nat) : Nat :=
  let ph := (s.corrOf m).phase
  let d : Rat := if 0 < ph then (ph : Rat) / 4096 else 0
  ((((72 : Rat) / 1000000 + (s.halfLen m : Nat) / 128000) * 1024 * s.warp.freq) + d).ceil.toNat

/-! ### The stages -/

/-- Shift with rounding to nearest even, held within 32 bits (R102); whether it saturated. -/
def shiftSat (x : Int) (n : Nat) : Int × Bool :=
  let q := shrRne x n
  let c := max (-(2 ^ 31 - 1 : Int)) (min (2 ^ 31 - 1) q)
  (c, decide (c ≠ q))

/-- Σ c[i] × x[i]. -/
def fir : List Int → List Int → Int
  | c :: cs, x :: xs => c * x + fir cs xs
  | _, _ => 0

/-- The sinc⁴ ÷8 response: the fourth power of eight ones (R101). -/
def sinc4 : List Int :=
  [1, 4, 10, 20, 35, 56, 84, 120, 161, 204, 246, 284, 315, 336, 344, 336, 315, 284, 246, 204, 161, 120, 84, 56, 35, 20, 10, 4, 1]

/-- Half-band coefficients of S2 and S3 (R105). -/
def s2Coef : List Int := [-1024, 0, 9216, 16384, 9216, 0, -1024]
def s3Coef : List Int := [192, 0, -1600, 0, 9600, 16384, 9600, 0, -1600, 0, 192]

/-- S3 outputs kept: what 96 taps, twelve S5 inputs and an instant moved four picks earlier reach back. -/
def s4Depth : Nat := 160

/-- One modulator bit through S1 to S3 (R101 to R105); the stages that saturated. -/
def chainBit (shift : Word) (c : Chain) (b : Bool) : Chain × List Nat :=
  let c := { c with s1In := ((if b then 1 else -1) :: c.s1In).take 29, clocks := c.clocks + 1 }
  if c.clocks % 8 ≠ 0 then (c, [])
  else
    let y1 := shiftSat (fir sinc4 c.s1In) (shift.bits 3 0)
    let sat1 := if y1.2 then [1] else []
    let c := { c with s2In := (y1.1 :: c.s2In).take 7 }
    if c.clocks % 16 ≠ 0 then (c, sat1)
    else
      let y2 := shiftSat (fir s2Coef c.s2In) (shift.bits 7 4)
      let sat2 := sat1 ++ (if y2.2 then [2] else [])
      let c := { c with s3In := (y2.1 :: c.s3In).take 11 }
      if c.clocks % 32 ≠ 0 then (c, sat2)
      else
        let y3 := shiftSat (fir s3Coef c.s3In) (shift.bits 11 8)
        ({ c with s4In := (y3.1 :: c.s4In).take s4Depth }, sat2 ++ (if y3.2 then [3] else []))

/-- All modulator bits of a pick. -/
def chainBits (shift : Word) (c : Chain) : List Bool → Chain × List Nat
  | [] => (c, [])
  | b :: t =>
    let r := chainBit shift c b
    let r2 := chainBits shift r.1 t
    (r2.1, r.2 ++ r2.2)

/-- The modulator clocks of the pick that ended: one every 24 clock periods (R11). A list of another length is cut, or filled with 0
bits (log 46). -/
def Block.cutBits (s : Block) (bits : List (List Bool)) : List (List Bool) :=
  (List.range 17).map (fun m =>
    let n := s.time.mono / 24 - (s.mod m).chain.clocks
    let l := nth [] bits m
    (l ++ List.replicate (n - l.length) false).take n)

/-- S4 (R106) at S3 output number j of the chain, under a word's settings; an output still to come is held at the latest. -/
def s4At (w : WordCfg) (c : Chain) (j : Int) : Int × Bool :=
  let x := c.s4In.drop ((c.clocks / 32 : Nat) - j).toNat
  shiftSat (match w.s4 with
    | some l => fir l x
    | none => x.headD 0 * 32768) (w.shift.bits 15 12)

/-- What the spec states of the S5 prototype (R110): in each of 256 phases of 12 taps a DC gain of 32,768 and a sum of magnitudes of at
most 1.25 × 2^15; the last tap of phase 0 is 0, since the phase after the last one is phase 0 one input later. -/
def s5Ok (c : Nat → Nat → Int) : Bool :=
  c 0 11 == 0 && (List.range 256).all (fun p =>
    ((List.range 12).map (c p)).foldl (· + ·) 0 == 32768 && decide (((List.range 12).map (fun t => (c p t).natAbs)).foldl (· + ·) 0 ≤ 40960))

/-- Tap t of phase p of S5: the ROM's prototype, which keeps `s5Ok` (R110). -/
def s5Row (p t : Nat) : Int :=
  if s5Ok Config.s5Rom then Config.s5Rom p t else if t = 5 then 32768 - 128 * (p : Int) else if t = 6 then 128 * (p : Int) else 0

/-- The row after phase p: the next phase, after the last one phase 0 an input later. -/
def s5Next (p t : Nat) : Int := if p < 255 then s5Row (p + 1) t else if t = 0 then 0 else s5Row 0 (t - 1)

/-- S5 (R110): the value at a word's instant between S4 outputs, from six on each side, with the prototype interpolated linearly between
two phases; the stages that saturated. An S3 output stands for an instant 118 modulator clocks before it, as the filters of S1 to S3
delay it; `inst` counts that in. An input step is 12,288 units of 1/16 clock period, a phase 48. -/
def s5At (w : WordCfg) (c : Chain) : Int × List Nat :=
  let r := (w.inst % 12288).toNat
  let p := r / 48
  let u : Int := (r % 48 : Nat)
  let ys := (List.range 12).map (fun (t : Nat) => s4At w c (w.inst / 12288 - 5 + t))
  let acc := fir ((List.range 12).map (fun t => s5Row p t * (48 - u) + s5Next p t * u)) (ys.map (·.1))
  let x := shiftSat (roundAny ((acc : Rat) / 48)) (w.shift.bits 19 16)
  (x.1, (if ys.any (·.2) then [4] else []) ++ (if x.2 then [5] else []))

/-- The settings of the word of modulator m stamped at this strobe. -/
def Block.wordCfg (s : Block) (m : Nat) : WordCfg :=
  let d := s.mod m
  let cfg := s.chainCfg m
  let ch := s.chCfg m
  let prof := cfg.bits 1 0
  let bank := s.profActive prof
  let taps := s.taps prof bank
  let k := s.corrOf m
  let delay : Nat := 118 * 24 + (if cfg.bit 2 then 0 else (taps - 1) * 384)
  { inst := roundNear (16 * ((s.time.mono : Rat) + s.time.phase + (k.phase : Rat) * s.time.period / 4096)) + 16 * (delay : Int)
    s4 := if cfg.bit 2 then none else some ((List.range taps).map (s.coef prof bank))
    shift := s.shiftCfg m
    chain := cfg
    corr := k
    raw := d.onSource
    inv := ch.bit 7 && !d.onSource
    rogowski := ch.bits 6 4 = 2 && !d.onSource
    nominal := s.nominalHz
    freq := s.warp.freq
    load := d.s6Load
    locked := s.warp.state == .locked }

/-- S6 states in another GAIN (R115). -/
def Chain.inGain (c : Chain) (g : Nat) : Chain :=
  if c.gain = g then c
  else
    let r : Rat := (2 ^ g : Nat) / (2 ^ c.gain : Nat)
    { c with dcMean := c.dcMean * r, integ := c.integ * r, lastY := c.lastY * r, gain := g }

/-- S6 states that a word begins with: its chain's own, 0, or those of another modulator (R115, R116, R146). -/
def Chain.begin6 (c : Chain) (load : Option (Option Chain)) : Chain :=
  match load with
  | none => c
  | some none => { c with dcMean := 0, integ := 0, lastY := 0 }
  | some (some o) => { c with dcMean := o.dcMean, integ := o.integ, lastY := o.lastY, gain := o.gain }

/-- S6 (R113 to R115) for one input: the value that enters the word, and the new states. Both states run always. -/
def s6Step (w : WordCfg) (c : Chain) (y0 : Int) : Rat × Chain :=
  let x : Rat := y0
  let k := w.chain.bits 20 16
  let l := w.chain.bits 28 24
  let m := c.dcMean + (x - c.dcMean) / (2 ^ k : Nat)
  let y := if w.chain.bit 8 then x - c.dcMean else x
  let gc := 2 * tanPick * w.nominal / (if w.freq = 0 then 1 else w.freq)
  let z := c.integ * (1 - 1 / (2 ^ l : Nat)) + gc * (y + c.lastY) / 2
  (if w.rogowski then z else y, { c with dcMean := m, integ := z, lastY := y })

/-- The correction of R134 on an S5 output. -/
def correct (k : Correction) (x5 : Int) : Int :=
  clampS 32 (max (-(2 ^ 31 - 1 : Int)) (roundRne (((x5 : Rat) - k.ofs) * k.gain / (2 ^ 30 : Nat))))

/-- The code of a pick: S6 shift (R102) and clamp (R103), then INV (R73); whether it was clamped, whether the shift saturated. -/
def finishCode (shift : Nat) (inv : Bool) (v : Rat) : Int × Bool × Bool :=
  let q := roundRne (v / (2 ^ shift : Nat))
  let c := max (-0x7FFFFF : Int) (min 0x7FFFFF q)
  (if inv then -c else c, decide (c ≠ q), decide ((2 ^ 31 - 1 : Int) < q ∨ q < -(2 ^ 31 - 1 : Int)))

/-- Saturation bookkeeping (R103): sticky bit, latest stage, one event per episode; an episode ends after a clean cycle. -/
def Block.noteSat (s : Block) (m : Nat) (stages : List Nat) : Block :=
  match stages.getLast? with
  | none => s
  | some st =>
    let s := (s.setB (pg 0x18 0xE4) m true).setN (pg 0x18 0xE8) (m * 65536 + st)
    let s := s.modFlt (fun f => { f with satQuiet := f.satQuiet.filter (· ≠ m) })
    if s.flt.satEpisode.contains m then s
    else (s.modFlt (fun f => { f with satEpisode := m :: f.satEpisode })).raise 0x18 1 0

/-- At pick 0: modulators clean for the whole cycle end their saturation episode. -/
def Block.satCycle (s : Block) : Block :=
  s.modFlt (fun f =>
    { f with
      satEpisode := f.satEpisode.filter (fun m => !f.satQuiet.contains m)
      satQuiet := List.range 17 })

/-- What the chain makes of a word that is due (R111): the values of S5 and of the correction, code and OVR, the stages that
saturated, and the chain's states after it. -/
structure ChainOut where
  x5 : Int
  y : Int
  code : Int
  ovr : Bool
  sat : List Nat
  chain : Chain
  deriving DecidableEq, Repr

/-- S4 to S6 of one word, with the S6 states it is loaded with. -/
def chainWord (k : WordMark) (load : Option (Option Chain)) (c : Chain) : ChainOut :=
  let w := k.cfg
  let x := s5At w c
  let y := if w.raw then x.1 else correct w.corr x.1
  let v := s6Step w ((c.begin6 load).inGain k.gain) y
  let code := finishCode (w.shift.bits 23 20) w.inv (if w.raw then (x.1 : Rat) else v.1)
  ⟨x.1, y, code.1, code.2.1, x.2 ++ (if code.2.2 then [6] else []), v.2⟩

/-- S6 states of modulator m start at 0 with the word of this pick, and DC_SETTLING runs for 8 × 2^K picks (R115). -/
def Block.s6Start (s : Block) (m : Nat) : Block :=
  let k := (s.chainCfg m).bits 20 16
  (s.modMod m (fun d => { d with s6Load := some none, dcUntil := s.absPick + 8 * 2 ^ k })).setB (pg 0x18 0xEC) m true

/-- S6 states of one modulator are loaded from another's with the word of this pick (R116, R146). -/
def Block.loadS6 (s : Block) (into frm : Nat) : Block :=
  s.modMod into (fun d => { d with s6Load := some (some frm), dcUntil := (s.mod frm).dcUntil })

end Sys2Proof.Machine
end

