-- ==== Sys2Proof/Machine/Analog.lean ====
section
/-! DEFINITION. Analogue inputs, modulators and the channel pages (R65 to R100), and the words of a pick. -/

namespace Sys2Proof.Machine

/-- Field checks of the CHn pages (R68, R69): GAIN 6, 7 and SENSOR 4 to 7 are refused under detector 5. -/
def chRules : List FieldRule := [
  ⟨0x40, 0x40, 2, 0, fun v => v ≤ 5, 5⟩,
  ⟨0x40, 0x40, 6, 4, fun v => v ≤ 3, 5⟩]

/-- The channel that a modulator's episodes are shown on: the one it serves (R86). -/
def Block.shownOn (s : Block) (m : Nat) : Option Nat :=
  if m = 16 then s.spare.served else if s.spare.served = some m then none else some m

/-- A settling episode of the metering chain starts, or starts again, on modulator m (R85, R86, R116). -/
def Block.startSettleChain (s : Block) (m : Nat) : Block :=
  let n := s.settleCount m
  let s := s.modMod m (fun d => { d with settleLeft := n, settleOwed := true })
  match s.shownOn m with
  | some c => s.setF (pg (chPage c) 0x48) 15 0 n
  | none => s

/-- One that the wideband branch shares (R85, R120). -/
def Block.startSettle (s : Block) (m : Nat) : Block :=
  let n := s.settleCount m
  (s.startSettleChain m).modMod m (fun d => { d with settleWide := n })

/-- The modulators that run under channel n's settings and are on its pins (R75). -/
def Block.modsOn (s : Block) (n : Nat) : List Nat := (List.range 17).filter (fun m => s.pinsOf m == some n)

/-- A reference calibration on channel n starts over at its first source from the next pick 0 (R142, R151). -/
def Block.restartCal (s : Block) (n : Nat) : Block :=
  if s.spare.ch = n && (s.spare.state = 1 || s.spare.state = 3) then s.modSpare (fun p => { p with calAgain := true }) else s

/-- The window of an overlap on channel n starts over with the next cycle (R151). -/
def Block.restartWin (s : Block) : Block :=
  s.modSpare (fun p =>
    { p with
      winFrom := s.time.cycle + 1
      winElapsed := 0
      winLow := false
      winLow16 := false
      winCyc := []
      winOut := CycSum.zero
      winIn := CycSum.zero
      endOut := none
      endIn := none
      computed := none })

/-- The reference in use takes channel n (R72). -/
def Block.inReference (s : Block) (n : Nat) : Bool :=
  (s.warp.srcActive < 4 && s.warp.srcActive = n) || (s.warp.srcActive = 4 && decide (n ≤ 2))

/-- A commit of CH_CFG of channel n (R72, R73, R77, R85): GAIN and SENSOR are held during an overlap. True: held. -/
def Block.commitChCfg (s : Block) (n : Nat) (v : Word) : Block × Bool :=
  let a := pg (chPage n) 0x40
  let old := s.getR a
  let moves := v.bits 2 0 ≠ old.bits 2 0 || v.bits 6 4 ≠ old.bits 6 4
  let held := moves && s.parallel == some n
  let new := if held then (v.withBits 2 0 (old.bits 2 0)).withBits 6 4 (old.bits 6 4) else v
  let s := (s.setR a new).setB (pg (chPage n) 0x4C) 10 held
  let s := if moves && !held then (forEach (s.modsOn n) (fun m s => s.startSettle m) s).restartCal n else s
  (if new.bit 8 && !old.bit 8 && s.inReference n then s.raise 6 3 0 else s, held)

/-- A committed change of REF_SEL that names a current channel (R72). -/
def Block.checkRefRole (s : Block) : Block :=
  if (List.range 4).any (fun n => s.inReference n && s.rbit (pg (chPage n) 0x40) 8) then s.raise 6 3 0 else s

/-- ENABLE of a channel committed (R87). -/
def Block.chEnable (s : Block) (n : Nat) (on abort : Bool) : Block :=
  let p := chPage n
  if on then
    if (s.mod n).powered then
      if s.pageState p = psDraining then (s.setPageState p psRun) else s
    else (((s.modMod n (fun d => { d with powered := true, drainFrom := 0 })).s6Start n).startSettle n).setPageState p psRun
  else if !(s.mod n).powered then s
  else if abort then
    (s.modMod n (fun d =>
      { d with powered := false, line := d.line.map (fun w => { w with cause := 4, clamp := none }) })).setPageState p psOff
  else
    (s.modMod n (fun d => { d with powered := false, drainFrom := s.absPick })).setPageState p psDraining

/-- Words on their way to slot n, whichever modulator made them, become stale (R88). -/
def Block.staleWords (s : Block) (n : Nat) : Block :=
  s.modAll (fun d =>
    { d with line := d.line.map (fun w => if w.slot ≠ n || causeRank w.cause ≤ 1 then w else { w with cause := 6, wide := 6 }) })

/-- The bits of CH_STAT that show what is so now (R97). -/
def Block.chStat (s : Block) (n : Nat) : Block :=
  let d := s.mod (s.slotMod n)
  let c := s.mod n
  let a := pg (chPage n) 0x4C
  let s := s.setF a 31 16 (max d.settleLeft d.ovlLeft)
  let s := (s.setB a 9 (s.spare.served == some n)).setB a 8 (s.parallel == some n)
  let s := (s.setB a 4 c.cmFault).setB a 3 (c.nbrNow || decide (0 < c.nbrLeft) || decide (0 < c.nbrInjLeft))
  (s.setB a 2 c.injOver).setB a 1 (d.ovlHeld.isSome || decide (0 < d.ovlLeft))

/-- Soft reset of CHn (R88): registers back, words in the chain stale, settling under the reset configuration. -/
def Block.chSoftReset (s : Block) (n : Nat) : Block :=
  let p := chPage n
  let s := forEach [0x44, 0x48, 0x4C, 0x50, 0x54, 0x58, 0x5C, 0x60, 0x64] (fun o s => s.setR (pg p o) (regReset (pg p o))) s
  let r := s.commitChCfg n (regReset (pg p 0x40))
  let s := if r.2 then { r.1 with shadow := Sparse.put (pg p 0x40) (regReset (pg p 0x40)) r.1.shadow } else r.1
  let s := s.staleWords n
  let s := if s.parallel = some n then s.restartWin else s.restartCal n
  (forEach (s.modsOn n) (fun m s => (s.s6Start m).startSettle m) s).chStat n

/-! ### The mark of a word -/

/-- The mark of the word of modulator m stamped at this strobe (R65, R84); it is due LAT picks later (R111). -/
def Block.markOf (s : Block) (m : Nat) : WordMark :=
  let slot := if m < 16 then (if s.spare.served = some m then 16 else m) else s.spare.served.getD 16
  let n := if slot < 16 then slot else if m < 16 then m else s.spare.ch
  { cause := topCause (s.causes m)
    wide := topCause (s.wideCauses m)
    hold7 := s.cause7
    clamp := (s.mod m).ovlHeld
    inj := s.wordInj m
    slot := slot
    pick := s.absPick
    due := s.absPick + s.latency m
    gain := s.fld (pg (chPage n) 0x40) 2 0
    scale := s.getR (pg (chPage n) 0x44)
    cfg := s.wordCfg m }

/-- NBR_STICKY of a modulator whose word is marked cause 5 (R93). -/
def Block.noteNbr (s : Block) (m : Nat) (k : WordMark) : Block := if k.cause = 5 then s.setB (pg 6 0x54) m true else s

/-- The mark of the word stamped at this strobe, formed again after a change in the same pick (R84). -/
def Block.remark (s : Block) (m : Nat) : Block :=
  match (s.mod m).line.getLast? with
  | some w =>
    if w.pick = s.absPick then
      let k := { s.markOf m with cfg := { s.wordCfg m with load := (s.mod m).s6Load } }
      (s.modMod m (fun d => { d with line := d.line.dropLast ++ [k] })).noteNbr m k
    else s
  | none => s

/-- The same for every modulator on channel n's pins, and for every modulator. -/
def Block.remarkOn (s : Block) (n : Nat) : Block := forEach (s.modsOn n) (fun m s => s.remark m) s
def Block.remarkAll (s : Block) : Block := forEach (List.range 17) (fun m s => s.remark m) s

/-! ### Happenings on the pins -/

/-- The page and detector numbers that report modulator m: its channel's page, or SPARE for SP alone (R84, R160). -/
def Block.ovlPage (_s : Block) (m : Nat) : Nat × Nat := if m < 16 then (chPage m, 2) else (0x17, 12)

/-- The channel whose page shows modulator m: its own, or the one SP serves. -/
def Block.statOf (s : Block) (m : Nat) : Block := match s.shownOn m with
  | some n => s.chStat n
  | none => s

/-- Modulator m is reset and held (R81), from the word of this pick on. page: the channel whose page injected it (R99). -/
def Block.overloadHold (s : Block) (m : Nat) (pos inj : Bool) (page : Option Nat) : Block :=
  let s := s.modMod m (fun d =>
    { d with
      ovlHeld := some pos
      ovlEpisode := true
      ovlInj := inj
      ovlLeft := 0
      ovlInjHold := if inj then 1 else 0
      ovlPage := page })
  let s := (s.setB (pg 6 0x4C) m true).setB (pg 6 0x44) m false
  (s.remark m).statOf m

/-- Overload of modulator m (R81); a real one takes over from an injected one (R548). -/
def Block.overloadEntry (s : Block) (m : Nat) (pos : Bool) : Block :=
  if (s.mod m).ovlHeld.isSome && !(s.mod m).ovlInj || 16 < m then s
  else (s.overloadHold m pos false none).raise (s.ovlPage m).1 (s.ovlPage m).2 0

/-- The input has returned for this whole pick (R81): the modulator is released and its recovery count runs from this pick. -/
def Block.overloadRelease (s : Block) (m : Nat) : Block :=
  if (s.mod m).ovlHeld.isNone then s
  else
    let n := s.settleCount m
    let s := (s.modMod m (fun d => { d with ovlHeld := none, ovlLeft := n, ovlInjHold := 0 })).setB (pg 6 0x44) m (s.mod m).powered
    (s.remark m).statOf m

/-- The recovery count has run out: the episode is counted and reported where its entry was (R81, R99). -/
def Block.overloadEnd (s : Block) (m : Nat) : Block :=
  let d := s.mod m
  if d.ovlEpisode && d.ovlHeld.isNone && d.ovlLeft = 0 then
    let s := s.modMod m (fun d => { d with ovlEpisode := false, ovlInj := false, ovlPage := none })
    let at_ := match d.ovlPage with
      | some n => (chPage n, 2)
      | none => s.ovlPage m
    let s := if at_.1 = 0x17 then s.bump (pg 0x17 0xC8) 15 0 1 else s.bump (pg at_.1 0x54) 15 0 1
    s.raiseX at_.1 at_.2 0 true d.ovlInj
  else s

/-- The neighbours of channel n (R82). -/
def neighbours (n : Nat) : List Nat := (if 0 < n then [n - 1] else []) ++ (if n < 15 then [n + 1] else [])

/-- A neighbour's words are marked from this pick on, and it counts the episode (R82). -/
def Block.nbrMark (s : Block) (inj : Bool) (k : Nat) : Block :=
  let s := s.modMod k (fun d => if inj then { d with nbrInjLeft := 4 } else { d with nbrNow := true, nbrLeft := 0 })
  ((s.bump (pg (chPage k) 0x5C) 15 0 1).remarkOn k).chStat k

/-- Clamp current above the rating (R82); injected, the neighbours' marking alone (R99). With NBR_MARK = 0 no neighbour is marked, and
none counts the episode (DEDUCED, log 13). -/
def Block.clampOver (s : Block) (n : Nat) (inj : Bool) : Block :=
  if 15 < n || (s.mod n).injOver then s
  else
    let mark := s.rbit (pg 6 0x40) 0
    let s := if inj then s
      else (((s.modMod n (fun d => { d with injOver := true })).setB (pg 6 0x50) n true).bump (pg (chPage n) 0x58) 15 0 1).chStat n
    let s := if mark then forEach (neighbours n) (fun k s => s.nbrMark inj k) s else s
    s.raiseX (chPage n) 3 0 false inj

/-- The current has fallen below the rating in this pick (R82): its neighbours stay marked for the three picks that follow, and while
their other neighbour is over (log 13). -/
def Block.clampEnd (s : Block) (n : Nat) : Block :=
  if !(s.mod n).injOver then s
  else
    let s := (s.modMod n (fun d => { d with injOver := false })).chStat n
    forEach (neighbours n) (fun k s =>
      if !(s.mod k).nbrNow || (neighbours k).any (fun j => (s.mod j).injOver) then s
      else (s.modMod k (fun d => { d with nbrNow := false, nbrLeft := 4 })).chStat k) s

/-- Common mode out of range (R83), where the detectors are active (R92); from the word of this pick on. -/
def Block.cmFaultOn (s : Block) (n : Nat) : Block :=
  if 15 < n || !s.rbit (pg 6 0x40) 1 || (s.mod n).cmFault then s
  else ((((s.modMod n (fun d => { d with cmFault := true, cmLeft := 0 })).remarkOn n).chStat n).raise (chPage n) 4 0)

/-- Common mode back in range for this whole pick (R83): its word and those of the CH_SETTLE picks after it stay marked. -/
def Block.cmFaultOff (s : Block) (n : Nat) : Block :=
  if !(s.mod n).cmFault then s
  else
    let k := s.settleCount (s.slotMod n)
    (s.modMod n (fun d => { d with cmFault := false, cmLeft := k + 1 })).chStat n

/-- ACQ_CFG committed (R82, R92): with CM_DET clear no channel is marked, with NBR_MARK clear no neighbour; set, those of a channel
over the rating are. -/
def Block.acqCommitted (s : Block) : Block :=
  let s := if s.rbit (pg 6 0x40) 1 then s
    else forEach (List.range 16) (fun n s => (s.modMod n (fun d => { d with cmFault := false, cmLeft := 0 })).chStat n) s
  forEach (List.range 16) (fun k s =>
    let now := s.rbit (pg 6 0x40) 0 && (neighbours k).any (fun j => (s.mod j).injOver)
    let s := if s.rbit (pg 6 0x40) 0 then s else s.modMod k (fun d => { d with nbrLeft := 0, nbrInjLeft := 0 })
    if now == (s.mod k).nbrNow then s
    else if now then s.nbrMark false k
    else (s.modMod k (fun d => { d with nbrNow := false })).chStat k) s

/-- The settling event (R86): the count has ended and none of causes 2 to 6 applies. -/
def Block.settlingEnd (s : Block) (m : Nat) : Block :=
  let d := s.mod m
  if d.settleOwed && d.settleLeft = 0 && !(s.causes m).any (fun c => 2 ≤ c && c ≤ 6) then
    let s := s.modMod m (fun d => { d with settleOwed := false })
    match s.shownOn m with
    | some n => s.raise (chPage n) 6 0
    | none => s
  else s

/-- Reference or supply lost: every modulator marked, from the word of this pick on (R90). which: 0 reference, 1 AVDD. -/
def Block.refLost (s : Block) (which : Nat) : Block :=
  if !s.rbit (pg 6 0x5C) which then s
  else
    let s := s.setB (pg 6 0x5C) which false
    ((s.modAll (fun d => { d with refFault := true, refInjLeft := 0 })).remarkAll).raise 6 (which + 1) 0

/-- Reference or supply back: a settling episode runs on every modulator before cause 1 ends (R90). -/
def Block.refBack (s : Block) (which : Nat) : Block :=
  if s.rbit (pg 6 0x5C) which then s
  else
    let s := s.setB (pg 6 0x5C) which true
    let other := s.rbit (pg 6 0x5C) (1 - which) && s.rbit (pg 3 0x40) 1
    if other then
      let s := s.modAll (fun d => { d with refFault := false })
      forEach (List.range 17) (fun m s => s.startSettle m) s
    else s

/-! ### The words of a pick -/

/-- OVR bookkeeping of a word of modulator m (R80, R93, R98). An episode ends after 1,024 consecutive words without OVR, which is how the
model takes "one whole cycle" (DEDUCED, log 13). -/
def Block.noteOvr (s : Block) (m : Nat) (ovr : Bool) : Block :=
  if ovr then
    let page := if m < 16 then chPage m else 0x17
    let ep := (s.mod m).ovrEpisode
    let s := s.modMod m (fun d => { d with ovrEpisode := true, ovrQuiet := 0 })
    let s := (s.setB (pg 6 0x48) m true).bump (pg page (if m < 16 then 0x50 else 0xC4)) 31 0 1
    if ep then s else s.raise page (if m < 16 then 1 else 11) 0
  else s.modMod m (fun d => { d with ovrQuiet := d.ovrQuiet + 1, ovrEpisode := d.ovrEpisode && decide (d.ovrQuiet + 1 < 1024) })

/-- Counts of a modulator when a pick has gone by. -/
def Modulator.tick (d : Modulator) : Modulator :=
  { d with
    ovlLeft := d.ovlLeft - 1
    cmLeft := d.cmLeft - 1
    settleLeft := if d.refFault then d.settleLeft else d.settleLeft - 1
    settleWide := if d.refFault then d.settleWide else d.settleWide - 1
    nbrLeft := d.nbrLeft - 1
    nbrInjLeft := d.nbrInjLeft - 1
    refInjLeft := d.refInjLeft - 1
    s6Load := none }

/-- The strobe finds a pick gone by: counts run on, an injected hold of one pick is released (R99). -/
def Block.tickMods (s : Block) : Block :=
  forEach (List.range 17) (fun m s =>
    if 0 < (s.mod m).ovlInjHold && (s.mod m).ovlInj then s.overloadRelease m else s) (s.modAll Modulator.tick)

/-- Words kept per slot: eighteen cycles, enough for the longest window (R204, R236) and a capture's history (R244). -/
def histLen : Nat := 18432

/-- What a word broadcast in slot n leaves in the channel's page (R88, R97, R98). -/
def Block.chWord (s : Block) (n : Nat) (w : Word) : Block :=
  let p := chPage n
  let a := pg p 0x4C
  let s := ((s.setF a 15 12 (w.bits 3 0)).setB a 11 (w.bit 7)).setB a 0 (w.bit 6)
  let mag := (wordCode w).natAbs
  let s := if w.bit 7 && decide (s.getN (pg p 0x64) < mag) then s.setN (pg p 0x64) mag else s
  if w.bits 3 0 = 6 then
    let ep := (s.mod n).staleEpisode
    let s := (s.bump (pg p 0x60) 15 0 1).modMod n (fun d => { d with staleEpisode := true })
    if ep then s else s.raise p 7 0
  else s.modMod n (fun d => { d with staleEpisode := false })

/-- A word that is due leaves modulator m's chain and is broadcast (R65, R78, R80, R81): snap holds the modulators as this strobe found
them, from which S6 states are loaded. -/
def Block.wordOut (s : Block) (snap : List Modulator) (m : Nat) (k : WordMark) : Block × OutWord :=
  let o := chainWord k (k.cfg.load.map (fun x => x.map (fun j => (nth Modulator.reset snap j).chain))) (s.mod m).chain
  let code := if k.cause = 4 then 0 else match k.clamp with
    | some p => clampCode p
    | none => o.code
  let ovr := k.cause ≠ 4 && (k.clamp.isSome || o.ovr)
  let word := sampleWord code ovr (m = 16) k.inj k.cause
  let s := s.modMod m (fun d => { d with chain := o.chain, x5 := o.x5, word := word })
  let s := (s.noteSat m o.sat).noteOvr m ovr
  let s : Block := { s with
    slots := setNth s.slots k.slot word
    hist := modNth s.hist k.slot (fun l => (⟨k.pick, word, k.gain, k.scale⟩ :: l).take histLen) }
  (if k.slot < 16 then s.chWord k.slot word else s, ⟨m, k, o.x5, o.y, word⟩)

/-- Words that are due, in the order of their stamps. -/
def Block.wordsOut (s : Block) (snap : List Modulator) (m : Nat) : List WordMark → Block × List OutWord
  | [] => (s, [])
  | k :: t =>
    if k.due ≤ s.absPick then
      let r := (s.modMod m (fun d => { d with line := t })).wordOut snap m k
      let r2 := Block.wordsOut r.1 snap m t
      (r2.1, r.2 :: r2.2)
    else (s, [])

/-- One strobe of modulator m: the bits of the pick that ended enter its chain, the word of this pick is stamped, and the words due are
broadcast (R111, log 14). -/
def Block.modPick (s : Block) (snap : List Modulator) (m : Nat) (bits : List Bool) : Block × List OutWord :=
  let r := chainBits (s.shiftCfg m) (s.mod m).chain bits
  let k := s.markOf m
  let s := ((s.modMod m (fun d => { d with chain := r.1, line := d.line ++ [k] })).noteNbr m k).noteSat m r.2
  s.wordsOut snap m (s.mod m).line

/-- PEAK of a channel whose PEAK_CLR was written is cleared before the words of the pick (R98). -/
def Block.peakClear (s : Block) (n : Nat) : Block :=
  if (s.mod n).peakClr then (s.setN (pg (chPage n) 0x64) 0).modMod n (fun d => { d with peakClr := false }) else s

/-- MOD_RUN (R93): powered and not held in reset; LAT_MAX and S6_STAT (R111, R115). -/
def Block.showMods (s : Block) : Block :=
  let run := (List.range 17).foldl (fun v m =>
    if (s.mod m).powered && (s.mod m).ovlHeld.isNone then v + 2 ^ m else v) 0
  let lat := (List.range 16).foldl (fun v n => max v (s.latency (s.slotMod n))) 0
  let dc := (List.range 17).foldl (fun v m => if s.absPick < (s.mod m).dcUntil then v + 2 ^ m else v) 0
  ((s.setN (pg 6 0x44) run).setN (pg 0x18 0xF4) (min 255 lat)).setN (pg 0x18 0xEC) dc

/-- The words of a pick (R65), given the modulator bits of the pick that ended; the words broadcast come with the state. -/
def Block.pickWords (s : Block) (bits : List (List Bool)) : Block × List OutWord :=
  let snap := s.mods
  let s := forEach (List.range 16) (fun n s => s.peakClear n) s
  let r := (List.range 17).foldl (fun (acc : Block × List OutWord) m =>
    let x := acc.1.modPick snap m (nth [] bits m)
    (x.1, acc.2 ++ x.2)) (s, [])
  ((forEach (List.range 16) (fun n s => s.chStat n) r.1).showMods, r.2)

/-- Word of slot n as last broadcast (R65). -/
def Block.slotWord (s : Block) (n : Nat) : Word := nth 0 s.slots n

/-- Injection of ACQ detectors (R94): 1 and 2 mark this pick and the settling count after it, unless that fault is there (R548). -/
def Block.acqInject (s : Block) (d : Nat) : Block :=
  if (d = 1 || d = 2) && s.rbit (pg 6 0x5C) (d - 1) then
    let s := forEach (List.range 17) (fun m s =>
      let n := s.settleCount m
      (s.modMod m (fun d => { d with refInjLeft := 1 + n })).remark m) s
    s.raiseX 6 d 0 false true
  else s.raiseX 6 d 0 false true

/-- Injection of CHn detectors (R99). An injected overload has the positive polarity (DESIGN CHOICE, log 13). -/
def Block.chInject (s : Block) (n d : Nat) : Block :=
  match d with
  | 2 =>
    let t := if (s.mod (s.slotMod n)).ovlEpisode then s else s.overloadHold (s.slotMod n) true true (some n)
    t.raiseX (chPage n) 2 0 false true
  | 3 => if (s.mod n).injOver then s.raiseX (chPage n) 3 0 false true else s.clampOver n true
  | _ => s.raiseX (chPage n) d 0 false true

end Sys2Proof.Machine
end

