-- ==== Sys2Proof/Machine/Wideband.lean ====
section
/-! DEFINITION. The wideband branch: streams WB0 to WB7 and their blocks (R117 to R122, R129 to R132). -/

namespace Sys2Proof.Machine

def Block.stream (s : Block) (k : Nat) : WbStream := nth WbStream.reset s.wb k
def Block.modWb (s : Block) (k : Nat) (f : WbStream → WbStream) : Block := { s with wb := modNth s.wb k f }

/-- WB_CFG[k] (R130). -/
def wbCfg (k : Nat) : Nat := pg 0x19 (0x40 + 4 * k)

/-- Samples of a block (R119). -/
def wbBlockLen : Nat := 5120

/-- The sinc³ ÷4 response. -/
def sinc3 : List Int := [1, 3, 6, 10, 12, 12, 10, 6, 3, 1]

/-- What the spec states of the compensation FIR's gain (R117): with the sinc³ gain of 64 a density of 0.5 gives the code 2^23 of R67, so
the fifteen taps sum to 2^18. -/
def wbTapsOk (c : Nat → Int) : Bool := ((List.range 15).map c).foldl (· + ·) 0 == 262144

/-- The fifteen compensation taps: the ROM's, which keep `wbTapsOk`. -/
def wbTaps : List Int :=
  if wbTapsOk Config.wbRom then (List.range 15).map Config.wbRom else (List.range 15).map (fun i => if i = 7 then 262144 else 0)

/-- The bits of a pick through the wideband branch of one modulator: its codes with the modulator clock each falls on. -/
def wbBits (c : Chain) : List Bool → Chain × List (Nat × Int)
  | [] => (c, [])
  | b :: t =>
    let c := { c with wb1 := ((if b then 1 else -1) :: c.wb1).take 10, wbClocks := c.wbClocks + 1 }
    if c.wbClocks % 4 ≠ 0 then wbBits c t
    else
      let c := { c with wb2 := (fir sinc3 c.wb1 :: c.wb2).take 15 }
      let r := wbBits c t
      (r.1, (c.wbClocks, fir wbTaps c.wb2) :: r.2)

/-- Packing of a sample (R118); whether it saturated. -/
def wbPack (code : Int) (gain : Nat) : Int × Bool :=
  let q := shrRne (code * (2 ^ gain : Nat)) 8
  (clampS 16 q, decide (clampS 16 q ≠ q))

/-- The modulator a stream takes its input from (R118). -/
def Block.wbMod (s : Block) (src : Nat) : Nat := if src < 16 then s.slotMod src else 16

/-- The bytes of a block (R119): header and samples; unfilled samples are 0. -/
def wbBytes (bseq stream : Nat) (srcMod : Nat) (b : WbBlock) (flags cause : Nat) : List Byte :=
  leBytes 4 bseq ++ leBytes 8 (b.stamp.getD 0) ++ leBytes 1 (stream % 8 * 32 + srcMod % 32) ++ leBytes 1 flags
    ++ leBytes 1 (b.gain % 16 * 16 + cause % 16) ++ leBytes 1 (min 255 b.sat)
    ++ (b.samples.reverse.map (fun x => leBytes 2 (unsignedOf 16 x))).flatten
    ++ List.replicate (2 * (wbBlockLen - b.samples.length)) 0

/-- PAGE_STAT of WB (R122): DRAINING while a stream that stops has a block to deliver. -/
def Block.wbShowState (s : Block) : Block :=
  let on := s.rbit (pg 0x19 0x04) 0
  if s.wb.any (fun w => if on then w.stopping else w.running || w.ready.isSome) then s.setPageState 0x19 psDraining
  else s.setPageState 0x19 (if on then psRun else psOff)

/-- The block that was full is gone; a stream that was stopping has stopped. -/
def WbStream.gone (w : WbStream) : WbStream := { w with bseq := (w.bseq + 1) % 2 ^ 32, ready := none, stopping := w.stopping && w.running }

/-- A block is delivered to the subscribed engines' buffers (R119, R120). force: the cause of an aborted block. -/
def Block.wbDeliver (s : Block) (k : Nat) (b : WbBlock) (force : Option Nat) : Block :=
  let w := s.stream k
  let cause := force.getD (topCause b.causes)
  let flags := b2n b.inj + 2 * b2n w.gapNext + 4 * b2n (cause ≠ 0) + 8 * b2n b.handover + 16 * b2n b.spare + 32 * b2n b.hold7
  let bytes := wbBytes w.bseq k b.srcMod b flags cause
  let s := s.modWb k (fun w => { w.gone with gapNext := false, dropEpisode := false, blocks := (bytes :: w.blocks).take 2 })
  (s.bump (pg 0x19 (0x64 + 4 * k)) 31 0 1).wbShowState

/-- A full block on its way to the engines arrives. -/
def Block.wbFlush (s : Block) (k : Nat) : Block :=
  match (s.stream k).ready with
  | some b => s.wbDeliver k b none
  | none => s

/-- A full block whose buffer is still held is dropped (R121). -/
def Block.wbDrop (s : Block) (k : Nat) : Block :=
  let ep := (s.stream k).dropEpisode
  let s := (s.modWb k (fun w => { w.gone with gapNext := true, dropEpisode := true })).wbShowState
  let s := s.bump (pg 0x19 (0x84 + 4 * k)) 15 0 1
  if ep then s else s.raise 0x19 1 0

/-- A full block that is not produced while WB has no grant (R528): its number passes. -/
def Block.wbSkip (s : Block) (k : Nat) : Block := (s.modWb k (fun w => { w.gone with gapNext := true })).wbShowState

/-- 16 µs in system clock periods, rounded up: a stream's first sample lies so long after the commit (R122). -/
def wbStartClk : Nat := 1573

/-- A stream starts (R122); WB_STAT shows it from its first sample (R131). -/
def Block.wbStart (s : Block) (k : Nat) : Block :=
  let v := s.getR (wbCfg k)
  let s := s.modWb k (fun w =>
    { WbStream.reset with
      running := true
      startAt := s.time.mono + wbStartClk
      cur := WbBlock.empty (v.bits 12 8) (v.bits 19 16)
      blocks := w.blocks })
  s.setN (pg 0x19 (0x64 + 4 * k)) 0

/-- A stream stops: at the end of its block (DRAIN), or at once with the block in progress delivered invalid (ABORT). -/
def Block.wbStop (s : Block) (k : Nat) (abort : Bool) : Block :=
  if !(s.stream k).running then s
  else if abort then
    let s := s.wbFlush k
    let s := s.wbDeliver k (s.stream k).cur (some 4)
    ((s.modWb k (fun w => { w with running := false, stopping := false })).setB (pg 0x19 0x60) k false).wbShowState
  else (s.modWb k (fun w => { w with stopping := true })).wbShowState

/-- A committed WB_CFG[k] (R122): EN at once; SRC and WB_GAIN at the next block boundary. -/
def Block.wbCommitted (s : Block) (k : Nat) : Block :=
  let on := s.rbit (wbCfg k) 0 && s.rbit (pg 0x19 0x04) 0
  if on && s.pwr.st == .lean then s
  else if on && !(s.stream k).running then s.wbStart k
  else if on then (s.modWb k (fun w => { w with stopping := false })).wbShowState
  else s.wbStop k (s.rbit (pg 0x19 0x04) 1)

/-- ENABLE of the WB page committed (R122). -/
def Block.wbEnable (s : Block) : Block := (forEach (List.range 8) (fun k s => s.wbCommitted k) s).wbShowState

/-- The streams whose WB_CFG enables them start (R26, R122). -/
def Block.wbStartAll (s : Block) : Block :=
  forEach (List.range 8) (fun k s => if s.rbit (wbCfg k) 0 && s.rbit (pg 0x19 0x04) 0 && !(s.stream k).running then s.wbStart k else s) s

/-- Soft reset of the WB page (R122). -/
def Block.wbSoftReset (s : Block) : Block :=
  let s := forEach (List.range 8) (fun k s =>
    let s := s.wbFlush k
    if (s.stream k).running then s.wbDeliver k (s.stream k).cur (some 6) else s) s
  let s := forEach (List.range 26) (fun i s => s.setR (pg 0x19 (0x40 + 4 * i)) (regReset (pg 0x19 (0x40 + 4 * i)))) s
  let s := { s with wb := s.wb.map (fun w => { WbStream.reset with blocks := w.blocks }) }
  if s.pwr.st == .lean then s else s.wbStartAll

/-- Samples of a pick enter a block; the block is full at 5,120 (R119). Each carries its stamp. -/
def wbFill (b : WbBlock) : List (Nat × Int) → WbBlock
  | [] => b
  | (st, code) :: t =>
    if wbBlockLen ≤ b.samples.length then b
    else
      let p := wbPack code b.gain
      wbFill { b with
        stamp := some (b.stamp.getD st)
        samples := p.1 :: b.samples
        sat := b.sat + b2n p.2 } t

/-- The stamp of modulator clock k, which falls in the pick that ended or on this strobe (R34); a sample is dated at the clock that
completes it (DEDUCED, log 14). -/
def Block.clockStamp (s : Block) (k : Nat) : Nat :=
  let t := s.time.mono - 24 * k
  if t = 0 then s.strobeStamp
  else
    let q := s.absPick - 1
    mkStamp (q / 1024) (q % 1024) (64 * (s.time.lastLen - t) / max 1 s.time.lastLen)

/-- The word of modulator m stamped with the pick that ended, as it is marked by its end (R120). -/
def Block.endedMark (s : Block) (m : Nat) : Option WordMark := (s.mod m).line.find? (fun w => w.pick + 1 = s.absPick)

/-- A metering word's marks enter the block it falls in (R120). -/
def WbBlock.heed (b : WbBlock) (k : WordMark) : WbBlock :=
  { b with
    causes := if k.wide = 0 || b.causes.contains k.wide then b.causes else b.causes ++ [k.wide]
    inj := b.inj || k.inj
    hold7 := b.hold7 || k.hold7 }

/-- Saturated samples of a stream (R118, R131): the sticky bit, and detector 2 once per episode, which a block without one ends (DEDUCED,
log 14). -/
def Block.wbSat (s : Block) (k : Nat) (some_ : Bool) : Block :=
  if !some_ then s
  else
    let ep := (s.stream k).satEpisode
    let s := (s.setB (pg 0x19 0xA4) k true).modWb k (fun w => { w with satEpisode := true })
    if ep then s else s.raise 0x19 2 0

/-- The block in progress of stream k takes samples of modulator m; the next one follows where it is full (R119, R122). -/
def Block.wbTake (s : Block) (k m : Nat) (codes : List (Nat × Int)) : Block × List (Nat × Int) :=
  let w := s.stream k
  let cal := (nth Correction.one s.spare.corr m).gain
  let heard := codes.filter (fun p => decide (w.startAt ≤ 24 * p.1))
  let scaled := heard.map (fun p => (s.clockStamp p.1, roundAny ((p.2 : Rat) * cal / (2 ^ 30 : Nat))))
  if scaled.isEmpty then (s, [])
  else
    let c := { w.cur with
      srcMod := if w.cur.samples.isEmpty then m else w.cur.srcMod
      spare := w.cur.spare || m == 16 }
    let b := wbFill c scaled
    let s := (s.modWb k (fun w => { w with cur := b })).setB (pg 0x19 0x60) k true
    let s := s.wbSat k (decide (w.cur.sat < b.sat))
    if wbBlockLen ≤ b.samples.length then
      let v := s.getR (wbCfg k)
      let s := s.modWb k (fun w =>
        { w with
          ready := some b
          cur := WbBlock.empty (v.bits 12 8) (v.bits 19 16)
          satEpisode := w.satEpisode && b.sat ≠ 0
          running := !w.stopping })
      (if (s.stream k).running then s else s.setB (pg 0x19 0x60) k false, heard.drop (b.samples.length - w.cur.samples.length))
    else (s, [])

/-- One pick of stream k: the word stamped at the pick's begin marks the block it fell in (R120), then the samples; those after a
block's end are the next block's, from its own source. codes: by modulator. -/
def Block.wbPick (s : Block) (k : Nat) (codes : List (List (Nat × Int))) : Block :=
  let w := s.stream k
  if !w.running then s
  else
    let m := s.wbMod w.cur.src
    let s := match s.endedMark m with
      | some x => if w.cur.stamp.isSome && decide (w.cur.stamp.getD 0 ≤ mkStamp (x.pick / 1024) (x.pick % 1024) 0) then
          s.modWb k (fun w => { w with cur := w.cur.heed x }) else s
      | none => s
    let r := s.wbTake k m (nth [] codes m)
    if r.2.isEmpty || !(r.1.stream k).running then r.1
    else
      let m2 := r.1.wbMod (r.1.stream k).cur.src
      (r.1.wbTake k m2 ((nth [] codes m2).filter (fun p => r.2.any (fun q => q.1 = p.1)))).1

/-- The wideband branch of all modulators and streams for one pick. -/
def Block.pickWide (s : Block) (bits : List (List Bool)) : Block :=
  let r := (List.range 17).foldl (fun (acc : Block × List (List (Nat × Int))) m =>
    let q := wbBits (acc.1.mod m).chain (nth [] bits m)
    (acc.1.modMod m (fun d => { d with chain := q.1 }), acc.2 ++ [q.2])) (s, [])
  forEach (List.range 8) (fun k s => s.wbPick k r.2) r.1

/-- The words of slot n that became stale fall in blocks too (R88, R120): those of their modulators' streams that are not delivered. -/
def Block.wbStale (s : Block) (n : Nat) : Block :=
  let hit (s : Block) (b : WbBlock) : Bool := b.src = n && (s.mod b.srcMod).line.any (fun w =>
    w.slot = n && w.cause = 6 && decide (b.stamp.isSome ∧ b.stamp.getD 0 ≤ mkStamp (w.pick / 1024) (w.pick % 1024) 0))
  let mark (b : WbBlock) : WbBlock := if b.causes.contains 6 then b else { b with causes := b.causes ++ [6] }
  forEach (List.range 8) (fun k s => s.modWb k (fun w =>
    { w with
      cur := if hit s w.cur then mark w.cur else w.cur
      ready := w.ready.map (fun b => if hit s b then mark b else b) })) s

/-- A stream whose source channel changes modulator at a handover (R118). -/
def Block.wbHandover (s : Block) (n : Nat) : Block :=
  forEach (List.range 8) (fun k s =>
    if (s.stream k).running && (s.stream k).cur.src = n then
      (s.modWb k (fun w => { w with cur := { w.cur with handover := true } })).raise 0x19 4 0
    else s) s

/-- WB_BLOCK_COMPLETE (R119, R121). -/
def Block.wbComplete (s : Block) (k : Nat) (bufferHeld : Bool) : Block :=
  match (s.stream k).ready with
  | none => s
  | some b => if bufferHeld then s.wbDrop k else s.wbDeliver k b none

end Sys2Proof.Machine
end

