-- ==== Sys2Proof/Machine/Engines.lean ====
section
/-! DEFINITION. Metric engines and the pick schedule (R161 to R196): tasks, deadlines, images, the reserve engine, BIST. -/

namespace Sys2Proof.Machine

def Block.engine (s : Block) (e : Nat) : Engine := nth Engine.reset s.engines e
def Block.modEngine (s : Block) (e : Nat) (f : Engine → Engine) : Block := { s with engines := modNth s.engines e f }
def Block.modEng (s : Block) (f : EngBlock → EngBlock) : Block := { s with eng := f s.eng }

/-- Page of engine e (R192), its SLOT_A and SLOT_B, and SUB[e]. -/
def mePage (e : Nat) : Nat := 0x1D + e
def slotReg (e k : Nat) : Nat := pg (mePage e) (0x100 + 8 * k)
def subReg (e : Nat) : Nat := pg 0x1C (0x50 + 4 * e)

/-- MODE values of ME_STAT (R193). -/
def Block.meMode (s : Block) (e : Nat) : Nat := s.fld (pg (mePage e) 0x40) 9 8

/-- Field checks of the ME pages (R164, R170); PROG_ARG[1] to [3] read 0 and ignore writes. -/
def meRules : List FieldRule := [
  ⟨0x100, 0x1FC, 31, 0, fun _ => true, 5⟩,
  ⟨0x48, 0x50, 31, 0, fun v => v == 0, 0⟩]

/-- A written SLOT_A or SLOT_B whose own fields are out of range (R164). -/
def slotWordBad (o : Nat) (v : Word) : Bool :=
  if o % 8 = 0 then v.bits 11 0 == 0 || 4095 < v.bits 11 0 else v.bits 13 0 == 0 || 16383 < v.bits 13 0

/-- The active image of an engine (R178). -/
def Block.activeImage (s : Block) (e : Nat) : Option Image :=
  if s.fld (pg (mePage e) 0x40) 4 4 = 0 then (s.engine e).bankA else (s.engine e).bankB

/-- The engine that runs the schedule of e (R180), and the image it runs. -/
def Block.runnerOf (s : Block) (e : Nat) : Nat := if s.eng.served = some e then 15 else e
def Block.schedImage (s : Block) (e : Nat) : Option Image := s.activeImage (s.runnerOf e)

/-- The GEN that outputs of engine schedule e carry (R549): that of the engine that runs it. -/
def Block.genOf (s : Block) (e : Nat) : Nat := s.gen (mePage (s.runnerOf e))

/-- A PROG_ARG[0] the programs of an image refuse (R170). -/
def progArgBad (i : Option Image) (v : Nat) : Bool :=
  match i with
  | none => false
  | some i =>
    let bad (p : Nat) : Bool := match p with
      | 1 | 2 => decide (3 < v)
      | 3 | 8 => decide (0xFFFF < v)
      | 4 => decide (0xFF < v)
      | 6 => decide (3 < v)
      | _ => false
    bad i.prog0 || bad i.prog1

/-! ### ROM images and image bytes (R173, R174, R176) -/

/-- Programs of the ROM image of engine e (R174) and its per-cycle work in system clock periods (R173). -/
def romProg (e : Nat) : Nat × Nat × Nat × Nat :=
  if e ≤ 2 then (1, 2, 354000, 157000)
  else if e = 3 then (1, 2, 118000, 157000)
  else if e ≤ 7 then (3, 0, 588000, 0)
  else if e ≤ 10 then (4, 0, 149913, 0)
  else match e with
    | 11 => (5, 0, 236000, 0)
    | 12 => (6, 0, 40000, 0)
    | 13 => (7, 0, 59000, 0)
    | 14 => (8, 9, 98000, 79000)
    | _ => (10, 0, 3900, 0)

/-- A program has a STREAM entry (R170). -/
def hasStream (p : Nat) : Bool := p == 1 || p == 2 || p == 3 || p == 5 || p == 7 || p == 8
/-- Grain of a program's SLOT entry (R170). -/
def slotGrain (p : Nat) : Nat := if p = 5 then 2 else if p = 6 || p = 9 || p = 10 then 0 else 1

/-- What the ROM keeps to (R161, R174, R176, R179): 32 digest bytes, a state of at most 8,192 bytes in steps of 16, and working regions in
steps of 1,024 bytes that fit in the pool together with the staging buffer; a value of the ROM outside that is not taken (log 17). -/
def romDigest (e : Nat) : List Byte := (Config.romDigest e ++ List.replicate 32 0).take 32
def romState (e : Nat) : Nat := min 8192 (Config.romStateLen e / 16 * 16)
def romWork (e : Nat) : Nat :=
  let len (k : Nat) : Nat := min 131072 (Config.romWorkLen k / 1024 * 1024)
  if ((List.range 16).map len).sum ≤ 0x70000 then len e else 28672

/-- Entries of a ROM image: SLOT entries of its programs first, then STREAM and BLOCK entries. The split of a program's
work between its STREAM and SLOT entries and the entry order are the model's (log 17); the sums are R173's. -/
def romEntries (e : Nat) : List ImgEntry :=
  let r := romProg e
  let one (k p w : Nat) : List ImgEntry × List ImgEntry :=
    if p = 0 then ([], [])
    else if p = 4 then ([], [⟨0, 3, k, 0, w⟩])
    else
      let slots := if p = 5 then 2 else 1
      let st := if hasStream p then w / 128 else 0
      ([⟨0, 2, k, slotGrain p, (w - 64 * st) / slots⟩],
        (if hasStream p then [⟨0, 1, k, 0, st⟩] else []) ++ (if p = 8 then [⟨0, 3, k, 0, 0⟩] else []))
  let a := one 0 r.1 r.2.2.1
  let b := one 1 r.2.1 r.2.2.2
  a.1 ++ b.1 ++ a.2 ++ b.2

/-- The ROM catalogue image of engine e (R178). -/
def romImage (e : Nat) : Image :=
  ⟨(romProg e).1, (romProg e).2.1, 1, Config.romVersion e, 0, romState e, romWork e, romEntries e, romDigest e, true, []⟩

/-- The ROM catalogue image of a pair of programs, on an engine that by default carries others (R178). -/
def romFor (e p0 p1 : Nat) : Image :=
  (((e :: List.range 16).find? (fun k => (romProg k).1 = p0 && (romProg k).2.1 = p1)).map romImage).getD (romImage e)

/-- ENTRY[i] of an image header. -/
def parseEntry (l : List Byte) (i : Nat) : ImgEntry :=
  let b := (l.drop (48 + 8 * i)).take 8
  ⟨leNat (b.take 2), leNat ((b.drop 2).take 1), leNat ((b.drop 3).take 1) / 16, leNat ((b.drop 3).take 1) % 16, leNat (b.drop 4)⟩

/-- An image's header read, and whether its format is right (R176, R177 step 1). -/
def parseImage (l : List Byte) (words : Nat) : Image × Bool :=
  let f (o n : Nat) : Nat := leNat ((l.drop o).take n)
  let es := (List.range 8).map (parseEntry l)
  let pl := f 20 4
  let ok := l.take 4 == [0x4C#8, 0x59#8, 0x4D#8, 0x45#8] && f 4 2 == 1 && f 6 2 == 128
    && (1 ≤ f 8 1 && f 8 1 ≤ 10) && (f 9 1 ≤ 10 && f 9 1 ≠ f 8 1)
    && (pl % 16 == 0 && 16 ≤ pl && pl ≤ 16384) && (f 24 4 % 16 == 0 && f 24 4 ≤ 8192)
    && (f 28 4 % 1024 == 0 && f 28 4 ≤ 131072) && f 112 16 == 0
    && words == (192 + pl) / 4
    && es.all (fun e => e.type ≤ 3 && (e.type == 0 || (e.ofs % 4 == 0 && e.ofs < pl && e.prog ≤ 1 && e.grain ≤ 2
      && (e.prog == 0 || f 9 1 ≠ 0))))
  (⟨f 8 1, f 9 1, f 10 2, f 12 4, f 16 4, f 24 4, f 28 4, es, sha256 l,
    (List.range 16).any (fun e => (romProg e).1 = f 8 1 && (romProg e).2.1 = f 9 1 && romDigest e == sha256 l), l⟩, ok)

/-- Device ID from fuse words 8 to 11 (R561), as HUSK.DEVICE_ID shows it. -/
def Block.deviceId (s : Block) : List Byte := ((List.range 4).map (fun k => (s.getR (pg 0x3B (0x70 + 4 * k))).toBytes)).flatten

/-- ROLL_FLOOR of a program (R190). -/
def floorReg (p : Nat) : Nat := pg 0x1C (0x90 + 4 * (p - 1))

/-- The checks of R177, in order: 3 OK, 4 BAD_FORMAT, 5 WRONG_DEVICE, 6 BAD_SIG, 7 ROLLBACK. -/
def Block.checkImage (s : Block) (l : List Byte) (words : Nat) : Image × Nat :=
  let r := parseImage l words
  let i := r.1
  let dev := (l.drop 32).take 16
  let signed := l.take (l.length - 64)
  if !r.2 then (i, 4)
  else if dev != List.replicate 16 0 && dev != s.deviceId then (i, 5)
  else if !ecdsaVerify Config.vendorKey (sha256 signed) (l.drop (l.length - 64)) then (i, 6)
  else if i.roll < s.getN (floorReg i.prog0) || (i.prog1 ≠ 0 && i.roll < s.getN (floorReg i.prog1)) then (i, 7)
  else (i, 3)

/-! ### Demand and admission (R169) -/

/-- Program number of an entry of an image. -/
def Image.progOf (i : Image) (k : Nat) : Nat := if (nth ⟨0, 0, 0, 0, 0⟩ i.entries k).prog = 0 then i.prog0 else i.prog1

/-- Enabled slots of engine e's schedule. -/
def Block.slotsOn (s : Block) (e : Nat) : List Nat := (List.range 32).filter (fun k => s.rbit (slotReg e k) 31)

def Block.subSlots (s : Block) (e : Nat) : Nat := s.fld (subReg e) 16 0
def Block.subStreams (s : Block) (e : Nat) : List Nat := (List.range 8).filter (fun k => s.rbit (subReg e) (24 + k))

/-- Declared demand at 69 Hz, as a share of one engine (R169). -/
def Block.demand (s : Block) (e : Nat) : Rat :=
  match s.schedImage e with
  | none => 0
  | some i =>
    let slot := (s.slotsOn e).foldl (fun (d : Rat) k =>
      d + ((nth ⟨0, 0, 0, 0, 0⟩ i.entries (s.fld (slotReg e k) 26 24)).wcet : Nat) / (max 1 (s.fld (slotReg e k) 11 0) : Nat)) 0
    let rest := i.entries.foldl (fun (d : Rat) en =>
      if en.type = 1 && s.subSlots e ≠ 0 then d + (64 * en.wcet : Nat)
      else if en.type = 3 then d + (en.wcet * 200 * (s.subStreams e).length : Nat) / 69
      else d) 0
    (slot + rest) / 1424696

/-- The joint conditions on enabled slots (R164). -/
def Block.slotsOk (s : Block) (e : Nat) : Bool :=
  match s.schedImage e with
  | none => (s.slotsOn e).isEmpty
  | some i => (s.slotsOn e).all (fun k =>
      let a := s.getR (slotReg e k)
      let b := s.getR (slotReg e k + 4)
      (nth ⟨0, 0, 0, 0, 0⟩ i.entries (a.bits 26 24)).type == 2 && b.bits 31 20 + 1 ≤ a.bits 11 0
        && b.bits 13 0 ≤ a.bits 11 0 * 1024)

/-- A schedule may be committed (R164, R169). -/
def Block.admits (s : Block) (e : Nat) : Bool := s.slotsOk e && decide (s.demand e ≤ 1)

/-- The engine has an enabled task (R168). -/
def Block.hasTask (s : Block) (e : Nat) : Bool :=
  match s.schedImage e with
  | none => false
  | some i => !(s.slotsOn e).isEmpty || (s.subSlots e ≠ 0 && i.entries.any (fun x => x.type == 1))
      || (!(s.subStreams e).isEmpty && i.entries.any (fun x => x.type == 3))

/-- UTIL of ME_STAT (R193) and the standing request of the schedule (R168, R528). -/
def Block.showUtil (s : Block) (e : Nat) : Block :=
  s.setF (pg (mePage e) 0x40) 31 24 (min 255 (roundAny (s.demand e * 100)).toNat)

def Block.engRequest (s : Block) (e : Nat) : Block :=
  let s := s.showUtil e
  let on := s.pageState (mePage e) = psDraining || s.rbit (pg (mePage e) 0x04) 0
  if s.pwr.ready && s.hasTask e && on && s.pageState (mePage e) ≠ psOff && !(s.pwr.st == .lean && decide (4 ≤ e)) then
    s.arbRequest (mePage e) 1 (max 1 ((s.fld (pg (mePage e) 0x40) 31 24 + 9) / 10)) true
  else if (s.arbFind (mePage e)).isSome then (s.arbRelease (mePage e)).arbReeval else s

/-! ### Ring merge and placeholders (R167, R175) -/

/-- The ring a program writes (R170). -/
def progRing (p : Nat) : Option Nat :=
  match p with
  | 3 => some 6
  | 4 => some 7
  | 5 => some 5
  | 8 => some 8
  | _ => none

/-- The engine's schedule may start invocations now (R168, R183, R185): 0 yes, 1 refused, 2 halted, 3 not at all. A request that has not
been evaluated yet refuses nothing. -/
def Block.schedGate (s : Block) (e : Nat) : Nat :=
  let run := s.runnerOf e
  let ps := s.pageState (mePage e)
  if s.pageState (mePage run) = psFault then 2
  else if ps = psOff || !s.rbit (pg (mePage e) 0x04) 0 then 3
  else if s.pwr.st == .lean && 4 ≤ run then 3
  else if s.pwr.st == .hold then (if run ≤ 3 then 0 else 3)
  else if (s.engine e).startAt ≠ 0 then 3
  else if e = 15 && s.eng.served.isSome then 3
  else if s.pwr.ready && (s.arbFind (mePage e)).any (fun r => decide (2 ≤ r.outcome)) then 1
  else 0

/-- Deadlines, in picks, of the entries of engine e's schedule that write a ring: P04's BLOCK entry, and the enabled slots of the other
programs (R170). -/
def Block.ringDues (s : Block) (r e : Nat) : List Nat :=
  if s.schedGate e = 3 then []
  else match s.schedImage e with
    | none => []
    | some i =>
      let slots := (s.slotsOn e).filter (fun k =>
        let p := i.progOf (s.fld (slotReg e k) 26 24)
        p ≠ 4 && progRing p == some r)
      let block := !(s.subStreams e).isEmpty && (List.range i.entries.length).any (fun k =>
        (nth ⟨0, 0, 0, 0, 0⟩ i.entries k).type = 3 && i.progOf k = 4 && r = 7)
      slots.map (fun k => s.fld (slotReg e k + 4) 13 0) ++ (if block then [((1 / 100 : Rat) * 1024 * s.warp.freq).ceil.toNat + 1] else [])

/-- Engines whose schedule writes a ring. -/
def Block.writersOf (s : Block) (r : Nat) : List Nat := (List.range 16).filter (fun e => !(s.ringDues r e).isEmpty)

/-- Some engine runs program p. -/
def Block.progRuns (s : Block) (p : Nat) : Bool :=
  (List.range 16).any (fun e => s.schedGate e = 0 && (match s.schedImage e with
    | some i => (s.slotsOn e).any (fun k => i.progOf (s.fld (slotReg e k) 26 24) = p)
    | none => false))

/-- Entries put to a ring whose copies go to a stream by P09 LOGFMT (R457). -/
def Block.putLogged (s : Block) (ring stream : Nat) (es : List Entry) : Block :=
  let r := logOf es (s.getN (dSeq ring)) .plain
  let s := s.put ring es
  if s.progRuns 9 then s.stage stream r else s

/-- An entry of a ring that engines write, with its copy to the log store (R457); a placeholder has no source. -/
def Block.putEngine (s : Block) (ring : Nat) (e : Entry) : Block :=
  match ring, e.body with
  | 5, _ => s.putLogged 5 1 [e]
  | 6, b :: _ => s.putHarm 6 b.toNat e
  | 7, b :: _ => s.putHarm 7 b.toNat e
  | _, _ => s.put ring [e]

/-- Entries whose stamp every writer has passed become visible, in order of stamp and engine, and so do those that have waited for the
latest deadline among the writers (R175). -/
def Block.mergeFlush (s : Block) (r : Nat) : Block :=
  let ws := s.writersOf r
  let done (e : Nat) : Nat := Sparse.get 0 (16 * r + e) s.eng.mergeDone
  let last := ws.foldl (fun n e => (s.ringDues r e).foldl max n) 0
  let out := s.eng.merge.filter (fun m => m.ring = r && (decide (m.since + last ≤ s.absPick) || ws.all (fun e => decide (m.stamp ≤ done e))))
  let key (m : MergeItem) : Nat := m.stamp * 16 + m.eng
  let sorted := out.foldl (fun l m => l.filter (fun x => decide (key x ≤ key m)) ++ [m] ++ l.filter (fun x => decide (key m < key x))) []
  let s := s.modEng (fun b => { b with merge := b.merge.filter (fun m => !out.contains m) })
  forEach sorted (fun m s => forEach m.entries (fun en s => s.putEngine r en) s) s

/-- FLAGS bits (R410). -/
def fInj : Nat := 1
def fGap : Nat := 2
def fInvalid : Nat := 4
def fStale : Nat := 8
def fSpare : Nat := 16

/-- Engine e gives its entries for a stamp to a ring that engines write; those of an injected miss are replaced by a placeholder, which
carries the invocation's nominal start stamp (R167, R196). -/
def Block.mergePut (s : Block) (r e stamp : Nat) (es : List Entry) : Block :=
  let inj := if es.isEmpty then none else (s.engine e).queue.find? (fun v => v.running && v.inj)
  let stamp := (inj.map (·.stamp)).getD stamp
  let es := if inj.isSome then [⟨0xFFFF, stamp, fInvalid + fInj, s.genOf e, []⟩] else es
  let s := s.modEng (fun b =>
    { b with
      merge := if es.isEmpty then b.merge else b.merge ++ [⟨r, stamp, e, es, s.absPick⟩]
      mergeDone := Sparse.put (16 * r + e) (max stamp (Sparse.get 0 (16 * r + e) b.mergeDone)) b.mergeDone })
  s.mergeFlush r

/-- The ring an invocation writes: P04's in its BLOCK task, those of the others in their slots; STREAM tasks gather words. -/
def Invocation.ring (v : Invocation) : Option Nat :=
  if v.task = 32 || (v.task = 33) != (v.prog = 4) then none else progRing v.prog

/-- A placeholder for what an invocation owes (R167, R412). -/
def Block.placehold (s : Block) (e : Nat) (v : Invocation) (flags : Nat) : Block :=
  match v.ring with
  | none => s
  | some r => s.mergePut r e v.stamp [⟨0xFFFF, v.stamp, flags, s.genOf e, []⟩]

/-- A miss counted and reported (R167, R168, R185): why 0 LATE, 1 REFUSED, 2 HALTED. -/
def Block.missNote (s : Block) (e : Nat) (v : Invocation) (why overrun : Nat) : Block :=
  let p := mePage e
  let s := s.bump (pg p 0x54) 31 0 1
  let s := (s.setN (pg p 0x58) (overrun * 2 ^ 20 + why * 2 ^ 16 + v.task * 2 ^ 8)).set64 (pg p 0x5C) v.missStamp
  let s := if why = 1 then s.bump (pg p 0x64) 15 0 1 else s
  let s := if v.prog = 7 && v.task < 32 && !v.inj then s.modEng (fun b => { b with recalMiss := true }) else s
  s.raiseX p 1 0 false v.inj

/-- A missed deadline with its placeholders. -/
def Block.missed (s : Block) (e : Nat) (v : Invocation) (why overrun : Nat) : Block :=
  (s.missNote e v why overrun).placehold e v (fInvalid + (if v.inj then fInj else 0))

/-! ### Choosing what runs (R166, R167) -/

/-- Order of choice: within the deadline before late, then deadline, then STREAM, BLOCK, slots. -/
def Invocation.rank (v : Invocation) : Nat :=
  (b2n v.late) * 2 ^ 80 + v.dueAbs * 2 ^ 8 + (if v.task = 32 then 0 else if v.task = 33 then 1 else 2 + v.task)

/-- The engine takes up the invocation that comes first; ME_STAT shows it (R193). -/
def Block.engChoose (s : Block) (e : Nat) : Block :=
  let q := if s.schedGate e = 1 then [] else (s.engine e).queue
  let best := q.foldl (fun (b : Option Invocation) v => if v.waiting then b else match b with
    | none => some v
    | some x => if v.rank < x.rank then some v else b) none
  let s := s.modEngine e (fun g =>
    { g with queue := g.queue.map (fun v => if some v = best then { v with running := true, started := true } else { v with running := false }) })
  let a := pg (mePage (s.runnerOf e)) 0x40
  match best with
  | none => (s.setB a 21 false).setF a 20 16 0
  | some v => (s.setB a 21 true).setF a 20 16 (if v.task < 32 then v.task else 0)

/-- Busy time, up to now in this pick, of the engine that runs the schedule (R195). -/
def Block.engBusy (s : Block) (e upto : Nat) : Block :=
  let g := s.engine e
  let s := if g.queue.any (fun v => v.running) then
      s.modEngine (s.runnerOf e) (fun x => { x with busyClk := x.busyClk + (upto - g.runSince) })
    else s
  s.modEngine e (fun x => { x with runSince := upto })

/-- An engine that runs nothing takes up at once what is ready (R166): between strobes nothing is pre-empted. -/
def Block.engIdleChoose (s : Block) (e : Nat) : Block :=
  if (s.engine e).queue.any (fun v => v.running) then s else (s.engBusy e s.time.clk).engChoose e

/-- The running invocation of engine e's schedule. -/
def Block.running (s : Block) (e : Nat) : Option Invocation := (s.engine e).queue.find? (fun v => v.running)

/-- An invocation leaves the queue. -/
def Block.dropInv (s : Block) (e : Nat) (v : Invocation) : Block :=
  s.modEngine e (fun g => { g with queue := g.queue.filter (fun x => x ≠ v) })

/-- A slot's invocation that is still unfinished when its next one falls due is terminated (R167); at that strobe its deadline, at
most the period on, has passed. -/
def Block.endLate (s : Block) (e task : Nat) : Block :=
  match (s.engine e).queue.find? (fun x => x.task = task && x.task < 32 && (x.late || decide (x.dueAbs ≤ s.absPick))) with
  | none => s
  | some x =>
    let s := if x.late then s else s.missed e x 0 0
    ((s.dropInv e x).setF (pg (mePage e) 0x58) 31 20 4095).raiseX (mePage e) 2 0 false false

/-- A task falls due: an invocation joins the queue, or counts as missed (R164, R168, R185). -/
def Block.invoke (s : Block) (e : Nat) (v : Invocation) : Block :=
  let gate := s.schedGate e
  let s := if gate = 3 then s else s.endLate e v.task
  match gate with
  | 0 =>
    let lowest := (s.slotsOn e).head?
    let inj := (s.engine e).injMiss && lowest == some v.task
    s.modEngine e (fun g => { g with queue := g.queue ++ [{ v with inj := inj }], injMiss := g.injMiss && !inj })
  | 1 => s.missed e v 1 0
  | 2 => s.missed e v 2 0
  | _ => s

/-- Words of a slot broadcast so far: one more than the stamp of the last, in picks since the first pick of the count. -/
def Block.wordsTo (s : Block) (k : Nat) : Nat := match (nth [] s.hist k).head? with
  | some w => w.pick + 1
  | none => 0

/-- The picks whose words of slot k engine schedule e takes (R162): from the commit that subscribed it to the one that ended it. -/
def Block.subSpan (s : Block) (e k : Nat) : Nat × Option Nat :=
  let g := s.engine e
  (nth 0 g.subFrom k, if s.rbit (subReg e) k then none else some (nth 0 g.subTill k))

/-- A commit of SUB moves the spans of the slots it changes (R162). -/
def Block.subMoved (s : Block) (e : Nat) (old : Word) : Block :=
  let new := s.getR (subReg e)
  let put (on : Bool) (l : List Nat) : List Nat :=
    (List.range 17).map (fun k => if old.bit k != new.bit k && new.bit k == on then s.absPick else nth 0 l k)
  s.modEngine e (fun g => { g with subFrom := put true g.subFrom, subTill := put false g.subTill })

/-- The words in the input buffer of engine schedule e, by slot (R162). -/
def Block.inputWords (s : Block) (e : Nat) : List (List HistWord) :=
  (List.range 17).map (fun k =>
    let sp := s.subSpan e k
    (nth [] s.hist k).filter (fun w => decide (sp.1 ≤ w.pick) && sp.2.all (fun t => decide (w.pick < t))))

/-- Work of a program of engine e over the words that its subscription took (R162): others count as absent (log 17). -/
def Block.asHeard (s : Block) (e : Nat) (f : Block → Block) : Block := { f { s with hist := s.inputWords e } with hist := s.hist }

/-- The end of what is needed of slot k below pick n, from pick m on; 0 where the schedule takes none of it. -/
def Block.slotNeed (s : Block) (e k m n : Nat) : Nat :=
  let sp := s.subSpan e k
  let hi := min n (sp.2.getD n)
  if max m sp.1 < hi then hi else 0

/-- Every subscribed word stamped before pick n has been broadcast (R111, R165). -/
def Block.wordsHave (s : Block) (e n : Nat) : Bool :=
  (List.range 17).all (fun k => decide (s.slotNeed e k 0 n ≤ s.wordsTo k))

/-- Slots of engine e that start at this pick (R164). -/
def Block.engSlots (s : Block) (e : Nat) : Block :=
  match s.schedImage e with
  | none => s
  | some i =>
    let c := s.time.cycle
    let p := s.time.pick
    forEach (s.slotsOn e) (fun k s =>
      let a := s.getR (slotReg e k)
      let b := s.getR (slotReg e k + 4)
      let per := max 1 (a.bits 11 0)
      if a.bits 21 12 = p && c % per = b.bits 31 20 then
        let en := nth ⟨0, 0, 0, 0, 0⟩ i.entries (a.bits 26 24)
        let need := match en.grain with
          | 1 => c * 1024
          | 2 => if 512 ≤ p then c * 1024 + 512 else c * 1024
          | _ => 0
        let wait := en.grain ≠ 0 && !s.wordsHave e need
        let s := if wait && s.schedGate e = 0 then
            let ep := (s.engine e).waitEpisode
            let s := (s.bump (pg (mePage e) 0x68) 15 0 1).modEngine e (fun g => { g with waitEpisode := true, waitSeen := true })
            if ep then s else s.raise (mePage e) 3 0
          else s
        s.invoke e ⟨k, a.bits 26 24, i.progOf (a.bits 26 24), s.strobeStamp, s.strobeStamp, s.absPick, s.absPick + b.bits 13 0, need, wait,
          false, false, false, false, 0, 0⟩
      else s) s

/-- STREAM tasks of engine e whose input block is complete at this pick (R162, R163). -/
def Block.engStreams (s : Block) (e : Nat) : Block :=
  let n := (s.engine e).blocksIn
  let need (k : Nat) : Nat := s.slotNeed e k (16 * n) (16 * n + 16)
  let full := decide (16 * n + 16 ≤ s.absPick + 1) && (List.range 17).all (fun k => decide (need k ≤ s.wordsTo k))
  let new := full && s.subSlots e ≠ 0 && (List.range 17).any (fun k => decide (0 < need k))
  let s := if full then s.modEngine e (fun g => { g with blocksIn := n + 1 }) else s
  match s.schedImage e, new with
  | some i, true =>
    forEach ((List.range i.entries.length).filter (fun k => (nth ⟨0, 0, 0, 0, 0⟩ i.entries k).type = 1)) (fun k s =>
      s.invoke e ⟨32, k, i.progOf k, s.strobeStamp, s.strobeStamp, s.absPick, s.absPick + 32, 0, false, false, false, false, false, 0, 0⟩) s
  | _, _ => s

/-- BLOCK tasks for a delivered wideband block (R163): due when block k + 2 of the stream completes, 10 ms on. -/
def Block.engBlocks (s : Block) (stream bseq stamp : Nat) : Block :=
  forEach (List.range 16) (fun e s =>
    match s.schedImage e with
    | none => s
    | some i =>
      if (s.subStreams e).contains stream then
        let due := s.absPick + 1 + ((1 / 100 : Rat) * 1024 * s.warp.freq).ceil.toNat
        let s := s.modEngine e (fun g => { g with queue := g.queue.map (fun v =>
          if v.task = 33 && v.stream = stream && v.bseq + 2 = bseq then { v with dueAbs := s.absPick + 1 } else v) })
        let s := forEach ((List.range i.entries.length).filter (fun k => (nth ⟨0, 0, 0, 0, 0⟩ i.entries k).type = 3)) (fun k s =>
          s.invoke e ⟨33, k, i.progOf k, stamp, s.stampNow, s.absPick, due, 0, false, false, false, false, false, stream, bseq⟩) s
        s.engIdleChoose e
      else s) s

/-- Per-cycle work of an engine at pick 0: LOAD (R195), wait episodes (R165), starts at the next pick 0 (R180, R184). -/
def Block.engCycle (s : Block) (e : Nat) : Block :=
  let g := s.engine e
  let a := pg (mePage e) 0x84
  let pct := min 100 (roundAny ((100 * g.busyClk : Nat) / (max 1 s.time.lastDur : Nat))).toNat
  let hi := if g.loadClr then 0 else max (s.fld a 15 8) pct
  let s := s.setN a (hi * 256 + pct)
  s.modEngine e (fun g =>
    { g with
      busyClk := 0
      loadClr := false
      waitEpisode := g.waitEpisode && g.waitSeen
      waitSeen := false
      startAt := if g.startAt = 1 || g.startAt = 4 then 0 else if g.startAt = 5 then 1 else g.startAt
      validFrom := if g.startAt = 1 || g.startAt = 4 then s.absPick else g.validFrom })

/-- At a pick 0, before commits: slots with START 0 are invoked under the schedule that stands, since a changed one begins with an
invocation whose start stamp follows the commit (R169). -/
def Block.slotsAtZero (s : Block) : Block :=
  forEach (List.range 16) (fun e s => if (s.engine e).startAt = 0 then s.engSlots e else s) s

/-- One strobe of all engines: busy time, new tasks, choice (R166). While ME15 serves an engine it has no task of its own (R180). -/
def Block.enginesPick (s : Block) : Block :=
  let s := forEach (List.range 16) (fun e s =>
    let zero := s.time.pick = 0
    let starts := (s.engine e).startAt = 1 || (s.engine e).startAt = 4
    let s := if zero then s.engCycle e else s
    let s := s.engStreams e
    let s := if zero && !starts then s else s.engSlots e
    let s := s.modEngine e (fun g => { g with runSince := 0 })
    if e = 15 && s.eng.served.isSome then s else s.engChoose e) s
  if s.eng.merge.isEmpty then s else forEach [5, 6, 7, 8] (fun r s => s.mergeFlush r) s

/-- INVOCATION_READY (R165): the last needed word has been broadcast. -/
def Block.invReady (s : Block) (e : Nat) : Block :=
  let s := s.modEngine e (fun g => { g with queue := g.queue.map (fun v =>
    if v.waiting && s.wordsHave e v.needAbs then { v with waiting := false } else v) })
  (s.engBusy e s.time.clk).engChoose e

/-- Busy time up to the strobe that ends the pick (R195). -/
def Block.enginesBusy (s : Block) : Block := forEach (List.range 16) (fun e s => s.engBusy e s.time.pickLen) s

/-- DEADLINE_MISS (R167): the invocation of earliest deadline that has passed it unfinished. -/
def Block.deadlineMiss (s : Block) (e : Nat) : Block :=
  match (s.engine e).queue.find? (fun v => !v.late && decide (v.dueAbs ≤ s.absPick)) with
  | none => s
  | some v =>
    let s := s.modEngine e (fun g => { g with queue := g.queue.map (fun x => if x = v then { x with late := true } else x) })
    ((s.missed e v 0 0).engBusy e s.time.clk).engChoose e

/-- A late invocation ends: its overrun is recorded (R167). -/
def Block.lateDone (s : Block) (e : Nat) (v : Invocation) : Block :=
  s.setF (pg (mePage e) 0x58) 31 20 (min 4094 (s.absPick - v.dueAbs))

/-! ### Commands of the ENG page (R177 to R182) -/

/-- Result, command and engine of ENG_STAT (R188). -/
def Block.engResult (s : Block) (res cmd e : Nat) : Block :=
  let a := pg 0x1C 0x44
  ((s.setF a 31 28 res).setF a 27 24 cmd).setF a 23 20 e

/-- A command rejected (R191): detector 2, and its result, REJECTED_STATE where no other code is its own (R188). -/
def Block.engReject (s : Block) (res : Option Nat) (cmd e : Nat) : Block := (s.engResult (res.getD 1) cmd e).raise 0x1C 2 0

/-- A command in progress (R187). -/
def Block.engBusyCmd (s : Block) : Bool := s.eng.transfer.isSome || s.eng.bist.isSome
def Block.showEng (s : Block) : Block :=
  let a := pg 0x1C 0x44
  let s := (s.setB a 18 s.eng.load.isSome).setB a 17 s.eng.served.isSome
  (s.setB a 16 s.engBusyCmd).setF a 3 0 (s.eng.served.getD 0)

/-- An image in a bank, or the bank marked not valid; BANK_x_INFO and BANK_x_VER show it (R193, R195). -/
def Block.setBank (s : Block) (e bank : Nat) (i : Option Image) : Block :=
  let s := s.modEngine e (fun g => if bank = 0 then { g with bankA := i } else { g with bankB := i })
  let p := mePage e
  let s := s.setB (pg p 0x40) bank i.isSome
  match i with
  | none => (s.setN (pg p (0x70 + 8 * bank)) 0).setN (pg p (0x74 + 8 * bank)) 0
  | some i => (s.setN (pg p (0x70 + 8 * bank)) (i.stateFmt * 65536 + i.prog1 * 256 + i.prog0)).setN (pg p (0x74 + 8 * bank)) i.ver

def Block.bankImage (s : Block) (e bank : Nat) : Option Image := if bank = 0 then (s.engine e).bankA else (s.engine e).bankB

/-- OPEN (R177). -/
def Block.engOpen (s : Block) (e bank : Nat) : Block :=
  if s.engBusyCmd then s.engReject none 1 e
  else if s.eng.load.isSome then s.engReject (some 1) 1 e
  else if s.fld (pg (mePage e) 0x40) 4 4 = bank then s.engReject (some 1) 1 e
  else
    let s := (s.setBank e bank none).modEng (fun b => { b with load := some ⟨e, bank, 0, []⟩ })
    let s := s.setN (pg 0x1C 0x4C) (1 * 2 ^ 28 + e * 2 ^ 24 + bank * 2 ^ 20)
    (s.engResult 0 1 e).showEng

/-- A word of the image (R177). -/
def Block.imgData (s : Block) (v : Word) : Block :=
  match s.eng.load with
  | none => s
  | some l =>
    let s := s.modEng (fun b => { b with load := some { l with words := l.words + 1, bytes := v.toBytes.reverse ++ l.bytes } })
    s.setF (pg 0x1C 0x4C) 15 0 (min 0xFFFF (l.words + 1))

/-- CHECK (R177); e: the ENGINE field of the command. The verification takes no time: RESULT goes to its outcome at once (log 17). -/
def Block.engCheck (s : Block) (e : Nat) : Block :=
  match s.eng.load with
  | none => s.engReject (some 1) 2 e
  | some l =>
    if s.engBusyCmd then s.engReject none 2 e
    else
      let r := s.checkImage l.bytes.reverse l.words
      let s := s.modEng (fun b => { b with load := none })
      let s := (s.setF (pg 0x1C 0x4C) 31 28 r.2).engResult 0 2 e
      let s := s.showEng
      if r.2 = 3 then s.setBank l.eng l.bank (some r.1) else (s.setBank l.eng l.bank none).raise 0x1C 3 0

/-- ABANDON (R177); e: the ENGINE field of the command. -/
def Block.engAbandon (s : Block) (e : Nat) : Block :=
  if s.eng.load.isNone then s.engReject (some 1) 3 e
  else (((s.modEng (fun b => { b with load := none })).setF (pg 0x1C 0x4C) 31 28 8).engResult 0 3 e).showEng

/-- The engine runs no task for itself (R178). -/
def Block.idleForActivate (s : Block) (e : Nat) : Bool :=
  s.meMode e = 1 || s.pageState (mePage e) = psFault || (e = 15 && s.meMode 15 = 0)
    || ((s.slotsOn e).isEmpty && s.subSlots e = 0 && (s.subStreams e).isEmpty)

/-- Engine pool of shared SRAM and the staging buffer, which counts as allocated (R161, R179, R463). -/
def poolLow : Nat := 0x180000
def poolEnd : Nat := 0x200000
def stagingLen : Nat := 0x10000
def Block.poolUsed (s : Block) : Nat := (List.range 16).foldl (fun n e => n + s.getN (pg (mePage e) 0x90)) stagingLen

/-- A region within the pool and apart from others. -/
def regionFits (others : List (Nat × Nat)) (len b : Nat) : Bool :=
  decide (poolLow ≤ b) && decide (b + len ≤ poolEnd) && others.all (fun r => decide (b + len ≤ r.1) || decide (r.1 + r.2 ≤ b))

/-- Where the pool's units place a region is theirs (log 17): a free value where it fits, else the first gap; the staging buffer is placed
first (R463). None: there is no gap of that length. -/
def stagingBase : Nat := if regionFits [] stagingLen (Config.poolBase 16 stagingLen) then Config.poolBase 16 stagingLen else poolLow
def Block.regionFor (s : Block) (e len : Nat) : Option Nat :=
  let region (k : Nat) : Nat × Nat := (s.getN (pg (mePage k) 0x8C), s.getN (pg (mePage k) 0x90))
  let others := (stagingBase, stagingLen) :: (((List.range 16).filter (fun k => k ≠ e)).map region).filter (fun r => r.2 ≠ 0)
  (Config.poolBase e len :: poolLow :: others.map (fun r => r.1 + r.2)).find? (regionFits others len)

/-- The engine holds a working region (R161); POOL_USED with it. -/
def Block.setRegion (s : Block) (e base len : Nat) : Block :=
  let s := (s.setN (pg (mePage e) 0x90) len).setN (pg (mePage e) 0x8C) base
  s.setN (pg 0x1C 0xBC) s.poolUsed

/-- An ENGINE record (R178; layout log 22): the digest of the image, its programs. -/
def Image.record (i : Image) : List Byte :=
  i.digest.take 32 ++ [BitVec.ofNat 8 i.prog0, BitVec.ofNat 8 i.prog1] ++ List.replicate 14 0

/-- Digests named by engine records and, by their positions, by the SYSTEM record (R178). -/
def Block.namedDigests (s : Block) : List (List Byte) := s.engines.map (fun g => g.named.take 32)

/-- A free position of the image store (R178, R179): not named by any record. mc: positions the SYSTEM record names. -/
def Block.freePosition (s : Block) (mc : List Nat) : Option Nat :=
  (List.range 4).find? (fun k => !mc.contains k && !(s.namedDigests.contains (nth [] s.eng.store k) && nth [] s.eng.store k != []))

/-- Window address of an image-store position (R428). -/
def storeAddr (k : Nat) : Nat := 0x038C00 + 16640 * k

/-- The image is written to a position (R178). -/
def Block.storeImage (s : Block) (k : Nat) (digest bytes : List Byte) : Block :=
  let s := s.modEng (fun b => { b with store := setNth b.store k digest })
  s.enqueue ⟨.at (storeAddr k), 0x0120, 2, some 1, 0, [bytes], false, false⟩

/-- ACTIVATE (R178, R179). -/
def Block.engActivate (s : Block) (e bank : Nat) (mc : List Nat) : Block :=
  if s.engBusyCmd then s.engReject none 4 e
  else match s.bankImage e bank with
    | none => s.engReject (some 1) 4 e
    | some i =>
      if !s.idleForActivate e || (s.eng.load.map (fun l => (l.eng, l.bank))) == some (e, bank) then s.engReject (some 1) 4 e
      else
        let need := !i.rom && !s.eng.store.contains i.digest
        let s0 := (s.setF (pg (mePage e) 0x40) 4 4 bank).modEngine e (fun g => { g with named := i.record })
        match s.regionFor e i.workLen, need, s0.freePosition mc with
        | none, _, _ => s.engReject (some 5) 4 e
        | _, true, none => s.engReject (some 6) 4 e
        | some base, _, pos =>
          let s := s0.setRegion e base i.workLen
          let up (s : Block) (p : Nat) : Block := if p = 0 then s else s.setN (floorReg p) (max i.roll (s.getN (floorReg p)))
          let s := up (up s i.prog0) i.prog1
          let s := s.commitRec (0x10 + e) [i.record]
          let s := match need, pos with
            | true, some k => s.storeImage k i.digest i.bytes
            | _, _ => s
          let s := if s.eng.served = some e then s else (s.modEngine e (fun g => { g with startAt := 1 })).engRequest e
          (s.engResult 0 4 e).raise 0x1C 1 0

/-- The bank of ME15 that matches an image (R180). -/
def Block.reserveBank (s : Block) (i : Image) : Option Nat :=
  let fits (b : Nat) : Bool := match s.bankImage 15 b with
    | some j => j.prog0 == i.prog0 && j.prog1 == i.prog1 && j.stateFmt == i.stateFmt
    | none => false
  if fits 0 then some 0 else if fits 1 then some 1 else none

/-- Everything an engine's schedule owes is placeheld, in order of deadline. -/
def Block.placeholdAll (s : Block) (e flags : Nat) : Block :=
  let q := (s.engine e).queue.foldl (fun l v =>
    l.filter (fun x => decide (x.rank ≤ v.rank)) ++ [v] ++ l.filter (fun x => decide (v.rank < x.rank))) []
  let s := forEach q (fun v s => if v.late then s else s.placehold e v flags) s
  (s.modEngine e (fun g => { g with queue := [] })).engChoose e

/-- Schedule of e handed to ME15 (R180). What ME15 itself still owes, and with a fresh start what waits on e, is placeheld (R235). -/
def Block.handOver (s : Block) (e bank : Nat) (fresh : Bool) : Block :=
  let s := s.placeholdAll 15 fInvalid
  let s := if fresh then s.placeholdAll e fInvalid else s
  let old := s.fld (pg (mePage 15) 0x40) 4 4
  let s := s.modEng (fun b => { b with served := some e, savedBank := old, transfer := none })
  let s := (s.setF (pg (mePage 15) 0x40) 4 4 bank).setF (pg (mePage 15) 0x40) 9 8 3
  let s := (s.setF (pg (mePage e) 0x40) 9 8 1).setPageState (mePage e) psUpdating
  let s := if fresh then s.modEngine e (fun g => { g with startAt := 1 }) else s
  (s.showEng.engResult 0 5 e).raise 0x1C 1 0

/-- TAKEOVER (R180). -/
def Block.engTakeover (s : Block) (e : Nat) (fresh : Bool) : Block :=
  if s.engBusyCmd then s.engReject none 5 e
  else if e = 15 then s.engReject (some 1) 5 e
  else
    let fault := s.pageState (mePage e) = psFault
    if s.meMode 15 ≠ 0 || s.meMode e ≠ 0 || (fault && !fresh) then s.engReject (some 1) 5 e
    else match s.activeImage e with
      | none => s.engReject (some 1) 5 e
      | some i => match s.reserveBank i with
        | none => s.engReject (some 3) 5 e
        | some b =>
          if fault then s.handOver e b true
          else ((s.modEng (fun x => { x with transfer := some ⟨e, fresh, s.absPick, false⟩ })).engResult 0 5 e).showEng

/-- No invocation of e's schedule runs or is ready (R180, R181). -/
def Block.quiet (s : Block) (e : Nat) : Bool := (s.engine e).queue.all (fun v => v.waiting)

/-- TAKEOVER_QUIET_PICK (R180). -/
def Block.takeoverQuiet (s : Block) : Block :=
  match s.eng.transfer with
  | some t =>
    if !t.back && decide (t.since + 64 ≤ s.absPick) && decide (s.absPick ≤ t.since + 4096) && s.quiet t.eng then
      match (s.activeImage t.eng).bind s.reserveBank with
      | some b => s.handOver t.eng b t.fresh
      | none => s
    else s
  | none => s

/-- NO_QUIET (R180): 4,096 picks without a quiet one. -/
def Block.noQuiet (s : Block) : Block :=
  match s.eng.transfer with
  | some t =>
    if !t.back && decide (t.since + 4096 < s.absPick) then
      ((s.modEng (fun b => { b with transfer := none })).engResult 2 5 t.eng).showEng
    else s
  | none => s

/-- GIVEBACK (R181). -/
def Block.engGiveback (s : Block) (e : Nat) (fresh : Bool) : Block :=
  if s.engBusyCmd then s.engReject none 6 e
  else if e = 15 then s.engReject (some 1) 6 e
  else if s.eng.served ≠ some e then s.engReject (some 1) 6 e
  else match s.activeImage e, s.activeImage 15 with
    | some i, some j =>
      if i.prog0 = j.prog0 && i.prog1 = j.prog1 then
        ((s.modEng (fun b => { b with transfer := some ⟨e, fresh || i.stateFmt ≠ j.stateFmt, s.absPick, true⟩ })).engResult 0 6 e).showEng
      else s.engReject (some 1) 6 e
    | _, _ => s.engReject (some 1) 6 e

/-- GIVEBACK_QUIET_PICK (R181). -/
def Block.givebackQuiet (s : Block) : Block :=
  match s.eng.transfer with
  | some t =>
    if t.back && decide (t.since + 64 ≤ s.absPick) && s.quiet t.eng then
      let bank := s.eng.savedBank
      let s := if t.fresh then s.placeholdAll t.eng fInvalid else s
      let s := s.modEng (fun b => { b with served := none, transfer := none })
      let s := (s.setF (pg (mePage 15) 0x40) 4 4 bank).setF (pg (mePage 15) 0x40) 9 8 0
      let s := s.setF (pg (mePage t.eng) 0x40) 9 8 0
      let s := if s.pageState (mePage t.eng) ≠ psUpdating then s
        else s.setPageState (mePage t.eng) (if s.rbit (pg (mePage t.eng) 0x04) 0 then psRun else psOff)
      let s := if t.fresh then s.modEngine t.eng (fun g => { g with startAt := 2 }) else s
      ((s.showEng.engResult 0 6 t.eng).engRequest t.eng).raise 0x1C 1 0
    else s
  | none => s

/-- BIST of an engine (R182, R558): starts on the arbiter's grant; a refusal ends it. -/
def Block.engBist (s : Block) (e : Nat) : Block :=
  if s.engBusyCmd then s.engReject none 7 e
  else if e = 15 then s.engReject (some 1) 7 e
  else if s.meMode e = 1 || s.pageState (mePage e) = psFault || (s.meMode e = 0 && !s.hasTask e) then
    let s := s.arbAsk 0x1C 3 10
    match s.arbFind 0x1C with
    | some r =>
      if r.outcome = 3 then (s.arbRelease 0x1C).engReject (some 1) 7 e
      else
        let s := s.modEng (fun b => { b with bist := some e })
        ((if s.meMode e = 0 then s.setF (pg (mePage e) 0x40) 9 8 2 else s).engResult 0 7 e).showEng
    | none => s
  else s.engReject (some 1) 7 e

/-- BIST_COMPLETE (R182, R559): failed parts bit 0 logic, 1 data memory, 2 banks; bad banks are marked not valid. The data memory is
cleared: programs start from their initial state, which a schedule on ME15 keeps. -/
def Block.engBistDone (s : Block) (sig : Word) (memFail badA badB : Bool) : Block :=
  match s.eng.bist with
  | none => s
  | some e =>
    if (s.arbFind 0x1C).any (fun r => r.outcome == 3) then
      let s := if s.meMode e = 2 then s.setF (pg (mePage e) 0x40) 9 8 0 else s
      (((s.modEng (fun b => { b with bist := none })).arbRelease 0x1C).engReject (some 1) 7 e).showEng
    else if !s.granted 0x1C then s
    else
      let exp := s.fuse 32
      let parts := b2n (sig != exp) + 2 * b2n memFail + 4 * b2n (badA || badB)
      let s := s.setN (pg (mePage e) 0x80) (2 ^ 31 + (if parts = 0 then 2 ^ 30 else 0) + parts)
      let s := (s.setR (pg 0x3F 0x4C) sig).setR (pg 0x3F 0x50) exp
      let s := if badA && (s.bankImage e 0).isSome then s.setBank e 0 none else s
      let s := if badB && (s.bankImage e 1).isSome then s.setBank e 1 none else s
      let s := if s.meMode e = 2 then s.setF (pg (mePage e) 0x40) 9 8 0 else s
      let s := if s.eng.served = some e then s else s.modEngine e (fun g => { g with startAt := if g.startAt = 3 then 3 else 1 })
      let s := (s.modEng (fun b => { b with bist := none })).arbRelease 0x1C
      ((s.engResult (if parts = 0 then 0 else 4) 7 e).showEng).raise 0x1C 1 0

/-! ### Disable, reset, fault (R183 to R185) -/

/-- The page is OFF: its grant is released, and the rings it wrote wait for it no longer (R183, R175). -/
def Block.engOff (s : Block) (e : Nat) : Block :=
  forEach [5, 6, 7, 8] (fun r s => s.mergeFlush r) ((s.setPageState (mePage e) psOff).engRequest e)

/-- ENABLE of an ME page committed (R183). No invocation that has not started starts any more. -/
def Block.meEnable (s : Block) (e : Nat) (on abort : Bool) : Block :=
  let p := mePage e
  if on then
    if s.pageState p = psDraining then s.setPageState p (if s.eng.served = some e then psUpdating else psRun)
    else if s.pageState p = psOff then
      ((s.setPageState p (if s.eng.served = some e then psUpdating else psRun)).modEngine e (fun g => { g with startAt := 1 })).engRequest e
    else s
  else if s.pageState p = psOff then s
  else
    let s := s.modEngine e (fun g => { g with queue := g.queue.filter (fun v => v.started) })
    if abort then (s.placeholdAll e fInvalid).engOff e
    else if (s.engine e).queue.isEmpty then s.engOff e else s.setPageState p psDraining

/-- Soft reset of an ME page (R184). The schedule that ME15 runs for it, which its registers show, continues; what ME15 runs for another
engine stops with ME15. A reset at a pick 0 starts the programs at the one after it. -/
def Block.meSoftReset (s : Block) (e : Nat) : Block :=
  let p := mePage e
  let owner := if e = 15 then s.eng.served.getD 15 else e
  let start := if s.time.pick = 0 then 5 else 1
  let s := if s.eng.served = some e then s
    else (s.placeholdAll owner fStale).modEngine owner (fun g => { g with startAt := start })
  let sched := [0x44, 0x48, 0x4C, 0x50] ++ (List.range 64).map (fun k => 0x100 + 4 * k)
  let offs := [0x54, 0x58, 0x5C, 0x60, 0x64, 0x68, 0x6C, 0x80, 0x84] ++ (if s.eng.served = some e then [] else sched)
  let s := forEach offs (fun o s => s.setR (pg p o) (regReset (pg p o))) s
  s.engRequest e

/-- Soft reset of ENG (R184): SUB returns at the next commit. -/
def Block.engSoftReset (s : Block) : Block :=
  let s := match s.eng.load with
    | some _ => ((s.modEng (fun b => { b with load := none })).setF (pg 0x1C 0x4C) 31 28 8).showEng
    | none => s
  forEach (List.range 16) (fun e s => { s with shadow := Sparse.put (subReg e) (regReset (subReg e)) s.shadow }) s

/-- An engine halts (R185): detector 6 self-check, 7 memory error. What ME15 runs for a halted engine that is taken over goes on. -/
def Block.engHalt (s : Block) (e d : Nat) : Block :=
  let s := (s.raise (mePage e) d 0).setPageState (mePage e) psFault
  let owner := if e = 15 then s.eng.served.getD 15 else e
  let q := if s.eng.served = some e then [] else (s.engine owner).queue
  let s := forEach q (fun v s => if v.late then s else s.missed owner v 2 0) s
  if s.eng.served = some e then s else (s.modEngine owner (fun g => { g with queue := [] })).engChoose owner

/-- A reply of an ended generation dropped by an engine (R184, R551). -/
def Block.meStale (s : Block) (e : Nat) : Block :=
  (s.bump (pg (mePage e) 0x6C) 15 0 1).raiseSeen (staleKey (mePage e)) (mePage e) 4 0

/-- Injection of ME detectors (R196). -/
def Block.meInject (s : Block) (e d : Nat) : Block :=
  if d = 1 then s.modEngine e (fun g => { g with injMiss := true }) else s.raiseX (mePage e) d 0 false true

/-- P07 runs on ME13, or on ME15 in its place (R150). -/
def Block.p07Runs (s : Block) : Bool :=
  (List.range 16).any (fun e => (e = 13 || e = 15) && s.schedGate e = 0 && (match s.schedImage e with
    | some i => (s.slotsOn e).any (fun k => i.progOf (s.fld (slotReg e k) 26 24) = 7)
    | none => false))

end Sys2Proof.Machine
end

