-- ==== Sys2Proof/Machine/Husk.lean ====
section
/-! DEFINITION. The Husk (R477 to R494, R503 to R510): fuses and root keys, key slots, KEY records, life cycle, unlock,
challenge and TEST session. -/

namespace Sys2Proof.Machine

def Block.modHusk (s : Block) (f : Husk → Husk) : Block := { s with husk := f s.husk }

def Block.slot (s : Block) (n : Nat) : KeySlot := nth KeySlot.empty s.husk.slots n
def Block.modSlot (s : Block) (n : Nat) (f : KeySlot → KeySlot) : Block := s.modHusk (fun h => { h with slots := modNth h.slots n f })

/-! ### Fuses and root keys -/

def Block.blow (s : Block) (k : Nat) (v : Word) : Block :=
  let w := s.fuse k ||| v
  s.modHusk (fun h => { h with fuses := Sparse.put k w h.fuses })

def Block.fuseBytes (s : Block) (k n : Nat) : List Byte := ((List.range n).map (fun i => (s.fuse (k + i)).toBytes)).flatten
def Block.dus (s : Block) : List Byte := s.fuseBytes 0 8
def Block.idBytes (s : Block) : List Byte := s.fuseBytes 8 4

/-- LC_STEPS (R482). -/
def Block.lcSteps (s : Block) : Nat := ((List.range 9).filter (fun i => (s.fuse 12).bit i)).length
def Block.lcState (s : Block) : Nat :=
  if (s.fuse 12).bit 9 then 4
  else match s.lcSteps with
    | 0 => 0
    | 1 => 1
    | n => if n % 2 = 1 then 3 else 2
/-- Returns for repair left (R482). -/
def Block.repairsLeft (s : Block) : Nat := if s.lcState = 4 then 0 else (9 - max 3 s.lcSteps) / 2

/-- SP 800-108 in counter mode over a PRF (R477, R492): n bytes. -/
def kdf108 (prf : List Byte → List Byte) (label ctx : List Byte) (bits n : Nat) : List Byte :=
  (((List.range ((n + 15) / 16)).map (fun i => prf (beBytes 4 (i + 1) ++ label ++ [0#8] ++ ctx ++ beBytes 4 bits))).flatten).take n

/-- The same where the PRF answers 32 bytes (HMAC-SHA-256). -/
def kdf108h (prf : List Byte → List Byte) (label ctx : List Byte) (bits n : Nat) : List Byte :=
  (((List.range ((n + 31) / 32)).map (fun i => prf (beBytes 4 (i + 1) ++ label ++ [0#8] ++ ctx ++ beBytes 4 bits))).flatten).take n

/-- ASCII bytes. -/
def ascii (l : List Nat) : List Byte := l.map (BitVec.ofNat 8)
def lblKek : List Byte := ascii [76, 89, 83, 45, 75, 69, 75]
def lblIdk : List Byte := ascii [76, 89, 83, 45, 73, 68, 75]
def lblUpm : List Byte := ascii [76, 89, 83, 45, 85, 80, 77]
def lblUpw : List Byte := ascii [76, 89, 83, 45, 85, 80, 87]

def Block.stepKey (s : Block) (label : List Byte) : List Byte :=
  kdf108 (aesCmac s.dus) label (s.idBytes ++ leBytes 1 s.lcSteps) 256 32
def Block.kek (s : Block) : List Byte := s.stepKey lblKek
def Block.upm (s : Block) : List Byte := s.stepKey lblUpm
def Block.upw (s : Block) : List Byte := s.stepKey lblUpw
/-- The identity private key (R477). -/
def Block.idKey (s : Block) : Nat := beNat (kdf108 (aesCmac s.dus) lblIdk s.idBytes 320 40) % (ecN - 1) + 1

/-! ### Slots -/

/-- Bytes of a key of a type. -/
def keyLen (ktype : Nat) : Nat := match ktype with
  | 1 => 16
  | 5 => 64
  | _ => 32

/-- KTYPE and USAGE combinations (R479). -/
def usageOk (ktype usage : Nat) : Bool := match ktype with
  | 1 | 2 => [1, 2, 3, 4, 6].contains usage
  | 3 => usage == 4 || usage == 6
  | 4 => usage == 4 || usage == 5
  | 5 => usage == 7
  | _ => false

/-- ATTR from outside (R480). -/
def attrOk (ktype usage attr : Nat) : Bool := attr < 8 && (attr % 2 == 0 || (ktype == 2 && usage == 6) || ktype == 5)

/-- Block of a slot (R480, R493): 0 EMPTY, 1 VALID, 2 REVOKED, 3 UNUSABLE. -/
def slotStateF (slots : List KeySlot) : Nat → Nat → Nat
  | 0, _ => 2
  | fuel + 1, n =>
    let k := nth KeySlot.empty slots n
    if k.unusable then 3
    else if k.ktype = 0 then 0
    else if k.attr / 8 % 2 = 0 then 1
    else if slotStateF slots fuel k.parent = 1 && (nth KeySlot.empty slots k.parent).epoch = k.parentEpoch then 1
    else 2
def Block.slotState (s : Block) (n : Nat) : Nat := slotStateF s.husk.slots 6 n

/-- HUSK_STAT (R508). -/
def Block.showHusk (s : Block) : Block :=
  let a := pg 0x3B 0x44
  let st := (List.range 64).map s.slotState
  let s := ((s.setF a 31 28 s.lcState).setF a 27 24 s.lcSteps).setF a 23 22 s.repairsLeft
  let s := ((s.setB a 20 s.husk.chal.isSome).setB a 18 s.husk.unlockAt.isSome).setB a 17 s.husk.stage.isSome
  let s := s.setB a 16 s.husk.trans.isSome
  (s.setF a 15 8 (st.filter (fun x => x ≠ 0)).length).setF a 7 0 (st.filter (fun x => x = 2)).length

/-- SLOT_INFO of the selected slot (R508). -/
def Block.slotInfo (s : Block) : Nat :=
  let n := s.fld (pg 0x3B 0x4C) 5 0
  let k := s.slot n
  s.slotState n * 2 ^ 28 + k.ktype * 2 ^ 24 + k.usage * 2 ^ 20 + k.depth * 2 ^ 16 + k.parent * 2 ^ 8 + k.attr

/-- The KEY record of a slot (R490). -/
def Block.keyRecord (s : Block) (k : KeySlot) : List Byte :=
  let body := if k.ktype = 0 then []
    else if k.ktype = 5 then k.key.take 32
    else aesWrap s.kek k.key
  let parity := if k.ktype = 5 then (k.key.getLast?.map (fun b => b.toNat % 2)).getD 0 else 0
  let l := leBytes 1 k.ktype ++ leBytes 1 k.usage ++ leBytes 2 k.attr ++ leBytes 1 s.lcSteps ++ leBytes 1 k.parent
    ++ leBytes 1 k.depth ++ leBytes 1 parity ++ leBytes 8 k.counter ++ leBytes 4 k.epoch ++ leBytes 4 k.parentEpoch ++ body
  l ++ List.replicate (72 - l.length) 0

def Block.commitKey (s : Block) (n : Nat) (k : KeySlot) : Block := s.commitRec (0x40 + n) [s.keyRecord k]
def stageRecord (msg : List Byte) : List Byte := (leBytes 2 msg.length ++ [0#8, 0#8] ++ msg ++ List.replicate 256 0#8).take 256
def Block.commitStage (s : Block) (msg : List Byte) : Block := s.commitRec 0x80 [stageRecord msg]

/-- A point from its x-coordinate and the parity of y (R490). -/
def pointOf (x parity : Nat) : List Byte :=
  let y := powMod ecP 256 ((x * x % ecP * x + (ecP - 3) * x + ecB) % ecP) ((ecP + 1) / 4) 1
  beBytes 32 x ++ beBytes 32 (if y % 2 = parity then y else (ecP - y) % ecP)

/-- A slot loaded from its KEY record (R485, R491): the slot, whether to commit it EMPTY, whether detector 6 reports it. -/
def Block.keyLoad (s : Block) (p : List Byte) : KeySlot × Bool × Bool :=
  let b (i n : Nat) : Nat := leNat ((p.drop i).take n)
  let base : KeySlot := ⟨b 0 1, b 1 1, b 2 2, b 5 1, b 6 1, b 8 8, b 16 4, b 20 4, [], false⟩
  let field := p.drop 24
  if b 4 1 ≠ s.lcSteps then (KeySlot.empty, true, true)
  else if base.ktype = 0 || s.lcState = 4 then
    ({ KeySlot.empty with counter := base.counter, epoch := base.epoch }, false, false)
  else if base.ktype = 5 then ({ base with key := pointOf (beNat (field.take 32)) (b 7 1 % 2) }, false, false)
  else match aesUnwrap s.kek (field.take (keyLen base.ktype + 8)) with
    | some k => ({ base with key := k }, false, false)
    | none => ({ base with unusable := true }, false, true)

/-- Husk loading at start-up (R485, R491). -/
def Block.huskLoad (s : Block) : Block :=
  let s := forEach (List.range 64) (fun n s =>
    match s.recContent (0x40 + n) with
    | some (p :: _) =>
      let r := s.keyLoad p
      let s := s.modSlot n (fun _ => r.1)
      let s := if r.2.1 then s.commitKey n KeySlot.empty else s
      if r.2.2 then s.raiseLater 0x3B 6 n else s
    | _ => s.modSlot n (fun _ => KeySlot.empty)) s
  let s := match s.recContent 0x80 with
    | some (p :: _) =>
      let len := leNat (p.take 2)
      let msg := (p.drop 4).take len
      let n := leNat ((msg.drop 10).take 1)
      if len = 0 then s
      else
        let s := s.commitStage []
        if (s.slot n).counter < leNat ((msg.drop 32).take 8) then s.raiseLater 0x3B 3 n else s
    | _ => s
  s.showHusk

/-- Fuse-held registers of the page (R509) and the crypto unit's start-up: DRBG seeded. -/
def Block.huskStart (s : Block) : Block :=
  let id := s.idBytes
  let pub := ecPublic s.idKey
  let s := forEach (List.range 4) (fun i s => s.setN (pg 0x3B (0x70 + 4 * i)) (leNat ((id.drop (4 * i)).take 4))) s
  let s := forEach (List.range 16) (fun i s => s.setN (pg 0x3B (0xC0 + 4 * i)) (leNat ((pub.drop (4 * i)).take 4))) s
  (s.setF (pg 0x3C 0x48) 7 6 1).showHusk

/-- Descendants of a slot that were VALID are revoked with it (R494): one event. -/
def Block.hasChildren (s : Block) (n : Nat) : Bool :=
  (List.range 64).any (fun c => s.slotState c = 1 && (s.slot c).attr / 8 % 2 = 1 && (s.slot c).parent = n)

/-- A slot takes new content at the completion of its KEY commit (R489, R493, R494). -/
def Block.keyApply (s : Block) (n : Nat) (k : KeySlot) : Block :=
  let kids := s.hasChildren n
  let s := (s.modSlot n (fun _ => k)).showHusk
  let s := s.raise 0x3B 1 n
  if kids then s.raise 0x3B 5 n else s

/-! ### Life cycle -/

/-- A command, unlock or challenge is rejected. -/
def Block.huskReject (s : Block) : Block := s.raise 0x3B 7 0

def Block.unlocked (s : Block) : Bool := match s.husk.unlockAt with
  | some a => decide (s.absPick < a + 65536)
  | none => false

/-- Not-started requests are answered ABORTED (R484, R506). -/
def CryptOp.abort (o : CryptOp) (stale : Bool) : CryptOp :=
  if o.phase = 0 then { o with phase := 3, status := 8, out := [], stale := stale } else o

/-- A transition starts (R484 step 1). kind: 0 the next step, 1 RETIRED. -/
def Block.transBegin (s : Block) (kind : Nat) : Block :=
  (s.modHusk (fun h => { h with trans := some kind, ops := h.ops.map (fun o => o.abort false) })).showHusk

/-- HUSK_CMD LC_STEP and RETIRE (R483, R508). -/
def Block.lcCmd (s : Block) (kind confirm : Nat) : Block :=
  let st := s.lcState
  if confirm ≠ 0x4C43 || !s.unlocked || s.husk.trans.isSome || !(st = 1 || st = 2) then s.huskReject
  else if kind = 0 && 9 ≤ s.lcSteps then s.huskReject
  else s.transBegin kind

/-- The TEST session closes (R504). -/
def Block.testClose (s : Block) : Block :=
  if s.testOpen then (s.setB (pg 0x3B 0x44) 19 false).raise 0x3B 8 0 else s

/-- The challenge is void (R503). -/
def Block.chalClear (s : Block) : Block :=
  let s := s.modHusk (fun h => { h with chal := none })
  (forEach (List.range 4) (fun i s => s.setN (pg 0x3B (0x80 + 4 * i)) 0) s).showHusk

def Block.unlockClose (s : Block) : Block := (s.modHusk (fun h => { h with unlock1 := none, unlockAt := none })).showHusk

/-- A record committed at once, where the store is free (R484 step 4). -/
def Block.commitNow (s : Block) (id : Nat) (pl : List Byte) : Block :=
  let c : Commit := ⟨.set, id, 2, none, 0, [pl], true, false⟩
  ((s.modRec (fun r => { r with queue := c :: r.queue })).commitDone).1

/-- LC_TRANSITION_COMPLETE (R484): steps 2 to 5, under a write permit, once no request runs and no commit is in progress. -/
def Block.transDone (s : Block) (ok : Bool) : Block :=
  match s.husk.trans with
  | none => s
  | some kind =>
    if s.husk.ops.any (fun o => o.phase = 1 || o.phase = 2) || s.recs.queue.any (fun c => c.started) || !s.permit then s
    else if !ok then
      let s := (s.modHusk (fun h => { h with trans := none })).showHusk
      s.raise 0x3B 4 s.lcSteps
    else
      let bit := if kind = 1 then 9 else s.lcSteps
      let s := s.blow 12 (BitVec.ofNat 32 (2 ^ bit))
      let s := s.modHusk (fun h => { h with slots := List.replicate 64 KeySlot.empty, stage := none, waits := [] })
      let s := forEach (List.range 64) (fun n s => s.commitNow (0x40 + n) (s.keyRecord KeySlot.empty)) s
      let s := s.commitNow 0x80 (stageRecord [])
      let s := (s.unlockClose.chalClear.testClose).setN (pg 0x3C 0x40) 0xFF
      let s := { s with shadow := Sparse.del (pg 0x3C 0x40) s.shadow }
      let s := (s.modHusk (fun h => { h with trans := none })).showHusk
      s.raise 0x3B 4 s.lcSteps

/-! ### Challenge, TEST session, unlock -/

def Block.drbgFail (s : Block) : Bool := s.fld (pg 0x3C 0x48) 7 6 = 2

/-- HUSK_CMD CHALLENGE (R503). -/
def Block.challenge (s : Block) : Block :=
  if s.drbgFail then s.huskReject
  else
    let r := s.drawBytes 16
    let s := r.2.modHusk (fun h => { h with chal := some r.1, chalUntil := r.2.rtcSec + 600 })
    (forEach (List.range 4) (fun i s => s.setN (pg 0x3B (0x80 + 4 * i)) (leNat ((r.1.drop (4 * i)).take 4))) s).showHusk

/-- CHALLENGE_EXPIRY (R503): at or after 600 s of RTC time. -/
def Block.chalExpire (s : Block) : Block :=
  if s.husk.chal.isSome && decide (s.husk.chalUntil ≤ s.rtcSec) then s.chalClear else s

/-- Seconds of Warp time since the start. -/
def Block.monoSec (s : Block) : Nat := (s.time.mono + s.time.clk) / sysHz

/-- TEST_LEFT (R509). -/
def Block.testLeft (s : Block) : Nat := if s.testOpen then s.husk.testUntil - s.monoSec else 0

/-- TEST_SESSION_EXPIRY (R504). -/
def Block.testExpire (s : Block) : Block := if s.testOpen && decide (s.husk.testUntil ≤ s.monoSec) then s.testClose else s

def Block.testSession (s : Block) (dur : Nat) : Block :=
  ((s.setB (pg 0x3B 0x44) 19 true).modHusk (fun h => { h with testUntil := s.monoSec + dur })).raise 0x3B 8 0

/-- A write to UNLOCK (R505). -/
def Block.unlockWrite (s : Block) (v : Word) : Block :=
  let st := s.lcState
  if !(st = 1 || st = 2) then s.huskReject
  else if v = 0 then s.unlockClose
  else if v = 0x5A5A0F0F then s.modHusk (fun h => { h with unlock1 := some (s.absPick, s.host.frameNo) })
  else if v = 0xA5A5F0F0 then
    match s.husk.unlock1 with
    | some (a, f) =>
      let s := s.modHusk (fun h => { h with unlock1 := none })
      if f ≠ s.host.frameNo && decide (s.absPick ≤ a + 1024) then (s.modHusk (fun h => { h with unlockAt := some s.absPick })).showHusk
      else s.huskReject
    | none => s.huskReject
  else s.huskReject

/-- UNLOCK_EXPIRY (R505): 65,536 picks after it opened, or the second word did not come in time. -/
def Block.unlockExpire (s : Block) : Block :=
  let s := match s.husk.unlockAt with
    | some a => if a + 65536 ≤ s.absPick then (s.modHusk (fun h => { h with unlockAt := none })).showHusk else s
    | none => s
  match s.husk.unlock1 with
  | some (a, _) => if a + 1024 < s.absPick then s.modHusk (fun h => { h with unlock1 := none }) else s
  | none => s

/-- REMASK_PASS (R481): a new mask, or without one the old; inverted at every 64th pass. -/
def Block.remask (s : Block) : Block :=
  let s := s.wrapAdd (pg 0x3B 0x64) 1
  let inv := s.getN (pg 0x3B 0x64) % 64 = 0
  let s := s.modHusk (fun h => { h with inverted := if inv then !h.inverted else h.inverted })
  if s.drbgFail then s.raiseOnce 0x3B09 0x3B 9 0
  else
    let r := s.draw
    (r.2.modHusk (fun h => { h with mask := r.1 })).endEpisode 0x3B09

/-- Soft reset of HUSK (R506). -/
def Block.huskSoftReset (s : Block) : Block := ((s.unlockClose.chalClear).setN (pg 0x3B 0x4C) 0).setN (pg 0x3B 0x64) 0

end Sys2Proof.Machine
end

