-- ==== Sys2Proof/Machine/Crypt.lean ====
section
/-! DEFINITION. The crypto unit's work for the host (R495 to R498, R503, R506): taking RING11 entries, starting and completing
operations, responses in RING12; the latch chain (R499, R500) and signatures of Yodaza records (R501, R502). -/

namespace Sys2Proof.Machine

/-- What lies at the tail of a ring the host produces (R410, R414): header fields and the whole entry. -/
structure TailEntry where
  seq : Nat
  type : Nat
  len : Nat
  bytes : List Byte
  deriving DecidableEq, Repr

/-- The entry at TAIL; none where the ring is empty, or off with nothing left to answer (R418). -/
def Block.tailEntry (s : Block) (n : Nat) : Option TailEntry :=
  if !(s.ringOn n || (s.ringMeta n).leaving.isSome) || s.ringUsed n < 16 then none
  else
    let t := s.getN (dTail n)
    let h := s.ringRead n t 16
    let len := 16 * leNat ((h.drop 14).take 1)
    some ⟨leNat (h.take 4), leNat ((h.drop 12).take 2), len, if len ≤ s.ringUsed n then s.ringRead n t len else []⟩

/-- TAIL moves over an entry; the watermark of a host-produced ring is reached from above (R423), and an emptied ring that was
disabled owes no more answers. -/
def Block.tailTake (s : Block) (n len : Nat) : Block :=
  let lim := 16 * s.fld (dCfg n) 15 0
  let above := decide (lim < s.ringUsed n)
  let s := s.wrapAdd (dTail n) len
  let s := if s.ringUsed n = 0 then s.modRing n (fun m => { m with leaving := none }) else s
  if above && s.ringUsed n ≤ lim && !(s.ringMeta n).wm then (s.modRing n (fun m => { m with wm := true })).raise 0x2D 2 n else s


/-- Entries of a ring that was disabled under ABORT are answered ABORTED (R418). -/
def Block.ringAborts (s : Block) (n : Nat) : Bool := (s.ringMeta n).leaving == some true

/-- The SEQ expected after this one (R414). -/
def Block.expectAfter (s : Block) (n seq : Nat) : Block := s.modRing n (fun m => { m with expect := (seq + 1) % 2 ^ 32 })

/-- The entry with LEN 0 at TAIL: TAIL is set to HEAD, and detector 6 raised (R414). -/
def Block.tailDrop (s : Block) (n seq : Nat) : Block := ((s.tailTake n (s.ringUsed n)).expectAfter n seq).raise 0x2D 6 n

/-- The engine of a request (R498): true, the elliptic-curve engine. A message is checked on the engine of its AUTH. -/
def CryptOp.ecc (o : CryptOp) : Bool := o.op == 6 || o.op == 7 || o.op == 8 || o.op == 12
  || ((o.op == 13 || o.op == 15) && (o.entry.drop (48 + leNat ((o.entry.drop 26).take 2) + 6)).head? == some 2#8)

/-- The crypto unit holds its request while an operation runs or wants to, or a ledger signature waits (R528). -/
def Block.cryptPower (s : Block) : Block :=
  if s.pwr.st == .hold then s
  else if s.husk.ops.any (fun o => decide (o.phase ≤ 1)) || 0 < s.fld (pg 0x3C 0x48) 31 24 then (s.arbOperation 0x3C 2 8).1
  else s.arbRelease 0x3C

/-- CRYPT_STAT (R512). -/
def Block.showCrypt (s : Block) : Block :=
  let a := pg 0x3C 0x48
  let ops := s.husk.ops
  let s := s.setF a 23 16 (min 255 ops.length)
  (s.setB a 5 (ops.any (fun o => o.phase = 1 && o.ecc))).setB a 4 (ops.any (fun o => o.phase = 1 && !o.ecc))

/-! ### Requests (R495, R496) -/

/-- Fields of a request. -/
structure CryptReq where
  op : Nat
  kslot : Nat
  mode : Nat
  tslot : Nat
  usage : Nat
  attr : Nat
  dlen : Nat
  alen : Nat
  iv : List Byte
  aad : List Byte
  data : List Byte
  total : Nat
  deriving DecidableEq, Repr

def cryptReq (e : List Byte) : CryptReq :=
  let b (i n : Nat) : Nat := leNat ((e.drop i).take n)
  let d := b 24 2
  let a := b 26 2
  ⟨b 16 2, b 18 1, b 19 1, b 20 1, b 21 1, b 22 2, d, a, (e.drop 32).take 16, (e.drop 48).take a, (e.drop (48 + a)).take d, e.length⟩

/-- Bytes of output a permitted request can produce at most (R498). -/
def CryptReq.maxOut (r : CryptReq) : Nat := match r.op with
  | 1 => if r.mode = 3 then r.dlen + 16 else r.dlen
  | 2 => if r.mode = 3 then r.dlen - 16 else r.dlen
  | 3 | 5 => 32
  | 6 | 12 => 64
  | 10 => 40
  | 11 => r.dlen
  | _ => 0

/-- Length of a response with n bytes of output (R496). -/
def respLen (n : Nat) : Nat := 32 + (n + 15) / 16 * 16

/-- Lengths fit the operation and the entry (R495, R496). -/
def CryptReq.lenOk (r : CryptReq) : Bool :=
  let held := if r.op = 11 then r.alen else r.alen + r.dlen
  decide (r.alen + r.dlen ≤ 4032) && decide (48 + held ≤ r.total)
    && (r.alen == 0 || ((r.op == 1 || r.op == 2) && r.mode == 3))
    && (match r.op with
      | 1 => r.mode ≠ 0 && r.mode ≠ 1 || r.dlen % 16 == 0
      | 2 => (r.mode ≠ 0 && r.mode ≠ 1 || r.dlen % 16 == 0) && (r.mode ≠ 3 || 16 ≤ r.dlen)
      | 6 => r.dlen == 32
      | 7 => r.dlen == 96
      | 8 => 64 ≤ r.dlen && r.dlen ≤ 128
      | 9 => r.dlen == 12
      | 10 | 12 | 14 => r.dlen == 0
      | 11 => 1 ≤ r.dlen && r.dlen ≤ 256
      | _ => true)

/-- Why a key slot may not be used (R497); 0 where it may: types, usage, whether HOSTOP is needed. -/
def Block.keyBad (s : Block) (n : Nat) (types : List Nat) (usage : Nat) (hostop : Bool) : Nat :=
  if 64 ≤ n then 0x24
  else
    let k := s.slot n
    match s.slotState n with
    | 0 | 3 => 0x20
    | 2 => 0x22
    | _ => if types.contains k.ktype && (usage = 0 || k.usage = usage) && (!hostop || k.attr / 4 % 2 = 1) then 0 else 0x21

/-- AES under a mode (R495): what it gives, none where a tag fails. -/
def aesMode (enc : Bool) (mode : Nat) (key iv aad data : List Byte) : Option (List Byte) := match mode with
  | 0 => some (aesEcb enc key data)
  | 1 => some (aesCbc enc key iv data)
  | 2 => some (aesCtr 16 key iv data)
  | _ =>
    if enc then
      let r := aesGcm true key (iv.take 12) aad data
      some (r.1 ++ r.2)
    else
      let n := data.length - 16
      let r := aesGcm false key (iv.take 12) aad (data.take n)
      if r.2 = data.drop n then some r.1 else none

/-- MAC under a slot's key. -/
def keyMac (k : KeySlot) (m : List Byte) : List Byte := if k.ktype = 3 then hmac256 k.key m else aesCmac k.key m

/-- The child of an ECDH or DERIVE request (R492, R493), or why there is none. -/
def Block.childOf (s : Block) (r : CryptReq) : Nat × KeySlot :=
  let p := s.slot r.kslot
  if 64 ≤ r.tslot || s.slotState r.tslot ≠ 0 || !(1 ≤ r.mode && r.mode ≤ 3) || !usageOk r.mode r.usage || !attrOk r.mode r.usage r.attr
      || 4 < p.depth + 1 then (0x24, KeySlot.empty)
  else
    let n := keyLen r.mode
    let key : Option (List Byte) :=
      if r.op = 9 then
        let ctx := s.idBytes ++ leBytes 1 r.tslot ++ leBytes 1 r.mode ++ leBytes 1 r.usage ++ leBytes 4 p.epoch
        some (if p.ktype = 3 then kdf108h (hmac256 p.key) r.data ctx (8 * n) n else kdf108 (aesCmac p.key) r.data ctx (8 * n) n)
      else (ecdhSecret (beNat p.key) (r.data.take 64)).map (fun z => (sha256 (beBytes 4 1 ++ z ++ r.data.drop 64)).take n)
    match key with
    | none => (0x24, KeySlot.empty)
    | some k =>
      (0, ⟨r.mode, r.usage, r.attr + 8, r.kslot, p.depth + 1, 0, ((s.slot r.tslot).epoch + 1) % 2 ^ 32, p.epoch, k, false⟩)

/-! ### Update messages and tokens (R487, R488, R503) -/

/-- The check of an authenticator over a text (R487). -/
def Block.authOk (s : Block) (auth slot : Nat) (text tag : List Byte) : Bool := match auth with
  | 0 => aesCmac s.upm text == tag
  | 1 => aesCmac (s.slot slot).key text == tag
  | 2 => ecdsaVerify (s.slot slot).key (sha256 text) tag
  | _ => true

/-- The authority key of an AUTH is in place (R488 step 5). -/
def Block.authorityOk (s : Block) (auth slot : Nat) : Bool :=
  let k := s.slot slot
  let held := s.slotState slot == 1 && k.attr % 2 == 1
  match auth with
  | 1 => held && k.ktype == 2 && k.usage == 6
  | 2 => held && k.ktype == 5
  | _ => true

/-- KEY_UPDATE's checks in the order of R488: the status, and the slot's new content. -/
def Block.updateCheck (s : Block) (m : List Byte) : Nat × Nat × KeySlot :=
  let b (i n : Nat) : Nat := leNat ((m.drop i).take n)
  let op := b 5 1
  let auth := b 6 1
  let aslot := b 7 1
  let wrap := b 8 1
  let wslot := b 9 1
  let n := b 10 1
  let ktype := b 11 1
  let usage := b 12 1
  let attr := b 14 2
  let klen := b 40 2
  let alen := match auth with
    | 0 | 1 => 16
    | 2 => 64
    | _ => 0
  let text := m.take (48 + klen)
  let field := (m.drop 48).take klen
  let want := if op = 2 then 0 else if ktype = 5 then 64 else keyLen ktype + (if wrap = 2 then 0 else 8)
  let life := s.lcState
  let no (st : Nat) : Nat × Nat × KeySlot := (st, n, KeySlot.empty)
  if b 0 4 ≠ 0x554B594C || b 4 1 ≠ 1 || !(op = 1 || op = 2) || 3 < auth || 2 < wrap || 63 < n || 63 < aslot || 63 < wslot
      || b 42 6 ≠ 0 || klen ≠ want || m.length ≠ 48 + klen + alen
      || (op = 1 && (!usageOk ktype usage || !attrOk ktype usage attr)) then no 0x24
  else if (m.drop 16).take 16 ≠ s.idBytes then no 0x25
  else if b 13 1 ≠ s.lcSteps then no 0x26
  else if !(life = 1 || life = 2 || life = 3) || ((auth = 3 || wrap = 2) && (life = 3 || !s.unlocked)) then no 0x28
  else if !s.authorityOk auth aslot then no 0x21
  else if !s.authOk auth aslot text (m.drop (48 + klen)) then no 0x23
  else if b 32 8 ≤ (s.slot n).counter then no 0x27
  else if s.recs.conflicts.contains (0x40 + n) || s.husk.stage.isSome then no 0x2A
  else
    let epoch := ((s.slot n).epoch + 1) % 2 ^ 32
    let made (key : List Byte) : KeySlot := ⟨ktype, usage, attr, 0xFF, 0, b 32 8, epoch, 0, key, false⟩
    if op = 2 then (0, n, { KeySlot.empty with counter := b 32 8, epoch := epoch })
    else
      let key : Option (List Byte) :=
        if ktype = 5 || wrap = 2 then some field
        else if wrap = 0 then aesUnwrap s.upw field
        else if s.slotState wslot = 1 && (s.slot wslot).usage = 3 then aesUnwrap (s.slot wslot).key field
        else none
      match key with
      | none => no 0x23
      | some k =>
        let bad := (ktype == 5 && !onCurve (beNat (k.take 32)) (beNat (k.drop 32)))
          || (ktype == 4 && !(1 ≤ beNat k && beNat k < ecN))
        if bad then no 0x24 else (0, n, made k)

/-- TOKEN's checks (R503): the status, kind and duration. -/
def Block.tokenCheck (s : Block) (m : List Byte) : Nat × Nat × Nat :=
  let b (i n : Nat) : Nat := leNat ((m.drop i).take n)
  let kind := b 5 1
  let auth := b 6 1
  let dur := b 28 4
  let alen := if auth = 2 then 64 else 16
  let durOk := if kind = 1 then 60 ≤ dur && dur ≤ 86400 else dur = 0
  let st :=
    if b 0 4 ≠ 0x4B54594C || b 4 1 ≠ 1 || !(1 ≤ kind && kind ≤ 3) || !(auth = 0 || auth = 2) || 63 < b 7 1 || b 25 3 ≠ 0
        || b 48 8 ≠ 0 || b 56 8 ≠ 0 || !durOk || m.length ≠ 64 + alen then 0x24
    else if (m.drop 8).take 16 ≠ s.idBytes then 0x25
    else if b 24 1 ≠ s.lcSteps then 0x26
    else if s.lcState ≠ 3 || (kind = 2 && s.repairsLeft = 0) then 0x28
    else if !s.authorityOk auth (b 7 1) then 0x21
    else if !s.authOk auth (b 7 1) (m.take 64) (m.drop 64) then 0x23
    else if s.husk.chal ≠ some ((m.drop 32).take 16) then 0x23
    else 0
  (st, kind, dur)

/-! ### Operations -/

/-- What an operation gives where its key may be used: status, output, further effect. -/
def Block.opResult (s : Block) (r : CryptReq) : Nat × List Byte × CryptEffect :=
  let k := s.slot r.kslot
  let gate (types : List Nat) (usage : Nat) (f : Unit → Nat × List Byte × CryptEffect) : Nat × List Byte × CryptEffect :=
    let bad := s.keyBad r.kslot types usage true
    if bad = 0 then f () else (bad, [], .none)
  match r.op with
  | 1 => gate [1, 2] 1 (fun _ =>
    if 3 < r.mode then (0x24, [], .none) else (0, (aesMode true r.mode k.key r.iv r.aad r.data).getD [], .none))
  | 2 => gate [1, 2] 2 (fun _ =>
    if 3 < r.mode then (0x24, [], .none)
    else match aesMode false r.mode k.key r.iv r.aad r.data with
      | some o => (0, o, .none)
      | none => (0x23, [], .none))
  | 3 => gate [1, 2, 3] 6 (fun _ => (0, keyMac k r.data, .none))
  | 4 => gate [1, 2, 3] 6 (fun _ =>
    let n := if k.ktype = 3 then 32 else 16
    if r.dlen < n then (3, [], .none)
    else if keyMac k (r.data.take (r.dlen - n)) = r.data.drop (r.dlen - n) then (0, [], .none) else (0x23, [], .none))
  | 5 => (0, sha256 r.data, .none)
  | 6 => gate [4] 5 (fun _ => (0, ecdsaSign (beNat k.key) r.data, .none))
  | 7 =>
    let bad := s.keyBad r.kslot [5] 7 false
    if bad ≠ 0 then (bad, [], .none)
    else if ecdsaVerify k.key (r.data.take 32) (r.data.drop 32) then (0, [], .none) else (0x23, [], .none)
  | 8 => gate [4] 4 (fun _ =>
    let c := s.childOf r
    if c.1 = 0 then (0, [], .child r.tslot c.2) else (c.1, [], .none))
  | 9 => gate [1, 2, 3] 4 (fun _ =>
    let c := s.childOf r
    if c.1 = 0 then (0, [], .child r.tslot c.2) else (c.1, [], .none))
  | 10 => gate [1, 2] 3 (fun _ =>
    let bad := s.keyBad r.tslot [1, 2, 3, 4] 0 false
    if bad ≠ 0 then (bad, [], .none)
    else if (s.slot r.tslot).attr / 2 % 2 = 0 then (0x21, [], .none)
    else (0, aesWrap k.key (s.slot r.tslot).key, .none))
  | 11 => if s.drbgFail then (0x29, [], .none) else (0, (s.drawBytes r.dlen).1, .none)
  | 12 =>
    if r.kslot = 0xFF then (0, ecPublic s.idKey, .none)
    else
      let bad := s.keyBad r.kslot [4, 5] 0 false
      if bad ≠ 0 then (bad, [], .none)
      else (0, if k.ktype = 5 then k.key else ecPublic (beNat k.key), .none)
  | 13 =>
    let u := s.updateCheck r.data
    if u.1 = 0 then (0, [], .update u.2.1 u.2.2 r.data) else (u.1, [], .none)
  | 14 =>
    if s.lcState = 0 then (0x28, [], .none)
    else if 64 ≤ r.kslot then (0x24, [], .none)
    else if k.ktype = 0 || k.unusable then (0x20, [], .none)
    else if k.attr / 8 % 2 = 0 then (0x21, [], .none)
    else (0, [], .delete r.kslot { KeySlot.empty with counter := k.counter, epoch := (k.epoch + 1) % 2 ^ 32 })
  | 15 =>
    let t := s.tokenCheck r.data
    if t.1 = 0 then (0, [], .token t.2.1 t.2.2) else (t.1, [], .none)
  | _ => (2, [], .none)

/-- An operation starts: its outcome is settled now (R494: by the keys as they stand). -/
def Block.opStart (s : Block) (o : CryptOp) : Block :=
  let r := cryptReq o.entry
  let v := s.opResult r
  let s := if o.op = 11 && v.1 = 0 then (s.drawBytes r.dlen).2 else s
  s.modHusk (fun h => { h with ops := h.ops.map (fun x => if x = o then { o with phase := 1, status := v.1, out := v.2.1, eff := v.2.2 } else x) })

/-- Requests start in order, each once its engine is free (R498); a waiting ledger signature goes before an elliptic one. -/
def Block.opsStart (s : Block) : Nat → Block
  | 0 => s.showCrypt
  | fuel + 1 =>
    let s := s.cryptPower
    match s.husk.ops.find? (fun o => o.phase = 0) with
    | none => s.showCrypt
    | some o =>
      let busy := !s.granted 0x3C || s.husk.ops.any (fun x => x.phase = 1 && x.ecc == o.ecc) || (o.ecc && 0 < s.fld (pg 0x3C 0x48) 31 24)
      if busy then s.showCrypt else Block.opsStart (s.opStart o) fuel

/-- A response in RING12 (R496). -/
def Block.cryptRespond (s : Block) (o : CryptOp) : Block :=
  let out := if o.status = 0 then o.out else []
  let body := leBytes 4 o.seq ++ leBytes 1 o.status ++ [0#8] ++ leBytes 2 out.length ++ List.replicate 8 0#8 ++ out
  let s := s.put 12 [⟨0x0C01, s.stampNow, if o.stale then 8 else 0, s.gen 0x3C, body⟩]
  let s := if o.status = 0 then s else s.bump (pg 0x3C 0x88) 15 0 1
  let s := if o.status = 8 then s.bump (pg 0x3C 0x8C) 15 0 1 else s
  if o.status = 0 || o.status = 0x23 then s.endEpisode 0x3C03 else s.raiseOnce 0x3C03 0x3C 3 0

/-- Responses leave in SEQ order (R498, OP-7); a draining page is OFF after the last one (R506). -/
def Block.cryptFlush (s : Block) : Nat → Block
  | 0 => s.showCrypt
  | fuel + 1 =>
    match s.husk.ops with
    | o :: rest =>
      if o.phase = 3 then Block.cryptFlush ((s.modHusk (fun h => { h with ops := rest })).cryptRespond o) fuel else s.showCrypt
    | [] => (if s.pageState 0x3C = psDraining then s.setPageState 0x3C psOff else s).showCrypt

/-- A request joins, with an outcome of its own where it is not to run. -/
def Block.opAdd (s : Block) (seq op : Nat) (entry : List Byte) (status : Option Nat) : Block :=
  s.modHusk (fun h => { h with ops := h.ops ++ [⟨seq, op, entry, if status.isSome then 3 else 0, status.getD 0, [], .none, false⟩] })

/-- The crypto unit takes RING11 entries now (R484, R498, R506). -/
def Block.cryptTakes (s : Block) : Bool :=
  s.pageState 0x3C == psRun && s.husk.trans.isNone && (s.pwr.st == .run || s.pwr.st == .lean)

/-- RING12 has room for responses of n bytes beside those of the requests taken (R498). -/
def Block.respRoom (s : Block) (n : Nat) : Bool :=
  let owed := (s.husk.ops.map (fun o => respLen (cryptReq o.entry).maxOut)).foldl (· + ·) 0
  s.ringRoom 12 (owed + n)

/-- The operation code at RING11's tail, where it is a well-formed request in SEQ order. -/
def Block.cryptNext (s : Block) : Option (TailEntry × Nat) :=
  match s.tailEntry 11 with
  | none => none
  | some e =>
    if e.len = 0 || e.bytes.isEmpty || e.seq ≠ (s.ringMeta 11).expect || e.type ≠ 0x0B01 || e.len < 48 || s.ringAborts 11 then none
    else
      let op := leNat ((e.bytes.drop 16).take 2)
      if 1 ≤ op && op ≤ 15 then some (e, op) else none

/-- Entries no operation takes (R414, R495): LEN 0, a reserved TYPE or OP, one too short for a request, a SEQ out of turn; the lowest code
where several apply (R395). -/
def Block.cryptSkim (s : Block) : Nat → Block
  | 0 => s
  | fuel + 1 =>
    if !s.cryptTakes || (s.cryptNext).isSome || !s.respRoom 32 then s
    else match s.tailEntry 11 with
      | none => s
      | some e =>
        let answer (s : Block) (st : Nat) : Block := (s.opAdd e.seq 0 [] (some st)).cryptFlush 256
        if e.len = 0 then (s.tailDrop 11 e.seq).opAdd e.seq 0 [] (some 3) |>.cryptFlush 256
        else if e.bytes.isEmpty then s
        else
          let op := leNat ((e.bytes.drop 16).take 2)
          let st := if s.ringAborts 11 then 8
            else if e.type ≠ 0x0B01 || (32 ≤ e.len && !(1 ≤ op && op ≤ 15)) then 2
            else if e.len < 48 then 3
            else 9
          Block.cryptSkim (answer ((s.tailTake 11 e.len).expectAfter 11 e.seq) st) fuel

/-- A RING11 row: the crypto unit takes the next entry where it asks for operation op (R498). -/
def Block.cryptTake (s : Block) (op : Nat) : Block :=
  match s.cryptNext with
  | none => s
  | some (e, o) =>
    let r := cryptReq e.bytes
    let need := respLen r.maxOut
    if o ≠ op || !s.cryptTakes then s
    else
      let tooBig := s.ringSize 12 / 2 < need
      if !tooBig && !s.respRoom need then s
      else
        let s := (s.tailTake 11 e.len).expectAfter 11 e.seq
        let s := s.opAdd e.seq op e.bytes (if tooBig || !r.lenOk then some 3 else none)
        (((s.opsStart 256).cryptFlush 256).cryptSkim 256)

/-- CRYPTO_OP_COMPLETE on the symmetric or the elliptic-curve engine: the operation's further effects begin, its response is
written in SEQ order, and what waited starts (R489, R493, R498). -/
def Block.opComplete (s : Block) (ecc : Bool) : Block :=
  match s.husk.ops.find? (fun o => o.phase = 1 && o.ecc == ecc) with
  | none => s
  | some o =>
    let finish (s : Block) (phase status : Nat) : Block :=
      s.modHusk (fun h => { h with ops := h.ops.map (fun x => if x = o then { x with phase := phase, status := status } else x) })
    let s := s.wrapAdd (pg 0x3C 0x80) 1
    let s := match o.eff with
      | .none =>
        let s := if (o.op = 13 || o.op = 15) && o.status ≠ 0 then
            let d := (cryptReq o.entry).data
            s.raise 0x3B 2 (leNat ((d.drop (if o.op = 13 then 10 else 7)).take 1))
          else s
        finish (if o.op = 15 then s.chalClear else s) 3 o.status
      | .token kind dur =>
        let s := finish s.chalClear 3 0
        if kind = 1 then s.testSession dur else s.transBegin (if kind = 2 then 0 else 1)
      | .update slot new msg =>
        if s.husk.stage.isSome then finish (s.raise 0x3B 2 slot) 3 0x2A
        else finish (((s.modHusk (fun h => { h with stage := some (1, slot, new, o.seq) })).commitStage msg).showHusk) 2 0
      | .child slot new | .delete slot new =>
        finish ((s.modHusk (fun h => { h with waits := h.waits ++ [(slot, new, o.seq)] })).commitKey slot new) 2 0
    (((s.opsStart 256).cryptFlush 256).cryptSkim 256).cryptPower

/-- A KEY or KEY_STAGE commit has completed (R489, R492, R493). -/
def Block.keyCommitted (s : Block) (id : Nat) : Block :=
  let answer (s : Block) (seq : Nat) : Block :=
    let s := s.modHusk (fun h => { h with ops := h.ops.map (fun o => if o.seq = seq && o.phase = 2 then { o with phase := 3 } else o) })
    ((s.cryptFlush 256).opsStart 256).cryptSkim 256
  if id = 0x80 then
    match s.husk.stage with
    | some (1, slot, new, seq) =>
      (s.modHusk (fun h => { h with stage := some (2, slot, new, seq) })).commitKey slot new
    | some (3, _, _, _) => (s.modHusk (fun h => { h with stage := none })).showHusk
    | _ => s
  else
    let n := id - 0x40
    match s.husk.waits.find? (fun w => w.1 = n) with
    | some (_, new, seq) =>
      let s := s.modHusk (fun h => { h with waits := h.waits.eraseIdx ((h.waits.findIdx? (fun w => w.1 = n)).getD 0) })
      answer (s.keyApply n new) seq
    | none => match s.husk.stage with
      | some (2, slot, new, seq) =>
        if slot = n then
          let s := (s.modHusk (fun h => { h with stage := some (3, slot, new, seq) })).keyApply n new
          (answer s seq).commitStage []
        else s
      | _ => s

/-! ### DRBG, disable, reset (R498, R506, R512) -/

def Block.drbgRestart (s : Block) (ok : Bool) : Block :=
  if ok then s.setF (pg 0x3C 0x48) 7 6 1 else (s.setF (pg 0x3C 0x48) 7 6 2).raise 0x3C 1 0

def Block.trngFail (s : Block) : Block := (s.setF (pg 0x3C 0x48) 7 6 2).raise 0x3C 1 0

def Block.cryptAbort (s : Block) (stale : Bool) : Block :=
  (s.modHusk (fun h => { h with ops := h.ops.map (fun o => o.abort stale) })).cryptFlush 256

def Block.cryptEnable (s : Block) (on abort : Bool) : Block :=
  if on then (s.setPageState 0x3C psRun).cryptSkim 256
  else
    let s := if abort then s.cryptAbort false else s
    if s.husk.ops.isEmpty then s.setPageState 0x3C psOff else s.setPageState 0x3C psDraining

def Block.cryptSoftReset (s : Block) : Block :=
  let s := s.cryptAbort true
  let s := forEach [0x40, 0x80, 0x84, 0x88, 0x8C] (fun o s => s.setR (pg 0x3C o) (regReset (pg 0x3C o))) s
  (s.setB (pg 0x3C 0x48) 2 false).showCrypt

/-- Field checks (R512), detector 5. -/
def cryptRules : List FieldRule := [⟨0x40, 0x40, 7, 0, fun v => v < 64 || v == 255, 5⟩]

/-- LEDGER_SLOT a commit may name (R502). -/
def Block.ledgerSlotOk (s : Block) (v : Word) : Bool :=
  let n := v.bits 7 0
  n = 0xFF || (n < 64 && s.slotState n = 1 && (s.slot n).ktype = 4 && (s.slot n).usage = 5 && (s.slot n).attr / 4 % 2 = 0)

/-! ### The chain and Yodaza records -/

/-- The chain head shown (R513). -/
def Block.showChain (s : Block) (lseq : Nat) : Block :=
  let s := forEach (List.range 8) (fun i s => s.setN (pg 0x3C (0x60 + 4 * i)) (leNat ((s.husk.chain.drop (4 * i)).take 4))) s
  (s.setN (pg 0x3C 0x4C) lseq).setF (pg 0x3C 0x50) 15 0 (lseq / 2 ^ 32)

/-- The chain extended over a stamp and bodies (R499). -/
def Block.chainOver (s : Block) (stamp : Nat) (bodies : List Byte) : Block :=
  s.modHusk (fun h => { h with chain := sha256 (h.chain ++ leBytes 8 stamp ++ bodies) })

/-- The seed of a start (R500). -/
def Block.chainSeed (s : Block) (base : Nat) : Block :=
  let epoch := s.fld (pg 5 0xA8) 15 0
  let m := [0x4C#8, 0x59#8, 0x53#8, 0x43#8] ++ s.deviceId ++ leBytes 2 epoch ++ leBytes 6 base
  let s := (s.modHusk (fun h => { h with chain := sha256 m })).showChain base
  (s.setB (pg 0x3C 0x48) 3 true).raise 0x3C 4 0

/-- A signature request joins or leaves the ledger's queue: LEDGER_Q shows how many wait (R512). -/
def Block.showLedgerQ (s : Block) (n : Nat) : Block := (s.setF (pg 0x3C 0x48) 31 24 (min 255 n)).cryptPower

/-- A Yodaza record's header (R501). -/
def yodaza (kind plen lseq slot : Nat) (late : Bool) (hash : List Byte) : List Byte :=
  leBytes 4 0x5A444F59 ++ [1#8] ++ leBytes 1 kind ++ leBytes 2 plen ++ leBytes 6 lseq ++ leBytes 1 slot ++ leBytes 1 (b2n late) ++ hash

/-- A Yodaza signature (R501, R502): the slot used, r ‖ s, with the fallback to ID. -/
def Block.yodazaSign (s : Block) (kind lseq : Nat) (hash payload : List Byte) (slot : Nat) : Block × Nat × List Byte :=
  let held := slot < 64 && s.ledgerSlotOk (BitVec.ofNat 32 slot)
  let fall := slot ≠ 0xFF && !held
  let used := if fall then 0xFF else slot
  let d := if used = 0xFF then s.idKey else beNat (s.slot used).key
  let h := yodaza kind payload.length lseq used false hash
  let digest := sha256 (s.deviceId ++ h.take 14 ++ h.drop 16 ++ payload)
  let s := (s.setB (pg 0x3C 0x48) 2 fall).wrapAdd (pg 0x3C 0x84) 1
  (if fall then s.raise 0x3C 2 0 else s, used, ecdsaSign d digest)

end Sys2Proof.Machine
end

