-- ==== Sys2Proof/Machine/AuxConv.lean ====
section
/-! DEFINITION. The auxiliary converter (R260 to R280) and the diagnostic DAC (R269 to R271, R281 to R283). -/

namespace Sys2Proof.Machine

def Block.modAux (s : Block) (f : Aux → Aux) : Block := { s with aux := f s.aux }

/-- SRC and REF of an entry are allowed together (R261). -/
def auxSrcOk (src ref : Nat) : Bool := decide (src ≤ 3) || (decide (src ≤ 9) && ref == 1)

/-- Field checks of the AUX page (R273, R274); REF and SRC together by `auxEntryOk`. -/
def auxRules : List FieldRule := [
  ⟨0x44, 0x44, 31, 20, fun v => v ≠ 0, 2⟩,
  ⟨0x80, 0xBC, 31, 24, fun v => 9 ≤ v, 2⟩,
  ⟨0x80, 0xBC, 22, 20, fun v => v ≤ 4, 2⟩]

/-- A SEQ_ENTRY word names a source and reference R261 allows. -/
def auxEntryOk (v : Word) : Bool := auxSrcOk (v.bits 3 0) (v.bits 16 16)

/-- The converter runs: RUN, page enabled (R18, R271). -/
def Block.auxUp (s : Block) : Bool := s.pwr.st == .run && s.pageState 0x1A == psRun

/-- AUX_STAT (R278) from the unit's state. POWERED and AUXREF_ON stand throughout RUN where AUX_CFG says so, whatever ENABLE is (R262,
R266). An urgent RATIO conversion outside a sequence drives no AUXREF that AUX_STAT shows (log 26). -/
def Block.showAux (s : Block) : Block :=
  let a := s.aux
  let g := pg 0x1A 0x4C
  let urg := match a.urg with
    | some (_, _, r) => r
    | none => false
  let busy := a.seq.isSome || a.calRuns || urg
  let ratio := match a.seq with
    | none => false
    | some q => (List.range (q.last + 1)).any (fun i => decide (q.cur ≤ i) && !(nth 0 q.entries i).bit 16)
  let s := s.setB g 4 (a.calRuns || a.calWaits)
  let s := (s.setB g 3 a.urg.isSome).setB g 2 a.seq.isSome
  let s := s.setB g 1 (busy || (s.fld (pg 0x1A 0x40) 17 16 == 1 && s.pwr.st == .run))
  let s := s.setB g 0 (ratio || (s.rbit (pg 0x1A 0x40) 8 && s.pwr.st == .run))
  s.setF g 19 16 (match a.seq with
    | some q => min q.cur q.last
    | none => 0)

/-- The start-up delay in clock periods: 8 µs at 98.304 MHz where the converter is powered down (R266). -/
def Block.auxDelay (s : Block) : Nat := if s.rbit (pg 0x1A 0x4C) 1 then 0 else 787

/-- A sequence starts under the committed entries (R264, R265). -/
def Block.auxStart (s : Block) : Block :=
  if s.aux.calRuns then s.modAux (fun a => { a with trigWaits := true })
  else
    let q : AuxSeq :=
      { entries := (List.range 16).map (fun i => s.getR (pg 0x1A (0x80 + 4 * i)))
        last := s.fld (pg 0x1A 0x44) 7 4
        continuous := s.fld (pg 0x1A 0x44) 1 0 == 3
        cur := 0
        stamp := s.stampAfter s.auxDelay
        preempted := false
        results := (List.range 16).map (fun i => s.getR (pg 0x1A (0xC0 + 4 * i)))
        clamped := false }
    (s.modAux (fun a => { a with seq := some q, trigWaits := false })).showAux

/-- The PICK trigger at a strobe (R264): taken, or skipped while a sequence runs. -/
def Block.auxPick (s : Block) : Block :=
  let c := s.getR (pg 0x1A 0x44)
  if !s.auxUp || c.bits 1 0 ≠ 1 || c.bits 19 10 ≠ s.time.pick || s.time.cycle % max 1 (c.bits 31 20) ≠ 0 then s
  else if s.aux.seq.isSome then (s.bump (pg 0x1A 0x70) 15 0 1).raiseOnce 0x1A01 0x1A 1 0
  else (s.endEpisode 0x1A01).auxStart

/-- AUX_CMD START (R264, R276). -/
def Block.auxCmdStart (s : Block) : Block :=
  let trig := s.fld (pg 0x1A 0x44) 1 0
  if (trig = 2 || trig = 3) && s.aux.seq.isNone && s.auxUp then s.auxStart else s.raise 0x1A 2 0

/-- AUX_CMD STOP (R264, R276): the running CONTINUOUS sequence is the last. -/
def Block.auxCmdStop (s : Block) : Block :=
  match s.aux.seq with
  | some q =>
    if q.continuous then s.modAux (fun a => { a with seq := some { q with continuous := false } }) else s.raise 0x1A 2 0
  | none => s.raise 0x1A 2 0

/-- The corrected result of R263 from the exact sum: v and whether it was clamped. -/
def Block.auxValue (s : Block) (sum avg : Nat) : Nat × Bool :=
  let ofs := signedOf 16 (s.fld (pg 0x1A 0x54) 15 0)
  let gain := s.fld (pg 0x1A 0x50) 15 0
  let q : Rat := (((16 * sum : Nat) : Rat) / (2 ^ avg : Nat) - (ofs : Rat)) * (gain : Nat) / (2 ^ 14 : Nat)
  let v := roundRne q
  ((max 0 (min 65535 v)).toNat, decide (v < 0) || decide (65535 < v))

/-- The DAC stands on an aux input (R269). -/
def Block.dacOnInput (s : Block) (src : Nat) : Bool := match s.aux.dac with
  | some (k, t) => decide (k ≤ 1) && t == src && decide (src ≤ 3)
  | none => false

/-- A result word (R277). -/
def Block.auxResult (s : Block) (v : Nat) (clamp diag pre : Bool) (no : Nat) : Word :=
  BitVec.ofNat 32 (v * 65536 + 0x8000 + b2n (!s.rbit (pg 0x1A 0x4C) 5) * 0x2000 + b2n clamp * 0x1000 + b2n diag * 0x800
    + b2n pre * 0x400 + no % 256)

/-- A die-temperature result updates DIE_TEMP and the mean of R138. -/
def Block.dieTempResult (s : Block) (v : Nat) : Block :=
  let t := Config.dieTemp v
  (s.setR (pg 0x1A 0x6C) (f32of t)).modSpare (fun p => { p with tempSum := p.tempSum + t, tempCnt := p.tempCnt + 1 })

/-- AUX_ENTRY_COMPLETE (R260, R263): the result of the current entry, from the exact sum of its raw codes. -/
def Block.auxEntry (s : Block) (sum : Nat) : Block :=
  match s.aux.seq with
  | none => s
  | some q =>
    if q.last < q.cur || s.aux.urg.isSome then s
    else
      let e := nth 0 q.entries q.cur
      let src := e.bits 3 0
      let r := s.auxValue sum (e.bits 22 20)
      let w := s.auxResult r.1 r.2 (s.dacOnInput src) q.preempted (s.fld (pg 0x1A 0x4C) 31 24 + 1)
      (s.modAux (fun a => { a with seq := some { q with
        cur := q.cur + 1, preempted := false, results := setNth q.results q.cur w, clamped := q.clamped || r.2 } })).showAux

/-- A block to the engines of DELIV_MASK, ME15 in the place of an engine it serves (R265). -/
def Block.auxDeliver (s : Block) (b : AuxBlock) : Block :=
  forEach ((List.range 16).filter (fun e => s.rbit (pg 0x1A 0x78) e)) (fun e s =>
    s.modAux (fun a => { a with blocks := Sparse.put (s.runnerOf e) b a.blocks })) s

/-- RES and the block of a sequence that ends, with its SEQ_STAMP and SEQ_NO, and DIE_TEMP of its die results (R263, R265). -/
def Block.auxPublish (s : Block) (q : AuxSeq) : Block :=
  let no := s.fld (pg 0x1A 0x4C) 31 24 + 1
  let s := forEach (List.range (q.last + 1)) (fun i s => s.setR (pg 0x1A (0xC0 + 4 * i)) (nth 0 q.results i)) s
  let s := (s.set64 (pg 0x1A 0x64) q.stamp).setF (pg 0x1A 0x4C) 31 24 no
  let s := forEach ((List.range (q.last + 1)).filter (fun i => (nth 0 q.entries i).bits 3 0 = 4 && (nth 0 q.results i).bit 15)) (fun i s =>
    s.dieTempResult ((nth 0 q.results i).bits 31 16)) s
  s.auxDeliver ⟨no % 256, q.stamp, (List.range 16).map (fun i => s.getR (pg 0x1A (0xC0 + 4 * i))), q.entries⟩

/-- Detectors 4 and 5 after results (R263, R267): one event per episode. -/
def Block.auxEvents (s : Block) (clamped : Bool) : Block :=
  let s := if clamped then s.raiseOnce 0x1A04 0x1A 4 0 else s
  if s.rbit (pg 0x1A 0x4C) 5 then s else s.raiseOnce 0x1A05 0x1A 5 0

/-- A waiting calibration, then a waiting trigger, then the next CONTINUOUS run, when a sequence has ended. -/
def Block.auxNext (s : Block) (again : Bool) : Block :=
  let again := again && s.fld (pg 0x1A 0x44) 1 0 == 3
  if s.aux.calWaits && s.aux.urg.isNone then
    (s.modAux (fun a => { a with calWaits := false, calRuns := true, trigWaits := a.trigWaits || again })).showAux
  else if s.aux.calRuns then s
  else if (s.aux.trigWaits || again) && s.auxUp then s.auxStart
  else s.showAux

/-- A draining AUX page with nothing left is OFF (R271). -/
def Block.auxDrained (s : Block) : Block :=
  if s.pageState 0x1A = psDraining && s.aux.seq.isNone && s.aux.urg.isNone then s.setPageState 0x1A psOff else s

/-- SEQUENCE_END (R265). -/
def Block.auxSeqEnd (s : Block) : Block :=
  match s.aux.seq with
  | none => s
  | some q =>
    if q.cur ≤ q.last then s
    else
      let s := (s.modAux (fun a => { a with seq := none })).auxPublish q
      let s := if q.clamped then s else s.endEpisode 0x1A04
      ((s.auxEvents q.clamped).auxNext q.continuous).auxDrained

/-- AUX_CMD CAL (R267). -/
def Block.auxCal (s : Block) : Block :=
  if s.aux.calRuns || s.aux.calWaits || !s.auxUp then s.raise 0x1A 2 0
  else if s.aux.seq.isSome || s.aux.urg.isSome then (s.modAux (fun a => { a with calWaits := true })).showAux
  else (s.modAux (fun a => { a with calRuns := true })).showAux

/-- An urgent conversion that waits starts now (R268). -/
def Block.auxUrgStart (s : Block) : Block :=
  match s.aux.urg with
  | some (w, _, false) =>
    if s.aux.calRuns then s
    else
      let st := s.stampAfter s.auxDelay
      (s.modAux (fun a => { a with urg := some (w, st, true) })).showAux
  | _ => s

/-- CAL_COMPLETE (R267): the factors the calibration measured. -/
def Block.auxCalDone (s : Block) (gain : Nat) (ofs : Int) : Block :=
  if !s.aux.calRuns then s
  else
    let s := s.modAux (fun a => { a with calRuns := false })
    let ok := 15565 ≤ gain && gain ≤ 17203 && ofs.natAbs ≤ 1024
    let s := if ok then
        let s := (s.setN (pg 0x1A 0x50) gain).setN (pg 0x1A 0x54) (unsignedOf 16 ofs)
        ((s.setB (pg 0x1A 0x4C) 5 true).setF (pg 0x1A 0x4C) 7 6 1).endEpisode 0x1A05
      else s.setF (pg 0x1A 0x4C) 7 6 2
    let s := s.auxUrgStart
    (if s.aux.seq.isNone then s.auxNext false else s.showAux).raise 0x1A 3 0

/-- AUX_CMD URGENT (R268): a sequence entry in progress is abandoned. -/
def Block.auxUrgent (s : Block) (w : Word) : Block :=
  if s.aux.urg.isSome || !s.auxUp || !auxSrcOk (w.bits 11 8) (w.bits 16 16) || w.bits 31 24 < 9 || 4 < w.bits 22 20 then s.raise 0x1A 2 0
  else
    let s := match s.aux.seq with
      | some q => if q.cur ≤ q.last then
          (s.modAux (fun a => { a with seq := some { q with preempted := true } })).bump (pg 0x1A 0x74) 15 0 1
        else s
      | none => s
    (s.modAux (fun a => { a with urg := some (w, 0, false) })).showAux.auxUrgStart

/-- URGENT_COMPLETE (R268). A sequence triggered meanwhile begins its first conversion now. -/
def Block.auxUrgDone (s : Block) (sum : Nat) : Block :=
  match s.aux.urg with
  | some (w, stamp, true) =>
    let r := s.auxValue sum (w.bits 22 20)
    let n := s.aux.urgCnt + 1
    let s := s.modAux (fun a => { a with urg := none, urgCnt := n })
    let s := (s.setR (pg 0x1A 0x58) (s.auxResult r.1 r.2 (s.dacOnInput (w.bits 11 8)) false n)).set64 (pg 0x1A 0x5C) stamp
    let s := if w.bits 11 8 = 4 then s.dieTempResult r.1 else s
    let s := match s.aux.seq with
      | none => s.auxNext false
      | some q => (if q.cur = 0 && !q.preempted then s.modAux (fun a => { a with seq := some { q with stamp := s.stampNow } }) else s).showAux
    (s.auxEvents r.2).auxDrained
  | _ => s

/-- Results not converted take VALID = 0 and a STATUS (R271): 1 ABORTED, 2 STALE; the block is delivered. -/
def Block.auxAbort (s : Block) (status : Nat) : Block :=
  let no := s.fld (pg 0x1A 0x4C) 31 24 + 1
  let dead : Word := BitVec.ofNat 32 (status * 256 + no % 256)
  let s := match s.aux.urg with
    | some (_, st, _) =>
      let n := s.aux.urgCnt + 1
      ((s.modAux (fun a => { a with urg := none, urgCnt := n })).setN (pg 0x1A 0x58) (status * 256 + n % 256)).set64 (pg 0x1A 0x5C) st
    | none => s
  let s := match s.aux.seq with
    | some q =>
      let from_ := if status = 2 then 0 else q.cur
      let rs := (List.range 16).map (fun i => if from_ ≤ i && i ≤ q.last then
        (if i < q.cur then ((nth 0 q.results i).withBits 15 15 0).withBits 9 8 status else dead) else nth 0 q.results i)
      let s := (s.modAux (fun a => { a with seq := none })).auxPublish { q with results := rs }
      if 0 < q.cur && status = 1 then s.auxEvents q.clamped else s
    | none => s
  (s.modAux (fun a => { a with trigWaits := false, calWaits := false, calRuns := false })).showAux

/-- ENABLE of the AUX page committed (R271). -/
def Block.auxEnable (s : Block) (on abort : Bool) : Block :=
  if on then (s.setPageState 0x1A psRun).showAux
  else if s.pageState 0x1A = psOff then s
  else if abort then (s.auxAbort 1).setPageState 0x1A psOff
  else
    let s := match s.aux.seq with
      | some q => s.modAux (fun a => { a with seq := some { q with continuous := false }, trigWaits := false })
      | none => s.modAux (fun a => { a with trigWaits := false })
    (s.setPageState 0x1A psDraining).auxDrained

/-- Soft reset of AUX (R271): the factors and CALIBRATED are kept; results in flight are delivered STALE and reported by detector 6
(DEDUCED from its mark in R280, log 26). -/
def Block.auxSoftReset (s : Block) : Block :=
  let flight := s.aux.seq.isSome || s.aux.urg.isSome
  let s := (s.auxAbort 2).modAux (fun a => { a with urgCnt := 0 })
  let s := if flight then s.raise 0x1A 6 0 else s
  let cal := s.rbit (pg 0x1A 0x4C) 5
  let offs := [0x40, 0x44, 0x4C, 0x58, 0x5C, 0x60, 0x64, 0x68, 0x6C, 0x70, 0x74, 0x78] ++ (List.range 32).map (fun k => 0x80 + 4 * k)
  let s := forEach offs (fun o s => s.setR (pg 0x1A o) (regReset (pg 0x1A o))) s
  (s.setB (pg 0x1A 0x4C) 5 cal).showAux

/-! ### The diagnostic DAC -/

/-- DAC_STAT (R282). -/
def Block.showDac (s : Block) : Block :=
  let a := pg 0x1B 0x44
  match s.aux.dac with
  | some (k, t) => ((s.setB a 8 true).setF a 7 6 k).setF a 4 0 t
  | none => s.setB a 8 false

/-- A conversion of the target in progress at a connection or disconnection is converted again (R269). -/
def Block.dacTouch (s : Block) (k t : Nat) : Block :=
  let s := match s.aux.urg with
    | some (w, _, true) => if k ≤ 1 && w.bits 11 8 = t then s.modAux (fun a => { a with urg := some (w, s.stampNow, true) }) else s
    | _ => s
  match s.aux.seq with
  | some q => if k ≤ 1 && q.cur ≤ q.last && (nth 0 q.entries q.cur).bits 3 0 = t then
      (s.modAux (fun a => { a with seq := some { q with preempted := true } })).bump (pg 0x1A 0x74) 15 0 1
    else s
  | none => s

/-- The DAC leaves its target (R269, R270): a modulator settles; one freed by the spare goes back to the zero source. -/
def Block.dacOff (s : Block) : Block :=
  match s.aux.dac with
  | none => s
  | some (k, t) =>
    let s := s.modAux (fun a => { a with dac := none, dacOffAt0 := false })
    let freed := s.spare.state = 5 && s.spare.ch = t
    let s := if k = 2 then
        ((s.modMod t (fun d => { d with onSource := freed && t ≠ 16, powered := if t = 16 then false else d.powered })).startSettle t).remark t
      else s.dacTouch k t
    s.showDac

/-- A modulator the DAC may be connected to (R270). -/
def Block.dacModOk (s : Block) (t : Nat) : Bool :=
  if t = 16 then s.spare.state == 0
  else if s.spare.ch = t && (s.spare.state = 3 || s.spare.state = 4) then false
  else if s.spare.state = 5 && s.spare.ch = t then true
  else s.lifeState ≠ 3 || s.testOpen

/-- DAC_CFG may be committed (R269, R270, R282). -/
def Block.dacOk (s : Block) (v : Word) : Bool :=
  let k := v.bits 5 4
  let t := v.bits 12 8
  decide (k ≤ 2) && (if k = 2 then decide (t ≤ 16) else decide (t ≤ 3))
    && (!v.bit 0 || k ≠ 2 || s.aux.dac == some (2, t) || s.dacModOk t)

/-- DAC_CFG committed (R269): connection, disconnection or a new code. -/
def Block.dacCommitted (s : Block) : Block :=
  let v := s.getR (pg 0x1B 0x40)
  let want := if v.bit 0 && s.pageState 0x1B = psRun && s.pwr.st == .run then some (v.bits 5 4, v.bits 12 8) else none
  if s.aux.dac = want then s
  else
    let had := s.aux.dac.isSome
    let s := s.dacOff
    let s := if had then (s.setB (pg 0x1B 0x44) 9 false).raise 0x1B 1 0 else s
    match want with
    | none => s
    | some (k, t) =>
      let s := if k = 2 then s.modMod t (fun d => { d with onSource := true, powered := true }) else s.dacTouch k t
      let s := ((s.modAux (fun a => { a with dac := some (k, t) })).bump (pg 0x1B 0x48) 15 0 1).setB (pg 0x1B 0x44) 9 false
      s.showDac.raise 0x1B 1 0

/-- A spare step that needs the DAC's modulator displaces it (R270). -/
def Block.dacDisplace (s : Block) (m : Nat) : Block :=
  if s.aux.dac = some (2, m) then ((s.dacOff.setB (pg 0x1B 0x44) 9 true)).raise 0x1B 1 0 else s

/-- A disconnection by a change of power state (R271). -/
def Block.dacPowerOff (s : Block) : Block :=
  if s.aux.dac.isSome then (s.dacOff.setB (pg 0x1B 0x44) 9 false).raise 0x1B 1 0 else s

/-- ENABLE of the DAC page committed (R271): disconnects at the next pick 0. -/
def Block.dacEnable (s : Block) (on : Bool) : Block :=
  if on then ((s.modAux (fun a => { a with dacOffAt0 := false })).setPageState 0x1B psRun).dacCommitted
  else if s.aux.dac.isSome then (s.modAux (fun a => { a with dacOffAt0 := true })).setPageState 0x1B psDraining
  else s.setPageState 0x1B psOff

/-- Pick 0: a disconnection that is due (R271). -/
def Block.dacPick0 (s : Block) : Block :=
  if s.aux.dacOffAt0 then (s.dacOff.raise 0x1B 1 0).setPageState 0x1B psOff else s

/-- Soft reset of DAC (R271). -/
def Block.dacSoftReset (s : Block) : Block :=
  let s := if s.aux.dac.isSome then s.dacOff.raise 0x1B 1 0 else s
  forEach [0x40, 0x44, 0x48] (fun o s => s.setR (pg 0x1B o) (regReset (pg 0x1B o))) s

/-- AUX in LEAN and HOLD (R271). -/
def Block.auxPowerOff (s : Block) : Block := (s.auxAbort 1).dacPowerOff

end Sys2Proof.Machine
end

