-- ==== Sys2Proof/Machine/Spare.lean ====
section
/-! DEFINITION. Calibration while metering (R133 to R160): corrections, calibration banks, the spare rotation, MEAS. -/

namespace Sys2Proof.Machine

/-- Field checks of the SPARE page (R145, R159). -/
def spareRules : List FieldRule := [
  ⟨0x44, 0x44, 1, 0, fun v => v ≠ 3, 6⟩,
  ⟨0x54, 0x58, 31, 0, f32pos, 6⟩,
  ⟨0x80, 0x80, 4, 0, fun v => v ≤ 16, 6⟩,
  ⟨0xA4, 0xA4, 15, 0, fun v => 1 ≤ v && v ≤ 1024, 6⟩]

/-! ### Banks and corrections -/

/-- Default of a calibration word (R136). -/
def calDefault (w : Nat) : Word := if w = 0 then 0x3F800000 else if w = 6 then 0x41C80000 else 0

/-- Key of a word of a bank. -/
def calKey (bank ch w : Nat) : Nat := 128 * bank + 8 * ch + w

/-- A calibration word. -/
def Block.calWord (s : Block) (bank ch w : Nat) : Word := if w = 7 then 0 else Sparse.get (calDefault w) (calKey bank ch w) s.spare.banks

/-- The active calibration bank, and whether a bank is in use or waits (R136, R137). -/
def Block.calActive (s : Block) : Nat := s.fld (pg 0x17 0x6C) 1 1
def Block.calBusy (s : Block) (bank : Nat) : Bool :=
  bank == s.calActive || (s.rbit (pg 0x17 0x6C) 2 && bank == s.fld (pg 0x17 0x6C) 0 0)

/-- CRC of a bank (R136). -/
def Block.calCrc (s : Block) (bank : Nat) : Word :=
  crc32 ((List.range 128).map (fun i => (s.calWord bank (i / 8) (i % 8)).toBytes)).flatten

/-- BANK, CH and WORD of CAL_ADDR. -/
def Block.calAt (s : Block) : Nat × Nat × Nat := (s.fld (pg 0x17 0x70) 7 7, s.fld (pg 0x17 0x70) 6 3, s.fld (pg 0x17 0x70) 2 0)

/-- CAL_DATA and CAL_CRC show what CAL_ADDR names (R159). -/
def Block.calLoad (s : Block) : Block :=
  let a := s.calAt
  (s.setR (pg 0x17 0x74) (s.calWord a.1 a.2.1 a.2.2)).setR (pg 0x17 0x78) (s.calCrc a.1)

/-- A write of CAL_ADDR (R159). -/
def Block.calAddr (s : Block) (v : Word) : Block := (s.setF (pg 0x17 0x70) 7 0 (v.bits 7 0)).calLoad

/-- CAL_ADDR advances WORD, then CH (R159). -/
def Block.calNext (s : Block) : Block :=
  (s.setF (pg 0x17 0x70) 6 0 ((s.fld (pg 0x17 0x70) 6 0 + 1) % 128)).calLoad

/-- A value a calibration word accepts, and the word it becomes (R136). -/
def calAccept (w : Nat) (v : Word) : Option Word :=
  let x := v.toNat
  match w with
  | 0 => if f32within (1 / 4) 4 x then some v else none
  | 1 => let p := signedOf 16 (v.bits 15 0)
    if p.natAbs ≤ 16384 then some (BitVec.ofNat 32 (unsignedOf 32 p)) else none
  | 2 => some v
  | 6 => if f32within (-40) 125 x then some v else none
  | 7 => some 0
  | _ => if (f32val v).isSome then some v else none

/-- A write of CAL_DATA (R136). -/
def Block.calWrite (s : Block) (v : Word) : Block :=
  let a := s.calAt
  let s := if s.calBusy a.1 then s.raise 0x17 10 0
    else if a.2.2 = 7 then s
    else match calAccept a.2.2 v with
      | some x => s.modSpare (fun p => { p with banks := Sparse.set (calDefault a.2.2) (calKey a.1 a.2.1 a.2.2) x p.banks })
      | none => s.raise 0x17 6 0
  s.calNext

/-- A write of CAL_BANK (R137, R158). -/
def Block.calSelect (s : Block) (sel : Nat) : Block :=
  (s.setF (pg 0x17 0x6C) 0 0 sel).setB (pg 0x17 0x6C) 2 (decide (sel % 2 ≠ s.calActive))

def Block.matchSet (s : Block) (m : Nat) : Match := nth Match.one s.spare.sets m

/-- The match set modulator m runs under: the preliminary one while it is the incoming one of an overlap (R143). -/
def Block.matchNow (s : Block) (m : Nat) : Match :=
  if (s.spare.state = 2 && m = 16) || (s.spare.state = 4 && m = s.spare.ch) then s.spare.prelim else s.matchSet m

/-- The correction of modulator m by R133, and whether φ_eff was clamped. -/
def Block.correction (s : Block) (m : Nat) : Correction × Bool :=
  let n := if s.chanOf m < 16 then s.chanOf m else s.spare.ch
  let k := s.matchNow m
  let w (i : Nat) : Rat := f32 (s.calWord s.calActive n i)
  let t := f32 (s.getR (pg 0x17 0x7C))
  let dt := t - w 6
  let r := t - 25
  let g := w 0 * k.mg * (1 + (w 3 * dt + w 4 * dt * dt) / 1000000) / (1 + Config.rho1 * r + Config.rho2 * r * r)
  let phi := roundNear ((signedOf 16 ((s.calWord s.calActive n 1).bits 15 0) + k.mp : Int) + w 5 * dt)
  let held := max (-16384) (min 16384 phi)
  let ofs := (signedOf 32 (s.calWord s.calActive n 2).toNat : Rat) + k.mo
  (⟨roundAny (g * (2 ^ 30 : Nat)), held, ofs⟩, decide (held ≠ phi))

/-- CORRECTION_RECOMPUTE (R135), with detector 8 once per episode. -/
def Block.recompute (s : Block) : Block :=
  let l := (List.range 17).map s.correction
  let s := s.modSpare (fun p => { p with corr := l.map (·.1) })
  if l.any (·.2) then s.raiseOnce 0x1708 0x17 8 0 else s.endEpisode 0x1708

/-! ### The calibration record (R139); its layout is the model's (log 22) -/

/-- Bytes of a match set: MG and MO in single precision, MP signed. -/
def matchBytes (k : Match) : List Byte := (f32of k.mg).toBytes ++ leBytes 4 (unsignedOf 32 k.mp) ++ (f32of k.mo).toBytes
def matchOfBytes (l : List Byte) : Match :=
  ⟨f32 (BitVec.ofNat 32 (leNat (l.take 4))), signedOf 32 (leNat ((l.drop 4).take 4)), f32 (BitVec.ofNat 32 (leNat ((l.drop 8).take 4)))⟩

/-- An anchor by modulator and gain. -/
def Block.anchor (s : Block) (m g : Nat) : Option Anchor := (s.spare.anchors.find? (fun p => p.1 = 8 * m + g)).map (·.2)
/-- A reference result by modulator and gain. -/
def Block.refResult (s : Block) (m g : Nat) : Option RefResult := (s.spare.refs.find? (fun p => p.1 = 8 * m + g)).map (·.2)

/-- The record's bytes: both banks, match sets, anchors (17 × 6 of g, Z and the set), active bank, served channel. -/
def Block.calBytes (s : Block) : List Byte :=
  let banks := ((List.range 256).map (fun i => (s.calWord (i / 128) (i / 8 % 16) (i % 8)).toBytes)).flatten
  let sets := ((List.range 17).map (fun m => matchBytes (s.matchSet m))).flatten
  let anch := ((List.range 102).map (fun i => match s.anchor (i / 6) (i % 6) with
    | some a => (f32of a.g).toBytes ++ (f32of a.z).toBytes ++ matchBytes a.set
    | none => List.replicate 20 0)).flatten
  let tail := leBytes 1 s.calActive ++ leBytes 1 (match s.spare.served with
    | some n => 0x80 + n
    | none => 0)
  let all := banks ++ sets ++ anch ++ tail
  all ++ List.replicate (3328 - all.length) 0

/-- A byte string cut into n pieces of k bytes. -/
def chunks (k : Nat) : Nat → List Byte → List (List Byte)
  | 0, _ => []
  | n + 1, l => l.take k :: chunks k n (l.drop k)

/-- CALSAVE and the writes of R139. -/
def Block.calSave (s : Block) : Block := s.commitRec 0x30 (chunks 256 13 s.calBytes)

/-- What MATCH_SEL selects (R159). -/
def Block.showMatch (s : Block) : Block :=
  let m := s.fld (pg 0x17 0x80) 4 0
  let k := s.matchSet m
  let d := Sparse.get ((0x80000000 : Word), (0x80000000 : Word), (0 : Word), 0) m s.spare.drift
  let s := ((s.setR (pg 0x17 0x84) (f32of k.mg)).setN (pg 0x17 0x88) (unsignedOf 32 k.mp)).setN (pg 0x17 0x8C) (unsignedOf 32 (roundAny k.mo))
  (((s.setR (pg 0x17 0x90) d.1).setR (pg 0x17 0x94) d.2.1).setR (pg 0x17 0x98) d.2.2.1).set64 (pg 0x17 0x9C) d.2.2.2

/-- A step was in progress at power-down (R152): STEP_RES shows ABORTED, detector 13. How the device knows is not stated; the model carries
the fact over the start (DESIGN CHOICE, log 22). -/
def Block.calCut (s : Block) : Block :=
  if s.spare.cut then ((s.setF (pg 0x17 0x50) 3 0 6).modSpare (fun p => { p with cut := false })).raiseLater 0x17 13 0 else s

/-- The record loaded at a start, or the defaults under detector 7 (R139, R152); MATCH_* show what it holds (R159). -/
def Block.calRestore (s : Block) : Block :=
  match s.recContent 0x30 with
  | none =>
    (s.modSpare (fun p => { p with banks := [], sets := List.replicate 17 Match.one, anchors := [], served := none })).showMatch.calCut.raiseLater 0x17 7 0
  | some pls =>
    let b := pls.flatten
    let at_ (o n : Nat) : List Byte := (b.drop o).take n
    let banks := (List.range 256).foldl (fun l i =>
      Sparse.set (calDefault (i % 8)) i (BitVec.ofNat 32 (leNat (at_ (4 * i) 4))) l) []
    let sets := (List.range 17).map (fun m => matchOfBytes (at_ (1024 + 12 * m) 12))
    let anch := (List.range 102).filterMap (fun i =>
      let x := at_ (1228 + 20 * i) 20
      if x = List.replicate 20 0 then none
      else some (8 * (i / 6) + i % 6, (⟨f32 (BitVec.ofNat 32 (leNat (x.take 4))), f32 (BitVec.ofNat 32 (leNat ((x.drop 4).take 4))),
        matchOfBytes (x.drop 8)⟩ : Anchor)))
    let act := leNat (at_ 3268 1) % 2
    let last := leNat (at_ 3269 1)
    let s := s.modSpare (fun p => { p with banks := banks, sets := sets, anchors := anch, served := none })
    ((s.setN (pg 0x17 0x6C) (3 * act)).setN (pg 0x17 0xC0) (last / 128 * 128 + last % 16)).showMatch.calCut

/-- A pending bank becomes active at a latch closing pick (R137). -/
def Block.calSwap (s : Block) : Block :=
  if s.rbit (pg 0x17 0x6C) 2 then
    let a := pg 0x17 0x6C
    (s.setF a 2 1 (s.fld a 0 0)).calSave
  else s

/-- The temperature of a latch (R138). -/
def Block.calTemp (s : Block) : Block :=
  if s.spare.tempCnt = 0 then s.raiseOnce 0x1709 0x17 9 0
  else
    let t := s.spare.tempSum / (s.spare.tempCnt : Nat)
    ((s.setR (pg 0x17 0x7C) (f32of t)).modSpare (fun p => { p with tempSum := 0, tempCnt := 0 })).endEpisode 0x1709

/-- What the SPARE unit does at a latch closing pick: T, the bank, the corrections (R135, R137, R138). -/
def Block.spareLatch (s : Block) : Block := s.calTemp.calSwap.recompute

/-! ### Registers -/

/-- SP_STAT (R156). -/
def Block.showSpare (s : Block) : Block :=
  let a := pg 0x17 0x4C
  let p := s.spare
  let s := ((s.setF a 20 16 (min 16 p.winCyc.length)).setB a 15 p.rotActive).setF a 13 12 (if p.state = 5 then p.heldWhy else 0)
  (s.setF a 11 8 p.ch).setF a 2 0 p.state

/-- STEP_RES (R157). -/
def Block.stepRes (s : Block) (result phase : Nat) (ref : Bool) : Block :=
  s.setN (pg 0x17 0x50) (s.spare.ch * 256 + b2n ref * 128 + phase % 8 * 16 + result)

/-! ### The step -/

/-- GAIN of the step's channel. -/
def Block.stepGain (s : Block) : Nat := s.fld (pg (chPage s.spare.ch) 0x40) 2 0

/-- The modulator a reference calibration measures, and the incoming and outgoing ones of an overlap. -/
def Block.calMod (s : Block) : Nat := if s.spare.state = 1 then 16 else s.spare.ch
def Block.incoming (s : Block) : Nat := if s.spare.state = 2 then 16 else s.spare.ch
def Block.outgoing (s : Block) : Nat := if s.spare.state = 2 then s.spare.ch else 16

/-- Calibration counts at their start. -/
def Spare.calZero (p : Spare) : Spare :=
  { p with
    calSrc := 0
    calCycles := 0
    calKept := 0
    calSum := 0
    calCnt := 0
    cycSum := 0
    cycCnt := 0
    cycBad := false
    calAgain := false
    calDone := false }

/-- Window counts at their start, for a first window cycle. -/
def Spare.winZero (p : Spare) (from_ : Nat) : Spare :=
  { p with
    winFrom := from_
    winElapsed := 0
    winLow := false
    winLow16 := false
    winCyc := []
    winOut := CycSum.zero
    winIn := CycSum.zero
    endOut := none
    endIn := none
    computed := none
    compCycle := 0
    refUsed := false
    resultAtEnd := 0 }

/-- A step begins at this pick 0 (R141, R150, R270). -/
def Block.beginStep (s : Block) (kind : StepKind) (n : Nat) : Block :=
  let s := if kind = .release then s else s.dacDisplace 16
  let s := s.dacDisplace n
  let st := if kind = .release then 3 else 1
  let s := s.modSpare (fun p =>
    { p.calZero.winZero 0 with state := st, ch := n, kind := kind, start := none, ended := false, rotWait := none })
  let s := if st = 1 then s.modMod 16 (fun d => { d with powered := true, onSource := true })
    else s.modMod n (fun d => { d with onSource := true })
  ((s.remark 16).remark n).showSpare

/-- SP is disconnected and powered down: the state is IDLE (R141, R148). -/
def Block.spIdle (s : Block) : Block :=
  let s := s.modSpare (fun p => { p.calZero.winZero 0 with state := 0, ended := false })
  ((s.modMod 16 (fun d => { d with powered := false, onSource := false, settleLeft := 0, settleOwed := false })).remark 16).showSpare

/-- The rotation looks for its next channel after a step (R150): one it skips gives a result at once. -/
def Block.rotAdvance (s : Block) : Block :=
  if !s.spare.rotActive then s
  else if s.spare.rotStop || s.pageState 0x17 ≠ psRun then
    (s.modSpare (fun p => { p with rotActive := false, rotStop := false, rotWait := none, rotLeft := [] })).showSpare
  else
    let mask := (List.range 16).filter (fun n => s.rbit (pg 0x17 0x48) n)
    let once := s.rbit (pg 0x17 0x44) 5
    let left := if s.spare.rotLeft.isEmpty && !once then mask else s.spare.rotLeft
    if left.isEmpty then (s.modSpare (fun p => { p with rotActive := false, rotWait := none })).showSpare
    else s.modSpare (fun p => { p with rotLeft := left, rotWait := some (s.fld (pg 0x17 0x44) 31 16) })

/-- The step ends with a failure (R148). -/
def Block.stepFail (s : Block) (result : Nat) : Block :=
  let p := s.spare
  if p.state = 0 || p.state = 5 || p.ended then s
  else
    let s := s.stepRes result p.state false
    if p.state ≤ 2 then
      let s := (s.raise 0x17 2 0).modSpare (fun p => { p with ended := true })
      (if result = 6 then s.raise 0x17 13 0 else s).rotAdvance
    else
      let s := s.modSpare (fun p =>
        { p.winZero 0 with state := 5, heldWhy := if result = 6 then 2 else 1, rotActive := false, rotStop := false, rotWait := none })
      let s := ((s.modMod p.ch (fun d => { d with onSource := true })).remark p.ch).showSpare
      let s := s.raise 0x17 2 0
      if result = 6 then s.raise 0x17 13 0 else s.raise 0x17 5 0

/-- The step is aborted (R151); the rotation and a start that waits end with it. -/
def Block.stepAbort (s : Block) : Block :=
  let s := s.modSpare (fun p => { p with rotActive := false, rotStop := false, rotWait := none, rotLeft := [], start := none })
  (s.stepFail 6).showSpare

/-- SP_CAL_SOURCE_SWITCH (R142, R149): the next source, or the results and the drift report. -/
def Block.calSwitch (s : Block) : Block :=
  let p := s.spare
  if !((p.state = 1 || p.state = 3) && 8 ≤ p.calKept && !p.calDone && !p.ended && s.time.pick = 0) then s
  else
    let mean : Rat := (p.calSum : Rat) / (max 1 p.calCnt : Nat)
    let next (q : Spare) : Spare := { q.calZero with calSrc := q.calSrc + 1 }
    if p.calSrc = 0 then s.modSpare (fun q => next { q with calZ := mean })
    else if p.calSrc = 1 then s.modSpare (fun q => next { q with calP := mean })
    else
      let m := s.calMod
      let g := (p.calP - mean) / (2 * 134217728 / 10)
      let z := p.calZ
      let sym := (p.calP + mean) / 2 - z
      let key := 8 * m + s.stepGain
      let r : RefResult := ⟨g, z, sym, s.strobeStamp, s.matchSet m⟩
      let dg : Word := match s.anchor m s.stepGain with
        | some a => BitVec.ofNat 32 (unsignedOf 32 (roundNear ((g / a.g - 1) * 1000000)))
        | none => 0x80000000
      let dO : Word := match s.anchor m s.stepGain with
        | some a => BitVec.ofNat 32 (unsignedOf 32 (roundAny (z - a.z)))
        | none => 0x80000000
      let ds : Word := BitVec.ofNat 32 (unsignedOf 32 (roundAny sym))
      let s := s.modSpare (fun q =>
        { q with calDone := true, refs := Sparse.put key r q.refs, drift := Sparse.put m (dg, dO, ds, s.strobeStamp) q.drift })
      let isOver := match s.anchor m s.stepGain with
        | some _ => decide (s.fld (pg 0x17 0x60) 15 0 < (signedOf 32 dg.toNat).natAbs)
          || decide (s.getN (pg 0x17 0x64) < (signedOf 32 dO.toNat).natAbs)
        | none => false
      let s := s.showMatch
      let s := if isOver then s.raise 0x17 3 0 else s
      if decide (s.getN (pg 0x17 0x68) < (signedOf 32 ds.toNat).natAbs) then s.raise 0x17 4 0 else s

/-- The reference-based match of modulator m (R149); none without an anchor or a result. -/
def Block.refBased (s : Block) (m : Nat) : Option Match :=
  match s.anchor m s.stepGain, s.refResult m s.stepGain with
  | some a, some r => some ⟨a.set.mg * a.g / r.g, a.set.mp, a.set.mo + r.z - a.z⟩
  | _, _ => none

/-- The preliminary match of the incoming modulator (R143). -/
def Block.prelimMatch (s : Block) : Match :=
  let n := s.spare.ch
  if s.spare.state = 1 then
    let k := s.matchSet n
    match s.refResult n s.stepGain, s.refResult 16 s.stepGain with
    | some rn, some rs => ⟨k.mg * rn.g / rs.g, k.mp, k.mo + rs.z - rn.z⟩
    | _, _ => k
  else (s.refBased n).getD (s.matchSet n)

/-- OVERLAP_START (R141, R143, R116): SP, or the freed modulator, in parallel with the channel. -/
def Block.overlapStart (s : Block) : Block :=
  let p := s.spare
  if !((p.state = 1 || p.state = 3) && p.calDone && !p.ended && s.time.pick = 0) then s
  else
    let k := s.prelimMatch
    let s := s.modSpare (fun p => { p.winZero (s.time.cycle + 1) with state := p.state + 1, prelim := k })
    let m := s.incoming
    let s := (s.modMod m (fun d => { d with onSource := false })).loadS6 m s.outgoing
    ((s.recompute.remark m)).showSpare

/-- MATCH_MODE (R145). -/
def Block.matchMode (s : Block) : Nat := s.fld (pg 0x17 0x44) 1 0

/-- The window is complete (R144, R145): by 16 qualifying cycles, or for the preliminary match. -/
def Block.windowDone (s : Block) : Bool :=
  let p := s.spare
  if s.matchMode = 2 then decide (16 ≤ p.winElapsed)
  else decide (16 ≤ p.winCyc.length) || (s.matchMode = 1 && decide (16 ≤ p.winElapsed) && p.winLow16)

/-- r of the window (R145): ΣA_c/ΣB_c. -/
def Spare.ratio (p : Spare) : Rat × Rat :=
  cDiv (p.winCyc.foldl (fun x c => cAdd x c.a) (0, 0)) (p.winCyc.foldl (fun x c => cAdd x c.b) (0, 0))

/-- d of the window (R145): the mean of b_c − a_c. -/
def Spare.offset (p : Spare) : Rat := (p.winCyc.foldl (fun x c => x + c.d) 0) / (max 1 p.winCyc.length : Nat)

/-- A cycle of the window departs from r by more than 1 × 10^−3 (R145). -/
def Spare.noisy (p : Spare) : Bool :=
  p.winCyc.any (fun c => decide (cNorm p.ratio < 1000000 * cNorm (cSub (cDiv c.a c.b) p.ratio)))

/-- MATCH_COMPUTE (R145, R147), in the cycle after a complete window. Under AUTO and REFERENCE a missing reference result ends the step.
A match of REFERENCE at a handback under CORRECT is subject to STEP_MAX where r is available; under CONTINUITY it is the preliminary one
(DESIGN CHOICE, log 10). -/
def Block.matchCompute (s : Block) : Block :=
  let p := s.spare
  if !((p.state = 2 || p.state = 4) && !p.ended && p.computed.isNone && s.windowDone) then s
  else
    let useRef := s.matchMode = 2 || (s.matchMode = 1 && p.winLow16)
    let missing := (s.refResult 16 s.stepGain).isNone || (s.refResult p.ch s.stepGain).isNone
    let give (k : Match) (ref : Bool) (res : Nat) : Block :=
      s.modSpare (fun q => { q with computed := some k, compCycle := s.time.cycle, refUsed := ref, resultAtEnd := res })
    let r := p.ratio
    let dp := roundNear (argTurn r.1 r.2 * 4194304)
    let geff : Rat := ((nth Correction.one s.spare.corr s.incoming).gain : Rat) / (2 ^ 30 : Nat)
    let sig : Match := ⟨p.prelim.mg * cAbs r, p.prelim.mp + dp, p.prelim.mo + p.offset / geff⟩
    let stepMax : Rat := (s.fld (pg 0x17 0x5C) 15 0 : Nat) / 1000000
    let far := decide (stepMax * stepMax < cNorm (cSub r (1, 0)))
    let correcting := p.state = 4 && s.rbit (pg 0x17 0x44) 4 && (s.refBased p.ch).isSome
    if s.matchMode ≠ 0 && missing then s.stepFail 8
    else if useRef then (if correcting && !p.winCyc.isEmpty && far then give sig false 7 else give p.prelim true 0)
    else if p.noisy then s.stepFail 2
    else if f32 (s.getR (pg 0x17 0x58)) < ratAbs (cAbs r - 1) || 4096 < dp.natAbs then s.stepFail 3
    else if correcting then (if far then give sig false 7 else give p.prelim false 0)
    else give sig false 0

/-- WINDOW_TIMEOUT (R144): 256 cycles and not complete. -/
def Block.windowTimeout (s : Block) : Block :=
  let p := s.spare
  if (p.state = 2 || p.state = 4) && p.computed.isNone && 256 ≤ p.winElapsed && !s.windowDone then
    s.stepFail (if p.winLow then 1 else 4)
  else s

/-- REF_CAL_TIMEOUT (R142): 64 cycles without 8 that count. -/
def Block.refCalTimeout (s : Block) : Block :=
  let p := s.spare
  if (p.state = 1 || p.state = 3) && !p.calDone && 64 ≤ p.calCycles && p.calKept < 8 then s.stepFail 4 else s

/-- HANDOVER (R146): SP takes the slot; Mn goes on the sources, or stays on the zero source under SUBST. -/
def Block.handover (s : Block) : Block :=
  let p := s.spare
  match p.computed with
  | some k =>
    if !(p.state = 2 && s.time.pick = 0 && p.compCycle < s.time.cycle && !p.ended) then s
    else
      let n := p.ch
      let s := s.stepRes 0 2 p.refUsed
      let s := s.raise 0x17 1 0
      let s := s.loadS6 16 n
      let s := s.modSpare (fun q =>
        { q.calZero.winZero 0 with served := some n, state := if q.kind = .subst then 5 else 3, heldWhy := 0, sets := setNth q.sets 16 k })
      let s := s.modMod n (fun d => { d with onSource := true })
      let s := ((s.recompute.remark n).remark 16).wbHandover n
      s.calSave.showMatch.showSpare
  | none => s

/-- HANDBACK (R146, R147): Mn takes the slot back; SP is powered down; the step result follows the pick. -/
def Block.handback (s : Block) : Block :=
  let p := s.spare
  match p.computed with
  | some k =>
    if !(p.state = 4 && s.time.pick = 0 && p.compCycle < s.time.cycle) then s
    else
      let n := p.ch
      let s := s.loadS6 n 16
      let s := s.modSpare (fun q => { q with served := none, sets := setNth q.sets n k })
      let s := (((s.modSpare (fun q => { q with state := 0 })).recompute.remark n).wbHandover n).spIdle
      let s := (s.stepRes p.resultAtEnd 4 p.refUsed).bump (pg 0x17 0xCC) 15 0 1
      let s := s.raise 0x17 1 0
      let s := if p.resultAtEnd = 7 then s.raise 0x17 3 0 else s
      let s := if s.pageState 0x17 = psDraining then s.setPageState 0x17 psOff else s
      s.calSave.showMatch.rotAdvance
  | none => s

/-! ### Commands (R150) -/

/-- The command is refused: detector 6 (R150). -/
def Block.spReject (s : Block) : Block := s.raise 0x17 6 0

/-- STEP, ROTATE, SUBST and MEAS need P07 and a page that runs (R150, R402). -/
def Block.spReady (s : Block) : Bool := s.p07Runs && s.pageState 0x17 == psRun

/-- IDLE with no start that waits. -/
def Block.spFree (s : Block) : Bool := s.spare.state == 0 && s.spare.start.isNone

def Block.spStep (s : Block) (kind : StepKind) (n : Nat) : Block :=
  if s.spReady && s.spFree && n < 16 then s.modSpare (fun p => { p with start := some (kind, n) }) else s.spReject

def Block.spRelease (s : Block) : Block :=
  if s.spReady && s.spare.state = 5 && s.spare.start.isNone then
    s.modSpare (fun p => { p with start := some (.release, p.ch) })
  else s.spReject

/-- The rotation's next step falls on the next channel that is enabled; a disabled one is skipped (R150). -/
def Block.rotSkip (s : Block) : Nat → Block × Option Nat
  | 0 => (s, none)
  | fuel + 1 => match s.spare.rotLeft with
    | [] => (s, none)
    | n :: rest =>
      let s := s.modSpare (fun p => { p with rotLeft := rest })
      if s.rbit (pg (chPage n) 0x04) 0 then (s, some n)
      else
        let s := s.modSpare (fun p => { p with ch := n })
        Block.rotSkip ((s.stepRes 9 0 false).raise 0x17 2 0) fuel

def Block.spRotate (s : Block) : Block :=
  if s.spReady && s.spFree && !s.spare.rotActive then
    let mask := (List.range 16).filter (fun n => s.rbit (pg 0x17 0x48) n)
    let s := s.modSpare (fun p => { p with rotActive := true, rotStop := false, rotLeft := mask, rotWait := none })
    let r := s.rotSkip 16
    match r.2 with
    | some n => (r.1.modSpare (fun p => { p with start := some (.step, n) })).showSpare
    | none => (r.1.modSpare (fun p => { p with rotActive := false })).showSpare
  else s.spReject

def Block.spStop (s : Block) : Block :=
  if s.spare.rotActive then
    let s := s.modSpare (fun p => { p with rotStop := true })
    if s.spFree then s.rotAdvance else s
  else s.spReject

/-- ROTATION_NEXT_STEP (R150): ROT_GAP cycles after a step. -/
def Block.rotNext (s : Block) : Block :=
  if s.spare.rotActive && s.spare.state = 0 && s.spare.rotWait = some 0 && s.time.pick = 0 then
    let r := s.rotSkip 16
    match r.2 with
    | some n => if r.1.spReady then r.1.beginStep .step n else
        (r.1.modSpare (fun p => { p with rotActive := false, rotWait := none })).showSpare
    | none => (r.1.modSpare (fun p => { p with rotWait := none })).rotAdvance
  else s

/-- ANCHOR (R149, R154): m, or all seventeen for 31. -/
def Block.spAnchor (s : Block) (m : Nat) : Block :=
  if 16 < m && m ≠ 31 then s.spReject
  else
    let ms := if m = 31 then List.range 17 else [m]
    let s := forEach ms (fun m s => forEach (List.range 6) (fun g s => match s.refResult m g with
      | some r => s.modSpare (fun p => { p with anchors := Sparse.put (8 * m + g) ⟨r.g, r.z, r.set⟩ p.anchors })
      | none => s) s) s
    s.calSave.showMatch

/-- MEAS (R140). -/
def Block.spMeas (s : Block) (n : Nat) : Block :=
  if s.spReady && !s.rbit (pg 0x17 0x4C) 14 && n < 16 then
    let s := s.modSpare (fun p =>
      { p with
        measCh := n
        measGood := 0
        measElapsed := 0
        measSum := 0
        measSq := 0
        measPh := (0, 0)
        measCycSum := 0
        measCycSq := 0
        measCycPh := (0, 0)
        measBad := false
        measWait := true
        measEnd := 0 })
    s.setB (pg 0x17 0x4C) 14 true
  else s.spReject

/-- e^(−j2πp/1,024) times a value. -/
def turned (p : Nat) (x : Rat) : Rat × Rat := (x * (cosSin p 1024).1, -(x * (cosSin p 1024).2))

/-- One word of the measured slot, by its stamp (R140): a cycle qualifies when all its words are valid and the Warp is LOCKED. -/
def Block.measWord (s : Block) (w : OutWord) : Block :=
  if !s.rbit (pg 0x17 0x4C) 14 || w.mark.slot ≠ s.spare.measCh then s
  else
    let p := s.spare
    let k := s.fld (pg 0x17 0xA4) 15 0
    if k ≤ p.measGood || 4 * k ≤ p.measElapsed then s
    else
      let at_ := w.mark.pick % 1024
      let x := wordCode w.word
      let p := if at_ = 0 then { p with measWait := false, measCycSum := 0, measCycSq := 0, measCycPh := (0, 0), measBad := false } else p
      if p.measWait then s
      else
        let p := { p with
          measCycSum := p.measCycSum + x
          measCycSq := p.measCycSq + x * x
          measCycPh := cAdd p.measCycPh (turned at_ x)
          measBad := p.measBad || !w.word.bit 7 || !w.mark.cfg.locked }
        let p := if at_ ≠ 1023 then p
          else if p.measBad then { p with measElapsed := p.measElapsed + 1 }
          else { p with
            measElapsed := p.measElapsed + 1
            measGood := p.measGood + 1
            measSum := p.measSum + p.measCycSum
            measSq := p.measSq + p.measCycSq
            measPh := cAdd p.measPh p.measCycPh
            measEnd := mkStamp (w.mark.pick / 1024 + 1) 0 0 }
        { s with spare := p }

/-- MEAS_COMPLETE (R140): K cycles qualified, or 4K elapsed. -/
def Block.measDone (s : Block) : Block :=
  let p := s.spare
  let k := s.fld (pg 0x17 0xA4) 15 0
  if !(s.rbit (pg 0x17 0x4C) 14 && (k ≤ p.measGood || 4 * k ≤ p.measElapsed)) then s
  else
    let n : Rat := (1024 * max 1 p.measGood : Nat)
    let s := s.setR (pg 0x17 0xA8) (f32of ((p.measSum : Rat) / n))
    let s := (s.setR (pg 0x17 0xAC) (f32of (sqrtRat 2 * p.measPh.1 / n))).setR (pg 0x17 0xB0) (f32of (sqrtRat 2 * p.measPh.2 / n))
    let s := s.setR (pg 0x17 0xB4) (f32of (sqrtRat ((p.measSq : Rat) / n)))
    let s := (s.set64 (pg 0x17 0xB8) p.measEnd).setF (pg 0x17 0xA4) 31 16 p.measGood
    let s := s.setB (pg 0x17 0x4C) 14 false
    let s := s.setN (pg 0x17 0x50) (p.measCh * 256 + (if k ≤ p.measGood then 0 else 4))
    s.raise 0x17 1 0

/-! ### The overlap window (R144) -/

/-- The phasor of a cycle's sums. -/
def CycSum.phasor (c : CycSum) : Rat × Rat := (sqrtRat 2 * c.re / 1024, sqrtRat 2 * c.im / 1024)

/-- A word enters its modulator's cycle; bad: it does not qualify. -/
def CycSum.add (c : CycSum) (w : OutWord) : CycSum :=
  let at_ := w.mark.pick % 1024
  let c := if at_ = 0 then { CycSum.zero with cycle := w.mark.pick / 1024 } else c
  let z := turned at_ w.y
  { c with
    re := c.re + z.1
    im := c.im + z.2
    sum := c.sum + w.y
    bad := c.bad || !w.word.bit 7 || !w.mark.cfg.locked || (w.m == 16 && w.word.bit 6) }

/-- A window cycle is complete on both sides: it counts, and qualifies where every word does and |A_c| reaches MATCH_MIN. -/
def Block.winCycle (s : Block) (a b : CycSum) : Block :=
  let min_ := f32 (s.getR (pg 0x17 0x54)) * (2 ^ 24 : Nat)
  let low := decide (2 * cNorm a.phasor < min_ * min_)
  s.modSpare (fun p =>
    { p with
      endOut := none
      endIn := none
      winElapsed := p.winElapsed + 1
      winLow := p.winLow || low
      winLow16 := p.winLow16 || (low && decide (p.winElapsed < 16))
      winCyc := if low || a.bad || b.bad || decide (16 ≤ p.winCyc.length) then p.winCyc
        else ⟨a.phasor, b.phasor, ((b.sum - a.sum : Int) : Rat) / 1024⟩ :: p.winCyc })

/-- A word of the outgoing or the incoming modulator of an overlap, from its first window cycle on (R144). -/
def Block.winWord (s : Block) (w : OutWord) : Block :=
  let p := s.spare
  if !(p.state = 2 || p.state = 4) || p.ended || p.computed.isSome || w.mark.pick / 1024 < p.winFrom then s
  else
    let last := w.mark.pick % 1024 = 1023
    let s := if w.m = s.outgoing then
        let c := p.winOut.add w
        s.modSpare (fun p => { p with winOut := c, endOut := if last then some c else p.endOut })
      else if w.m = s.incoming then
        let c := p.winIn.add w
        s.modSpare (fun p => { p with winIn := c, endIn := if last then some c else p.endIn })
      else s
    match s.spare.endOut, s.spare.endIn with
    | some a, some b => if last && a.cycle = b.cycle then (s.winCycle a b).showSpare else s
    | _, _ => s

/-! ### Pick strobes -/

/-- At pick 0, before its commits: the cycle that ended counts for a calibration, a failed step is disconnected, a restart begins
(R141, R142, R148). -/
def Block.spareCycle (s : Block) : Block :=
  let s := if s.spare.ended then s.spIdle else s
  let s := s.modSpare (fun p =>
    if p.state = 1 || p.state = 3 then
      if p.calAgain then p.calZero
      else
        let p := { p with calCycles := p.calCycles + 1 }
        let p := if 1 < p.calCycles && !p.cycBad && p.calKept < 8 then
            { p with calKept := p.calKept + 1, calSum := p.calSum + p.cycSum, calCnt := p.calCnt + p.cycCnt } else p
        { p with cycSum := 0, cycCnt := 0, cycBad := false }
    else p)
  s.modSpare (fun p => { p with rotWait := p.rotWait.map (fun n => n - 1) })

/-- At pick 0, after its commits: a start that waits begins (R141). -/
def Block.spareBegin (s : Block) : Block :=
  (match s.spare.start with
  | some (k, n) => s.beginStep k n
  | none => s).showSpare

/-- At every strobe, after the words: what they are to a calibration, to a window, and to MEAS (R140, R142, R144). -/
def Block.sparePick (s : Block) (outs : List OutWord) : Block :=
  let s := if s.spare.state = 1 || s.spare.state = 3 then
      let m := s.calMod
      let bad := topCause (s.causes m) ≠ 3
      let xs := outs.filter (fun w => w.m = m)
      s.modSpare (fun p =>
        { p with
          cycSum := xs.foldl (fun a w => a + w.x5) p.cycSum
          cycCnt := p.cycCnt + xs.length
          cycBad := p.cycBad || bad })
    else s
  forEach outs (fun w s => (s.winWord w).measWord w) s

/-! ### Disable, reset, injection -/

/-- ENABLE of the SPARE page committed (R151): SP that serves a channel is never disconnected. -/
def Block.spareEnable (s : Block) (on abort : Bool) : Block :=
  if on then s.setPageState 0x17 psRun
  else if s.pageState 0x17 = psOff then s
  else if abort then (s.stepAbort).setPageState 0x17 psOff
  else if 1 ≤ s.spare.state && s.spare.state ≤ 4 then s.setPageState 0x17 psDraining
  else (s.modSpare (fun p => { p with start := none, rotActive := false, rotWait := none })).showSpare.setPageState 0x17 psOff

/-- Soft reset of SPARE (R151): what is kept is the calibration memory, the match sets, the anchors and CAL_BANK. -/
def Block.spareSoftReset (s : Block) : Block :=
  let s := s.stepAbort
  let offs := [0x44, 0x48, 0x4C, 0x50, 0x54, 0x58, 0x5C, 0x60, 0x64, 0x68, 0x70, 0x74, 0x78, 0x7C, 0x80, 0xA4, 0xA8, 0xAC, 0xB0, 0xB4,
    0xB8, 0xBC, 0xC4, 0xC8, 0xCC]
  let s := forEach offs (fun o s => s.setR (pg 0x17 o) (regReset (pg 0x17 o))) s
  ((s.modSpare (fun p => { p with drift := [] })).showMatch).showSpare

/-- Injection of SPARE detectors (R160): 12 holds SP in overload, the others give their events. -/
def Block.spareInject (s : Block) (d : Nat) : Block :=
  let t := if d = 12 && !(s.mod 16).ovlEpisode then s.overloadHold 16 true true none else s
  t.raiseX 0x17 d 0 false true

end Sys2Proof.Machine
end

