-- ==== Sys2Proof/Machine/PulseLive.lean ====
section
/-! DEFINITION. Pulse outputs as their sources see them: the output's record, its registers, live energy (R364, R365). -/

namespace Sys2Proof.Machine

def Block.pulse (s : Block) (k : Nat) : PulseOut := nth PulseOut.reset s.pout k
def Block.modPulse (s : Block) (k : Nat) (f : PulseOut → PulseOut) : Block := { s with pout := modNth s.pout k f }

def poutCfg (k : Nat) : Nat := pg 0x35 (0x40 + 4 * k)
def poutSrc (k : Nat) : Nat := pg 0x35 (0x50 + 4 * k)
def poutConst (k : Nat) : Nat := pg 0x35 (0x60 + 4 * k)

/-- Live energy of a cycle (R364): the P group of a feed is published, QTY's value x over the cycle's T_c. -/
def Block.poutLive (s : Block) (f stamp : Nat) (vals : List Rat) (tc : Rat) : Block :=
  forEach (List.range 4) (fun k s =>
    let src := s.getR (poutSrc k)
    let p := s.pulse k
    if !p.running || p.off || !src.bit 31 || src.bits 11 10 ≠ f || stamp < p.from_ then s
    else
      let x := f32 (f32of (nth 0 vals (src.bits 15 12)))
      let v := match s.fld (poutCfg k) 1 0 with
        | 0 => max x 0
        | 1 => max (-x) 0
        | _ => ratAbs x
      s.modPulse k (fun p => { p with energy := p.energy + v * tc * 1000000 / 3600 })) s

end Sys2Proof.Machine
end

