-- ==== Sys2Proof/Machine/Energy.lean ====
section
/-! DEFINITION. Feeds, P01 POWER and P02 RMS (R197 to R228): quantities of a cycle from its words, gates, quanta and
carries, live blocks, the checks of a FEED commit. -/

namespace Sys2Proof.Machine

def Block.modFeed (s : Block) (f : FeedState → FeedState) : Block := { s with feed := f s.feed }

/-- Field checks of the FEED page (R227). -/
def feedRules : List FieldRule := [⟨0x70, 0x8C, 31, 0, f32nonneg, 3⟩]

/-! ### Feed configuration (R197 to R199, R224, R225) -/

/-- The words of FEED that configure feed f, read through a function from offsets. -/
structure FeedCfg where
  en : Bool
  fq : Nat
  elemPost : Bool
  pfSel : Nat
  element : Bool
  elemEn : Nat
  wiring : Nat
  map : Word
  qty : Nat
  startI : Rat
  creepP : Rat
  members : List Nat
  deriving DecidableEq, Repr

def feedCfgOf (w : Nat → Word) (f : Nat) : FeedCfg :=
  let c := w (0x40 + 4 * f)
  { en := c.bit 31
    fq := c.bits 19 16
    elemPost := c.bit 12
    pfSel := c.bits 11 10
    element := c.bit 8
    elemEn := c.bits 7 4
    wiring := c.bits 2 0
    map := w (0x50 + 4 * f)
    qty := (w (0x60 + 4 * f)).bits 19 0
    startI := f32 (w (0x70 + 4 * f))
    creepP := f32 (w (0x80 + 4 * f))
    members := if f = 3 then (List.range 3).filter (fun m => (w 0x90).bit m && (w (0x40 + 4 * m)).bit 31) else [f] }

/-- Position k of a feed takes part (R197). -/
def FeedCfg.pos (c : FeedCfg) (k : Nat) : Bool := (BitVec.ofNat 4 c.elemEn).getLsbD k
/-- Voltage and current channel of position k (R225). -/
def FeedCfg.vch (c : FeedCfg) (k : Nat) : Nat := c.map.bits (19 + 4 * k) (16 + 4 * k)
def FeedCfg.ich (c : FeedCfg) (k : Nat) : Nat := c.map.bits (3 + 4 * k) (4 * k)

/-- Energy positions of a wiring mode (R197). -/
def energyPos (w : Nat) : List Nat := match w with
  | 0 => [0, 1, 2]
  | 1 => [0, 2]
  | 2 => [0, 1, 2, 3]
  | _ => [0, 1]

/-- Positions whose voltage, whose current, a wiring mode uses (R197). -/
def usesV (w k : Nat) : Bool := match w with
  | 0 | 2 => true
  | 1 => k = 0 || k = 2
  | _ => k ≤ 1
def usesI (w k : Nat) : Bool := match w with
  | 0 | 2 => true
  | 1 => k ≤ 2
  | _ => k ≤ 1 || k = 3

/-- Channels whose words a feed uses; for the line voltages of 3P3W position 1's voltage channel too. -/
def FeedCfg.channels (c : FeedCfg) : List Nat :=
  let one (k : Nat) : List Nat := if c.pos k then
      (if usesV c.wiring k then [c.vch k] else []) ++ (if usesI c.wiring k then [c.ich k] else []) else []
  let ref := if c.wiring = 1 && (c.pos 0 || c.pos 2) then [c.vch 1] else []
  ((List.range 4).map one).flatten ++ ref

/-- The configuration in force over the cycle that ended. -/
def Block.feedCfg (s : Block) (f : Nat) : FeedCfg :=
  feedCfgOf (fun o => Sparse.get (s.getR (pg 0x2E o)) o s.feed.prev) f

/-- D takes wiring and positions from its lowest enabled member (R199). -/
def Block.feedMain (s : Block) (f : Nat) : FeedCfg :=
  let c := s.feedCfg f
  if f ≠ 3 then c
  else match c.members with
    | [] => c
    | m :: _ => { c with elemEn := (s.feedCfg m).elemEn, wiring := (s.feedCfg m).wiring, map := (s.feedCfg m).map }

/-- At every pick 0, before a commit can change them: the words that governed the cycle that ends (R219, R220). -/
def Block.feedCycle (s : Block) : Block :=
  s.modFeed (fun d =>
    { d with
      prev2 := d.prev
      prev := (List.range 21).map (fun i => (0x40 + 4 * i, s.getR (pg 0x2E (0x40 + 4 * i)))) })

/-- A FEED commit that R199 or R224 rejects, given the words as they would be. -/
def feedOk (w : Nat → Word) : Bool :=
  let cs := (List.range 4).map (feedCfgOf w)
  let c0 (i : Nat) : FeedCfg := nth (feedCfgOf w 0) cs i
  let range := cs.all (fun c => c.fq ≤ 7 && c.pfSel ≠ 3) && ((cs.take 3).all (fun c => c.wiring ≤ 3))
  let ms := (c0 3).members
  let same := match ms with
    | [] => true
    | m :: rest =>
      rest.all (fun n =>
        let a := c0 m
        let b := c0 n
        let volt (k : Nat) : Bool := !a.pos k || (b.vch k == a.vch k && (a.wiring != 1 || b.vch 1 == a.vch 1))
        b.wiring == a.wiring && b.elemEn == a.elemEn && (energyPos a.wiring).all volt)
  range && (!(c0 3).en || same)

/-- Voltage channels whose role is checked (R200): those of R197's table, and the reference of the two line voltages in 3P3W. -/
def rolesV (w k : Nat) : Bool := usesV w k || (w = 1 && k = 1)

/-- Roles of the enabled positions of feeds A to C (R200). -/
def Block.checkRoles (s : Block) : Block :=
  let bad := (List.range 3).any (fun f =>
    let c := feedCfgOf (fun o => s.getR (pg 0x2E o)) f
    c.en && (List.range 4).any (fun k => c.pos k
      && ((rolesV c.wiring k && s.rbit (pg (chPage (c.vch k)) 0x40) 8) || (usesI c.wiring k && !s.rbit (pg (chPage (c.ich k)) 0x40) 8))))
  if bad then s.raise 0x2E 5 0 else s

/-! ### FQ_MIN (R211) -/

/-- Full-scale primary value of a channel: 0.5 V × CH_SCALE/G. -/
def Block.fullScale (s : Block) (n : Nat) : Rat :=
  f32 (s.getR (pg (chPage n) 0x44)) / 2 / (2 ^ s.fld (pg (chPage n) 0x40) 2 0 : Nat)

/-- P_bound of a feed (R211): the product for each energy element, one voltage channel each (log 24). -/
def Block.pBound (s : Block) (f : Nat) : Rat :=
  let w (o : Nat) : Word := s.getR (pg 0x2E o)
  let one (c : FeedCfg) : Rat := ((energyPos c.wiring).filter c.pos).foldl (fun (b : Rat) k =>
    b + ratAbs (s.fullScale (c.vch k) * s.fullScale (c.ich k))) 0
  let ms := if f = 3 then (List.range 3).filter (fun m => (w 0x90).bit m) else [f]
  (ms.map (fun m => one (feedCfgOf w m))).foldl (· + ·) 0

/-- Units (µWh) that a power bound amounts to over a latch of n cycles at 42.5 Hz. -/
def unitsOver (p : Rat) (n : Nat) : Rat := p * (n : Rat) / (85 / 2) * 1000000 / 3600

/-- FQ_MIN (R211) for latches of n cycles: 15 when no FQ up to 7 suffices. -/
def Block.fqMin (s : Block) (n f : Nat) : Nat :=
  ((List.range 8).find? (fun q => decide (unitsOver (s.pBound f) n ≤ ((2 ^ 31 - 1) * 2 ^ q : Nat)))).getD 15

/-- FQ_MIN computed for each feed, with the LATCH_N in force from this latch on; FQ below it raises detector 4 (R211). -/
def Block.showFqMin (s : Block) : Block :=
  let n := s.fld (pg 5 0x50) 12 0
  let s := forEach (List.range 4) (fun f s => s.setF (pg 0x2E 0x94) (4 * f + 3) (4 * f) (s.fqMin n f)) s
  if (List.range 4).any (fun f => decide (s.fld (pg 0x2E (0x40 + 4 * f)) 19 16 < s.fld (pg 0x2E 0x94) (4 * f + 3) (4 * f))) then
    s.raise 0x2E 4 0 else s

/-- Feed f is off as configured now: EN clear, or D with no enabled member (R199, R220). -/
def Block.feedOff (s : Block) (f : Nat) : Bool :=
  let c := feedCfgOf (fun o => s.getR (pg 0x2E o)) f
  !c.en || c.members.isEmpty

/-- A committed FQ of feed f becomes due from this cycle on (R212). -/
def Block.fqCommitted (s : Block) (f : Nat) : Block :=
  let new := s.fld (pg 0x2E (0x40 + 4 * f)) 19 16
  let was := ((s.feed.fqDue.filter (fun x => x.1 = f)).getLast?.map (·.2.2)).getD (nth 0 s.feed.carryFq f)
  if new = was then s else s.modFeed (fun d => { d with fqDue := d.fqDue ++ [(f, s.time.cycle, new)] })

/-- After an applied FEED commit (R200, R211, R212, R220). -/
def Block.feedCommitted (s : Block) : Block :=
  let s := forEach (List.range 4) (fun f s =>
    let s := s.fqCommitted f
    if s.feedOff f then (s.setB (pg 0x2E (0x108 + 0x80 * f)) 0 true).setB (pg 0x2E (0x13C + 0x80 * f)) 0 true else s) s
  s.checkRoles.showFqMin

/-! ### Signals of a cycle (R69, R201) -/

/-- Words of slot n stamped in cycle c below pick q, in order. -/
def Block.window (s : Block) (n c q : Nat) : List HistWord :=
  ((nth [] s.hist n).filter (fun h => decide (h.pick / 1024 = c) && decide (h.pick % 1024 < q))).reverse

/-- Sums and differences of signals, pick by pick; a signal with no words counts as 0. -/
def sigAdd (a b : List Rat) : List Rat := if a.isEmpty then b else if b.isEmpty then a else List.zipWith (· + ·) a b
def sigNeg (a : List Rat) : List Rat := a.map (fun x => -x)
/-- U_h × conj(I_h) of the rms phasors of order h (R201): real and imaginary part. -/
def crossOrder (h : Nat) (u i : List Rat) : Rat × Rat :=
  let a := binSumFrom 1024 h 0 u
  let b := binSumFrom 1024 h 0 i
  ((a.1 * b.1 + a.2 * b.2) * 2 / 1048576, (a.2 * b.1 - a.1 * b.2) * 2 / 1048576)

/-- Values of one element (R201): U, I, P, P1, Q1, Q and S1. -/
structure ElVal where
  u : Rat
  i : Rat
  p : Rat
  p1 : Rat
  q1 : Rat
  q : Rat
  s1 : Rat
  deriving DecidableEq, Repr

def ElVal.zero : ElVal := ⟨0, 0, 0, 0, 0, 0, 0⟩

def elVal (n : Nat) (u i : List Rat) : ElVal :=
  let f := crossOrder 1 u i
  ⟨rmsOf n u, rmsOf n i, meanOf n (dot u i), f.1, f.2,
    ((List.range 511).map (fun h => (crossOrder (h + 1) u i).2)).foldl (· + ·) 0,
    cAbs (phasor 1024 1 u) * cAbs (phasor 1024 1 i)⟩

/-- Current and voltage of position k of feed f over cycle c below pick q: D sums its members' currents and takes the
voltage of the lowest (R199). -/
def Block.feedI (s : Block) (f k c q : Nat) : List Rat :=
  (s.feedCfg f).members.foldl (fun acc m => sigAdd acc ((s.window ((s.feedCfg m).ich k) c q).map primary)) []
def Block.feedV (s : Block) (f k c q : Nat) : List Rat := (s.window ((s.feedMain f).vch k) c q).map primary

/-- Voltage of an energy position: the line voltage in 3P3W (R197). -/
def Block.elemV (s : Block) (f k c q : Nat) : List Rat :=
  if (s.feedMain f).wiring = 1 then sigAdd (s.feedV f k c q) (sigNeg (s.feedV f 1 c q)) else s.feedV f k c q

/-- The words a feed uses in a cycle, by channel (R217). -/
def Block.feedWords (s : Block) (f c q : Nat) : List (List HistWord) :=
  ((((s.feedCfg f).members.map (fun m => (s.feedCfg m).channels)).flatten.eraseDups).map (fun n => s.window n c q))

/-- Markings of a feed's cycle (R217): flags INVALID, HOLDOVER, SPARE, INJ and the picks with causes 1 to 6. -/
def Block.feedMarks (s : Block) (f c q : Nat) : Nat × Nat :=
  let ws := s.feedWords f c q
  let has (g : Word → Bool) : Bool := ws.any (fun l => l.any (fun h => g h.word))
  let bad (w : Word) : Bool := decide (1 ≤ w.bits 3 0) && decide (w.bits 3 0 ≤ 6)
  let picks := ((List.range 1024).filter (fun p => ws.any (fun l => l.any (fun h => h.pick % 1024 = p && bad h.word)))).length
  (b2n (decide (0 < picks)) + 2 * b2n (has (fun w => w.bits 3 0 == 7)) + 4 * b2n (has (fun w => w.bit 5)) + 8 * b2n (has (fun w => w.bit 4)), picks)

/-- All values of a feed in a cycle: by position the measured values and whether it is gated; the three rms line voltages
and the neutral current (R198, R201, R202, R214). -/
structure FeedVal where
  cfg : FeedCfg
  els : List (Nat × ElVal × Bool)
  us : List Rat
  is : List Rat
  uu : List Rat
  deriving DecidableEq, Repr

def Block.feedVal (s : Block) (f c q : Nat) : FeedVal :=
  let g := s.feedMain f
  let n := min 1024 q
  let els := ((energyPos g.wiring).filter g.pos).map (fun k =>
    let v := elVal n (s.elemV f k c q) (s.feedI f k c q)
    (k, v, decide (v.i < g.startI)))
  let gated (k : Nat) : Bool := els.any (fun e => e.1 == k && e.2.2)
  let sumI (ks : List Nat) : List Rat := (ks.filter g.pos).foldl (fun acc k => sigAdd acc (s.feedI f k c q)) []
  let iOf (k : Nat) : Rat :=
    if g.wiring = 0 && k = 3 && !g.pos 3 then rmsOf n (sumI [0, 1, 2])
    else if g.wiring = 1 && k = 1 && !g.pos 1 then rmsOf n (sumI [0, 2])
    else if g.pos k && usesI g.wiring k then rmsOf n (s.feedI f k c q) else 0
  let uOf (k : Nat) : Rat := if g.pos k && usesV g.wiring k then rmsOf n (s.elemV f k c q) else 0
  let line (a b : Nat) : Rat := rmsOf n (sigAdd (s.feedV f a c q) (sigNeg (s.feedV f b c q)))
  ⟨g, els, (List.range 4).map uOf,
    (List.range 4).map (fun k => if gated k && !(k = 3 && g.wiring = 0) then 0 else iOf k), [line 0 1, line 1 2, line 2 0]⟩

/-- Values of an element as they count: zero where gated (R214). -/
def counted (e : Nat × ElVal × Bool) : ElVal := if e.2.2 then { ElVal.zero with u := e.2.1.u } else e.2.1

def sumBy {α : Type} (l : List α) (f : α → Rat) : Rat := l.foldl (fun a x => a + f x) 0
def sq (x : Rat) : Rat := x * x

/-- Feed totals (R202): P, P1, Q1, Q, SA, SV, SE. -/
structure FeedTot where
  p : Rat
  p1 : Rat
  q1 : Rat
  q : Rat
  sa : Rat
  sv : Rat
  se : Rat
  deriving DecidableEq, Repr

def FeedVal.totals (v : FeedVal) : FeedTot :=
  let es := v.els.map counted
  let p := sumBy es (·.p)
  let q := sumBy es (·.q)
  let sa := sumBy es (fun e => e.u * e.i)
  let i (k : Nat) : Rat := nth 0 v.is k
  let u (k : Nat) : Rat := nth 0 v.us k
  let uu := sumBy v.uu sq
  let eff (ie2 ue2 : Rat) : Rat := 3 * sqrtRat ue2 * sqrtRat ie2
  let sv := if v.cfg.wiring = 2 then sumBy es (fun e => sqrtRat (sq e.p + sq e.q)) else sqrtRat (sq p + sq q)
  let se := match v.cfg.wiring with
    | 0 => eff ((sq (i 0) + sq (i 1) + sq (i 2) + sq (i 3)) / 3) ((3 * (sq (u 0) + sq (u 1) + sq (u 2)) + uu) / 18)
    | 1 => eff ((sq (i 0) + sq (i 1) + sq (i 2)) / 3) (uu / 9)
    | _ => sa
  ⟨p, sumBy es (·.p1), sumBy es (·.q1), q, sa, sv, se⟩

/-! ### Quantities, quanta and posts (R205 to R213) -/

/-- Codes 0 to 13 of one term (R206): P, P1, PH, Q1 and Q into their directions and quadrants. -/
def termPower (p p1 q1 q : Rat) (code : Nat) : Rat :=
  let quad (a b : Rat) : Nat := if 0 ≤ b then (if 0 ≤ a then 0 else 1) else if a < 0 then 2 else 3
  let ph := p - p1
  match code with
  | 0 => max p 0
  | 1 => max (-p) 0
  | 2 => max p1 0
  | 3 => max (-p1) 0
  | 4 => max ph 0
  | 5 => max (-ph) 0
  | c => if 6 ≤ c && c ≤ 9 then (if quad p1 q1 = c - 6 then ratAbs q1 else 0)
    else if 10 ≤ c && c ≤ 13 then (if quad p q = c - 10 then ratAbs q else 0) else 0

/-- Codes 14 to 19: an apparent power by the sign of P. -/
def termApparent (p sa sv se : Rat) (code : Nat) : Rat :=
  let imp := decide (0 ≤ p)
  match code with
  | 14 => if imp then sa else 0
  | 15 => if imp then 0 else sa
  | 16 => if imp then sv else 0
  | 17 => if imp then 0 else sv
  | 18 => if imp then se else 0
  | 19 => if imp then 0 else se
  | _ => 0

/-- The power of a quantity code in the feed totals (R205, R206). -/
def FeedVal.totalPower (v : FeedVal) (code : Nat) : Rat :=
  let t := v.totals
  let es := v.els.map counted
  if v.cfg.element then
    if code ≤ 13 then sumBy es (fun e => termPower e.p e.p1 e.q1 e.q code)
    else if code ≤ 15 then sumBy es (fun e => termApparent e.p (e.u * e.i) 0 0 code)
    else termApparent t.p t.sa t.sv t.se code
  else termPower t.p t.p1 t.q1 t.q code + termApparent t.p t.sa t.sv t.se code

/-- The power of a quantity code for one element or circuit (R207). -/
def elemPower (e : ElVal) (code : Nat) : Rat :=
  termPower e.p e.p1 e.q1 e.q code + termApparent e.p (e.u * e.i) (sqrtRat (sq e.p + sq e.q)) (e.u * e.i) code

/-- A carry put back (R209): 32 integer and 32 fraction bits; what it holds past those the spec does not say (log 24). -/
def Block.putCarry (s : Block) (key k : Nat) : Block :=
  let k' := if k < 2 ^ 64 then k else Config.freeNat s.freeCnt % 2 ^ 64
  { (s.modFeed (fun d => { d with carry := Sparse.set 0 key k' d.carry })) with freeCnt := if k < 2 ^ 64 then s.freeCnt else s.freeCnt + 1 }

/-- One quantity posted (R208, R209): energy with a free relative error within 10^-9, the carry, the quanta. -/
def Block.postQty (s : Block) (e f el code : Nat) (power tc : Rat) (fine flags stamp : Nat) (noload : Bool) : Block :=
  let key := (16 * f + el) * 32 + code
  let k := Sparse.get 0 key s.feed.carry
  let err := ratClamp (-1 / 1000000000) (1 / 1000000000) (Config.freeRat s.freeCnt)
  let s := { s with freeCnt := s.freeCnt + 1 }
  let units := power * tc * 1000000 / 3600 * (1 + err)
  let x : Nat := (roundAny (units / (2 ^ fine : Nat) * (2 ^ 32 : Nat))).toNat + k
  let n := if noload then 0 else min (x / 2 ^ 32) (2 ^ 32 - 1)
  let s := if noload then s else s.putCarry key (x - n * 2 ^ 32)
  { s with posts := s.posts ++ [⟨s.runnerOf e, false, f, el, code, n, fine, flags, false, false, stamp, s.genOf e⟩] }

/-- Carries of a feed converted to another FQ (R212). -/
def Block.convertCarry (s : Block) (f fq : Nat) : Block :=
  let old := nth 0 s.feed.carryFq f
  if old = fq then s
  else
    let s := forEach (s.feed.carry.filter (fun p => p.1 / 512 = f)) (fun p s => s.putCarry p.1 (p.2 * 2 ^ old / 2 ^ fq)) s
    s.modFeed (fun d => { d with carryFq := setNth d.carryFq f fq })

/-- The conversions of a feed that commits have made due up to the posts of cycle c, each in its turn (R212). -/
def Block.convertDue (s : Block) (f c : Nat) : Block :=
  let due := s.feed.fqDue.filter (fun x => x.1 = f && decide (x.2.1 ≤ c))
  let s := s.modFeed (fun d => { d with fqDue := d.fqDue.filter (fun x => x.1 ≠ f || decide (c < x.2.1)) })
  forEach due (fun x s => s.convertCarry f x.2.2) s

/-- Carries of a feed back to 0: a start from the initial state (R212). -/
def Block.clearCarry (s : Block) (f : Nat) : Block :=
  s.modFeed (fun d => { d with carry := d.carry.filter (fun p => p.1 / 512 ≠ f) })

/-- All posts of a feed for cycle c (R207, R210). -/
def Block.postFeed (s : Block) (e f c : Nat) (v : FeedVal) (tc : Rat) (flags stamp : Nat) (noload : Bool) : Block :=
  let codes := (List.range 20).filter (fun c => (BitVec.ofNat 20 v.cfg.qty).getLsbD c)
  let s := (s.convertDue f c).convertCarry f v.cfg.fq
  let s := forEach codes (fun c s => s.postQty e f 15 c (v.totalPower c) tc v.cfg.fq flags stamp noload) s
  if v.cfg.elemPost || v.cfg.wiring = 2 then
    forEach v.els (fun x s =>
      forEach (codes.filter (fun c => c ≤ 15 || v.cfg.wiring = 2)) (fun c s =>
        s.postQty e f x.1 c (elemPower (counted x) c) tc v.cfg.fq flags stamp noload) s) s
  else s

/-! ### P01's slot (R203, R214 to R217, R222) -/

/-- Live block of feed f. -/
def liveReg (f o : Nat) : Nat := pg 0x2E (0x100 + 0x80 * f + o)

/-- The sign of P, changed and held for two cycles: detector 2. -/
def Block.noteDir (s : Block) (f : Nat) (p : Rat) (ev : Block → Block) : Block :=
  let d := nth (0, 0) s.feed.dir f
  let sg := if p < 0 then 2 else 1
  if d.1 = 0 || d.1 = sg then s.modFeed (fun x => { x with dir := setNth x.dir f (sg, 0) })
  else if d.2 = 0 then s.modFeed (fun x => { x with dir := setNth x.dir f (d.1, 1) })
  else ev (s.modFeed (fun x => { x with dir := setNth x.dir f (sg, 0) }))

/-- An event of FEED for a cycle carries the stamp c+1.0 (R222). -/
def Block.feedEvent (s : Block) (stamp d : Nat) (exit : Bool) : Block :=
  s.raiseAt 0x2E d 0 exit false stamp

/-- T_c of cycle c (R208), computed in cycle c + 1: the clock periods the Warp counted. -/
def Block.cycleTime (s : Block) : Rat := (s.time.lastDur : Rat) / (sysHz : Nat)

/-- P01's slot for the cycle that ended, on engine schedule e with feed f (R210, R222). -/
def Block.runPower (s : Block) (e f : Nat) (extra : Nat) : Block :=
  let c := s.time.cycle - 1
  let stamp := mkStamp s.time.cycle 0 0
  let g := s.feedCfg f
  if !g.en || g.members.isEmpty then s.setB (liveReg f 0x08) 0 true
  else
    let m := s.feedMarks f c 1024
    let early := decide (c * 1024 < (s.engine e).validFrom)
    let flags := (m.1 ||| b2n early) ||| extra
    let v := s.feedVal f c 1024
    let t := v.totals
    let noload := decide (ratAbs t.p < v.cfg.creepP) && decide (ratAbs t.q1 < v.cfg.creepP)
    let s := s.postFeed e f c v s.cycleTime flags stamp noload
    let quad := if 0 ≤ t.q1 then (if 0 ≤ t.p1 then 0 else 1) else if t.p1 < 0 then 2 else 3
    let gated := v.els.foldl (fun n x => if x.2.2 then n + 2 ^ x.1 else n) 0
    let pf := m.2 * 65536 + gated * 256 + quad * 64 + b2n (decide (t.p < 0)) * 32 + b2n noload * 16 + (flags ||| b2n (s.feedOff f)) % 16
    let s := (s.set64 (liveReg f 0) stamp).setN (liveReg f 0x08) pf
    let sel := if v.cfg.pfSel = 0 then t.sa else if v.cfg.pfSel = 1 then t.sv else t.se
    let d1 := sqrtRat (sq t.p1 + sq t.q1)
    let vals : List Rat := [t.p, t.p1, t.p - t.p1, t.q1, t.q, t.sa, t.sv, t.se, if sel = 0 then 0 else t.p / sel, if d1 = 0 then 0 else t.p1 / d1]
    let s := forEach (List.range 10) (fun i s => s.setR (liveReg f (0x0C + 4 * i)) (f32of (nth 0 vals i))) s
    let s := s.poutLive f stamp vals s.cycleTime
    let s := forEach (List.range 4) (fun k s =>
      let x := ((v.els.find? (fun x => x.1 = k)).map (·.2.1)).getD ElVal.zero
      (s.setR (liveReg f (0x48 + 0x10 * k)) (f32of x.p)).setR (liveReg f (0x4C + 0x10 * k)) (f32of x.q1)) s
    let st := pg 0x2E 0x94
    let s := (s.setB st (20 + f) (flags % 2 == 1)).setB st (16 + f) noload
    let s := if noload then s.bump (pg 0x2E (0x98 + 4 * f)) 31 0 1 else s
    let s := s.bump (pg 0x2E (0xA8 + 4 * f)) 31 0 m.2
    let wasInv := nth false s.feed.invEp f
    let wasNo := nth false s.feed.noEp f
    let s := s.modFeed (fun d => { d with invEp := setNth d.invEp f (decide (0 < m.2)), noEp := setNth d.noEp f noload })
    let s := if 0 < m.2 && !wasInv then s.feedEvent stamp 1 false else s
    let s := s.noteDir f t.p (fun s => s.feedEvent stamp 2 false)
    if noload == wasNo then s else s.feedEvent stamp 6 (!noload)

/-! ### P02's slot (R204, R222) -/

/-- The cycle's values are held for the windows (R204): enough for the window that closes and for one whose closing slot was missed. -/
def Block.aggAdd (s : Block) (f c : Nat) (v : FeedVal) (meas : List Rat) (flags : Nat) : Block :=
  s.modFeed (fun d => { d with agg := modNth d.agg f (fun l => ((⟨c, flags, v.us.map sq, meas.map sq⟩ : CycRms) :: l).take 24) })

/-- The window of w cycles that closed at pick 0 of a cycle, from the cycles it holds (R204); nothing where it holds none. -/
def Block.aggWrite (s : Block) (f w close : Nat) : Block :=
  let l := (nth [] s.feed.agg f).filter (fun x => decide (close ≤ x.cycle + w) && decide (x.cycle < close))
  if l.isEmpty then s
  else
    let b := pg 0x2E (0x300 + 0x40 * f)
    let n : Rat := (l.length : Nat)
    let flags := l.foldl (fun a x => a ||| x.flags) 0
    let s := (s.set64 b (mkStamp close 0 0)).setN (b + 8) (flags ||| b2n (decide (l.length < w)))
    forEach (List.range 4) (fun j s =>
      (s.setR (b + 0x10 + 4 * j) (f32of (sqrtRat (sumBy l (fun x => nth 0 x.u j) / n)))).setR (b + 0x20 + 4 * j)
        (f32of (sqrtRat (sumBy l (fun x => nth 0 x.i j) / n)))) s

/-- At P02's slot in cycle t: the last window that closed, unless it has been written. One whose own slot was missed is written by the
next slot that runs (DEDUCED, log 24). -/
def Block.aggClose (s : Block) (f w t : Nat) : Block :=
  let close := t - t % w
  let s := if nth 0 s.feed.aggEnd f < close then s.aggWrite f w close else s
  s.modFeed (fun d => { d with aggEnd := setNth d.aggEnd f t })

/-- 10 or 12 cycles as NOMINAL selected over the cycle that ended (R204). -/
def Block.winLen (s : Block) : Nat := (s.pq.forces.head?.map (·.1)).getD (if s.nominalHz = 60 then 12 else 10)

/-- P02's slot for the cycle that ended (R204, R222, R226). -/
def Block.runRms (s : Block) (e f : Nat) (extra : Nat) : Block :=
  let c := s.time.cycle - 1
  let stamp := mkStamp s.time.cycle 0 0
  let g := s.feedCfg f
  if !g.en || g.members.isEmpty then s.setB (liveReg f 0x3C) 0 true
  else
    let m := s.feedMarks f c 1024
    let early := decide (c * 1024 < (s.engine e).validFrom)
    let hold := m.1 / 2 % 2
    let flags := (((m.1 ||| b2n early) ||| hold) ||| extra) % 16
    let v := s.feedVal f c 1024
    let n := 1024
    let measI := (List.range 4).map (fun k =>
      let x := nth 0 v.is k
      match v.els.find? (fun y => y.1 = k) with
      | some y => if v.cfg.pos k && usesI v.cfg.wiring k then rmsOf n (s.feedI f y.1 c 1024) else x
      | none => if v.cfg.wiring = 1 && !v.cfg.pos k then 0 else x)
    let s := (s.set64 (liveReg f 0x34) stamp).setN (liveReg f 0x3C) (flags ||| b2n (s.feedOff f))
    let s := forEach (List.range 4) (fun k s =>
      (s.setR (liveReg f (0x40 + 0x10 * k)) (f32of (nth 0 v.us k))).setR (liveReg f (0x44 + 0x10 * k)) (f32of (nth 0 measI k))) s
    let w := s.winLen
    (s.aggAdd f c v measI flags).aggClose f w s.time.cycle

/-! ### The POWERFAIL partial post (R213) -/

/-- Posts of the picks c.0 to c.(q − 1), under the configuration of the cycle they lie in: total active energy from the words, the
fundamental and reactive terms at the last complete cycle's values, gates and directions on the partial values. A pick lasts T_pick, the
pick period in force. -/
def Block.partialFeed (s : Block) (e f q stamp : Nat) : Block :=
  let c := s.time.cycle
  let now := s.modFeed (fun d => { d with prev := [] })
  let g := now.feedCfg f
  if !g.en || g.members.isEmpty || q = 0 then s
  else
    let m := now.feedMarks f c q
    let v := now.feedVal f c q
    let last := s.feedVal f (c - 1) 1024
    let els := v.els.map (fun x =>
      let l := ((last.els.find? (fun y => y.1 = x.1)).map (·.2.1)).getD ElVal.zero
      (x.1, { x.2.1 with p1 := l.p1, q1 := l.q1, q := l.q }, x.2.2))
    let v := { v with els := els }
    let t := v.totals
    let noload := decide (ratAbs t.p < v.cfg.creepP) && decide (ratAbs t.q1 < v.cfg.creepP)
    let tc : Rat := (q : Rat) * s.time.period / (sysHz : Nat)
    s.postFeed e f c v tc (m.1 ||| 32) stamp noload

/-- Soft reset of FEED (R221): its RWS registers return at the next commit, its counters at once. -/
def Block.feedSoftReset (s : Block) : Block :=
  let s := forEach (List.range 8) (fun i s => s.setN (pg 0x2E (0x98 + 4 * i)) 0) s
  forEach (List.range 21) (fun i s =>
    { s with shadow := Sparse.put (pg 0x2E (0x40 + 4 * i)) (regReset (pg 0x2E (0x40 + 4 * i))) s.shadow }) s

end Sys2Proof.Machine
end

