-- ==== Sys2Proof/Machine/Store.lean ====
section
/-! DEFINITION. The external log store (R453 to R476): writing, reclaiming, commands. A flash device is outside the block:
what it answers comes with the commands that complete an operation on it. -/

namespace Sys2Proof.Machine

/-! ### Writing -/

/-- The header of an erase unit (R458). -/
def Block.unitHeader (s : Block) (k useq erases rseq : Nat) : List Byte :=
  let a := leBytes 4 0x534C594C ++ [1#8] ++ leBytes 1 k
  let b := [0#8] ++ leBytes 4 useq ++ leBytes 4 erases ++ leBytes 8 rseq ++ leBytes 4 64 ++ s.deviceId ++ List.replicate 16 0#8
  a ++ [0x7F#8] ++ b ++ leBytes 4 (crc32 (a ++ b)).toNat

/-- A fragment: its header and payload (R459). -/
def fragBytes (r : LogRec) (k rseq ofs : Nat) (part : List Byte) : List Byte :=
  let pad := part ++ List.replicate ((16 - part.length % 16) % 16) 0
  let flags := r.flags + (if ofs = 0 then 4 else 0) + (if r.body.length ≤ ofs + part.length then 8 else 0)
  let h := leBytes 4 (32 + pad.length) ++ leBytes 2 r.type ++ leBytes 1 k ++ leBytes 1 flags ++ leBytes 8 rseq
    ++ leBytes 8 r.stamp ++ leBytes 4 ofs
  h ++ leBytes 4 (crc32 (h ++ pad)).toNat ++ pad

/-- A stream with fewer than two usable units fails (R461). -/
def Block.checkUsable (s : Block) (k : Nat) : Block :=
  if (s.usable k).length < 2 && (s.logStream k).st ≠ 4 then
    ((s.modStream k (fun t => { t with st := 4 })).storEntry 7 k (s.streamCs k) 0 0).raise 0x3A 10 0
  else s

/-- A unit is retired (R461). -/
def Block.retireUnit (s : Block) (k u : Nat) : Block :=
  let cs := s.streamCs k
  let s := s.modStream k (fun t => { t with bad := t.bad ++ [u], units := t.units.filter (fun x => x.unit ≠ u || x.last ≠ 0), off := 0 })
  let s := s.bump (pg 0x3A 0xB4) (15 + 16 * cs) (16 * cs) 1
  ((s.storEntry 6 k cs 0 u).raise 0x3A 5 0).checkUsable k

/-- The oldest unit is taken back under WRAP, or the stream is FULL under STOP, once the last unit is in use (R465). -/
def Block.lastUnit (s : Block) (k : Nat) : Block :=
  let t := s.logStream k
  let cs := s.streamCs k
  if t.units.length < (s.usable k).length then s
  else if s.rbit (regCfg k) 30 then
    ((s.modStream k (fun t => { t with st := 3 })).storEntry 5 k cs t.nextRseq 0).raise 0x3A 4 0
  else match t.units with
    | old :: rest =>
      let tail := (rest.head?.map (·.first)).getD t.nextRseq
      let s := s.modStream k (fun t => { t with units := rest, tail := tail, erasing := some old.unit })
      (s.storEntry 3 k cs (tail - 1) (tail - old.first)).raise 0x3A 9 0
    | [] => s

/-- The next usable unit after the open one, in the order of the circular log (R462). -/
def Block.nextUnit (s : Block) (k : Nat) : Option Nat :=
  let us := s.usable k
  let held := (s.logStream k).units.map (·.unit)
  let after := match (s.logStream k).units.getLast? with
    | some x => us.filter (fun u => x.unit < u) ++ us
    | none => us
  after.find? (fun u => !held.contains u && (s.logStream k).erasing ≠ some u)

/-- A unit is opened for writing; its header is programmed with the first fragment (R458). -/
def Block.openUnit (s : Block) (k : Nat) : Block × List (Nat × List Byte) :=
  match s.nextUnit k with
  | none => (s, [])
  | some u =>
    let t := s.logStream k
    let hdr := s.unitHeader k t.nextUseq (Sparse.get 0 u t.erases) t.nextRseq
    let s := s.modStream k (fun t =>
      { t with
        units := t.units ++ [⟨u, t.nextUseq, t.nextRseq, 0⟩]
        off := 64
        nextUseq := t.nextUseq + 1
        tail := if t.units.isEmpty then t.nextRseq else t.tail })
    (s.lastUnit k, [(u * s.unitSize (s.streamCs k), hdr)])

/-- The open unit closes where no further fragment fits in it (R459, R464). -/
def Block.closeUnit (s : Block) (k : Nat) : Block :=
  let t := s.logStream k
  let full := t.off = 0 || s.unitSize (s.streamCs k) < t.off + 48
  if full && !t.units.isEmpty && t.off ≠ 0 then
    let last := (t.units.getLast?.map (·.last)).getD 0
    (s.modStream k (fun t => { t with off := 0 })).storEntry 2 k (s.streamCs k) last 0
  else s

/-- Nothing of a stream is left to write: staging holds none of it, or no unit can take it. -/
def Block.streamDry (s : Block) (k : Nat) : Bool :=
  let t := s.logStream k
  t.staged.isEmpty || t.st == 1 || t.st == 4 || (t.st == 3 && t.off = 0 && t.erasing.isNone && (s.nextUnit k).isNone)

/-- A page that drains is OFF once staging is empty, or no stream can write what it holds (R470). -/
def Block.storDrained (s : Block) : Block :=
  if s.pageState 0x3A = psDraining && (List.range 5).all (fun k => s.streamDry k) then s.setPageState 0x3A psOff else s

/-- A chip select that UNMOUNT drains is left once nothing of its streams is staged (R470). -/
def Block.unmountDone (s : Block) : Block :=
  match s.stor.cmd with
  | some (2, cs, _) =>
    if (s.streamsOf cs).all (fun k => s.streamDry k) then
      let s := forEach (s.streamsOf cs) (fun k s => s.modStream k (fun t => { t with st := 1 })) s
      ((s.modStor (fun t => { t with cmd := none })).setCs cs csUnmounted).setF (pg 0x3A 0x5C) 4 0 0
    else s
  | _ => s

/-- The stream may program: RUN or the rest of a FULL one, something staged, the request granted, no erase awaited. -/
def Block.mayProgram (s : Block) (k : Nat) : Bool :=
  let t := s.logStream k
  (t.st == 2 || t.st == 3) && !t.staged.isEmpty && s.granted 0x3A && t.erasing.isNone && (s.pwr.st == .run || s.pwr.st == .lean)
    && s.csState (s.streamCs k) == csMounted && (t.off ≠ 0 || (s.nextUnit k).isSome)

/-- FLASH_PROGRAM_COMPLETE: the fragment in hand of stream k is programmed and verified, or the program failed (R459, R461,
R464). Answers the record that became visible. -/
def Block.flashProgram (s : Block) (k : Nat) (ok : Bool) : Block × Option LogRec :=
  if !s.mayProgram k then (s, none)
  else
    let o := if (s.logStream k).off = 0 then s.openUnit k else (s, [])
    let s := o.1
    let t := s.logStream k
    match t.staged, t.units.getLast? with
    | r :: rest, some u =>
      let size := s.unitSize (s.streamCs k)
      let room := size - t.off - 32
      let part := (r.body.drop t.sent).take room
      let bytes := fragBytes r k t.nextRseq t.sent part
      let s := s.modStor (fun x => { x with prog := o.2 ++ [(u.unit * size + t.off, bytes)] })
      if !ok then (s.retireUnit k u.unit, none)
      else
        let done := r.body.length ≤ t.sent + part.length
        let s := s.modStream k (fun t =>
          { t with
            off := t.off + bytes.length
            sent := if done then 0 else t.sent + part.length
            staged := if done then rest else t.staged
            head := if done then t.nextRseq else t.head
            newest := match r.src with
              | .sheaf n => if done then max n t.newest else t.newest
              | _ => t.newest
            nextRseq := if done then t.nextRseq + 1 else t.nextRseq
            units := if done then modNth t.units (t.units.length - 1) (fun x => { x with last := t.nextRseq }) else t.units })
        (((s.closeUnit k).storRequest).unmountDone.storDrained, if done then some r else none)
    | _, _ => (s, none)

/-- FLASH_ERASE_COMPLETE (R461, R462, R465). -/
def Block.flashErase (s : Block) (k : Nat) (ok : Bool) : Block :=
  match (s.logStream k).erasing with
  | none => s
  | some u =>
    let s := s.modStream k (fun t =>
      { t with
        erasing := none
        weak := t.weak.filter (· ≠ u)
        erases := Sparse.put u (Sparse.get 0 u t.erases + 1) t.erases })
    if ok then s else s.retireUnit k u

/-! ### Commands -/

/-- A command ends with a result (R474). -/
def Block.storResult (s : Block) (v : Nat) : Block :=
  (s.modStor (fun t => { t with cmd := none })).setF (pg 0x3A 0x5C) 4 0 v

/-- A command is rejected (R474): the RESULT of a MOUNT or FORMAT shows it (R453). -/
def Block.storReject (s : Block) (show_ : Bool) : Block :=
  let s := if show_ then s.setF (pg 0x3A 0x5C) 3 0 1 else s
  s.raise 0x3A 2 0

/-- Writes that the state of a device or region holds off: DEV_CFG of a chip select that mounts, is mounted or formats, under detector 2
(R473); a region's registers from a MOUNT to the next FORMAT (R456). -/
def Block.storHeld (s : Block) (o : Nat) : Option Block :=
  let st := s.csState ((o - 0x40) / 4)
  if (o = 0x40 || o = 0x44) && (st = csMounting || st = csMounted || st = csFormatting) then some (s.storReject false)
  else if 0x68 ≤ o && o < 0x90 && (s.logStream ((o - 0x68) / 4 % 5)).laid then some s
  else none

/-- A command starts. -/
def Block.storBegin (s : Block) (cmd cs len : Nat) : Block :=
  (s.modStor (fun t => { t with cmd := some (cmd, cs, len) })).setB (pg 0x3A 0x5C) 4 true

def Block.storMount (s : Block) (cs : Nat) : Block :=
  if s.stor.cmd.isSome then s.storReject false
  else if !s.devOk cs then s.storReject true
  else (s.storBegin 1 cs 0).setCs cs csMounting

def Block.storUnmount (s : Block) (cs : Nat) : Block :=
  if s.stor.cmd.isSome then s.storReject false
  else if s.csState cs = csMounted then (s.storBegin 2 cs 0).unmountDone
  else (s.setCs cs csUnmounted).setF (pg 0x3A 0x5C) 3 0 0

def Block.storRead (s : Block) (cs len : Nat) : Block :=
  if s.stor.cmd.isSome || len < 4 || 512 < len || len % 4 ≠ 0 then s.storReject false
  else if s.csState cs = csAbsent then (s.storResult 2).setF (pg 0x3A 0x64) 31 28 2
  else s.storBegin 3 cs len

/-- What is known of a chip select's superblock. -/
def Block.setSuper (s : Block) (cs v : Nat) : Block := s.modStor (fun t => { t with super := setNth t.super cs v })

/-- An UNMOUNTED chip select holds a valid superblock: as last seen, else what FORMAT finds on the device, which the block cannot know
beforehand (log 33). -/
def Block.superValid (s : Block) (cs : Nat) : Bool × Block := match nth 0 s.stor.super cs with
  | 1 => (true, s)
  | 2 => (false, s)
  | _ => let r := s.draw; (decide (r.1 % 2 = 1), r.2)

/-- FORMAT (R455, R456). -/
def Block.storFormat (s : Block) (cs : Nat) : Block :=
  let life := s.lifeState
  let st := s.csState cs
  let asks := !(life = 1 || life = 2) && st = csUnmounted && s.stor.cmd.isNone
  let r := if asks then s.superValid cs else (false, s)
  let s := r.2
  let open_ := life = 1 || life = 2 || st = csAbsent || (st = csUnmounted && !r.1) || st = csReadOnly
  if s.stor.cmd.isSome then s.storReject false
  else if !s.devOk cs || !s.regionsOk cs || !open_ then s.storReject true
  else (s.storBegin 4 cs 0).setCs cs csFormatting

/-- The RESTART record of a mount (R459). -/
def Block.restartRec (s : Block) : LogRec :=
  ⟨0xFFFD, 2, s.stampNow, leBytes 2 (s.fld (pg 5 0xA8) 15 0) ++ List.replicate 6 0#8 ++ leBytes 8 s.rtcNow, .plain⟩

/-- MOUNT_COMPLETE where a valid superblock of this device is found (R466): streams by number with what the device holds. -/
def Block.mountFound (s : Block) (cs : Nat) (l : List (Nat × StreamFound)) : Block :=
  let s := forEach l (fun p s =>
    let f := p.2
    let s := ((s.setR (regCfg p.1) ((f.cfg &&& 0xC00FFFFF).withBits 28 28 cs)).setN (regUnits p.1) (f.units.bits 19 0)).modStream p.1 (fun t =>
      { t with
        st := if f.cfg.bit 31 then 2 else 1
        units := f.used
        off := f.off
        sent := 0
        nextRseq := f.nextRseq
        nextUseq := f.nextUseq
        head := f.nextRseq - 1
        tail := (f.used.head?.map (·.first)).getD 0
        erasing := none
        bad := f.bad
        weak := f.weak
        erases := f.erases
        catchUp := true
        newest := f.newest
        laid := true })
    let s := forEach f.weak (fun _ s => (s.bump (pg 0x3A 0xB8) 15 0 1).raise 0x3A 7 0) s
    if f.cfg.bit 31 then (s.modStream p.1 (fun t => { t with staged := s.restartRec :: t.staged })).checkUsable p.1
    else s.modStream p.1 (fun t => { t with staged := [] })) s
  (((s.setCs cs csMounted).setSuper cs 1).storResult 0).storEntry 1 0xFF cs 0 0 |>.storRequest

/-- MOUNT_COMPLETE without a usable device: 2 ABSENT, 3 MISMATCH, 5 IO_ERROR (R466, R468). -/
def Block.mountNone (s : Block) (cs res : Nat) : Block :=
  let s := forEach (s.streamsOf cs) (fun k s => s.modStream k (fun t => { t with st := 1 })) s
  match res with
  | 2 => ((((s.setCs cs csAbsent).setSuper cs 2).storResult 2).storEntry 8 0xFF cs 0 0).raise 0x3A 1 0
  | 3 => ((((s.setCs cs csReadOnly).setSuper cs 1).storResult 3).storEntry 9 0xFF cs 0 0).raise 0x3A 8 0
  | _ => (((s.setCs cs csFailed).storResult 5).storEntry 7 0xFF cs 0 0).raise 0x3A 10 0

/-- A command that runs, of a kind: its chip select and length. -/
def Block.storRuns (s : Block) (kind : Nat) : Option (Nat × Nat) := match s.stor.cmd with
  | some (c, cs, len) => if c = kind then some (cs, len) else none
  | none => none

/-- FORMAT_COMPLETE (R455, R461): bad units found, by stream. -/
def Block.formatDone (s : Block) (ok : Bool) (bad : List (Nat × List Nat)) : Block :=
  match s.storRuns 4 with
  | none => s
  | some (cs, _) =>
    if !ok then (((s.setCs cs csFailed).storResult 5).storEntry 7 0xFF cs 0 0).raise 0x3A 10 0
    else
      let s := forEach ((List.range 5).filter (fun k => s.streamCs k == cs)) (fun k s => s.modStream k (fun t => { t with laid := false })) s
      let s := forEach (s.streamsOf cs) (fun k s => s.modStream k (fun t =>
        { t with
          st := 1
          units := []
          off := 0
          sent := 0
          erasing := none
          weak := []
          bad := ((bad.find? (fun p => p.1 = k)).map (·.2)).getD [] })) s
      ((s.setCs cs csUnmounted).setSuper cs 1).storResult 0

/-- STOR_READ_COMPLETE (R460, R469): the bytes, most bits corrected in one sector, whether a sector failed, or no answer. -/
def Block.readDone (s : Block) (bytes : List Byte) (corr : Nat) (fail ioError : Bool) : Block :=
  match s.storRuns 3 with
  | none => s
  | some (cs, len) =>
    let unit := s.getN (pg 0x3A 0x60) / s.unitSize cs
    let res := if ioError then 5 else if fail then 4 else 0
    let s := if ioError then s else forEach (List.range (len / 4)) (fun i s =>
      s.setN (pg 0x3A (0x200 + 4 * i)) (leNat ((bytes.drop (4 * i)).take 4))) s
    let s := (s.setN (pg 0x3A 0x64) (res * 2 ^ 28 + min 255 corr)).storResult res
    let s := if 6 ≤ corr then
        let s := s.bump (pg 0x3A 0xB8) 15 0 1
        match (s.streamsOf cs).find? (fun k => s.fld (regCfg k) 19 0 ≤ unit && unit < s.fld (regCfg k) 19 0 + s.fld (regUnits k) 19 0) with
        | some k =>
          if (s.logStream k).weak.contains unit then s
          else (s.modStream k (fun t => { t with weak := t.weak ++ [unit] })).raise 0x3A 7 0
        | none => s.raise 0x3A 7 0
      else s
    if fail && !ioError then (s.bump (pg 0x3A 0xBC) 15 0 1).raise 0x3A 6 0 else s

/-- DEVICE_TIMEOUT (R468). -/
def Block.deviceTimeout (s : Block) (cs : Nat) : Block :=
  if s.csState cs = csMounted || s.csState cs = csMounting || s.csState cs = csFormatting || s.csState cs = csReadOnly then
    let s := forEach (s.streamsOf cs) (fun k s => s.modStream k (fun t => { t with st := 1, sent := 0 })) s
    let s := match s.stor.cmd with
      | some (_, c, _) => if c = cs then s.storResult 5 else s
      | none => s
    ((s.setCs cs csFailed).storEntry 7 0xFF cs 0 0).raise 0x3A 10 0
  else s

/-! ### Disable, reset, HOLD (R470) -/

/-- Staged records are discarded and counted; detector 3 where a stream's episode begins (R476). -/
def Block.storAbort (s : Block) : Block :=
  (forEach (List.range 5) (fun k s =>
    let first := decide ((s.logStream k).gapCnt = 0) && !(s.logStream k).staged.isEmpty
    let s := s.modStream k (fun t =>
      { t with
        staged := []
        sent := 0
        lost := satAdd 0xFFFFFFFF t.lost t.staged.length
        gapCnt := satAdd 0xFFFFFFFF t.gapCnt t.staged.length
        gapStamp := if t.gapCnt = 0 then ((t.staged.head?).map (·.stamp)).getD 0 else t.gapStamp })
    if first then s.raise 0x3A 3 0 else s) s).storRequest.unmountDone

def Block.storEnable (s : Block) (on abort : Bool) : Block :=
  if on then s.setPageState 0x3A psRun
  else if abort then s.storAbort.setPageState 0x3A psOff
  else (s.setPageState 0x3A psDraining).storDrained

def Block.storSoftReset (s : Block) : Block :=
  let s := s.storAbort
  let s := forEach ((List.range 49).map (fun i => 0x40 + 4 * i) ++ (List.range 128).map (fun i => 0x200 + 4 * i))
    (fun o s => s.setR (pg 0x3A o) (regReset (pg 0x3A o))) s
  s.modStor (fun t => { t with streams := t.streams.map (fun x => { LogStream.reset with lost := 0, gapCnt := x.gapCnt, gapStamp := x.gapStamp }), cmd := none, harm := [] })

/-- Staging is lost with the shared SRAM at HOLD entry. -/
def Block.storHold (s : Block) : Block :=
  s.modStor (fun t => { t with streams := t.streams.map (fun x => { x with staged := [], sent := 0 }), cmd := none })

/-- S_STAT of a stream (R475). -/
def Block.streamStat (s : Block) (k : Nat) : Nat :=
  let t := s.logStream k
  let st := if s.streamOn k && s.pageState 0x3A ≠ psOff then t.st else 0
  st * 2 ^ 28 + b2n (!t.weak.isEmpty) * 2 ^ 24 + t.units.length

/-- Registers of the page that show a stream (R475), by offset. -/
def Block.storView (s : Block) (o : Nat) : Option Nat :=
  let k := s.fld (pg 0x3A 0x94) 2 0
  let t := s.logStream k
  match o with
  | 0x98 => some (s.streamStat k)
  | 0x9C => some t.head
  | 0xA0 => some (t.head / 2 ^ 32)
  | 0xA4 => some t.tail
  | 0xA8 => some (t.tail / 2 ^ 32)
  | 0xAC => some t.lost
  | 0xB0 => some s.stageUsed
  | 0xC0 => some ((t.erases.map (·.2)).foldl max 0)
  | _ => none

end Sys2Proof.Machine
end

