-- ==== Sys2Proof/Machine/LocalTime.lean ====
section
/-! DEFINITION. Local time (R330): the calendar of days from 2000-01-01, daylight-saving time, and the effective local minute
under which switch, billing and grid times are taken: a skipped time takes effect at the transition, a repeated one once. -/

namespace Sys2Proof.Machine

/-- RTC stamp units per minute (R6). -/
def rtcMinute : Nat := 60 * 65536

/-- A date: year, month 1 to 12, day 1 to 31. -/
structure Date where
  year : Nat
  month : Nat
  day : Nat
  deriving DecidableEq, Repr

def leapYear (y : Nat) : Bool := (y % 4 == 0 && y % 100 != 0) || y % 400 == 0
def monthDays (leap : Bool) (m : Nat) : Nat := match m with
  | 2 => if leap then 29 else 28
  | 4 | 6 | 9 | 11 => 30
  | _ => 31

/-- Days before year 2000 + y. -/
def daysToYear (y : Nat) : Nat := 365 * y + (y + 3) / 4 - (y + 99) / 100 + (y + 399) / 400

/-- Days before month m in a year. -/
def daysToMonth (leap : Bool) (m : Nat) : Nat := ((List.range (m - 1)).map (fun i => monthDays leap (i + 1))).foldl (· + ·) 0

/-- Day number of a date, 0 for 2000-01-01. -/
def dayNumber (d : Date) : Nat := daysToYear (d.year - 2000) + daysToMonth (leapYear d.year) d.month + (d.day - 1)

/-- The date of a day number. -/
def dateOf (n : Nat) : Date :=
  let y0 := n / 366
  let y := ((List.range 4).filter (fun i => daysToYear (y0 + i) ≤ n)).foldl (fun _ i => y0 + i) y0
  let y := if daysToYear (y + 1) ≤ n then ((List.range (y / 1400 + 2)).filter (fun i => daysToYear (y + i) ≤ n)).foldl (fun _ i => y + i) y else y
  let leap := leapYear (2000 + y)
  let r := n - daysToYear y
  let m := ((List.range 12).filter (fun i => daysToMonth leap (i + 1) ≤ r)).foldl (fun _ i => i + 1) 1
  ⟨2000 + y, m, r - daysToMonth leap m + 1⟩

/-- Weekday of a day number, Monday 0 (2000-01-01 was a Saturday). -/
def weekdayOf (n : Nat) : Nat := (n + 5) % 7

/-- UTC offset and daylight-saving offset in minutes (R354). -/
def Block.utcOfs (s : Block) : Int := signedOf 16 (s.fld (pg 0x30 0x40) 15 0)
def Block.dstOfs (s : Block) : Nat := s.fld (pg 0x30 0x44) 7 0
def Block.dstOn (s : Block) : Bool := s.rbit (pg 0x30 0x44) 31

/-- Local minute (since 2000-01-01) at which a DST rule word falls in a year (R330, R353). -/
def ruleMinute (w : Word) (year : Nat) : Nat :=
  let m := w.bits 27 24
  let leap := leapYear year
  let first := dayNumber ⟨year, m, 1⟩
  let d0 := first + (w.bits 18 16 + 7 - weekdayOf first) % 7
  let k := w.bits 22 20
  let last := first + monthDays leap m
  let day := if k = 5 then (if d0 + 28 < last then d0 + 28 else d0 + 21) else d0 + 7 * (k - 1)
  day * 1440 + w.bits 10 0

/-- The latest DST transition at or before a UTC minute: its UTC minute and whether daylight-saving time begins there. -/
def Block.lastTransition (s : Block) (utc : Nat) : Option (Int × Bool) :=
  let y := (dateOf ((((utc : Int) + s.utcOfs).toNat) / 1440)).year
  let cands : List (Int × Bool) := ([y - 1, y, y + 1].filter (fun x => 2000 ≤ x)).flatMap (fun yr =>
    [((ruleMinute (s.getR (pg 0x30 0x48)) yr : Int) - s.utcOfs, true),
     ((ruleMinute (s.getR (pg 0x30 0x4C)) yr : Int) - s.utcOfs - s.dstOfs, false)])
  (cands.filter (fun c => decide (c.1 ≤ (utc : Int)))).foldl (fun best c => match best with
    | none => some c
    | some b => if b.1 ≤ c.1 then some c else some b) none

/-- Daylight-saving time is in force at a UTC minute. -/
def Block.dstAt (s : Block) (utc : Nat) : Bool := s.dstOn && (match s.lastTransition utc with
  | some (_, b) => b
  | none => false)

/-- The effective local minute of a UTC minute (R330): it never runs back, and stands while local time is repeated. -/
def Block.localMin (s : Block) (utc : Nat) : Nat :=
  let std := (utc : Int) + s.utcOfs
  if !s.dstOn then std.toNat
  else match s.lastTransition utc with
    | some (_, true) => (std + s.dstOfs).toNat
    | some (t, false) => (max std (t + s.utcOfs + s.dstOfs - 1)).toNat
    | none => std.toNat

/-- Local time as a clock shows it, in minutes (R330). -/
def Block.wallMin (s : Block) (utc : Nat) : Nat := ((utc : Int) + s.utcOfs + (if s.dstAt utc then s.dstOfs else 0 : Nat)).toNat

/-- UTC minute of an RTC stamp. -/
def minuteOf (rtc : Nat) : Nat := rtc / rtcMinute

/-- The RTC's time is valid (R605). -/
def Block.rtcValid (s : Block) : Bool := s.rbit (pg 4 0x54) 0

end Sys2Proof.Machine
end

