-- ==== Sys2Proof/Machine/Tariff.lean ====
section
/-! DEFINITION. The tariff calendar (R331 to R335, R352 to R355). -/

namespace Sys2Proof.Machine

def Block.modTar (s : Block) (f : Tariff → Tariff) : Block := { s with tar := f s.tar }

/-- Field checks of the page (R353, R354). -/
def tariffRules : List FieldRule := [
  ⟨0x40, 0x40, 15, 0, fun v => decide (-720 ≤ signedOf 16 v) && decide (signedOf 16 v ≤ 840), 4⟩,
  ⟨0x44, 0x44, 7, 0, fun v => v ≤ 120, 4⟩,
  ⟨0x48, 0x4C, 27, 24, fun v => 1 ≤ v && v ≤ 12, 4⟩, ⟨0x48, 0x4C, 22, 20, fun v => 1 ≤ v && v ≤ 5, 4⟩,
  ⟨0x48, 0x4C, 18, 16, fun v => v ≤ 6, 4⟩, ⟨0x48, 0x4C, 10, 0, fun v => v ≤ 1439, 4⟩,
  ⟨0x50, 0x50, 7, 0, fun v => v ≤ 244, 4⟩]

/-- PASSIVE (R353). -/
def Block.passive (s : Block) : Nat := s.fld (pg 0x30 0x68) 31 29
def Block.setPassive (s : Block) (v : Nat) : Block := s.setF (pg 0x30 0x68) 31 29 v

def calWordOf (img : List Word) (k : Nat) : Word := nth 0 img k

/-! ### Look-up (R332) -/

/-- Entries of a day profile: rate, hour, minute, in order. -/
def dayEntries (img : List Word) (p : Nat) : List (Nat × Nat × Nat) :=
  (List.range 12).map (fun i =>
    let h := (calWordOf img (21 + 6 * p + i / 2)).toNat / 2 ^ (16 * (i % 2)) % 65536
    (h / 4096, h / 64 % 32, h % 64))

/-- The season in force on a month and day: the latest used one that has begun, else the latest of the year. -/
def seasonAt (img : List Word) (m d : Nat) : Nat :=
  let used := (List.range 12).filter (fun i => (calWordOf img (1 + i)).bit 31)
  let key (i : Nat) : Nat := (calWordOf img (1 + i)).bits 11 8 * 32 + (calWordOf img (1 + i)).bits 4 0
  let top (l : List Nat) : Option Nat := l.foldl (fun b i => match b with
    | none => some i
    | some j => if key j < key i then some i else some j) none
  match top (used.filter (fun i => key i ≤ m * 32 + d)) with
  | some i => i
  | none => (top used).getD 0

/-- What the calendar gives at a local minute. -/
def calendarAt (img : List Word) (loc : Nat) : TarNow :=
  let n := loc / 1440
  let d := dateOf n
  let season := seasonAt img d.month d.day
  let week := (calWordOf img (1 + season)).bits 18 16
  let special (yr : Nat) : Option Nat := ((List.range 128).map (fun i => calWordOf img (117 + i))).find? (fun w =>
    w.bit 31 && w.bits 30 24 = yr && w.bits 11 8 = d.month && w.bits 4 0 = d.day) |>.map (fun w => w.bits 23 20)
  let wd := weekdayOf n
  let plain := (calWordOf img (13 + week)).bits (4 * wd + 3) (4 * wd)
  let sp := match special (d.year - 2000) with
    | some p => some p
    | none => special 127
  let day := sp.getD plain
  let minute := loc % 1440
  let rate := (dayEntries img day).foldl (fun r e => if e.1 ≠ 0 && e.2.1 * 60 + e.2.2 ≤ minute then e.1 else r) 1
  ⟨rate, season, week, day, sp.isSome⟩

/-- The active calendar at a UTC minute. -/
def Block.tariffAt (s : Block) (utc : Nat) : TarNow := calendarAt s.tar.active (s.localMin utc)

/-- The parts whose change is a boundary (R333). -/
def TarNow.same (a b : TarNow) : Bool := a.rate == b.rate && a.season == b.season && a.day == b.day

/-- The next UTC minute after a given one at which rate, season or day profile changes. -/
def Block.nextChange (s : Block) (base : TarNow) : Nat → Nat → Option Nat
  | 0, _ => none
  | fuel + 1, m => if (s.tariffAt m).same base then Block.nextChange s base fuel (m + 1) else some m

/-- NEXT_SW (R333, R354): 0 where no change lies within four years and a day. -/
def Block.nextSwitch (s : Block) : Nat :=
  if !s.rtcValid then 0
  else
    let m := minuteOf s.rtcNow
    match s.nextChange (s.tariffAt m) (1462 * 1440) (m + 1) with
    | some x => x * rtcMinute
    | none => 0

/-- TAR_STAT shows what is in force (R353). -/
def Block.showTariff (s : Block) : Block :=
  let a := pg 0x30 0x68
  let t := s.tar.inForce
  let s := (((s.setF a 15 12 t.day).setF a 10 8 t.week).setF a 7 4 t.season).setB a 26 t.special
  let s := (s.setF a 3 0 t.rate).setB a 28 s.tar.invalidEp
  (s.setR (pg 0x30 0x6C) (calWordOf s.tar.active 0)).setR (pg 0x30 0x70) (calWordOf s.tar.passive 0)

/-- TAR_STAT.DST without an event: after a start, a time set or a committed rule. -/
def Block.showDst (s : Block) : Block := s.setB (pg 0x30 0x68) 27 (s.rtcValid && s.dstAt (minuteOf s.rtcNow))

/-! ### Validation (R332) -/

/-- A date that exists in a leap year. -/
def dateOk (w : Word) : Bool :=
  let m := w.bits 11 8
  let d := w.bits 4 0
  1 ≤ m && m ≤ 12 && 1 ≤ d && d ≤ monthDays true m

/-- A day profile: a used entry at 00:00 first, used entries strictly ascending and before the unused. The index of its first
failing word. -/
def profileBad (img : List Word) (p : Nat) : Option Nat :=
  let es := dayEntries img p
  let bad (i : Nat) : Bool :=
    let e := nth (0, 0, 0) es i
    let prev := nth (0, 0, 0) es (i - 1)
    let t := e.2.1 * 60 + e.2.2
    if i = 0 then e.1 = 0 || t ≠ 0 || 8 < e.1
    else e.1 ≠ 0 && (8 < e.1 || 23 < e.2.1 || 59 < e.2.2 || prev.1 = 0 || t ≤ prev.2.1 * 60 + prev.2.2)
  ((List.range 12).find? bad).map (fun i => 21 + 6 * p + i / 2)

/-- The first failing word of an image; none where it is valid. Every week profile counts; an image without a season fails at word 1 (log 20). -/
def calendarBad (img : List Word) : Option Nat :=
  let w := calWordOf img
  let seasons := (List.range 12).filter (fun i => (w (1 + i)).bit 31)
  let specials := (List.range 128).filter (fun i => (w (117 + i)).bit 31)
  let dateKey (x : Word) : Nat := x.bits 11 8 * 32 + x.bits 4 0
  let seasonBad (i : Nat) : Bool := !dateOk (w (1 + i)) || (seasons.any (fun j => j < i && dateKey (w (1 + j)) = dateKey (w (1 + i))))
  let weekProfs := (List.range 8).flatMap (fun k => (List.range 7).map (fun d => (w (13 + k)).bits (4 * d + 3) (4 * d)))
  let profs := weekProfs ++ specials.map (fun i => (w (117 + i)).bits 23 20)
  let specialBad (i : Nat) : Bool := !dateOk (w (117 + i))
    || (specials.any (fun j => j < i && dateKey (w (117 + j)) = dateKey (w (117 + i)) && (w (117 + j)).bits 30 24 = (w (117 + i)).bits 30 24))
  let fails := (if seasons.isEmpty then [1] else []) ++ (seasons.filter seasonBad).map (1 + ·) ++ profs.filterMap (profileBad img)
    ++ (specials.filter specialBad).map (117 + ·)
  fails.foldl (fun m x => match m with
    | none => some x
    | some y => some (min x y)) none

/-! ### Commands and writes (R334, R354) -/

def Block.tarReject (s : Block) : Block := s.raise 0x30 4 0

/-- The image CAL_ADDR selects: 0 passive, 1 active. -/
def Block.calImage (s : Block) : List Word := if s.rbit (pg 0x30 0x50) 8 then s.tar.active else s.tar.passive

/-- CAL_DATA and CAL_CRC after a change of image or address. -/
def Block.calShow (s : Block) : Block :=
  let img := s.calImage
  (s.setR (pg 0x30 0x54) (calWordOf img (s.fld (pg 0x30 0x50) 7 0))).setN (pg 0x30 0x58)
    (crc32 ((List.range 245).map (fun k => (calWordOf img k).toBytes)).flatten).toNat

/-- An access advances WORD, from 244 to 0. -/
def Block.calStep (s : Block) : Block :=
  let w := s.fld (pg 0x30 0x50) 7 0
  (s.setF (pg 0x30 0x50) 7 0 (if 244 ≤ w then 0 else w + 1)).calShow

/-- A CAL_DATA write. -/
def Block.tarCalWrite (s : Block) (v : Word) : Block :=
  if s.rbit (pg 0x30 0x50) 8 || s.passive = 3 then s.tarReject
  else
    let w := s.fld (pg 0x30 0x50) 7 0
    ((s.modTar (fun t => { t with passive := setNth t.passive w v })).setPassive 1).showTariff.calStep

/-- Payloads of the calendar record: both images, ACT_TIME, PASSIVE (log 22). -/
def Block.calendarRecord (s : Block) : List (List Byte) :=
  let l := (s.tar.active.map Word.toBytes).flatten ++ (s.tar.passive.map Word.toBytes).flatten ++ leBytes 8 (s.get64 (pg 0x30 0x60))
    ++ leBytes 1 s.passive ++ leBytes 1 (s.fld (pg 0x30 0x68) 23 16) ++ List.replicate 78 0#8
  (List.range 8).map (fun k => (l.drop (256 * k)).take 256)
def Block.calendarSave (s : Block) : Block := s.commitRec 0x31 s.calendarRecord

/-- TAR_CMD CHECK (R332). -/
def Block.tarCheck (s : Block) : Block :=
  if s.passive = 3 then s.tarReject
  else match calendarBad s.tar.passive with
    | none => ((s.setPassive 2).setF (pg 0x30 0x68) 23 16 0xFF).calendarSave
    | some k => ((s.setPassive 4).setF (pg 0x30 0x68) 23 16 k).raise 0x30 3 0

/-- TAR_CMD SCHEDULE and CANCEL (R334). -/
def Block.tarSchedule (s : Block) : Block := if s.passive = 2 then (s.setPassive 3).calendarSave else s.tarReject
def Block.tarCancel (s : Block) : Block :=
  if s.passive = 3 then ((s.setPassive 2).set64 (pg 0x30 0x60) 0).calendarSave else s.tarReject

/-- The passive image is due: SCHEDULED and its time has come (R334). -/
def Block.activationDue (s : Block) : Bool := s.passive == 3 && decide (s.get64 (pg 0x30 0x60) ≤ s.time.rtcPick0)

/-- CALENDAR_ACTIVATION: the calendars swap (R334); the image that was active is a VALID passive one (log 20). -/
def Block.calendarSwap (s : Block) : Block :=
  let s := s.modTar (fun t => { t with active := t.passive, passive := t.active })
  let s := ((s.set64 (pg 0x30 0x60) 0).setPassive 2).calendarSave
  (s.showTariff.calShow).raise 0x30 2 0

/-- The calendar record loaded at start-up (R334). -/
def Block.calendarLoad (s : Block) : Block :=
  match s.recContent 0x31 with
  | some l =>
    let b := l.flatten
    let img (o : Nat) : List Word := leWords 245 (b.drop o)
    let s := s.modTar (fun t => { t with active := img 0, passive := img 980 })
    let s := (s.set64 (pg 0x30 0x60) (leNat ((b.drop 1960).take 8))).setPassive (leNat ((b.drop 1968).take 1))
    (s.setF (pg 0x30 0x68) 23 16 (leNat ((b.drop 1969).take 1))).showTariff.calShow
  | none =>
    let s := s.modTar (fun t => { t with active := flatCalendar, passive := List.replicate 245 0 })
    ((s.setPassive 0).setF (pg 0x30 0x68) 23 16 0xFF).showTariff.calShow

/-- DST_TRANSITION (R330): daylight-saving time begins or ends. -/
def Block.dstTransition (s : Block) : Block :=
  let d := s.rtcValid && s.dstAt (minuteOf s.rtcNow)
  if d == s.rbit (pg 0x30 0x68) 27 then s else (s.setB (pg 0x30 0x68) 27 d).raise 0x30 5 0

/-- Soft reset of TARIFF (R347): registers back; calendars, ACT_TIME and their states kept. -/
def Block.tariffSoftReset (s : Block) : Block :=
  (forEach [0x40, 0x44, 0x48, 0x4C, 0x50] (fun o s => s.setR (pg 0x30 o) (regReset (pg 0x30 o))) s).calShow

end Sys2Proof.Machine
end

