-- ==== Sys2Proof/Machine/Water.lean ====
section
/-! DEFINITION. Water by IAPWS-IF97 region 1 and platinum sensors by IEC 60751, as R291 and R297 name them. Coefficients
are those of the named standards (log 23). -/

namespace Sys2Proof.Machine

/-- n × 10^-k as a rational. -/
def dec (n : Int) (k : Nat) : Rat := (n : Rat) / (10 ^ k : Nat)

/-- Integer power of a rational. -/
def ratPow (x : Rat) (n : Int) : Rat := if 0 ≤ n then x ^ n.toNat else 1 / x ^ (-n).toNat

/-- (I, J, n) of the region-1 equation. -/
def if97a : List (Nat × Int × Rat) := [
  (0, -2, dec 14632971213167 14), (0, -1, dec (-84548187169114) 14), (0, 0, dec (-37563603672040) 13),
  (0, 1, dec 33855169168385 13), (0, 2, dec (-95791963387872) 14), (0, 3, dec 15772038513228 14),
  (0, 4, dec (-16616417199501) 15), (0, 5, dec 81214629983568 17), (1, -9, dec 28319080123804 17),
  (1, -7, dec (-60706301565874) 17), (1, -1, dec (-18990068218419) 15), (1, 0, dec (-32529748770505) 15),
  (1, 1, dec (-21841717175414) 15), (1, 3, dec (-52838357969930) 18), (2, -3, dec (-47184321073267) 17),
  (2, 0, dec (-30001780793026) 17), (2, 1, dec 47661393906987 18)]
def if97b : List (Nat × Int × Rat) := [
  (2, 3, dec (-44141845330846) 19), (2, 17, dec (-72694996297594) 29), (3, -4, dec (-31679644845054) 18),
  (3, 0, dec (-28270797985312) 19), (3, 6, dec (-85205128120103) 23), (4, -5, dec (-22425281908000) 19),
  (4, -2, dec (-65171222895601) 20), (4, 10, dec (-14341729937924) 26), (5, -8, dec (-40516996860117) 20),
  (8, -11, dec (-12734301741641) 22), (8, -6, dec (-17424871230634) 23), (21, -29, dec (-68762131295531) 32),
  (23, -31, dec 14478307828521 33), (29, -38, dec 26335781662795 36), (30, -39, dec (-11947622640071) 36),
  (31, -40, dec 18228094581404 37), (32, -41, dec (-93537087292458) 39)]
def if97 : List (Nat × Int × Rat) := if97a ++ if97b

/-- Reduced pressure term 7.1 − π and temperature term τ − 1.222, and τ itself, from bar and °C. -/
def if97Arg (bar theta : Rat) : Rat × Rat × Rat :=
  let tau := 1386 / (theta + 5463 / 20)
  (71 / 10 - bar / 10 / (1653 / 100), tau - 1222 / 1000, tau)

/-- Specific enthalpy in kJ/kg. -/
def waterH (bar theta : Rat) : Rat :=
  let a := if97Arg bar theta
  let g := if97.foldl (fun s c => s + c.2.2 * a.1 ^ c.1 * (c.2.1 : Rat) * ratPow a.2.1 (c.2.1 - 1)) 0
  461526 / 1000000 * 1386 * g

/-- Specific volume in m³/kg. -/
def waterV (bar theta : Rat) : Rat :=
  let a := if97Arg bar theta
  let g := if97.foldl (fun s c => s - c.2.2 * (c.1 : Rat) * ratPow a.1 ((c.1 : Int) - 1) * ratPow a.2.1 c.2.1) 0
  461526 / 1000000 * (theta + 5463 / 20) * g / (1653 / 100) / 1000

/-- Specific heat c_p in kJ/(kg·K). -/
def waterCp (bar theta : Rat) : Rat :=
  let a := if97Arg bar theta
  let g := if97.foldl (fun s c => s + c.2.2 * a.1 ^ c.1 * ((c.2.1 * (c.2.1 - 1) : Int) : Rat) * ratPow a.2.1 (c.2.1 - 2)) 0
  let r : Rat := 461526 / 1000000
  r * a.2.2 * a.2.2 * (-g)

/-- Temperature of a platinum sensor from R_x/R0 (R291). -/
def ptTheta (r : Rat) : Rat :=
  let A := dec 39083 7
  let B := dec (-5775) 10
  let C := dec (-4183) 15
  let closed := (sqrtRat (A * A - 4 * B * (1 - r)) - A) / (2 * B)
  if 1 ≤ r then closed
  else
    let step (x : Rat) : Rat :=
      let f := 1 + A * x + B * x * x + C * (x - 100) * x * x * x - r
      let d := A + 2 * B * x + C * (4 * x * x * x - 300 * x * x)
      x - f / d
    step (step closed)

end Sys2Proof.Machine
end

