-- ==== Sys2Proof/Machine/Thermal.lean ====
section
/-! DEFINITION. Pulse inputs, P06 THERM and COP (R284 to R316). -/

namespace Sys2Proof.Machine

def Block.modTherm (s : Block) (f : Therm → Therm) : Block := { s with therm := f s.therm }

/-- Field checks of the THERM and PLSI pages (R308, R309, R311, R314, R315). -/
def thermRules : List FieldRule := [
  ⟨0x40, 0x44, 27, 26, fun v => v ≠ 3, 3⟩,
  ⟨0x40, 0x44, 19, 16, fun v => v ≤ 7, 3⟩,
  ⟨0x40, 0x44, 10, 8, fun v => v ≤ 4, 3⟩,
  ⟨0x40, 0x44, 6, 4, fun v => v ≤ 4, 3⟩,
  ⟨0x40, 0x44, 3, 0, fun v => v ≤ 10, 3⟩,
  ⟨0x48, 0x48, 23, 16, fun v => v ≠ 0, 3⟩,
  ⟨0x48, 0x48, 5, 4, fun v => v ≠ 3, 3⟩,
  ⟨0x48, 0x48, 3, 2, fun v => v ≠ 3, 3⟩,
  ⟨0x48, 0x48, 1, 0, fun v => v ≠ 3, 3⟩,
  ⟨0x4C, 0x4C, 31, 0, f32within 100 10000, 3⟩,
  ⟨0x50, 0x50, 31, 0, f32within 0 1, 3⟩]
def plsiRules : List FieldRule := [
  ⟨0x40, 0x4C, 9, 8, fun v => v ≠ 3, 2⟩,
  ⟨0x44, 0x44, 9, 8, fun v => v ≠ 1, 2⟩,
  ⟨0x4C, 0x4C, 9, 8, fun v => v ≠ 1, 2⟩,
  ⟨0x50, 0x5C, 31, 0, fun v => v ≠ 0, 2⟩]

/-- A PLSI commit that names BIAS 3 is rejected (R284). -/
def plsiOk (w : Nat → Word) : Bool := (List.range 4).all (fun i => (w (0x40 + 4 * i)).bits 17 16 != 3)

/-! ### Pulse inputs (R284 to R289) -/

def pinCfg (i : Nat) : Nat := pg 0x36 (0x40 + 4 * i)
/-- Input i is the B phase of a quadrature pair (R286). -/
def Block.isPhaseB (s : Block) (i : Nat) : Bool := i % 2 == 1 && s.fld (pinCfg (i - 1)) 9 8 == 1

/-- Pulses are counted in RUN, LEAN and HOLD, there until the save record is formed (R288). -/
def Block.pulsesRun (s : Block) : Bool := s.powered && !(s.pwr.st == .hold && s.pwr.saving)

/-- A pulse of input i counted forward or in reverse, with its weight (R285, R286, R289). -/
def Block.countPulse (s : Block) (i : Nat) (reverse : Bool) : Block :=
  let w := s.getN (pg 0x36 (0x50 + 4 * i))
  if reverse then
    (s.wrapAdd (pg 0x36 (0x70 + 4 * i)) 1).modTherm (fun t => { t with rev := modNth t.rev i (· + w) })
  else (s.wrapAdd (pg 0x36 (0x60 + 4 * i)) 1).modTherm (fun t => { t with fwd := modNth t.fwd i (· + w) })

/-- PULSE_EDGE (R285, R286): an accepted falling edge of input i; coincident: the B edge falls in the same sample. -/
def Block.pulseEdge (s : Block) (i : Nat) (coincident : Bool) : Block :=
  if 3 < i || !s.pulsesRun then s
  else
    let c := s.getR (pinCfg i)
    let st := pg 0x36 0x80
    let s := s.setB st i false
    if !c.bit 0 || s.rbit st (8 + i) || s.isPhaseB i then s
    else match c.bits 9 8 with
      | 0 => s.countPulse i false
      | 1 =>
        if coincident then
          let ep := s.therm.quadEp
          let s := s.modTherm (fun t => { t with quadEp := true })
          if ep then s else s.raise 0x36 4 0
        else (s.modTherm (fun t => { t with quadEp := false })).countPulse i (!s.rbit st (i + 1))
      | _ => s

/-- ACCEPTED_LEVEL_CHANGE (R286): a level accepted without a counted pulse. -/
def Block.levelChange (s : Block) (i : Nat) (high : Bool) : Block :=
  if 3 < i || !s.pulsesRun then s else s.setB (pg 0x36 0x80) i high

/-- WIRE_BREAK and its end, under PULSED bias (R287). -/
def Block.wireBreak (s : Block) (i : Nat) (on : Bool) : Block :=
  let st := pg 0x36 0x80
  if 3 < i || !s.pulsesRun || (on && s.fld (pinCfg i) 17 16 ≠ 2) || s.rbit st (8 + i) == on then s
  else
    let s := s.setB st (8 + i) on
    if on then (s.bump (pg 0x36 (0x84 + 4 * i)) 15 0 1).raise 0x36 1 0 else s.raiseX 0x36 1 0 true false

/-- PULSE_SNAPSHOT (R289): at every pick 0, before a commit of WEIGHT. -/
def Block.pulseSnapshot (s : Block) : Block :=
  s.modTherm (fun t =>
    { t with
      snapCycle := s.time.cycle
      prevFwd := t.snapFwd
      prevRev := t.snapRev
      snapFwd := t.fwd
      snapRev := t.rev })

/-- Soft reset of PLSI (R306). -/
def Block.plsiSoftReset (s : Block) : Block :=
  forEach [0x40, 0x44, 0x48, 0x4C, 0x50, 0x54, 0x58, 0x5C, 0x84, 0x88, 0x8C, 0x90] (fun o s => s.setR (pg 0x36 o) (regReset (pg 0x36 o))) s

/-! ### Host temperatures (R294) -/

/-- HOST_T_WRITE: accepted and stamped, or rejected. -/
def Block.hostT (s : Block) (k : Nat) (v : Word) : Block :=
  if f32within (-60) 260 v.toNat then
    let s := (s.setR (pg 0x34 (0x5C + 4 * k)) v).setB (pg 0x34 0x64) k false
    s.modTherm (fun t =>
      { t with hostAt := setNth t.hostAt k (some (s.time.mono + s.time.clk)), hostStaleEp := setNth t.hostStaleEp k false })
  else s.raise 0x34 3 0

/-- HOST_T_STALE: HOST_TMO seconds of Warp time after the write. -/
def Block.hostTStale (s : Block) (k : Nat) : Block :=
  match nth none s.therm.hostAt k with
  | some at_ =>
    if at_ + s.fld (pg 0x34 0x48) 23 16 * sysHz ≤ s.time.mono + s.time.pickLen && !nth false s.therm.hostStaleEp k then
      ((s.setB (pg 0x34 0x64) k true).modTherm (fun t => { t with hostStaleEp := setNth t.hostStaleEp k true })).raise 0x34 2 0
    else s
  | none => s

/-! ### Temperatures of a block (R290 to R293) -/

/-- Sources of a circuit: 0 AUX0, 1 AUX1, 2 AUX3 as sensor index, 3 and 4 the host values (R308). -/
def sensorSrc (k : Nat) : Nat := if k = 2 then 3 else k

/-- Results of a source in a block: all, the usable ones' mean, whether one is UNCAL, whether one carries DIAG, INJ. -/
structure SrcRead where
  any : Bool
  mean : Option Rat
  uncal : Bool
  diag : Bool
  inj : Bool
  deriving DecidableEq, Repr

def readSrc (b : AuxBlock) (src : Nat) : SrcRead :=
  let l := (List.range 16).filterMap (fun i =>
    let e := nth 0 b.entries i
    if e.bits 3 0 = src && !e.bit 16 && (nth 0 b.words i).bits 7 0 = b.no % 256 then some (nth 0 b.words i) else none)
  let ok := l.filter (fun w => w.bit 15 && !w.bit 11 && w.bits 9 8 = 0)
  { any := !l.isEmpty
    mean := if ok.isEmpty then none else some (((ok.map (fun w => w.bits 31 16)).foldl (· + ·) 0 : Nat) / (ok.length : Nat))
    uncal := ok.any (fun w => w.bit 13)
    diag := l.any (fun w => w.bit 11)
    inj := l.any (fun w => w.bit 14) }

/-- TYPE of a sensor (R309). -/
def Block.sensType (s : Block) (k : Nat) : Nat := s.fld (pg 0x34 0x48) (2 * k + 1) (2 * k)

/-- A fault of sensor or reference k begins or ends: detector 1 (R291). A block without a usable result says nothing of it. -/
def Block.sensFault (s : Block) (k code : Nat) : Block :=
  let bad := decide (code = 1) || decide (code = 2)
  if code = 3 || code = 5 || nth false s.therm.faults k == bad then s
  else (s.modTherm (fun t => { t with faults := setNth t.faults k bad })).raiseX 0x34 1 0 (!bad) false

/-- One sensor evaluated from a block: its TEMP_STAT code and its new temperature, none where the result is not used. -/
def Block.senseOne (s : Block) (b : AuxBlock) (k : Nat) (vref : Option Rat) : Nat × Option Rat :=
  let r := readSrc b (sensorSrc k)
  if s.sensType k = 0 then (6, none)
  else match r.mean, vref with
    | some v, some vr =>
      let rref := f32 (s.getR (pg 0x34 0x4C))
      let r0 : Rat := if s.sensType k = 1 then 1000 else 500
      let rx := if v = 65536 || vr = 0 then 4 * r0 else rref * (v / (65536 - v)) * ((65536 - vr) / vr)
      if 2 * r0 < rx then (1, none)
      else if rx < 3 / 4 * r0 then (2, none)
      else (if r.uncal then 4 else 0, some (ptTheta (rx / r0)))
    | _, _ => (if r.diag then 3 else 5, none)

/-- All sensors from a block: T_AUXn, TEMP_STAT, faults (R290 to R293). -/
def Block.senseBlock (s : Block) (b : AuxBlock) : Block :=
  let ref := readSrc b 2
  let refBad : Nat := match ref.mean with
    | some v => if v / 65536 < 1 / 5 then 2 else if 4 / 5 < v / 65536 then 1 else if ref.uncal then 4 else 0
    | none => if ref.diag then 3 else 5
  let vref := if refBad = 0 || refBad = 4 then ref.mean else none
  let s := s.setF (pg 0x34 0xCC) 15 12 refBad
  let s := forEach (List.range 3) (fun k s =>
    let r := s.senseOne b k vref
    let code := if r.1 = 0 && refBad = 4 then 4 else r.1
    let s := (s.setF (pg 0x34 0xCC) (4 * k + 3) (4 * k) code).sensFault k code
    match r.2 with
    | some t => (s.modTherm (fun x => { x with temps := setNth x.temps k (some t) })).setR (pg 0x34 (0xC0 + 4 * k)) (f32of t)
    | none => s) s
  s.sensFault 3 refBad

/-- The value of a circuit's source now, and whether it must mark the heat INVALID (R292, R294, R300). -/
def Block.srcTemp (s : Block) (k : Nat) : Option Rat × Bool :=
  if k ≤ 2 then (nth none s.therm.temps k, s.fld (pg 0x34 0xCC) (4 * k + 3) (4 * k) ≠ 0 || s.fld (pg 0x34 0xCC) 15 12 ≠ 0)
  else
    let j := k - 3
    match nth none s.therm.hostAt j with
    | some _ => (some (f32 (s.getR (pg 0x34 (0x5C + 4 * j)))), s.rbit (pg 0x34 0x64) j)
    | none => (none, true)

/-! ### The heat calculation (R295 to R301) -/

def circCfg (c : Nat) : Nat := pg 0x34 (0x40 + 4 * c)
def Block.circ (s : Block) (c : Nat) : Circuit := nth Circuit.reset s.therm.circs c
def Block.modCirc (s : Block) (c : Nat) (f : Circuit → Circuit) : Block := s.modTherm (fun t => { t with circs := modNth t.circs c f })

/-- A circuit runs (R305, R308): its EN, the page's ENABLE, the program's mask. -/
def Block.circRuns (s : Block) (c mask : Nat) : Bool :=
  s.rbit (circCfg c) 31 && s.rbit (pg 0x34 0x04) 0 && (BitVec.ofNat 2 mask).getLsbD c

/-- Pressure of a class in bar (R297). -/
def pclassBar (k : Nat) : Rat := nth 16 [6, 10, 16, 25] k

/-- The heat coefficient k of R297; whether a temperature was clamped. -/
def heatK (bar tf tr : Rat) (flowMeter : Bool) : Rat × Bool :=
  let f := ratClamp 0 180 tf
  let r := ratClamp 0 180 tr
  let m := if flowMeter then f else r
  let q := if ratAbs (f - r) < 1 / 100 then waterCp bar ((f + r) / 2) else (waterH bar f - waterH bar r) / (f - r)
  (q / waterV bar m / 3600, decide (f ≠ tf) || decide (r ≠ tr))

/-- A filter of R293. -/
def filt (old new : Option Rat) (tavg : Nat) : Option Rat := match old, new with
  | some o, some n => some (o + (n - o) / (2 ^ tavg : Nat))
  | none, some n => some n
  | o, none => o

/-- An amount through the carry rule of R209: quanta, new carry. -/
def carryOut (amount : Rat) (quantum : Nat) (carry : Nat) : Nat × Nat :=
  let x := (roundAny (amount / (max 1 quantum : Nat) * (2 ^ 32 : Nat))).toNat + carry
  let n := min (x / 2 ^ 32) (2 ^ 32 - 1)
  (n, x - n * 2 ^ 32)

/-- One circuit's thermal cycle on engine schedule e (R295 to R300). newBlock: a block has come since the last one. Posts that the
ledger has not accepted yet are formed anew (R301). -/
def Block.runCircuit (s : Block) (e c : Nat) (newBlock blockInj : Bool) (extra : Nat) : Block :=
  let s := if (s.circ c).sent.isSome then
      { s with posts := s.posts.filter (fun p => !(p.therm && p.feed = c)) } else s
  let g := s.getR (circCfg c)
  let cyc := s.time.cycle
  let k := s.circ c
  let tf := s.srcTemp (g.bits 6 4)
  let tr := s.srcTemp (g.bits 10 8)
  let tfv := if newBlock || k.tf.isNone then filt k.tf tf.1 (g.bits 3 0) else k.tf
  let trv := if newBlock || k.tr.isNone then filt k.tr tr.1 (g.bits 3 0) else k.tr
  let src := g.bits 13 12
  let dF := nth 0 s.therm.snapFwd src - nth 0 k.acked.fwd src
  let dR := nth 0 s.therm.snapRev src - nth 0 k.acked.rev src
  let debt0 := k.acked.debt + dR
  let vol := dF - debt0
  let debt := debt0 - dF
  let resumed := k.acked.cycle + 1 ≠ cyc
  let usable := tfv.isSome && trv.isSome
  let hk := heatK (pclassBar (g.bits 25 24)) (tfv.getD 0) (trv.getD 0) (g.bit 23)
  let dth := tfv.getD 0 - trv.getD 0
  let cut := f32 (s.getR (pg 0x34 0x50))
  let mode := g.bits 27 26
  let hot := usable && decide (cut < dth) && (mode = 0 || mode = 2)
  let cold := usable && decide (dth < -cut) && (mode = 1 || mode = 2)
  let heat := hk.1 * ratAbs dth * (vol : Rat)
  let hostT := 3 ≤ g.bits 6 4 || 3 ≤ g.bits 10 8
  let hold := s.warp.state == .holdover
  let invalid := tf.2 || tr.2 || !usable || resumed
  let flags := b2n invalid + 2 * b2n hold + 8 * b2n blockInj ||| extra
  let stamp := mkStamp (cyc + 1) 0 0
  let hq := g.bits 19 16
  let cs := k.acked.carry
  let a := carryOut (if hot then heat else 0) (2 ^ hq) (nth 0 cs 0)
  let b := carryOut (if cold then heat else 0) (2 ^ hq) (nth 0 cs 1)
  let v := carryOut (vol : Rat) 1000 (nth 0 cs 2)
  let r := carryOut (dR : Rat) 1000 (nth 0 cs 3)
  let post (q n fine : Nat) : Post := ⟨s.runnerOf e, true, c, c, q, n, fine, flags, hostT, resumed, stamp, s.genOf e⟩
  let s := { s with posts := s.posts ++ [post 0 a.1 hq, post 1 b.1 hq, post 2 v.1 0, post 3 r.1 0] }
  let s := s.modCirc c (fun x => { x with
    tf := tfv, tr := trv, sent := some ⟨cyc, s.therm.snapFwd, s.therm.snapRev, debt, [a.2, b.2, v.2, r.2]⟩,
    debtEp := decide (debt ≠ 0), rangeEp := usable && hk.2 })
  let o := 0x20 * c
  let cf := b2n resumed * 256 + b2n (usable && hk.2) * 128 + b2n (decide (debt ≠ 0)) * 64 + b2n (!hot && !cold) * 32 + b2n cold * 16
    + (flags / 8 % 2) * 8 + b2n hostT * 4 + (flags / 2 % 2) * 2 + flags % 2
  let s := (s.set64 (pg 0x34 (0x80 + o)) stamp).setN (pg 0x34 (0x88 + o)) cf
  let s := (s.setR (pg 0x34 (0x8C + o)) (f32of (tfv.getD 0))).setR (pg 0x34 (0x90 + o)) (f32of (trv.getD 0))
  let s := s.setR (pg 0x34 (0x94 + o)) (f32of (if usable then hk.1 else 0))
  let s := if usable && hk.2 && !k.rangeEp then s.raise 0x34 4 0 else s
  let s := if (debt ≠ 0) == k.debtEp then s else s.raiseX 0x34 5 0 (debt == 0) false
  if resumed then s.raise 0x34 7 0 else s

/-- The ledger accepted a circuit's posts: its volume counts as processed (R301). -/
def Block.ackTherm (s : Block) (p : Post) : Block :=
  if p.therm && p.qty = 0 then
    s.modCirc p.feed (fun k => match k.sent with
      | some x => { k with acked := x, sent := none }
      | none => k)
  else s

/-- The COP of two energies, 0 without electricity (R302). -/
def copOf (heat elec : Nat) : Word := if elec = 0 then 0 else f32of ((heat : Rat) / (elec : Nat))

/-- The COP registers at the first P06 invocation after an apply (R303). -/
def Block.showCop (s : Block) : Block :=
  let st := pg 0x34 0x74
  let s := match s.therm.cop with
    | none => s
    | some p =>
      let s := ((s.setR (pg 0x34 0x68) (copOf p.heat p.elec)).setB st 3 (p.elec == 0)).setB st 0 p.inval
      let secs : Rat := (max 1 p.clk : Nat) / (sysHz : Nat)
      let s := forEach [0, 1] (fun (c : Nat) (s : Block) =>
        (s.setR (pg 0x34 (0x98 + 0x20 * c)) (f32of (((nth 0 p.circHeat c : Int) : Rat) * 3600 / 1000000 / secs))).setR
          (pg 0x34 (0x9C + 0x20 * c)) (f32of (((nth 0 p.circVol c : Nat) : Rat) * 3600 / 1000 / secs))) s
      let s := match p.intEnd with
        | none => s
        | some (short, h, e, inv) =>
          let s := (((s.setR (pg 0x34 0x6C) (copOf h e)).setB st 6 short).setB st 4 (e == 0)).setB st 1 inv
          s.raise 0x34 6 0
      s.modTherm (fun t => { t with cop := none })
  s

/-- P06's slot on engine schedule e with a circuit mask (R295). -/
def Block.runTherm (s : Block) (e mask : Nat) (extra : Nat) : Block :=
  let b := (s.aux.blocks.find? (fun p => p.1 = s.runnerOf e)).map (·.2)
  let fresh : Bool := match b with
    | some x => decide (s.therm.blockNo ≠ some (x.no + 256 * x.stamp))
    | none => false
  let inj := match b with
    | some x => x.words.any (fun w => w.bit 14)
    | none => false
  let s := match b, fresh with
    | some x, true => (s.senseBlock x).modTherm (fun t => { t with blockNo := some (x.no + 256 * x.stamp) })
    | _, _ => forEach (List.range 3) (fun k s => if s.sensType k = 0 then s.setF (pg 0x34 0xCC) (4 * k + 3) (4 * k) 6 else s) s
  let s := forEach [0, 1] (fun c s => if s.circRuns c mask then s.runCircuit e c fresh inj extra else s) s
  s.showCop

/-! ### Commits, season, reset -/

/-- A THERM commit R302 or R308 rejects. -/
def Block.thermOk (s : Block) (w : Nat → Word) : Bool :=
  let c (k : Nat) : Bool :=
    let v := w (0x40 + 4 * k)
    let named (src : Nat) : Bool := 3 ≤ src || (w 0x48).bits (2 * src + 1) (2 * src) ≠ 0
    v.bits 6 4 ≠ v.bits 10 8 && named (v.bits 6 4) && named (v.bits 10 8) && !s.isPhaseB (v.bits 13 12)
  let f := (w 0x54).bits 23 20
  let members := s.fld (pg 0x2E 0x90) 2 0
  c 0 && c 1 && !(8 ≤ f && (f % 8) &&& members ≠ 0)

/-- A carry converted to another fine quantum (R212, R301). -/
def CircProg.requant (p : CircProg) (old new : Nat) : CircProg :=
  { p with carry := (List.range 4).map (fun i => let x := nth 0 p.carry i; if i < 2 then x * 2 ^ old / 2 ^ new else x) }

/-- A committed change of a circuit's sources restarts its filters (R305); one of HQ converts its carries (R301). -/
def Block.thermCommitted (s : Block) (old : Nat → Word) : Block :=
  forEach [0, 1] (fun c s =>
    let a := old (0x40 + 4 * c)
    let b := s.getR (circCfg c)
    if a.bits 10 8 ≠ b.bits 10 8 || a.bits 6 4 ≠ b.bits 6 4 then s.modCirc c (fun k => { k with tf := none, tr := none }) else s)
    (forEach [0, 1] (fun c s =>
      let q (w : Word) : Nat := w.bits 19 16
      let a := q (old (0x40 + 4 * c))
      let b := q (s.getR (circCfg c))
      if a = b then s else s.modCirc c (fun k =>
        { k with
          acked := k.acked.requant a b
          sent := k.sent.map (fun x => x.requant a b) })) s)

/-- THERM_CMD SEASON_START (R304). -/
def Block.seasonStart (s : Block) : Block := s.modTherm (fun t => { t with seasonWait := true })

/-- At a latch closing pick: the season accumulators clear where a season starts (R304). -/
def Block.seasonLatch (s : Block) (seasonChange : Bool) (rtc : Nat) : Block :=
  if s.therm.seasonWait || (seasonChange && s.rbit (pg 0x34 0x54) 1) then
    let s := forEach (List.range 32) (fun i s => s.setN (pg 0x34 (0x100 + 4 * i)) 0) s
    let s := (s.setR (pg 0x34 0x70) 0).set64 (pg 0x34 0x78) rtc
    (((s.setB (pg 0x34 0x74) 2 false).setB (pg 0x34 0x74) 5 true).modTherm (fun t => { t with seasonWait := false })).raise 0x34 6 0
  else s

/-- Soft reset of THERM (R305): configuration and displays back, season and pulse counts kept. -/
def Block.thermSoftReset (s : Block) : Block :=
  let offs := [0x40, 0x44, 0x48, 0x4C, 0x50, 0x54, 0x5C, 0x60, 0x64, 0x68, 0x6C, 0x70, 0x74, 0xC0, 0xC4, 0xC8, 0xCC]
    ++ (List.range 16).map (fun i => 0x80 + 4 * i)
  let was := s
  let s := forEach offs (fun o s => s.setR (pg 0x34 o) (regReset (pg 0x34 o))) s
  let s := s.thermCommitted (fun o => was.getR (pg 0x34 o))
  s.modTherm (fun t => { t with
    circs := t.circs.map (fun k => { k with tf := none, tr := none })
    hostAt := [none, none], hostStaleEp := [false, false], seasonWait := false })

/-! ### The thermal record (R288, R303); its layout is the model's (log 22) -/

/-- Its 192 bytes: CNT, REV_CNT, season accumulators, SEAS_START, per circuit the pulses of its input that no accepted post covers,
the number of the input in their top bits, and the debt. -/
def Block.thermBytes (s : Block) : List Byte :=
  let words (o n : Nat) (p : Nat) : List Byte := ((List.range n).map (fun i => (s.getR (pg p (o + 4 * i))).toBytes)).flatten
  let circ (c : Nat) : List Byte :=
    let k := (s.circ c).acked
    let src := s.fld (circCfg c) 13 12
    let w := max 1 (s.getN (pg 0x36 (0x50 + 4 * src)))
    let behind (all done : List Nat) : Nat := min (2 ^ 31 - 1) ((nth 0 all src - nth 0 done src) / w)
    leBytes 4 (behind s.therm.fwd k.fwd + src % 2 * 2 ^ 31) ++ leBytes 4 (behind s.therm.rev k.rev + src / 2 % 2 * 2 ^ 31)
      ++ leBytes 4 k.debt
  words 0x60 8 0x36 ++ words 0x100 32 0x34 ++ words 0x78 2 0x34 ++ circ 0 ++ circ 1

/-- The record loaded at a start (R288, R301): counts restored; what no post covers waits for the first invocation. -/
def Block.thermRestore (s : Block) : Block :=
  match s.recContent 0x20 with
  | none => s
  | some pls =>
    let b := pls.flatten
    let w (i : Nat) : Nat := leNat ((b.drop (4 * i)).take 4)
    let s := forEach (List.range 8) (fun i s => s.setN (pg 0x36 (0x60 + 4 * i)) (w i)) s
    let s := forEach (List.range 32) (fun i s => s.setN (pg 0x34 (0x100 + 4 * i)) (w (8 + i))) s
    let s := (s.setN (pg 0x34 0x78) (w 40)).setN (pg 0x34 0x7C) (w 41)
    let src (c : Nat) : Nat := w (42 + 3 * c) / 2 ^ 31 + 2 * (w (43 + 3 * c) / 2 ^ 31)
    let behind (c k i : Nat) : Nat := if src c = i then w (42 + 3 * c + k) % 2 ^ 31 * s.getN (pg 0x36 (0x50 + 4 * i)) else 0
    let all (k : Nat) : List Nat := (List.range 4).map (fun i => max (behind 0 k i) (behind 1 k i))
    let done (c k : Nat) : List Nat := (List.range 4).map (fun i => nth 0 (all k) i - behind c k i)
    s.modTherm (fun t =>
      { t with
        fwd := all 0
        rev := all 1
        circs := (List.range 2).map (fun c =>
          (⟨none, none, ⟨2 ^ 64, done c 0, done c 1, w (44 + 3 * c), [0, 0, 0, 0]⟩, none, false, false⟩ : Circuit)) })

end Sys2Proof.Machine
end

