-- ==== Sys2Proof/Machine/LedgerDefs.lean ====
section
/-! DEFINITION. Ledger registers: definitions, totals, views, posts (R317 to R324, R347 to R351). -/

namespace Sys2Proof.Machine

def Block.modLed (s : Block) (f : Ledger → Ledger) : Block := { s with led := f s.led }

/-- Field checks of the page (R349). -/
def ledgerRules : List FieldRule := [⟨0x40, 0x40, 9, 0, fun v => 2 ≤ v, 4⟩]

def Block.ledReject (s : Block) : Block := s.raise 0x2F 4 0

/-! ### Definitions (R318, R321, R322) -/

/-- Definition word w of register i, live, pending. -/
def Block.defW (s : Block) (i w : Nat) : Word := Sparse.get 0 (2 * i + w) s.led.defs
def Block.defPend (s : Block) (i w : Nat) : Word := Sparse.get (s.defW i w) (2 * i + w) s.led.defShadow

/-- Bits a definition word holds (R318). -/
def defMask (w : Nat) : Word := if w = 0 then 0xFF0F1F03 else 0x80FF000F

/-- The source a definition names (R318, R319). -/
def srcKey (d : Word) : Nat := if d.bits 30 28 = 1 then 2048 + d.bits 19 16 * 32 + d.bits 12 8 else (d.bits 1 0 * 16 + d.bits 19 16) * 32 + d.bits 12 8

/-- An enabled definition names no reserved value (R318). -/
def defOk (d0 d1 : Word) : Bool :=
  !d0.bit 31 || (d0.bits 30 28 ≤ 1 && d0.bits 27 24 ≤ 8
    && (if d0.bits 30 28 = 0 then (d0.bits 19 16 ≤ 3 || d0.bits 19 16 = 15) && d0.bits 12 8 ≤ 19
        else d0.bits 19 16 ≤ 1 && d0.bits 12 8 ≤ 3)
    && 5 ≤ d1.bits 23 20 && d1.bits 23 20 ≤ 9 && d1.bits 19 16 < d1.bits 23 20)

/-- The defaults of R322, as (2i + w, word). -/
def defDefaults : List (Nat × Word) :=
  ((List.range 4).flatMap (fun f => (List.range 20).flatMap (fun q =>
    [(2 * (32 * f + q), BitVec.ofNat 32 (0x800F0000 + 0x100 * q + f)), (2 * (32 * f + q) + 1, 0x80830006#32)])))
  ++ ((List.range 2).flatMap (fun c => (List.range 4).flatMap (fun q =>
    [(2 * (128 + 4 * c + q), BitVec.ofNat 32 (0x90000000 + 0x10000 * c + 0x100 * q)),
     (2 * (128 + 4 * c + q) + 1, if q < 2 then 0x80830006#32 else 0x80830003#32)])))

/-- The total of a register. -/
def Block.total (s : Block) (i : Nat) : Nat := Sparse.get 0 i s.led.totals

/-- Registers with a definition word other than 0. -/
def defRegs (l : List (Nat × Word)) : List Nat := (l.map (fun p => p.1 / 2)).eraseDups

/-- LEDGER_STAT's counts (R349). -/
def Block.showLedger (s : Block) : Block :=
  let on := (defRegs s.led.defs).filter (fun i => (s.defW i 0).bit 31)
  let s1 := (s.setF (pg 0x2F 0x44) 26 16 on.length).setF (pg 0x2F 0x44) 15 8 (on.filter (fun i => (s.defW i 1).bit 31)).length
  (s1.set64 (pg 0x2F 0x48) s.led.lseq).setB (pg 0x2F 0x44) 2 (!s.led.savedRecs.isEmpty)

/-- The definitions record: 32 registers a segment, two words each. -/
def Block.defsRecord (s : Block) : List (List Byte) :=
  (List.range 32).map (fun k => ((List.range 64).map (fun j => (Sparse.get 0 (64 * k + j) s.led.defs).toBytes)).flatten)

/-- The pending definitions commit, or all of them are discarded (R321). -/
def Block.defsCommit (s : Block) : Block :=
  if s.led.defShadow.isEmpty then s
  else
    let regs := defRegs s.led.defShadow
    let moved (i : Nat) : Bool := (s.defW i 0 ^^^ s.defPend i 0) &&& 0x7F0F1F03 ≠ 0
    let bad := regs.any (fun i =>
      (moved i && s.total i ≠ 0 && ((s.defW i 0).bit 31 || (s.defPend i 0).bit 31)) || !defOk (s.defPend i 0) (s.defPend i 1))
    let new := s.led.defShadow.foldl (fun l p => Sparse.set 0 p.1 p.2 l) s.led.defs
    let sheaf := ((defRegs new).filter (fun i => (Sparse.get 0 (2 * i) new).bit 31 && (Sparse.get 0 (2 * i + 1) new).bit 31)).length
    if bad || 128 < sheaf then (s.modLed (fun l => { l with defShadow := [] })).ledReject
    else
      let s := (s.modLed (fun l => { l with defs := new, defShadow := [] })).showLedger
      s.commitRec 0x33 s.defsRecord

/-- DEF_ADDR: index and word; an access advances WORD, then INDEX (R350). -/
def Block.defAt (s : Block) : Nat × Nat := (s.fld (pg 0x2F 0x50) 10 1, s.fld (pg 0x2F 0x50) 0 0)
def Block.defNext (s : Block) : Block := s.setN (pg 0x2F 0x50) ((s.fld (pg 0x2F 0x50) 10 0 + 1) % 2048)
def Block.defRead (s : Block) : Word := s.defPend s.defAt.1 s.defAt.2
def Block.defWrite (s : Block) (v : Word) : Block :=
  let a := s.defAt
  (s.modLed (fun l => { l with defShadow := Sparse.put (2 * a.1 + a.2) (v &&& defMask a.2) l.defShadow })).defNext

/-! ### Totals and views (R317, R320, R323) -/

/-- V and ROLL of a register (R323). -/
def Block.view (s : Block) (i : Nat) : Nat × Nat :=
  let d := Sparse.get 0 (2 * i + 1) s.led.viewDefs
  let t := s.total i
  let e := d.bits 3 0
  let n := d.bits 23 20
  (t / 10 ^ e % 10 ^ n, min 0xFFFFFFFF (t / 10 ^ (e + n)))

/-- A register's source carries INVALID in the open latch. -/
def Block.regInvalid (s : Block) (i : Nat) : Bool := (Sparse.get LedAcc.zero (srcKey (s.defW i 0)) s.led.sets.acc).flags % 2 = 1

/-- A word of the ledger window (R317). -/
def Block.windowWord (s : Block) (o : Nat) : Word :=
  let t := s.total (o / 8)
  BitVec.ofNat 32 (if o % 8 = 0 then t else t / 2 ^ 32)

/-- VIEW_STAT_CLEAR (R350). -/
def Block.viewClear (s : Block) : Block :=
  let i := s.fld (pg 0x2F 0x5C) 9 0
  s.modLed (fun l => { l with roll := l.roll.filter (· ≠ i) })

/-- Registers of the page computed as they are read. -/
def Block.ledgerView (s : Block) (o : Nat) : Option Nat :=
  let i := s.fld (pg 0x2F 0x5C) 9 0
  match o with
  | 0x54 => some s.defRead.toNat
  | 0x60 => some (s.view i).1
  | 0x64 => some (s.view i).2
  | 0x68 => some (b2n (s.led.roll.contains i))
  | _ =>
    if 0x6C ≤ o && o ≤ 0xE8 then
      let j := (o - 0x6C) / 4
      some ((s.led.roll.filter (fun r => r / 32 = j)).foldl (fun w r => w + 2 ^ (r % 32)) 0)
    else none

/-- CLEAR_ONE and CLEAR_ALL (R321). -/
def Block.clearTotals (s : Block) (l : List Nat) : Block :=
  if s.lcState = 1 || s.lcState = 2 then s.modLed (fun d => { d with clears := d.clears ++ l }) else s.ledReject

/-! ### Posts (R319, R324) -/

/-- A post's source key. -/
def Post.key (p : Post) : Nat := if p.therm then 2048 + p.feed * 32 + p.qty else (p.feed * 16 + p.elem) * 32 + p.qty

/-- A post added; a partial one (R213) stands for no whole cycle and is none of those owed (R25). -/
def LedAcc.add (a : LedAcc) (p : Post) : LedAcc :=
  ⟨a.units + p.n * 2 ^ p.fine, a.quanta + p.n, p.fine, a.flags ||| p.flags, a.hostT || p.hostT, a.resumed || p.resumed, a.cnt + (if p.flags / 32 % 2 = 1 then 0 else 1)⟩

def LatchSet.add (l : LatchSet) (p : Post) : LatchSet :=
  { l with acc := Sparse.put p.key ((Sparse.get LedAcc.zero p.key l.acc).add p) l.acc }

/-- The rate of the latch that takes a post; none where the post is refused or dropped (R319, R325, R347). -/
def Block.postRate (s : Block) (p : Post) : Option Nat :=
  if p.gen ≠ s.gen (mePage p.eng) then none
  else match s.led.closed with
    | some c => if p.stamp ≤ c.set.opened then none else if p.stamp ≤ c.close then some c.set.rate else some s.led.sets.rate
    | none => if p.stamp ≤ s.led.lastClose then none else some s.led.sets.rate

/-- LEDGER_POST: the oldest post on its way arrives: into the closed or the open set, or refused as late (R319, R324, R325); a
post of an older generation is dropped (R347) and counted by the engine that made it (R184). -/
def Block.takePost (s : Block) : Block :=
  match s.posts with
  | [] => s
  | p :: rest =>
    let s := { s with posts := rest }
    if p.gen ≠ s.gen (mePage p.eng) then (s.bump (pg (mePage p.eng) 0x6C) 15 0 1).raiseSeen (staleKey 0x2F) 0x2F 7 0
    else
      let refuse (s : Block) : Block :=
        let s := s.modLed (fun l => { l with lateKeys := p.key :: l.lateKeys })
        (s.bump (pg 0x2F 0xEC) 15 0 1).raise 0x2F 1 0
      match s.led.closed with
      | some c =>
        if p.stamp ≤ c.set.opened then refuse s
        else if p.stamp ≤ c.close then (s.modLed (fun l => { l with closed := some { c with set := c.set.add p } })).ackTherm p
        else (s.modLed (fun l => { l with sets := l.sets.add p })).ackTherm p
      | none =>
        if p.stamp ≤ s.led.lastClose then refuse s
        else (s.modLed (fun l => { l with sets := l.sets.add p })).ackTherm p

/-- Circuits that run under the mask of the engine that has P06 (R308). -/
def Block.thermMask (s : Block) : Nat :=
  ((List.range 16).map (fun e => match s.schedImage e with
    | some i => (if i.prog0 = 6 then s.fld (pg (mePage e) 0x44) 1 0 else 0) ||| (if i.prog1 = 6 then s.fld (pg (mePage e) 0x44) 1 0 else 0)
    | none => 0)).foldl (· ||| ·) 0

/-- Posts owed for the cycle that has just ended (R25): every enabled feed and quantity, every running circuit. -/
def Block.owedKeys (s : Block) : List Nat :=
  let feeds := (List.range 4).flatMap (fun f =>
    let g := s.feedMain f
    if !g.en then []
    else
      let codes := (List.range 20).filter (fun c => (BitVec.ofNat 20 g.qty).getLsbD c)
      let els := if g.elemPost || g.wiring = 2 then (energyPos g.wiring).filter g.pos else []
      codes.map (fun c => (f * 16 + 15) * 32 + c)
        ++ els.flatMap (fun k => (codes.filter (fun c => c ≤ 15 || g.wiring = 2)).map (fun c => (f * 16 + k) * 32 + c)))
  let circs := (List.range 2).flatMap (fun c => if s.circRuns c s.thermMask then (List.range 4).map (fun q => 2048 + c * 32 + q) else [])
  feeds ++ circs

/-- The open set owes them. -/
def Block.owe (s : Block) : Block :=
  s.modLed (fun l => { l with sets := { l.sets with owed := s.owedKeys.foldl (fun o k => Sparse.put k (Sparse.get 0 k o + 1) o) l.sets.owed } })

/-- Soft reset of LEDGER (R347). -/
def Block.ledgerSoftReset (s : Block) : Block :=
  let s := forEach [0x40, 0x50, 0x5C, 0xEC, 0xF0, 0xF4] (fun o s => s.setR (pg 0x2F o) (regReset (pg 0x2F o))) s
  s.modLed (fun l => { l with defShadow := [], clears := [] })

end Sys2Proof.Machine
end

