-- ==== Sys2Proof/Machine/Demand.lean ====
section
/-! DEFINITION. Maximum demand (R336 to R340, R356 to R359) and billing time (R341, R360 to R363). -/

namespace Sys2Proof.Machine

def Block.demCh (s : Block) (d : Nat) : DemCh := nth DemCh.reset s.dem d
def Block.modDem (s : Block) (d : Nat) (f : DemCh → DemCh) : Block := { s with dem := modNth s.dem d f }

/-- Field checks of the pages (R358, R361, R362). -/
def demandRules : List FieldRule := [⟨0x84, 0x84, 11, 8, fun v => v ≤ 8, 4⟩]
def billRules : List FieldRule := [
  ⟨0x40, 0x40, 20, 16, fun v => (1 ≤ v && v ≤ 28) || v = 31, 3⟩, ⟨0x40, 0x40, 10, 0, fun v => v ≤ 1439, 3⟩,
  ⟨0x60, 0x60, 4, 0, fun v => v ≤ 23, 3⟩]

/-! ### Channels (R336, R357) -/

def dchReg (d : Nat) : Nat := pg 0x31 (0x44 + 4 * d)
def dchSubs (w : Word) : Nat := if w.bit 30 then w.bits 27 24 else 1
/-- Grid length in minutes. -/
def dchGrid (w : Word) : Nat := if w.bit 30 then w.bits 21 16 / max 1 (w.bits 27 24) else w.bits 21 16
def dchOk (w : Word) : Bool :=
  !w.bit 31 || ((!w.bit 30 || (2 ≤ w.bits 27 24 && w.bits 27 24 ≤ 15 && w.bits 21 16 % w.bits 27 24 = 0))
    && [1, 2, 3, 4, 5, 6, 10, 12, 15, 20, 30, 60].contains (dchGrid w))

/-- A DEMAND commit R336 admits, words read through a function from offsets. -/
def demandOk (w : Nat → Word) : Bool := (List.range 16).all (fun d => dchOk (w (0x44 + 4 * d)))

/-- The page's windows may open (R340). -/
def Block.demandOn (s : Block) : Bool := s.rbit (pg 0x31 0x04) 0

/-- Channels whose grid ends between two effective local minutes (R336). Before R346 has been settled a window that was open at the save
carries POWER_DOWN where its grid ended during the outage, else POWER_RESTORED. -/
def Block.gridEnds (s : Block) (from_ to_ : Nat) : List DemEnd :=
  (List.range 16).filterMap (fun d =>
    let w := s.getR (dchReg d)
    let g := max 1 (dchGrid w)
    let down := s.localMin (minuteOf (s.demCh d).start) / g < from_ / g
    let mark := if s.led.restore.isNone then 0 else if down then 4 else 2
    if (s.demCh d).isOpen && from_ / g < to_ / g then some ⟨d, w, true, mark, true, false, if down && mark = 4 then 2 else 0⟩ else none)

/-- Channels joined to those already due at the next latch; one that ends twice ends once, with both marks. -/
def mergeEnds (l new : List DemEnd) : List DemEnd :=
  let kept := l.map (fun e => match new.find? (fun x => x.ch = e.ch) with
    | some x => { e with ends := e.ends || x.ends, flags := e.flags ||| x.flags, again := x.again, short := e.short || x.short, next := e.next ||| x.next }
    | none => e)
  kept ++ new.filter (fun x => !l.any (fun e => e.ch = x.ch))

def insertEnd (e : DemEnd) : List DemEnd → List DemEnd
  | [] => [e]
  | x :: t => if e.ch < x.ch then e :: x :: t else x :: insertEnd e t
/-- In ascending channel order (R344). -/
def sortEnds (l : List DemEnd) : List DemEnd := l.foldr insertEnd []

/-- RTC stamp of the next grid end of a channel (R358). -/
def Block.nextGrid (s : Block) (g : Nat) (base : Nat) : Nat → Nat → Nat
  | 0, m => m
  | fuel + 1, m => if base / g < s.localMin m / g then m else Block.nextGrid s g base fuel (m + 1)
def Block.nextEnd (s : Block) (d : Nat) : Nat :=
  if !s.rtcValid then 0
  else
    let m := minuteOf s.rtcNow
    s.nextGrid (max 1 (dchGrid (s.getR (dchReg d)))) (s.localMin m) 200 (m + 1) * rtcMinute

/-- D of an energy over a channel's window (R337). -/
def demandOf (w src : Word) (e : Nat) : Word :=
  let hours : Rat := ((max 1 (w.bits 21 16) : Nat) : Rat) / 60
  let volume := src.bits 30 28 = 1 && 2 ≤ src.bits 12 8
  f32of ((e : Rat) / hours / (if volume then 1000 else 1000000))

/-- DEM_STAT (R358). -/
def Block.showDemand (s : Block) : Block :=
  let bits (f : Nat → Bool) : Nat := ((List.range 16).filter f).foldl (fun n d => n + 2 ^ d) 0
  (s.setF (pg 0x31 0xCC) 15 0 (bits (fun d => (s.demCh d).isOpen))).setF (pg 0x31 0xCC) 31 16
    (bits (fun d => s.led.out4.any (fun o => match o with
      | .demand _ _ _ b _ late _ => late && b.head? == some (BitVec.ofNat 8 d)
      | _ => false)))

/-- A channel at the apply of a latch (R337 to R339): the source's delta and item flags are added; where its interval ends, the
window is closed, compared and reported. -/
def Block.demandApply (s : Block) (c : ClosedLatch) (lseq : Nat) (delta flags : Nat) (e : DemEnd) : Block :=
  let ch := s.demCh e.ch
  let marks := (flags % 2) * 32 + (flags / 2 % 2) * 64 + (flags / 8 % 2) * 128
  let en := ch.e + delta
  let fl := ch.flags ||| marks
  let reopen (s : Block) : Block :=
    s.modDem e.ch (fun x => { x with isOpen := e.again, e := 0, start := c.rtc, short := e.short, flags := e.next })
  if !ch.isOpen then (if e.again then reopen s else s)
  else if !e.ends then s.modDem e.ch (fun x => { x with e := en, flags := fl })
  else
    let subs := dchSubs e.cfg
    let sliding := e.cfg.bit 30
    let prior := ch.subs.take (subs - 1)
    let total := (prior.map (fun p => p.1)).foldl (· + ·) en
    let start := (prior.getLast?.map (fun p => p.2.1)).getD ch.start
    let all := prior.foldl (fun f p => f ||| p.2.2) fl
    let down := e.flags / 4 % 2 = 1
    let short := ch.short || e.flags % 2 = 1 || prior.length + 1 < subs || all % 2 = 1 || down
    let out := short && !s.rbit (pg 0x31 0x40) 0
    let rate := c.set.rate
    let newAll := !out && (nth (0, 0) ch.maxs 0).1 < total
    let newRate := !out && (nth (0, 0) ch.maxs rate).1 < total
    let df := (all ||| e.flags) % 2 ^ 11 ||| b2n short ||| (if newRate then 8 else 0) ||| (if newAll then 16 else 0)
      ||| (if sliding then 256 else 0) ||| (if out then 512 else 0)
    let src := e.cfg.bits 9 0
    let dval := demandOf e.cfg (Sparse.get 0 (2 * src) c.defs) total
    let body := leBytes 1 e.ch ++ leBytes 1 rate ++ leBytes 2 df ++ leBytes 6 lseq ++ leBytes 2 src ++ leBytes 8 start
      ++ leBytes 8 c.rtc ++ leBytes 8 total ++ dval.toBytes ++ List.replicate 8 0#8
    let s := s.modDem e.ch (fun x =>
      { x with
        subs := if e.flags % 2 = 1 || e.flags / 1024 % 2 = 1 || down then [] else ((en, ch.start, (fl ||| b2n ch.short)) :: x.subs).take 14
        maxs := (List.range 9).map (fun k =>
          if (k = 0 && newAll) || (k = rate && newRate) then (total, c.rtc) else nth (0, 0) x.maxs k)
        lastE := total
        lastD := dval
        lastEnd := c.rtc
        lastFlags := df })
    let s := reopen s
    let s := if s.pageState 0x31 = psDraining && s.dem.all (fun x => !x.isOpen) then s.setPageState 0x31 psOff else s
    let s := s.raise 0x31 1 0
    let s := if newAll || newRate then s.raise 0x31 2 0 else s
    let s := if short then s.raise 0x31 3 0 else s
    s.modLed (fun l => { l with out4 := l.out4 ++ [.demand lseq c.close (s.fld (pg 0x3C 0x40) 7 0) body [] c.powerfail none] })

/-- A DEMAND commit (R340): a changed channel's window closes SHORT at this latch; one enabled opens. Old words are given. -/
def Block.demandCommitted (s : Block) (old : Nat → Word) : List DemEnd :=
  (List.range 16).filterMap (fun d =>
    let a := old (0x44 + 4 * d)
    let b := s.getR (dchReg d)
    let same := (a ^^^ b) &&& 0xCF3F03FF = 0
    if same then none else some ⟨d, a, true, 1, b.bit 31 && s.demandOn, true, 0⟩)

/-- Enabled channels without an open window open at this latch (R340). -/
def Block.demandOpens (s : Block) : List DemEnd :=
  if !s.demandOn then [] else (List.range 16).filterMap (fun d =>
    let w := s.getR (dchReg d)
    if w.bit 31 && !(s.demCh d).isOpen then some ⟨d, w, false, 0, true, true, 0⟩ else none)

/-- PAGE_CTRL of DEMAND (R340). -/
def Block.demandEnable (s : Block) (on abort : Bool) : Block :=
  if on then s.setPageState 0x31 psRun
  else
    let open_ := (List.range 16).filter (fun d => (s.demCh d).isOpen)
    let ends := open_.map (fun d => (⟨d, s.getR (dchReg d), true, 1, false, true, 0⟩ : DemEnd))
    let s := if abort then s.modLed (fun l => { l with pendEnds := mergeEnds l.pendEnds ends }) else s
    if open_.isEmpty then s.setPageState 0x31 psOff else s.setPageState 0x31 psDraining

/-- Soft reset of DEMAND (R7, R340): the last windows' registers return too; open windows, maxima and cumulative maxima stay. -/
def Block.demandSoftReset (s : Block) : Block :=
  let s := forEach (List.range 18) (fun i s => s.setR (pg 0x31 (0x40 + 4 * i)) (regReset (pg 0x31 (0x40 + 4 * i)))) s
  forEach (List.range 16) (fun d s => s.modDem d (fun x => { x with lastE := 0, lastD := 0, lastEnd := 0, lastFlags := 0 })) s

/-- Registers of the page that show a channel (R358). -/
def Block.demandView (s : Block) (o : Nat) : Option Nat :=
  let d := s.fld (pg 0x31 0x84) 3 0
  let k := s.fld (pg 0x31 0x84) 11 8
  let ch := s.demCh d
  let w := s.getR (dchReg d)
  let m := nth (0, 0) ch.maxs k
  match o with
  | 0x88 => some ch.e
  | 0x8C => some (ch.e / 2 ^ 32)
  | 0x90 => some ch.lastE
  | 0x94 => some (ch.lastE / 2 ^ 32)
  | 0x98 => some ch.lastD.toNat
  | 0x9C => some ch.lastEnd
  | 0xA0 => some (ch.lastEnd / 2 ^ 32)
  | 0xA4 => some ch.lastFlags
  | 0xA8 => some m.1
  | 0xAC => some (m.1 / 2 ^ 32)
  | 0xB0 => some (demandOf w (s.defW (w.bits 9 0) 0) m.1).toNat
  | 0xB4 => some m.2
  | 0xB8 => some (m.2 / 2 ^ 32)
  | 0xBC => some ch.cum
  | 0xC0 => some (ch.cum / 2 ^ 32)
  | 0xC4 => some (s.nextEnd d)
  | 0xC8 => some (s.nextEnd d / 2 ^ 32)
  | _ => none

/-- The first Sheaf that is due and not committed. -/
def Block.sheafOpen (s : Block) : Option SheafDue :=
  s.led.out4.findSome? (fun o => match o with
    | .sheaf d => if d.committed then none else some d
    | _ => none)

/-- The channels as they stand while a Sheaf is not committed: its period's maxima are still theirs (R342, R343). -/
def Block.demBefore (s : Block) : List DemCh := match s.sheafOpen with
  | none => s.dem
  | some d => (List.range 16).map (fun k =>
    let x := s.demCh k
    let old := nth (x.cum, []) d.before k
    { x with
      cum := old.1
      maxs := (List.range 9).map (fun j =>
        let a := nth (0, 0) old.2 j
        let b := nth (0, 0) x.maxs j
        if a.1 < b.1 then b else a) })

/-- TARIFF_SWITCH entries not yet in RING4 when the save forms the DEMAND record, 25 bytes each, the newest three (layout log 22). -/
def Block.switchBytes (s : Block) : List Byte :=
  if s.pwr.st != .hold then []
  else
    let l := s.led.out4.filterMap (fun o => match o with
      | .switch _ _ b => some (1#8 :: b.take 6 ++ (b.drop 8).take 6 ++ (b.drop 16).take 12)
      | _ => none)
    (l.drop (l.length - 3)).flatten

/-- The DEMAND record (R339, R429; layout log 22): per channel the maxima, their stamps in 48 bits, the cumulative maximum, the
open interval, a window that waits for its signature (energy, start), and five bytes of the tariff switches saved. -/
def Block.demandRecord (s : Block) : List (List Byte) :=
  let dem := s.demBefore
  let sw := s.switchBytes
  (List.range 16).map (fun d =>
    let ch := nth DemCh.reset dem d
    let wait := s.led.out4.find? (fun o => match o with
      | .demand _ _ _ b _ late _ => late && b.head? == some (BitVec.ofNat 8 d)
      | _ => false)
    let w : List Byte := match wait with
      | some (.demand _ _ _ b _ _ _) => (b.drop 28).take 7 ++ (b.drop 12).take 6 ++ (b.drop 2).take 2 ++ (b.drop 1).take 1
      | _ => List.replicate 16 0
    let l := (ch.maxs.map (fun m => leBytes 7 m.1 ++ leBytes 6 m.2)).flatten ++ leBytes 8 ch.cum
      ++ leBytes 1 (b2n ch.isOpen + 2 * b2n ch.short + 4 * b2n wait.isSome + 8 * (ch.flags / 32 % 8)) ++ leBytes 7 ch.e ++ leBytes 6 ch.start ++ w
    ((l ++ List.replicate 155 0).take 155 ++ (sw.drop (5 * d)).take 5 ++ List.replicate 5 0).take 160)

/-- The record loaded (R339): an open window goes on; a window saved unsigned, channel with its energy, start, flags and rate. -/
def Block.demandLoad (s : Block) : Block × List (Nat × Nat × Nat × Nat × Nat) :=
  match s.recContent 0x32 with
  | none => (s, [])
  | some segs =>
    let s := forEach (List.range 16) (fun d s =>
      let b := nth [] segs d
      let n (i k : Nat) : Nat := leNat ((b.drop i).take k)
      s.modDem d (fun x =>
        { x with
          maxs := (List.range 9).map (fun k => (n (13 * k) 7, n (13 * k + 7) 6))
          cum := n 117 8
          isOpen := n 125 1 % 2 = 1
          short := n 125 1 / 2 % 2 = 1
          flags := n 125 1 / 8 % 8 * 32
          e := n 126 7
          start := n 133 6 })) s
    (s, (List.range 16).filterMap (fun d =>
      let b := nth [] segs d
      let n (i k : Nat) : Nat := leNat ((b.drop i).take k)
      if n 125 1 / 4 % 2 = 1 then some (d, n 139 7, n 146 6, n 152 2, n 154 1) else none))

/-- The tariff switches of the record loaded, oldest first. -/
def Block.savedSwitches (s : Block) : List SavedSwitch :=
  match s.recContent 0x32 with
  | none => []
  | some segs =>
    let all := (segs.map (fun b => (b.drop 155).take 5)).flatten
    (List.range 3).filterMap (fun k =>
      let b := (all.drop (25 * k)).take 25
      if b.head? = some 1#8 then
        let l := (b.drop 7).take 6
        some ⟨leNat l, (b.drop 1).take 6 ++ [0#8, 0#8] ++ l ++ [0#8, 0#8] ++ b.drop 13 ++ List.replicate 4 0⟩
      else none)

/-! ### Billing time (R341) -/

/-- The billing boundary of a month (months since January 2000) as a local minute. -/
def Block.billMinute (s : Block) (month : Nat) : Nat :=
  let w := s.getR (pg 0x32 0x40)
  let y := 2000 + month / 12
  let m := month % 12 + 1
  let d := if w.bits 20 16 = 31 then monthDays (leapYear y) m else w.bits 20 16
  dayNumber ⟨y, m, d⟩ * 1440 + w.bits 10 0

/-- The month a local minute lies in. -/
def monthOf (loc : Nat) : Nat := let d := dateOf (loc / 1440); (d.year - 2000) * 12 + (d.month - 1)

/-- The first UTC minute at or after a given one whose effective local minute has reached a value. -/
def Block.reaches (s : Block) (loc : Nat) : Nat → Nat → Nat
  | 0, m => m
  | fuel + 1, m => if loc ≤ s.localMin m then m else Block.reaches s loc fuel (m + 1)
/-- The RTC stamp at which a local time takes effect (R330). -/
def Block.instantOf (s : Block) (loc : Nat) : Nat :=
  s.reaches loc 400 (((loc : Int) - s.utcOfs - (if s.dstOn then s.dstOfs else 0)).toNat) * rtcMinute

/-- Billing boundaries in (from, to], RTC stamps, above the high-water mark (R341). -/
def Block.billBetween (s : Block) (from_ to_ : Nat) : List Nat :=
  if !s.rbit (pg 0x32 0x40) 24 then []
  else
    let m0 := monthOf (s.localMin (minuteOf from_))
    let m1 := monthOf (s.localMin (minuteOf to_))
    ((List.range (m1 + 1 - m0)).map (fun k => s.instantOf (s.billMinute (m0 + k)))).filter (fun t =>
      decide (from_ < t) && decide (t ≤ to_) && decide (s.get64 (pg 0x32 0x50) < t))

/-- NEXT_BILL (R341, R362). -/
def Block.nextBill (s : Block) : Nat :=
  if !s.rtcValid || !s.rbit (pg 0x32 0x40) 24 then 0
  else
    let base := max (s.get64 (pg 0x32 0x50)) s.rtcNow
    let m0 := monthOf (s.localMin (minuteOf base))
    (((List.range 3).map (fun k => s.instantOf (s.billMinute (m0 + k)))).find? (fun t => decide (base < t))).getD 0

/-- A Sheaf formed at the next start that waits for its signature. -/
def Out4.lateSheaf : Out4 → Bool
  | .sheaf d => d.late && d.sig.isNone
  | _ => false

/-- Registers of BILL that are computed (R362). -/
def Block.billView (s : Block) (o : Nat) : Option Nat :=
  let p := nth (0, 0) s.led.sheaves (s.fld (pg 0x32 0x60) 4 0)
  match o with
  | 0x48 => some (s.led.sheaves.length * 2 ^ 24 + b2n (s.led.savedSheaf.isSome || s.led.out4.any Out4.lateSheaf) * 4 + b2n (s.led.cmdSheaf || s.join.req.any (·.1)) * 2)
  | 0x58 => some s.nextBill
  | 0x5C => some (s.nextBill / 2 ^ 32)
  | 0x64 => some p.1
  | 0x68 => some p.2
  | _ => none

end Sys2Proof.Machine
end

