-- ==== Sys2Proof/Machine/Ledger.lean ====
section
/-! DEFINITION. Latches as the ledger keeps them: closing, applying, records, the chain, RING3 and RING4, Sheaves (R324 to R346,
R499 to R502). -/

namespace Sys2Proof.Machine

/-! ### Closing (R324, R344) -/

/-- The calendar id in force. -/
def Block.calId (s : Block) : Nat := (calWordOf s.tar.active 0).toNat

/-- The latch closes: what it settles moves into the closed set, the open set is the next latch's (R324, R325). -/
def Block.closeLatch (s : Block) (reason : Nat) (powerfail : Bool) : Block :=
  let stamp := s.strobeStamp
  let l := s.led
  let cycles := s.absPick / 1024 - l.lastAbs / 1024
  let picks := if powerfail then s.absPick - (l.lastAbs + 1024 * ((s.absPick - l.lastAbs) / 1024)) else 0
  let cycles := if powerfail then (s.absPick - l.lastAbs) / 1024 else cycles
  let c : ClosedLatch := {
    set := l.sets
    close := stamp
    rtc := s.get64 (pg 5 0x94)
    reason := reason
    cycles := cycles
    picks := picks
    mono := s.time.mono
    applyAt := s.absPick + s.fld (pg 0x2F 0x40) 9 0
    defs := l.defs
    ends := (sortEnds l.pendEnds).map (fun e => { e with again := s.demandOn && s.rbit (dchReg e.ch) 31 })
    switch := l.pendSwitch
    sheaf := l.pendSheaf
    powerfail := powerfail
    hwm := (s.getN (dSeq 2) + 2 ^ 32 - 1) % 2 ^ 32 }
  let rate := match l.pendSwitch with
    | some w => w.now.rate
    | none => s.tar.inForce.rate
  let s := match l.pendSwitch with
    | some w => (s.modTar (fun t => { t with inForce := w.now })).showTariff
    | none => s
  let s := s.modLed (fun l =>
    { l with
      closed := some c
      sets := LatchSet.fresh stamp rate s.time.mono
      lastClose := stamp
      lastAbs := s.absPick
      pendEnds := []
      pendSwitch := none
      pendSheaf := none
      cmdSheaf := false })
  s.setB (pg 0x2F 0x44) 0 true

/-! ### The record (R319, R320, R326, R327, R438) -/

/-- A register's share of a latch. -/
structure LedItem where
  idx : Nat
  delta : Nat
  units : Nat
  flags : Nat
  fine : Nat
  hostT : Bool
  resumed : Bool
  deltaSat : Bool
  totSat : Bool
  total : Nat
  /-- The delta in units, for the demand channels; the total before. -/
  dem : Nat
  before : Nat
  deriving DecidableEq, Repr

/-- Item of register i (R319, R325, R326): delta, flags, new total. -/
def Block.ledItem (s : Block) (c : ClosedLatch) (i : Nat) : LedItem :=
  let d0 := Sparse.get 0 (2 * i) c.defs
  let key := srcKey d0
  let match_ := d0.bit 31 && (d0.bits 27 24 = 0 || d0.bits 27 24 = c.set.rate)
  let a := if match_ then Sparse.get LedAcc.zero key c.set.acc else LedAcc.zero
  let missing := match_ && decide (a.cnt < Sparse.get 0 key c.set.owed)
  let late := match_ && s.led.lateKeys.contains key
  let cleared := s.led.clears.contains i
  let base := if cleared then 0 else s.total i
  let sum := base + a.units
  let tot := min (2 ^ 64 - 1) sum
  let dsat := decide (2 ^ 31 - 1 < a.quanta)
  let tsat := decide (2 ^ 64 - 1 < sum)
  let fl := a.flags ||| b2n missing ||| (if dsat || tsat then 16 else 0) ||| (if late then 64 else 0) ||| (if cleared then 128 else 0)
  ⟨i, min (2 ^ 31 - 1) a.quanta, tot - base, fl, a.fine, a.hostT, a.resumed, dsat, tsat, tot,
    if dsat then (2 ^ 31 - 1) * 2 ^ a.fine else a.units, s.total i⟩

def LedItem.bytes (x : LedItem) : List Byte :=
  leBytes 2 x.idx ++ leBytes 1 x.flags ++ leBytes 1 (x.fine % 8 + b2n x.hostT * 8 + b2n x.resumed * 16) ++ leBytes 4 x.delta

/-- LFLAGS: the items' flags (R327). -/
def lflagsOf (items : List LedItem) (late : Bool) : Nat :=
  let f := items.foldl (fun a x => a ||| x.flags) 0
  f % 64 + b2n late * 64 + (f / 64 % 2) * 128

/-- RING3 entries of a record without their chain hash (R327): head, deltas. -/
def latchEntries (gen stamp lseq reason rtc opened cycles picks rate lflags hwm : Nat) (items : List (List Byte)) : List Entry :=
  let groups := (List.range ((items.length + 499) / 500)).map (fun k => ((items.drop (500 * k)).take 500).flatten)
  let fl := lflags / 8 % 2 + (lflags % 2) * 4 + (lflags / 4 % 2) * 16
  let head := leBytes 6 lseq ++ leBytes 2 reason ++ leBytes 8 rtc ++ leBytes 8 opened ++ leBytes 4 cycles ++ leBytes 2 picks
    ++ leBytes 1 rate ++ leBytes 1 lflags ++ leBytes 4 hwm ++ leBytes 2 items.length ++ leBytes 2 groups.length ++ List.replicate 8 0#8
  ⟨0x0301, stamp, fl, gen, head⟩
    :: groups.map (fun g => ⟨0x0302, stamp, fl, gen, g ++ List.replicate ((16 - g.length % 16) % 16) 0⟩)

/-- The record with its LATCH_END (R327, R499): the chain runs over stamp and bodies. -/
def Block.chainRecord (s : Block) (lseq stamp : Nat) (es : List Entry) : Block × List Entry :=
  let s := (s.chainOver stamp ((es.map (·.body)).flatten)).showChain lseq
  let fl := (es.head?.map (·.flags)).getD 0
  let gen := (es.head?.map (·.gen)).getD 0
  (s, es ++ [⟨0x0303, stamp, fl, gen, s.husk.chain ++ List.replicate 16 0#8⟩])

/-- The journal entry's body (R438). tail: the carry block of a POWERFAIL entry. -/
def Block.jrnBody (s : Block) (lseq lflags : Nat) (c : ClosedLatch) (items : List LedItem) (full : Bool) (tail : List Byte) : List Byte :=
  let fq (f : Nat) : Nat := s.fld (pg 0x2E (0x40 + 4 * f)) 19 16
  let hq (k : Nat) : Nat := s.fld (circCfg k) 19 16
  let body := leBytes 6 lseq ++ leBytes 2 items.length ++ leBytes 8 c.close ++ leBytes 1 lflags ++ leBytes 1 (b2n full)
    ++ leBytes 1 (c.reason % 256) ++ leBytes 1 c.set.rate ++ leBytes 2 (fq 0 + 16 * fq 1 + 256 * fq 2 + 4096 * fq 3)
    ++ leBytes 1 (hq 0 + 16 * hq 1) ++ [0#8] ++ leBytes 4 c.cycles ++ leBytes 2 c.picks ++ [0#8, 0#8]
  let its := (items.map (fun x =>
    if full then x.bytes ++ (if x.flags / 16 % 2 = 1 then leBytes 8 x.units else [])
    else leBytes 2 x.idx ++ leBytes 4 x.delta)).flatten
  body ++ its ++ tail

/-- The TOTALS set (R429). -/
def Block.totalsRecord (s : Block) (lseq : Nat) : List (List Byte) :=
  (List.range 32).map (fun k => leBytes 6 lseq ++ [0#8, 0#8] ++ ((List.range 32).map (fun j => leBytes 8 (s.total (32 * k + j)))).flatten)

/-- SHSEQ and the previous Sheaf's stamp as they are while a Sheaf that is formed is not committed. -/
def Block.sheafBefore (s : Block) : Nat × Nat :=
  match s.sheafOpen.bind (·.payload) with
  | some p => ((s.getN (pg 0x32 0x4C) + 2 ^ 32 - 1) % 2 ^ 32, leNat ((p.drop 32).take 8))
  | none => (s.getN (pg 0x32 0x4C), s.led.prevSheaf)

/-- The BILL record (R341, R342; layout log 22): HWM, SHSEQ, previous Sheaf, period flags, a Sheaf still to be formed, IMPORTED (R586). -/
def Block.billRecord (s : Block) (due : Option (Nat × Nat × Nat × Nat × Nat)) : List Byte :=
  let d := due.getD (0, 0, 0, 0, 0)
  let no := s.sheafBefore
  let l := leBytes 8 (s.get64 (pg 0x32 0x50)) ++ leBytes 4 no.1 ++ leBytes 8 no.2 ++ leBytes 2 s.led.period
    ++ leBytes 1 d.1 ++ leBytes 1 d.2.1 ++ leBytes 6 d.2.2.1 ++ leBytes 8 d.2.2.2.1 ++ leBytes 8 d.2.2.2.2
    ++ leBytes 1 (b2n (s.rbit (pg 0x3D 0x50) 7))
  (l ++ List.replicate 48 0).take 48

def SheafDue.saved (d : SheafDue) : Nat × Nat × Nat × Nat × Nat := (d.trigger, d.skipped, d.lseq, d.stamp, d.rtc)
def Block.billSave (s : Block) : Block :=
  s.commitRec 0x22 [s.billRecord (match s.led.savedSheaf with
    | some x => some x
    | none => s.sheafOpen.map (·.saved))]

/-! ### RING3 and RING4 (R325, R344, R437) -/

/-- Records whose journal entry is committed become visible, oldest first, at a strobe. -/
def Block.flushRecords (s : Block) : Nat → Block
  | 0 => s
  | fuel + 1 =>
    match s.led.recs with
    | r :: rest =>
      if r.ready then
        let s := s.modLed (fun l => { l with recs := rest, visible := max l.visible r.lseq })
        Block.flushRecords (s.putLogged 3 0 r.entries) fuel
      else s
    | [] => s

/-- A RING4 entry that may be written now: its latch record is visible and, where it is signed, its signature is there. -/
def Block.out4Entry (s : Block) (o : Out4) : Option Entry :=
  let gen := s.gen 0x2F
  match o with
  | .demand lseq stamp _ body _ late sig => match sig with
    | some g =>
      let b := if late then body.take 2 ++ leBytes 2 (leNat ((body.drop 2).take 2) ||| 2048) ++ body.drop 4 else body
      if lseq ≤ s.led.visible then some ⟨0x0401, stamp, (leNat ((body.drop 2).take 2) / 128 % 2), gen, b ++ g⟩ else none
    | none => none
  | .switch lseq stamp body => if lseq ≤ s.led.visible then some ⟨0x0403, stamp, 0, gen, body⟩ else none
  | .sheaf d => match d.sig with
    | some g =>
      if d.committed && decide (d.lseq ≤ s.led.visible) then
        some ⟨0x0402, d.stamp, d.flags / 8 % 2, gen, leBytes 4 d.shseq ++ leBytes 1 d.trigger ++ leBytes 1 d.skipped ++ leBytes 2 d.flags
          ++ leBytes 6 d.lseq ++ leBytes 2 ((d.payload.getD []).length) ++ leBytes 8 d.rtc ++ leBytes 4 d.addr ++ leBytes 4 0 ++ g⟩
      else none
    | none => none

/-- Signatures that wait (R512). -/
def Block.sigWaiting (s : Block) : Nat :=
  (s.led.out4.filter (fun o => match o with
    | .demand _ _ _ _ _ _ g => g.isNone
    | .sheaf d => d.payload.isSome && d.sig.isNone
    | .switch _ _ _ => false)).length

/-- RING4 in its order (R344). -/
def Block.flush4 (s : Block) : Nat → Block
  | 0 => s.showLedgerQ s.sigWaiting
  | fuel + 1 =>
    match s.led.out4 with
    | o :: rest => match s.out4Entry o with
      | some e =>
        let s := s.modLed (fun l => { l with out4 := rest })
        let s := match o with
          | .sheaf _ => (s.raise 0x32 1 0).put 4 [e]
          | _ => s.putLogged 4 0 [e]
        Block.flush4 s.showDemand fuel
      | none => s.showLedgerQ s.sigWaiting
    | [] => s.showLedgerQ s.sigWaiting

/-- RING3 and RING4 at a strobe; nothing is written in HOLD. -/
def Block.ledgerPick (s : Block) : Block := if s.pwr.st == .hold then s else (s.flushRecords 1024).flush4 1024

/-! ### COP and season sums (R302 to R304) -/

def sumUnits (c : ClosedLatch) (keys : List Nat) : Nat := (keys.map (fun k => (Sparse.get LedAcc.zero k c.set.acc).units)).foldl (· + ·) 0
def anyInvalid (c : ClosedLatch) (keys : List Nat) : Bool :=
  keys.any (fun k => (Sparse.get LedAcc.zero k c.set.acc).flags % 2 = 1 || (Sparse.get LedAcc.zero k c.set.acc).cnt < Sparse.get 0 k c.set.owed)

def Block.copLatch (s : Block) (c : ClosedLatch) : Block :=
  let g := s.getR (pg 0x34 0x54)
  let q := if g.bit 0 then 1 else 0
  let hk := ([0, 1].filter (fun k => (BitVec.ofNat 2 (g.bits 17 16)).getLsbD k)).map (fun k => 2048 + 32 * k + q)
  let ek := ((List.range 4).filter (fun f => (BitVec.ofNat 4 (g.bits 23 20)).getLsbD f)).map (fun f => (f * 16 + 15) * 32)
  let heat := sumUnits c hk
  let elec := sumUnits c ek
  let inval := anyInvalid c (hk ++ ek)
  let iv := s.therm.interval
  let iv : Nat × Nat × Bool := (iv.1 + heat, iv.2.1 + elec, iv.2.2 || inval)
  let dch := g.bits 11 8
  let ended := c.ends.find? (fun e => e.ch = dch && e.ends)
  let pend : CopPend := ⟨heat, elec, inval, [0, 1].map (fun k => (sumUnits c [2048 + 32 * k] : Int) - (sumUnits c [2048 + 32 * k + 1] : Int)),
    [0, 1].map (fun k => sumUnits c [2048 + 32 * k + 2]), c.mono - c.set.mono,
    match ended with
    | some e => some (e.flags % 2 = 1 || (s.demCh dch).short, iv.1, iv.2.1, iv.2.2)
    | none => s.therm.cop.bind (·.intEnd)⟩
  let r := c.set.rate - 1
  let addTo (s : Block) (o v : Nat) : Block := s.set64 (pg 0x34 o) ((s.get64 (pg 0x34 o) + v) % 2 ^ 64)
  let s := addTo (addTo s (0x100 + 16 * r) heat) (0x108 + 16 * r) elec
  let sum (o : Nat) : Nat := ((List.range 8).map (fun k => s.get64 (pg 0x34 (o + 16 * k)))).foldl (· + ·) 0
  let s := s.setR (pg 0x34 0x70) (copOf (sum 0x100) (sum 0x108))
  let s := s.setB (pg 0x34 0x74) 5 (sum 0x108 == 0)
  let s := if inval then s.setB (pg 0x34 0x74) 2 true else s
  s.modTherm (fun t => { t with cop := some pend, interval := if ended.isSome then (0, 0, false) else iv })

/-! ### Applying (R325) -/

/-- A Sheaf's channel block, and the channel after it (R342). -/
def Block.sheafBlock (s : Block) (d : Nat) : List Byte × Block :=
  let w := s.getR (dchReg d)
  let ch := s.demCh d
  let cum := ch.cum + (nth (0, 0) ch.maxs 0).1
  let b := leBytes 1 d ++ leBytes 1 (b2n (w.bit 30)) ++ leBytes 2 (w.bits 9 0) ++ leBytes 1 (w.bits 21 16) ++ leBytes 1 (w.bits 27 24)
    ++ leBytes 2 0 ++ leBytes 8 cum ++ (ch.maxs.map (fun m => leBytes 8 m.1 ++ leBytes 8 m.2)).flatten
  (b, s.modDem d (fun x => { x with cum := cum, maxs := List.replicate 9 (0, 0) }))

def Block.sheafBlocks (s : Block) : List Nat → List (List Byte) × Block
  | [] => ([], s)
  | d :: t =>
    let r := s.sheafBlock d
    let r2 := Block.sheafBlocks r.2 t
    (r.1 :: r2.1, r2.2)

/-- Cumulative maxima and maxima of every channel. -/
def Block.demMaxima (s : Block) : List (Nat × List (Nat × Nat)) := (List.range 16).map (fun d => ((s.demCh d).cum, (s.demCh d).maxs))
/-- The blocks of the enabled channels; every channel's all-rates maximum joins its cumulative one and its maxima are 0 (R342). -/
def Block.sheafChannels (s : Block) : List (List Byte) × Block :=
  let on := (List.range 16).filter (fun d => s.rbit (dchReg d) 31)
  let off := (List.range 16).filter (fun d => !s.rbit (dchReg d) 31)
  ((s.sheafBlocks on).1, (s.sheafBlocks (on ++ off)).2)

/-- A Sheaf is due at a latch just applied: totals, blocks and marks are taken now (R341, R342). -/
def Block.sheafTake (s : Block) (c : ClosedLatch) (lseq trigger skipped : Nat) : Block :=
  let regs := (List.range 1024).filter (fun i => (Sparse.get 0 (2 * i) c.defs).bit 31 && (Sparse.get 0 (2 * i + 1) c.defs).bit 31)
  let maxima := s.demMaxima
  let r := s.sheafChannels
  let s := r.2
  let fl := s.led.period ||| (if trigger = 5 then 128 else 0)
  let d : SheafDue := ⟨trigger, min 255 skipped, lseq, c.close, c.rtc, regs.map (fun i => (i, s.total i)), r.1, c.set.rate, s.calId,
    s.husk.chain, 0, none, fl, 0, 0xFF, none, false, maxima, false⟩
  s.modLed (fun l => { l with out4 := l.out4 ++ [.sheaf d], period := 0 })

/-- The TARIFF_SWITCH of a latch (R333, R344): an entry where the rate, season or day profile changed. -/
def Block.switchOut (s : Block) (c : ClosedLatch) (lseq : Nat) : Block := match c.switch with
  | none => s
  | some w =>
    let body := leBytes 1 c.set.rate ++ leBytes 1 w.now.rate ++ leBytes 1 w.now.season ++ leBytes 1 w.now.day ++ leBytes 2 w.flags
      ++ leBytes 2 0 ++ leBytes 6 lseq ++ leBytes 2 0 ++ leBytes 8 w.at_ ++ leBytes 4 w.cal ++ leBytes 4 0
    (s.modLed (fun l => { l with out4 := l.out4 ++ [.switch lseq c.close body] })).raise 0x30 1 0

/-- The views of a latch applied follow the totals and the definitions in force; a ROLL that grew is marked and raised (R323). Old
views and new ones are those of the registers with an item and of those whose view definition has changed. -/
def Block.newViews (s : Block) (items : List LedItem) : Block :=
  let was := s.led
  let moved := (defRegs (s.led.defs ++ s.led.viewDefs)).filter (fun i => s.defW i 1 ≠ Sparse.get 0 (2 * i + 1) was.viewDefs)
  let regs := items.map (·.idx) ++ moved.filter (fun i => !items.any (fun x => x.idx = i))
  let s := s.modLed (fun l => { l with viewDefs := l.defs })
  forEach regs (fun i s =>
    let d := Sparse.get 0 (2 * i + 1) was.viewDefs
    let t := match items.find? (fun x => x.idx = i) with
      | some x => x.before
      | none => s.total i
    if min 0xFFFFFFFF (t / 10 ^ (d.bits 3 0 + d.bits 23 20)) < (s.view i).2 then
      (s.modLed (fun l => { l with roll := if l.roll.contains i then l.roll else l.roll ++ [i] })).raise 0x2F 5 0
    else s) s

/-- A closed latch applied (R325, R328, R344): totals, demand, record, chain, commits, RING4 entries in order. tail: the
carry block of a POWERFAIL latch. -/
def Block.applyClosed (s : Block) (c : ClosedLatch) (tail : List Byte) : Block :=
  let hold := s.pwr.st == .hold
  let lseq := (s.led.lseq + 1) % 2 ^ 48
  let regs := (List.range 1024).filter (fun i => (Sparse.get 0 (2 * i) c.defs).bit 31 || s.led.clears.contains i)
  let all := regs.map (s.ledItem c)
  let items := all.filter (fun x => x.delta ≠ 0 || x.flags ≠ 0)
  let s := forEach all (fun x s =>
    let s := if x.deltaSat then (s.bump (pg 0x2F 0xF0) 15 0 1).raise 0x2F 2 0 else s
    let s := if x.totSat then (s.bump (pg 0x2F 0xF4) 15 0 1).raise 0x2F 3 0 else s
    s.modLed (fun l => { l with totals := Sparse.set 0 x.idx x.total l.totals })) s
  let s := s.newViews all
  let lf := lflagsOf items false
  let s := s.modLed (fun l =>
    { l with
      closed := none
      lseq := lseq
      clears := []
      lateKeys := []
      period := l.period ||| lf % 32 })
  let es := latchEntries (s.gen 0x2F) c.close lseq (c.reason % 256) c.rtc c.set.opened c.cycles c.picks c.set.rate lf c.hwm
    (items.map LedItem.bytes)
  let full := hold || items.any (·.deltaSat)
  let jrn := s.jrnBody lseq lf c items full tail
  -- demand channels, then Sheaf, then tariff switch (R344)
  let chans := (List.range 16).filterMap (fun d => match c.ends.find? (fun e => e.ch = d) with
    | some e => some e
    | none => if (s.demCh d).isOpen then some (⟨d, s.getR (dchReg d), false, 0, true, false, 0⟩ : DemEnd) else none)
  let s := forEach chans (fun e s =>
    let x := all.find? (fun x => x.idx = e.cfg.bits 9 0)
    s.demandApply c lseq ((x.map (·.dem)).getD 0) ((x.map (·.flags)).getD 0) e) s
  let s := s.copLatch c
  let r := if hold then (s, es) else s.chainRecord lseq c.close es
  let s := r.1
  let hash := s.husk.chain
  let s := s.modLed (fun l =>
    { l with
      recs := if hold then l.recs else l.recs ++ [⟨lseq, r.2, false⟩]
      out4 := l.out4.map (fun o => match o with
        | .demand q st k b h late g => if q = lseq && h.isEmpty && !hold then .demand q st k b hash late g else .demand q st k b h late g
        | o => o) })
  let s := match c.sheaf with
    | some (t, k) =>
      if hold then (s.modLed (fun l => { l with savedSheaf := some (t, k, lseq, c.close, c.rtc) })).billSave
      else (s.sheafTake c lseq t k).billSave
    | none => s
  let s := s.switchOut c lseq
  let s := (((s.showLedger).showDemand).showLedgerQ s.sigWaiting).setB (pg 0x2F 0x44) 0 false
  let q := s.enqueueLatch lseq jrn (s.totalsRecord lseq) s.demandRecord s.thermBytes (if hold then 6 else 0) hold (hold && !c.powerfail)
  match q.2 with
  | some n => q.1.modLed (fun l => { l with recs := l.recs.map (fun r => if r.lseq = n then { r with ready := true } else r) })
  | none => q.1

/-- LATCH_APPLY: at or after the apply pick of a closed latch (R325). -/
def Block.latchApply (s : Block) : Block :=
  match s.led.closed with
  | some c => if c.applyAt ≤ s.absPick && s.led.loaded then s.applyClosed c [] else s
  | none => s

/-- A journal entry is committed: its record becomes visible at the next strobe (R437). -/
def Block.journalDone (s : Block) (lseq : Nat) : Block :=
  s.modLed (fun l => { l with recs := l.recs.map (fun r => if r.lseq = lseq then { r with ready := true } else r) })

/-! ### What a pick 0 brings about (R333 to R341, R345, R346) -/

/-- A boundary reason is due at the next latch that closes (R52). -/
def Block.wantLatch (s : Block) (bit : Nat) : Block :=
  s.modWarp (fun w => { w with boundaries := if w.boundaries.contains (0, bit) then w.boundaries else w.boundaries ++ [(0, bit)] })

/-- The calendar's change against what is in force, with further TFLAGS (R333, R344). -/
def Block.switchDue (s : Block) (flags at_ : Nat) (always : Bool) : Block :=
  let now := s.tariffAt (minuteOf s.time.rtcPick0)
  let cur := s.tar.inForce
  if now.same cur && !always then s
  else
    let dst := s.dstAt (minuteOf s.time.rtcPick0) != s.dstAt s.tar.lastMin
    let fl := flags ||| ((s.led.pendSwitch.map (·.flags)).getD 0) ||| b2n (now.season != cur.season) ||| (if now.special then 4 else 0) ||| (if dst then 8 else 0)
    (s.modLed (fun l => { l with pendSwitch := some ⟨now, fl, at_, s.calId⟩ })).wantLatch rsTariff

/-- A Sheaf at the next latch, with a trigger of the lowest code where several meet (R341). -/
def Block.sheafDue (s : Block) (trigger skipped : Nat) : Block :=
  (s.modLed (fun l => { l with
    pendSheaf := match l.pendSheaf with
    | some (t, k) => some (min t trigger, k + skipped)
    | none => some (trigger, skipped) })).wantLatch rsBilling

/-- Billing boundaries taken: HWM (R341). -/
def Block.billTaken (s : Block) (l : List Nat) : Block := match l.getLast? with
  | some t => s.set64 (pg 0x32 0x50) t
  | none => s

/-- A time set settled (R345). -/
def Block.timeSetDue (s : Block) (old new : Nat) : Block :=
  let chans := (List.range 16).filter (fun d => (s.demCh d).isOpen)
  let ends := chans.map (fun d => (⟨d, s.getR (dchReg d), true, 0x401, true, true, 0⟩ : DemEnd))
  let s := (s.modLed (fun l => { l with pendEnds := mergeEnds l.pendEnds ends, period := l.period ||| 64 })).wantLatch rsDemand
  let s := s.switchDue 16 new false
  let jumped := if old < new && s.tar.invalidEp = false then s.billBetween old new else []
  let s := if jumped.isEmpty then s else ((s.sheafDue 4 jumped.length).billTaken jumped).raise 0x32 2 0
  (s.modTar (fun t => { t with lastMin := minuteOf s.time.rtcPick0, invalidEp := false })).modLed (fun l => { l with timeSet := none })

/-- The ledger's boundaries at a pick 0 (R52, R333 to R336, R341). -/
def Block.boundaries (s : Block) : Block :=
  if !s.led.loaded || !s.pwr.ready then s
  else if !s.rtcValid then
    if s.tar.invalidEp then s
    else ((s.modTar (fun t => { t with invalidEp := true })).showTariff).raise 0x30 6 0
  else
    let s := match s.led.timeSet with
      | some (old, new) => (s.timeSetDue old new).showTariff.showDst
      | none => if s.tar.invalidEp then (s.modTar (fun t => { t with invalidEp := false })).showTariff else s
    let m := minuteOf s.time.rtcPick0
    let p := s.tar.lastMin
    let s :=
      if m ≤ p then s
      else
        let ends := s.gridEnds (s.localMin p) (s.localMin m)
        let s := if ends.isEmpty then s else (s.modLed (fun l => { l with pendEnds := mergeEnds l.pendEnds ends })).wantLatch rsDemand
        let bills := s.billBetween (p * rtcMinute + rtcMinute - 1) (m * rtcMinute)
        let s := if bills.isEmpty then s else (s.sheafDue 1 bills.length).billTaken bills
        (s.switchDue 0 (m * rtcMinute) false).modTar (fun t => { t with lastMin := m })
    if s.activationDue then
      let at_ := s.get64 (pg 0x30 0x60)
      let s := (s.calendarSwap).switchDue 2 at_ true
      if s.rbit (pg 0x32 0x40) 26 then s.sheafDue 3 0 else s
    else s

/-- The settlement of R346 at the first latch after LOCKED. -/
def Block.settleRestore (s : Block) : Block :=
  match s.led.restore with
  | none => s
  | some saved =>
    if !s.warp.everLocked || !s.rtcValid then s
    else
      let m := minuteOf s.time.rtcPick0
      let chans := (List.range 16).filter (fun d => (s.demCh d).isOpen)
      let ended (d : Nat) : Bool :=
        let g := max 1 (dchGrid (s.getR (dchReg d)))
        s.localMin (minuteOf (s.demCh d).start) / g < s.localMin m / g
      let ends := (chans.filter ended).map (fun d => (⟨d, s.getR (dchReg d), true, 4, true, true, 2⟩ : DemEnd))
      let s := forEach (chans.filter (fun d => !ended d)) (fun d s => s.modDem d (fun x => { x with flags := x.flags ||| 2 })) s
      let s := s.modLed (fun l => { l with pendEnds := mergeEnds l.pendEnds ends, restore := none })
      let bills := s.billBetween saved s.time.rtcPick0
      let s := if bills.isEmpty then s else (s.sheafDue 5 bills.length).billTaken bills
      s.switchDue 32 s.time.rtcPick0 false

/-! ### Sheaves and signatures (R339, R341 to R343, R501, R502) -/

/-- The Sheaf that is next in RING4's order and still to be formed, its latch record visible (R342). -/
def Block.sheafNext (s : Block) : Option SheafDue :=
  match s.led.out4.head? with
  | some (.sheaf d) => if d.payload.isNone && decide (d.lseq ≤ s.led.visible) then some d else none
  | _ => none

/-- SHEAF_FORM (R342). -/
def Block.sheafForm (s : Block) : Block :=
  match s.sheafNext with
  | none => s
  | some d =>
    let no := (s.getN (pg 0x32 0x4C) + 1) % 2 ^ 32
    let bitmap := (List.range 128).map (fun b =>
      BitVec.ofNat 8 (((List.range 8).filter (fun k => d.totals.any (fun t => t.1 = 8 * b + k))).foldl (fun n k => n + 2 ^ k) 0))
    let p := leBytes 4 no ++ leBytes 1 d.trigger ++ leBytes 1 d.skipped ++ leBytes 2 d.flags ++ leBytes 6 d.lseq
      ++ leBytes 2 d.totals.length ++ leBytes 8 d.stamp ++ leBytes 8 d.rtc ++ leBytes 8 s.led.prevSheaf ++ leBytes 4 d.cal
      ++ leBytes 1 d.rate ++ leBytes 1 d.blocks.length ++ leBytes 2 (s.fld (pg 5 0xA8) 15 0) ++ s.deviceId ++ bitmap
      ++ (d.totals.map (fun t => leBytes 8 t.2)).flatten ++ d.blocks.flatten
    let d2 := { d with shseq := no, payload := some p, slot := s.fld (pg 0x3C 0x40) 7 0, addr := 0x049000 + 3904 * (no % 24) }
    let s := s.modLed (fun l => { l with out4 := .sheaf d2 :: l.out4.drop 1, prevSheaf := d.rtc })
    (s.setN (pg 0x32 0x4C) no).showLedgerQ s.sigWaiting

/-- LEDGER_SIGNATURE_DONE: the first signature that waits is made (R498, R501, R502), once no host operation holds the
elliptic-curve engine. -/
def Block.signDone (s : Block) : Block :=
  if s.husk.ops.any (fun o => o.phase = 1 && o.ecc) || s.pwr.st == .hold || s.husk.trans.isSome || !s.granted 0x3C then s
  else
    let i := s.led.out4.findIdx (fun o => match o with
      | .demand _ _ _ _ _ _ g => g.isNone
      | .sheaf d => d.payload.isSome && d.sig.isNone
      | .switch _ _ _ => false)
    let done (s : Block) : Block := ((s.flush4 1024).opsStart 256).cryptFlush 256
    match s.led.out4[i]? with
    | some (.demand lseq stamp slot body hash late _) =>
      let r := s.yodazaSign 1 lseq (if hash.isEmpty then s.husk.chain else hash) body slot
      done (r.1.modLed (fun l => { l with out4 := setNth l.out4 i (.demand lseq stamp slot body hash late (some r.2.2)) }))
    | some (.sheaf d) =>
      let down := d.trigger = 5
      let lseq := if down then s.get64 (pg 0x3C 0x4C) else d.lseq
      let hash := if down then s.husk.chain else d.hash
      let p := d.payload.getD []
      let r := s.yodazaSign 2 lseq hash p d.slot
      let whole := yodaza 2 p.length lseq r.2.1 d.late hash ++ p ++ r.2.2
      let s := r.1.modLed (fun l => { l with out4 := setNth l.out4 i (.sheaf { d with sig := some r.2.2 }) })
      done (s.enqueue ⟨.at d.addr, 0x0110, 2, some d.shseq, 0, [whole], false, false⟩)
    | _ => s

/-- A Sheaf's commit has completed (R343): it is held among the newest 24, copied to its stream, and SHEAF_DONE may follow. -/
def Block.sheafDone (s : Block) (no addr : Nat) (bytes : List Byte) : Block :=
  let s := s.modLed (fun l =>
    { l with
      sheaves := ((addr, no) :: l.sheaves.filter (fun p => p.1 ≠ addr)).take 24
      out4 := l.out4.map (fun o => match o with
        | .sheaf d => if d.shseq = no && d.sig.isSome then .sheaf { d with committed := true } else .sheaf d
        | o => o) })
  let s := s.stage 2 ⟨0x0110, 0, s.stampNow, bytes, .sheaf no⟩
  (s.billSave.commitRec 0x32 s.demandRecord).flush4 1024

/-- BILL_CMD SHEAF (R341, R362). -/
def Block.billSheaf (s : Block) : Block :=
  if !s.rbit (pg 0x32 0x40) 25 || s.led.cmdSheaf then s.raise 0x32 3 0
  else (s.modLed (fun l => { l with cmdSheaf := true })).modWarp (fun w => { w with cmdLatch := true })

/-! ### Start-up (R322, R328, R329, R442, R443, R500) -/

/-- A journal entry's body as stored. -/
def Block.jrnRead (s : Block) (e : JrnEntry) : List Byte := s.feramRead (e.addr + 16) (leNat (s.feramRead (e.addr + 8) 2))

/-- Items of a journal body: index, flags byte, info byte, delta, increment of a SAT item (R438). -/
def jrnItems (full : Bool) : Nat → List Byte → List (Nat × Nat × Nat × Nat × Option Nat)
  | 0, _ => []
  | n + 1, b =>
    if full then
      let sat := leNat ((b.drop 2).take 1) / 16 % 2 = 1
      (leNat (b.take 2), leNat ((b.drop 2).take 1), leNat ((b.drop 3).take 1), leNat ((b.drop 4).take 4),
        if sat then some (leNat ((b.drop 8).take 8)) else none) :: jrnItems full n (b.drop (if sat then 16 else 8))
    else (leNat (b.take 2), 0, 0, leNat ((b.drop 2).take 4), none) :: jrnItems full n (b.drop 6)

def jrnParse (b : List Byte) : List (Nat × Nat × Nat × Nat × Option Nat) :=
  jrnItems ((b.drop 17).head? == some 1#8) (leNat ((b.drop 6).take 2)) (b.drop 32)

/-- One entry replayed over the totals (R442). -/
def Block.replay (s : Block) (b : List Byte) : Block :=
  let n (i k : Nat) : Nat := leNat ((b.drop i).take k)
  forEach (jrnParse b) (fun x s =>
    let d0 := s.defW x.1 0
    let unit := if d0.bits 30 28 = 1 then (if 2 ≤ d0.bits 12 8 then 1 else 2 ^ (n 22 1 / 16 ^ d0.bits 19 16 % 16))
      else 2 ^ (n 20 2 / 16 ^ d0.bits 1 0 % 16)
    let inc := x.2.2.2.2.getD (x.2.2.2.1 * unit)
    let base := if x.2.1 / 128 % 2 = 1 then 0 else s.total x.1
    s.modLed (fun l => { l with totals := Sparse.set 0 x.1 (min (2 ^ 64 - 1) (base + inc)) l.totals })) s

/-- Entries above an LSEQ replayed in order while they follow one another (R442): the LSEQ reached, how many. -/
def Block.replayAll (s : Block) (lseq cnt : Nat) : List JrnEntry → Block × Nat × Nat
  | [] => (s, lseq, cnt)
  | e :: t =>
    if e.lseq ≤ lseq then Block.replayAll s lseq cnt t
    else if e.lseq = lseq + 1 then Block.replayAll (s.replay (s.jrnRead e)) e.lseq (cnt + 1) t
    else (s.raiseLater 0x39 6 (lseq + 1), lseq, cnt)

/-- The definitions record loaded, or the defaults (R322). -/
def Block.defsLoad (s : Block) : Block :=
  match s.recContent 0x33 with
    | some segs =>
      let w := (List.range 2048).map (fun k => (k, BitVec.ofNat 32 (leNat (((nth [] segs (k / 64)).drop (4 * (k % 64))).take 4))))
      s.modLed (fun l => { l with defs := w.filter (fun p => p.2 ≠ 0), viewDefs := w.filter (fun p => p.2 ≠ 0) })
    | none => s.modLed (fun l => { l with defs := defDefaults, viewDefs := defDefaults })

/-- The BILL record loaded (R341 to R343, R586). -/
def Block.billLoad (s : Block) : Block :=
  match s.recContent 0x22 with
    | some (b :: _) =>
      let n (i k : Nat) : Nat := leNat ((b.drop i).take k)
      let s := ((s.set64 (pg 0x32 0x50) (n 0 8)).setN (pg 0x32 0x4C) (n 8 4)).setB (pg 0x3D 0x50) 7 (n 46 1 == 1)
      s.modLed (fun l =>
        { l with
          prevSheaf := n 12 8
          period := n 20 2
          savedSheaf := if n 22 1 = 0 then none else some (n 22 1, n 23 1, n 24 6, n 30 8, n 38 8) })
    | _ => s

/-- SCAN_DONE for the ledger: definitions, totals with the journal, calendar, demand, billing (R322, R334, R442, R443). -/
def Block.ledgerLoad (s : Block) : Block :=
  let s := s.defsLoad
  let base := match s.recContent 0x34 with
    | some segs => leNat ((nth [] segs 0).take 6)
    | none => 0
  let s := match s.recContent 0x34 with
    | some segs =>
      let t := (List.range 1024).map (fun i => (i, leNat (((nth [] segs (i / 32)).drop (8 + 8 * (i % 32))).take 8)))
      s.modLed (fun l => { l with totals := t.filter (fun p => p.2 ≠ 0) })
    | none => s.modLed (fun l => { l with totals := [] })
  let r := s.replayAll base 0 s.recs.jrn
  let s := (r.1.modLed (fun l => { l with lseq := r.2.1, visible := r.2.1, loaded := true })).setF (pg 0x39 0x74) 7 0 (min 255 r.2.2)
  let s := s.calendarLoad.thermRestore
  let d := s.demandLoad
  let s := d.1
  let pays := d.2.map (fun w =>
    let cfg := s.getR (dchReg w.1)
    (w.1, leBytes 1 w.1 ++ leBytes 1 w.2.2.2.2 ++ leBytes 2 w.2.2.2.1 ++ leBytes 6 (s.led.lseq - 1) ++ leBytes 2 (cfg.bits 9 0)
      ++ leBytes 8 w.2.2.1 ++ leBytes 8 (s.demCh w.1).start ++ leBytes 8 w.2.1
      ++ (demandOf cfg (s.defW (cfg.bits 9 0) 0) w.2.1).toBytes ++ List.replicate 8 0#8))
  let s := s.billLoad
  let held := (List.range 24).filterMap (fun k =>
    let a := 0x049000 + 3904 * k
    let len := leNat (s.feramRead (a + 8) 2)
    if len ≤ 3888 && s.slotValid a 0x0110 0 1 len then some (a, s.slotSeq a) else none)
  let ordered := held.foldl (fun l p => (l.filter (fun x => p.2 < x.2)) ++ [p] ++ (l.filter (fun x => x.2 ≤ p.2))) []
  let last := s.get64 (pg 1 0x58)
  let s := match s.recs.jrn.getLast? with
    | some e =>
      let rate := leNat (s.feramRead (e.addr + 16 + 19) 1)
      let t := s.tariffAt (minuteOf last)
      (s.modLed (fun l => { l with restore := some (max last (s.get64 (pg 0x32 0x50))) })).modTar (fun x => { x with inForce := { t with rate := max 1 rate } })
    | none => s.modTar (fun x => { x with inForce := s.tariffAt (minuteOf s.rtcNow) })
  let s := s.modLed (fun l => { l with sets := LatchSet.fresh l.sets.opened s.tar.inForce.rate l.sets.mono |> fun z => { z with acc := l.sets.acc, owed := l.sets.owed } })
  let saved := s.recs.jrn.filter (fun e => s.mc.chained < e.lseq && (leNat (s.feramRead (e.addr + 10) 1)) / 2 % 2 = 1)
  (s.modLed (fun l => { l with savedDem := pays, savedSw := s.savedSwitches, sheaves := ordered, savedRecs := saved })).showTariff.showDst.showLedger

/-- Totals as they stood at an LSEQ: what later journal entries added taken off again (R343). -/
def Block.totalsAt (s : Block) (lseq : Nat) : List (Nat × Nat) :=
  let later := s.recs.jrn.filter (fun e => lseq < e.lseq)
  let empty := s.modLed (fun l => { l with totals := [] })
  let added := later.foldl (fun (x : Block) e => x.replay (s.jrnRead e)) empty
  ((defRegs s.led.defs).filter (fun i => (s.defW i 0).bit 31 && (s.defW i 1).bit 31)).map (fun i => (i, s.total i - added.total i))

/-- Closing Warp stamp of a held journal entry. -/
def Block.jrnStamp (s : Block) (lseq : Nat) : Nat := match s.recs.jrn.find? (fun e => e.lseq = lseq) with
  | some e => leNat (s.feramRead (e.addr + 16 + 8) 8)
  | none => 0
/-- A record saved in HOLD, rebuilt from its FULL journal entry (R328). -/
def Block.savedRecord (s : Block) (b : List Byte) : Nat × Nat × List Entry :=
  let n (i k : Nat) : Nat := leNat ((b.drop i).take k)
  let items := (jrnParse b).map (fun x => leBytes 2 x.1 ++ leBytes 1 x.2.1 ++ leBytes 1 x.2.2.1 ++ leBytes 4 x.2.2.2.1)
  let close := n 8 8
  let back := (close / 65536 * 1024 + close / 64 % 1024) - (n 24 4 * 1024 + n 28 2)
  (n 0 6, close, latchEntries (s.gen 0x2F) close (n 0 6) (n 18 1) 0 (mkStamp (back / 1024) (back % 1024) 0) (n 24 4) (n 28 2) (n 19 1)
    (n 16 1 ||| 64) 0 items)

/-- The bounds of a lost partial latch (R329): the LOST_PARTIAL body from the last journal entry. -/
def Block.lostPartial (s : Block) (b : List Byte) : Entry :=
  let n (i k : Nat) : Nat := leNat ((b.drop i).take k)
  let latchN := s.fld (pg 5 0x50) 12 0
  let picks := max 1 (n 24 4 * 1024 + n 28 2)
  let items := (jrnParse b).filter (fun x => x.2.2.2.1 ≠ 0)
  let bytes := (items.map (fun x =>
    let d0 := s.defW x.1 0
    let last := min 0xFFFFFFFF ((x.2.2.2.1 * latchN * 1024 + picks - 1) / picks)
    let fs := if d0.bits 30 28 = 1 then 2 ^ 64 - 1 else (unitsOver (s.pBound (d0.bits 1 0)) latchN).ceil.toNat
    leBytes 2 x.1 ++ leBytes 2 0 ++ leBytes 4 last ++ leBytes 8 fs)).flatten
  ⟨0x0304, n 8 8, 0, s.gen 0x2F, leBytes 6 (n 0 6) ++ leBytes 2 items.length ++ leBytes 8 (n 8 8) ++ leBytes 4 latchN
    ++ List.replicate 12 0#8 ++ bytes⟩

/-- RING4 entries in the order of their latches (R344), those of one latch as they stand. -/
def Out4.lseq : Out4 → Nat
  | .demand l _ _ _ _ _ _ => l
  | .sheaf d => d.lseq
  | .switch l _ _ => l
def out4Order (l : List Out4) : List Out4 :=
  l.foldl (fun out o => out.filter (fun x => decide (x.lseq ≤ o.lseq)) ++ [o] ++ out.filter (fun x => decide (o.lseq < x.lseq))) []

/-- READY for the ledger (R328, R329, R500, R596 step 5): the chain is seeded, saved records are chained and written, a partial latch
lost is reported, where the newest journal entry or LAST_END (R525) says that the last run committed no POWERFAIL latch; unsigned windows and a due Sheaf join RING4's order. chained: CHAINED_LSEQ of the SYSTEM record. Answers
the newest saved LSEQ chained. -/
def Block.ledgerStart (s : Block) (chained : Nat) : Block × Option Nat :=
  let pend := s.recs.jrn.filter (fun e => chained < e.lseq && (leNat (s.feramRead (e.addr + 10) 1)) / 2 % 2 = 1)
  let newest := s.recs.jrn.getLast?
  let base := match pend.head? with
    | some e => e.lseq - 1
    | none => s.led.lseq
  let s := s.chainSeed base
  let made : Block × List (Nat × List Byte) := pend.foldl (fun (acc : Block × List (Nat × List Byte)) (e : JrnEntry) =>
    let r := acc.1.savedRecord (acc.1.jrnRead e)
    let c := acc.1.chainRecord r.1 r.2.1 r.2.2
    (c.1.modLed (fun l => { l with recs := l.recs ++ [⟨r.1, c.2, true⟩] }), acc.2 ++ [(r.1, c.1.husk.chain)])) (s, [])
  let s := made.1
  let ended := s.fld (pg 1 0x54) 3 0
  let lost : Bool := match newest with
    | some e => (leNat (s.feramRead (e.addr + 16 + 18) 1)) / 2 ^ rsPowerfail % 2 == 0 || ended == 2 || ended == 4
    | none => false
  let s : Block := match newest, lost with
    | some e, true =>
      let x := s.lostPartial (s.jrnRead e)
      let s := ((s.chainOver x.stamp x.body).showChain e.lseq).setB (pg 0x2F 0x44) 1 true
      let s := s.raise 0x2F 6 0
      s.modLed (fun l => { l with recs := l.recs ++ [(⟨e.lseq, [x], true⟩ : LatchRec)], period := l.period ||| 32 })
    | _, _ => s
  let dems : List Out4 := s.led.savedDem.map (fun (w : Nat × List Byte) =>
    let q := leNat ((w.2.drop 4).take 6)
    let hash := ((made.2.find? (fun x => x.1 = q)).map (·.2)).getD s.husk.chain
    Out4.demand q (s.jrnStamp q) (s.fld (pg 0x3C 0x40) 7 0) w.2 hash true none)
  let switches : List Out4 := s.led.savedSw.map (fun w => Out4.switch w.lseq (s.jrnStamp w.lseq) w.body)
  let s := s.modLed (fun l => { l with out4 := l.out4 ++ dems, savedDem := [], savedSw := [], savedRecs := [] })
  let s := match s.led.savedSheaf with
    | some (_, k, q, st, rtc) =>
      let maxima := s.demMaxima
      let r := s.sheafChannels
      let d : SheafDue := ⟨5, k, q, st, rtc, s.totalsAt q, r.1, s.tar.inForce.rate, s.calId, s.husk.chain, 0, none, s.led.period ||| 128, 0, 0xFF, none, false, maxima, true⟩
      ((r.2.modLed (fun l => { l with out4 := l.out4 ++ [Out4.sheaf d], period := 0, savedSheaf := none }))).raise 0x32 4 0
    | none => s
  let s := s.modLed (fun l => { l with out4 := out4Order (l.out4 ++ switches) })
  let s := (s.modTar (fun t => { t with lastMin := minuteOf s.rtcNow })).showDst
  ((s.ledgerPick.showLedger).showDemand, pend.getLast?.map (·.lseq))

/-! ### The save (R328, R440) -/

/-- A Sheaf not yet committed when power fails is formed at the next start: its number, the stamp of the Sheaf before it and the
period's maxima go back (R343). -/
def Block.sheafUndo (s : Block) : Block := match s.sheafOpen with
  | none => s
  | some d =>
    let no := s.sheafBefore
    let s := { s with dem := s.demBefore }
    (s.setN (pg 0x32 0x4C) no.1).modLed (fun l =>
      { l with
        prevSheaf := no.2
        savedSheaf := some d.saved
        period := l.period ||| d.flags
        out4 := l.out4.filter (fun o => match o with
          | .sheaf x => x.committed
          | _ => true) })

/-- At the save pick: the closed latch is applied, then the POWERFAIL latch closes with its partial posts and is applied.
Windows without a signature wait for the next start (R339). -/
def Block.ledgerSave (s : Block) (carry : List Byte) : Block :=
  let s := s.sheafUndo
  let s := s.modLed (fun l => { l with
    out4 := l.out4.map (fun o => match o with
    | .demand q st k b h late g => Out4.demand q st k b h (late || g.isNone) g
    | o => o) })
  let s := match s.led.closed with
    | some c => s.applyClosed c []
    | none => s
  let s := s.recordLatch (2 ^ rsPowerfail) false
  let s := s.closeLatch (s.getN (pg 5 0x9C)) true
  let s := match s.led.closed with
    | some c => s.applyClosed c carry
    | none => s
  let s := s.modLed (fun l => { l with
    out4 := l.out4.map (fun o => match o with
    | .demand q st k b h late g => Out4.demand q st k b h (late || g.isNone) g
    | o => o) })
  if s.led.out4.any (fun o => match o with
      | .demand _ _ _ _ _ late _ => late
      | _ => false) then s.raise 0x31 5 0 else s

end Sys2Proof.Machine
end

