-- ==== Sys2Proof/Machine/Display.lean ====
section
/-! DEFINITION. The display (R372 to R382). -/

namespace Sys2Proof.Machine

def Block.modDisp (s : Block) (f : Disp → Disp) : Block := { s with disp := f s.disp }

/-- Field checks (R380, R381, R375), detector 1. -/
def dispRules : List FieldRule :=
  [⟨0x40, 0x40, 20, 16, fun v => 1 ≤ v && v ≤ 30, 1⟩, ⟨0x100, 0x2FC, 19, 16, fun v => v ≤ 8, 1⟩, ⟨0x100, 0x2FC, 15, 12, fun v => v ≤ 11, 1⟩,
    ⟨0x100, 0x2FC, 27, 24, fun v => v ≤ 9, 1⟩, ⟨0x100, 0x2FC, 23, 20, fun v => v ≤ 9, 1⟩]
  ++ ([0, 8, 16, 24].map (fun b => ⟨0x80, 0xFC, b + 7, b, fun v => v < 160 || v == 255, 1⟩ : Nat → FieldRule))

/-- A DISP commit names no reserved KIND (R373), words read through a function from offsets. -/
def dispOk (w : Nat → Word) : Bool := (List.range 128).all (fun i => (w (0x100 + 4 * i)).bits 31 28 ≤ 6)

/-! ### Lists and keys (R372) -/

def Block.itemWord (s : Block) (alt : Bool) (i : Nat) : Word := s.getR (pg 0x37 ((if alt then 0x200 else 0x100) + 4 * i))
def Block.itemUsed (s : Block) (alt : Bool) (i : Nat) : Bool :=
  i < 64 && (List.range (i + 1)).all (fun j => (s.itemWord alt j).bits 31 28 ≠ 0)

/-- Frames are sent (R376, R378): page enabled, port on, RUN or LEAN. -/
def Block.dispOn (s : Block) : Bool := s.pageState 0x37 == psRun && (s.pwr.st == .run || s.pwr.st == .lean)

/-- Frames go out on the pins (R376, R528): with the port on, under the arbiter's grant. -/
def Block.dispSends (s : Block) : Bool := s.dispOn && s.rbit (pg 0x37 0x40) 31 && s.granted 0x37

/-- DISP_STAT (R380); PORT_ON is computed as it is read. -/
def Block.showDisp (s : Block) : Block :=
  let d := s.disp
  let mode := if s.dispOn then b2n d.manual else 2
  s.setN (pg 0x37 0x44) (mode * 2 ^ 28 + b2n d.alt * 2 ^ 24 + d.item * 2 ^ 16 + b2n d.keyB * 512 + b2n d.keyA * 256)

/-- An item is shown from now on. -/
def Block.showItem (s : Block) (alt : Bool) (i : Nat) : Block :=
  (s.modDisp (fun d => { d with alt := alt, item := i, since := s.rtcSec, changed := true })).showDisp

/-- The item after the one shown, wrapping. -/
def Block.nextItem (s : Block) : Nat := if s.itemUsed s.disp.alt (s.disp.item + 1) then s.disp.item + 1 else 0

def Block.keyAction (s : Block) (manual : Bool) : Block :=
  (s.modDisp (fun d => { d with manual := manual, lastAct := s.rtcSec })).showDisp.raise 0x37 4 0

/-- KEY_A_PRESS: an accepted falling edge. -/
def Block.keyAPress (s : Block) : Block :=
  let s := (s.modDisp (fun d => { d with keyA := true })).showDisp
  if s.disp.ignA || !s.dispOn then s else (s.showItem s.disp.alt s.nextItem).keyAction true

/-- KEY_B_HOLD: held for 2 s. -/
def Block.keyBHold (s : Block) : Block :=
  let s := (s.modDisp (fun d => { d with keyB := true })).showDisp
  if s.disp.ignB || !s.dispOn then s else (s.showItem (!s.disp.alt) 0).keyAction true

/-- KEY_STUCK: a pressed key (true: KEY_B) held over 30 s. -/
def Block.keyStuck (s : Block) (b : Bool) : Block :=
  let d := s.disp
  if (if b then d.ignB || !d.keyB else d.ignA || !d.keyA) then s
  else (s.modDisp (fun d => if b then { d with ignB := true } else { d with ignA := true })).raise 0x37 3 0

/-- KEY_RELEASE: the key (true: KEY_B) is up; an ignored one is accepted again. -/
def Block.keyRelease (s : Block) (b : Bool) : Block :=
  (s.modDisp (fun d => if b then { d with keyB := false, ignB := false } else { d with keyA := false, ignA := false })).showDisp

/-- MANUAL_TIMEOUT: 60 s without an accepted press or SHOW. -/
def Block.manualTimeout (s : Block) : Block :=
  if s.disp.manual && decide (s.disp.lastAct + 60 ≤ s.rtcSec) then (s.showItem false 0).keyAction false else s

/-- DWELL_EXPIRY: DWELL seconds of an item in AUTO. -/
def Block.dwellExpire (s : Block) : Block :=
  if !s.disp.manual && s.dispOn && decide (s.disp.since + s.fld (pg 0x37 0x40) 20 16 ≤ s.rtcSec) then s.showItem false s.nextItem else s

/-- DISP_CMD SHOW and AUTO. -/
def Block.dispShow (s : Block) (alt : Bool) (i : Nat) : Block :=
  if !s.itemUsed alt i then s.raise 0x37 1 0
  else ((s.showItem alt i).modDisp (fun d => { d with manual := true, lastAct := s.rtcSec })).showDisp
def Block.dispAuto (s : Block) : Block := (s.modDisp (fun d => { d with manual := false })).showItem false 0

/-- A committed list change that leaves the shown item unused. -/
def Block.dispCommitted (s : Block) : Block :=
  if s.disp.item ≠ 0 && !s.itemUsed s.disp.alt s.disp.item then s.showItem s.disp.alt 0 else s.showDisp

/-! ### Contents (R373 to R375) -/

def chMinus : Nat := 24
def chBlank : Nat := 25
/-- Segments of a character code. -/
def segsOf (c : Nat) : Nat :=
  nth 0 [0x3F, 0x06, 0x5B, 0x4F, 0x66, 0x6D, 0x7D, 0x07, 0x7F, 0x6F, 0x77, 0x7C, 0x39,
    0x5E, 0x79, 0x71, 0x76, 0x38, 0x54, 0x5C, 0x73, 0x50, 0x78, 0x3E, 0x40, 0x00] c

/-- What an item shows: main digits 0 to 9 (rightmost first), decimal points, annunciators 8 to 13 and 18, FAULT, too long. -/
structure Shown where
  digits : List Nat
  points : Nat
  annun : Nat
  fault : Bool
  isOver : Bool

def padDigits (l : List Nat) : List Nat := (l ++ List.replicate 10 chBlank).take 10

/-- At least n decimal digits of a number, rightmost first. -/
def decDigits : Nat → Nat → Nat → List Nat
  | 0, _, _ => []
  | fuel + 1, n, v => if n = 0 && v = 0 then [] else v % 10 :: decDigits fuel (n - 1) (v / 10)

/-- A value scaled and rounded (R373): |x| × 10^(DECS − SCALE) with DECS places, a minus sign below 0. -/
def shownValue (x : Rat) (scale decs : Nat) (fault : Bool) : Shown :=
  let v := (roundAny (ratAbs x * (10 ^ decs : Nat) / (10 ^ scale : Nat))).toNat
  let ds := decDigits 64 (decs + 1) v
  let all := if x < 0 then ds ++ [chMinus] else ds
  if 10 < all.length then ⟨List.replicate 10 chMinus, 0, 0, true, true⟩
  else ⟨padDigits all, if decs = 0 then 0 else 2 ^ decs, 0, fault, false⟩

/-- Unit and direction annunciators of a definition (R375, R206, R299; log 30). -/
def defAnnun (d : Word) : Nat :=
  let q := d.bits 12 8
  if d.bits 30 28 = 1 then 2 ^ 18 + (if 2 ≤ q then 2 ^ 13 else 0)
  else if q ≤ 5 then 2 ^ 10 + (if q % 2 = 0 then 2 ^ 8 else 2 ^ 9)
  else if q ≤ 13 then 2 ^ 11 + (if (q - 6) % 4 ≤ 1 then 2 ^ 8 else 2 ^ 9)
  else 2 ^ 12 + (if q % 2 = 0 then 2 ^ 8 else 2 ^ 9)

/-- A live quantity of an item and whether its source carries INVALID. -/
def Block.liveOf (s : Block) (qty sel : Nat) : Rat × Bool :=
  let reg (o : Nat) : Rat := f32 (s.getR (liveReg sel o))
  let c := sel % 2
  let th (o : Nat) : Rat × Bool := (f32 (s.getR (pg 0x34 (0x80 + 0x20 * c + o))), s.rbit (pg 0x34 (0x80 + 0x20 * c + 8)) 0)
  if qty ≤ 7 then (reg (0x0C + 4 * nth 0 [0, 1, 3, 4, 5, 6, 7, 8] qty), s.rbit (liveReg sel 8) 0)
  else match qty with
    | 8 => ((s.getN (pg 5 0x5C) : Rat) / 10000, s.cause7)
    | 9 => th 0x18
    | 10 => th 0x1C
    | _ => (f32 (s.getR (pg 0x34 0x70)), s.rbit (pg 0x34 0x74) 2)

/-- What an item word shows now (R373). -/
def Block.contentOf (s : Block) (w : Word) : Shown :=
  let i := w.bits 9 0
  let two (n : Nat) : List Nat := [n % 10, n / 10 % 10]
  let loc := s.wallMin (minuteOf s.rtcNow)
  let date := dateOf (loc / 1440)
  match w.bits 31 28 with
  | 1 =>
    let d := s.defW i 1
    let n := d.bits 23 20
    let p := d.bits 19 16
    ⟨padDigits ((decDigits 64 n (s.view i).1).take 10), if p = 0 then 0 else 2 ^ p, defAnnun (s.defW i 0), s.regInvalid i, false⟩
  | 2 => let x := s.liveOf (w.bits 15 12) (w.bits 11 10); shownValue x.1 (w.bits 27 24) (w.bits 23 20) x.2
  | 3 =>
    let ch := i % 16
    let c := s.getR (dchReg ch)
    let m := nth (0, 0) (s.demCh ch).maxs (w.bits 19 16)
    shownValue (f32 (demandOf c (s.defW (c.bits 9 0) 0) m.1)) (w.bits 27 24) (w.bits 23 20) false
  | 4 =>
    if !s.rtcValid then ⟨List.replicate 10 chMinus, 0, 0, false, false⟩
    else ⟨padDigits ((two date.year) ++ (two (date.year / 100)) ++ two date.month ++ two date.day), 2 ^ 4 + 2 ^ 6, 0, false, false⟩
  | 5 =>
    if !s.rtcValid then ⟨List.replicate 10 chMinus, 0, 0, false, false⟩
    else ⟨padDigits (two (s.rtcSec % 60) ++ [chMinus] ++ two (loc % 60) ++ [chMinus] ++ two (loc / 60 % 24)), 0, 0, false, false⟩
  | 6 => ⟨padDigits [s.led.sets.rate % 10, 22], 0, 0, false, false⟩
  | _ => ⟨padDigits [], 0, 0, false, false⟩

/-- ID digits 0 to 2 of the item shown. -/
def Block.idDigits (s : Block) : List Nat :=
  let n := s.disp.item + 1
  let num := if n < 10 then [n] else [n % 10, n / 10]
  ((if s.disp.alt then num ++ [10] else num) ++ List.replicate 3 chBlank).take 3

/-- A tamper event of an input that is not acknowledged (R386). -/
def Block.tampLit (s : Block) (input : Nat) : Bool :=
  (List.range (s.tamp.tseq - s.tamp.freed)).any (fun i =>
    let a := 0x036C00 + 32 * ((s.tamp.freed + 1 + i) % 256)
    (s.feramGet (a + 20)).toNat = input && (s.feramGet (a + 21)).toNat = 1)
  || s.tamp.vbuf.any (fun e => e.input = input && e.kind = 1)

/-- The 160 bits of a frame (R375). -/
def Block.frameBits (s : Block) (digits ids : List Nat) (points annun : Nat) : Nat :=
  let bit (n k : Nat) : Bool := n / 2 ^ k % 2 = 1
  let seg (j : Nat) : Bool :=
    if j < 80 then (if j % 8 = 7 then bit points (j / 8) else bit (segsOf (nth 0 digits (j / 8))) (j % 8))
    else if j < 104 then bit (segsOf (nth 0 ids ((j - 80) / 8))) ((j - 80) % 8)
    else bit annun (j - 104)
  (List.range 128).foldl (fun f j =>
    let b := (s.getR (pg 0x37 (0x80 + 4 * (j / 4)))).bits (8 * (j % 4) + 7) (8 * (j % 4))
    if seg j && b < 160 && !bit f b then f + 2 ^ b else f) 0

/-- DISPLAY_FRAME (R376, R377): the values at its start; RING13 with HOST_RENDER. With the port on none is started without the arbiter's
grant (R528). -/
def Block.dispFrame (s : Block) : Block :=
  if !s.dispOn || (s.rbit (pg 0x37 0x40) 31 && !s.granted 0x37) then s
  else
    let d := s.disp
    let w := s.itemWord d.alt d.item
    let empty := !s.itemUsed d.alt d.item
    let c := s.contentOf w
    let ids := if empty then List.replicate 3 chBlank else s.idDigits
    let rate := s.led.sets.rate
    let annun := (if 1 ≤ rate && rate ≤ 8 then 2 ^ (rate - 1) else 0) + c.annun + (if d.alt then 2 ^ 14 else 0) + (if c.fault then 2 ^ 15 else 0)
      + (if s.tampLit 0 then 2 ^ 16 else 0) + (if s.tampLit 1 then 2 ^ 17 else 0)
    let s := if c.isOver && !d.overEp then s.raise 0x37 2 0 else s
    let s := s.modDisp (fun d => { d with overEp := c.isOver, changed := false })
    let s := if s.rbit (pg 0x37 0x40) 31 then
        (s.wrapAdd (pg 0x37 0x4C) 1).modDisp (fun d => { d with frame := s.frameBits c.digits ids c.points annun })
      else s
    if s.rbit (pg 0x37 0x40) 30 then
      s.put 13 [⟨0x0D01, s.stampNow, 0, s.gen 0x37,
        leBytes 1 (b2n d.alt) ++ leBytes 1 d.item ++ leBytes 1 (b2n d.manual) ++ leBytes 1 (b2n d.changed + 2 * b2n c.fault + 4 * b2n c.isOver)
          ++ w.toBytes ++ leBytes 8 s.rtcNow ++ c.digits.reverse.map (BitVec.ofNat 8) ++ ids.reverse.map (BitVec.ofNat 8) ++ [0#8]
          ++ leBytes 2 c.points ++ leBytes 3 annun ++ List.replicate 13 0#8⟩]
    else s

/-- ENABLE, soft reset and starts (R376, R378). -/
def Block.dispRestart (s : Block) : Block :=
  (s.modDisp (fun d => { d with manual := false, alt := false, item := 0, since := s.rtcSec, changed := true, overEp := false })).showDisp
def Block.dispEnable (s : Block) (on : Bool) : Block :=
  (s.setPageState 0x37 (if on then psRun else psOff)).showDisp
def Block.dispSoftReset (s : Block) : Block :=
  let s := forEach (List.range 176) (fun i s => s.setR (pg 0x37 (0x40 + 4 * i)) (regReset (pg 0x37 (0x40 + 4 * i)))) s
  s.dispRestart

end Sys2Proof.Machine
end

