-- ==== Sys2Proof/Machine/Faults.lean ====
section
/-! DEFINITION. SYS and TEST pages: crossbar requests and replies, block resets, scrubbing, self-tests, fuses (R19 to R21, R549
to R572). -/

namespace Sys2Proof.Machine

def Block.modFaults (s : Block) (f : Faults → Faults) : Block := { s with faults := f s.faults }

/-- Field checks (R566), detector 6. -/
def sysRules : List FieldRule := [⟨0x68, 0x68, 7, 0, fun v => 1 ≤ v, 6⟩]

/-- The page is within its reset (R550). -/
def Block.inReset (s : Block) (p : Nat) : Bool := s.faults.inReset.any (fun r => r.1 = p)

/-! ### Crossbar (R19 to R21, R549 to R551) -/

/-- What stands behind a page as a crossbar target, in the columns of R19: 0 shared SRAM, 1 engine data memory, 2 ledger unit,
3 crypto unit, 4 record store, 5 log store, 6 register pages, 7 the Husk. -/
def rxAllowed (init col target : Nat) : Bool :=
  if init = 0x3E then col = 0 || col = 3 || col = 4 || col = 5 || col = 6
  else if 0x1D ≤ init && init ≤ 0x2C then
    col = 0 || (col = 1 && target = init) || col = 2 || col = 3 || col = 5 || (col = 6 && target = init)
  else match init with
    | 0x2F => col = 0 || col = 3 || col = 4 || col = 5 || (col = 6 && 0x2F ≤ target && target ≤ 0x32)
    | 0x3C => col = 0 || col = 2 || col = 4 || (col = 6 && (target = 0x3C || target = 0x3B)) || col = 7
    | 0x39 => col = 2 || (col = 6 && target = 0x39)
    | 0x3A => col = 0 || (col = 6 && target = 0x3A)
    | 0x3D => col = 0 || col = 2 || col = 3 || (col = 6 && target = 0x3D)
    | _ => false

/-- Arbiter class of an initiator (R20, R527); host reads of the ledger window are C1. -/
def rxClass (init col : Nat) : Nat :=
  if init = 0x2F || init = 0x39 then 0
  else if (0x1D ≤ init && init ≤ 0x2C) || (init = 0x3E && col = 2) then 1
  else 2

/-- CROSSBAR_REQUEST: initiator page, column and target page. A request its initiator may not make is DENIED: counted and
raised for internal initiators, HOST detector 4 for the host (R19, R567). -/
def Block.rxRequest (s : Block) (init col target : Nat) : Block :=
  if !rxAllowed init col target && !(init = 0x3E && col = 2) then
    if init = 0x3E then (s.bump (pg 0x3E 0x58) 15 0 1).raise 0x3E 4 0
    else (s.bump (pg 0 0x80) 15 0 1).raise 0 4 (init % 256 + (target % 256) * 256)
  else
    s.modFaults (fun f => { f with xbar := f.xbar ++ [⟨init, s.gen init, target, s.gen target, rxClass init col, s.absPick, !s.inReset target, false⟩] })

/-- BLOCK_RESET_RETURN: the oldest request held for 64 picks by a target in reset is returned. -/
def Block.rxReturn (s : Block) : Block :=
  match s.faults.xbar.find? (fun r => !r.accepted && !r.returned && decide (r.since + 64 ≤ s.absPick)) with
  | none => s
  | some r =>
    let rec mark : List XReq → List XReq
      | [] => []
      | x :: t => if x = r then { x with returned := true } :: t else x :: mark t
    let s := (s.modFaults (fun f => { f with xbar := mark f.xbar })).bump (pg 0 0x84) 15 0 1
    s.raiseSeen (blockKey r.target r.init) 0 5 (r.init % 256 + (r.target % 256) * 256)

/-- The oldest request of each initiator to a target: none overtakes another of its initiator (R21). -/
def rxHeads (l : List XReq) (target : Nat) : List XReq :=
  (l.filter (fun r => r.target = target)).foldl (fun out r => if out.any (fun x => x.init = r.init) then out else out ++ [r]) []

/-- Requests in the order in which a target answers: returned and accepted ones, by class, then by age (R20). -/
def rxNext (l : List XReq) (target : Nat) : Option XReq :=
  (rxHeads l target).foldl (fun (b : Option XReq) r =>
    if !(r.accepted || r.returned) then b
    else match b with
      | none => some r
      | some x => if r.cls < x.cls then some r else some x) none

/-- A reply dropped, counted where its receiver counts (R551): engines in their own page, else SYS; so too for the ledger unit, whose page
has its detector but no register of that count (log 20). -/
def Block.rxStale (s : Block) (p : Nat) : Block :=
  if 0x1D ≤ p && p ≤ 0x2C then s.meStale (p - 0x1D)
  else if p = 0x2F then (s.bump (pg 0 0x7C) 15 0 1).raiseSeen (staleKey p) p 7 0
  else (s.bump (pg 0 0x7C) 15 0 1).raiseSeen (staleKey p) 0 3 p

/-- CROSSBAR_REPLY from a target: the issuer uses it, or drops it where its generation has ended (R551); whatever the target's GEN, so
also where the target has been reset since and answers ABORTED (R550). -/
def Block.rxReply (s : Block) (target : Nat) : Block :=
  match rxNext s.faults.xbar target with
  | none => s
  | some r =>
    let rec drop : List XReq → List XReq
      | [] => []
      | x :: t => if x = r then t else x :: drop t
    let s := s.modFaults (fun f => { f with xbar := drop f.xbar })
    if r.gen = s.gen r.init then s else s.rxStale r.init

/-- A page enters its reset (R550): requests it had accepted are answered ABORTED, by their replies. -/
def Block.resetBegin (s : Block) (p : Nat) : Block :=
  s.modFaults (fun f => { f with inReset := f.inReset.filter (fun r => r.1 ≠ p) ++ [(p, s.absPick)] })

/-- RESET_INIT_END: the page accepts what was held (R550). -/
def Block.resetEnd (s : Block) (p : Nat) : Block :=
  s.modFaults (fun f =>
    { f with
      inReset := f.inReset.filter (fun r => r.1 ≠ p)
      xbar := f.xbar.map (fun r => if r.target = p && !r.returned then { r with accepted := true, tgen := s.gen p } else r) })

/-! ### SYS commands, memory errors and scrubbing (R555 to R557, R566) -/

def Block.sysReject (s : Block) : Block := s.raise 0 6 0

/-- FIRST_CODE_CLEAR (R566). -/
def Block.firstClear (s : Block) (v : Word) : Block :=
  if v.bits 15 0 = 0xFFFF then (s.setN (pg 0 0x54) 0).set64 (pg 0 0x58) 0 else s

/-- An uncorrectable error at a place: memory 0 shared SRAM, 1 + e an engine's (R555). -/
def Block.eccUnc (s : Block) (mem addr : Nat) : Block :=
  let v := mem % 16 * 2 ^ 28 + 2 ^ 24 + addr % 2 ^ 24
  let s := ((s.bump (pg 0 0x74) 15 0 1).setN (pg 0 0x78) v).setB (pg 0 0x50) 1 true
  s.raise 0 1 v

/-- Scrubbing may run: RUN or LEAN (R557). -/
def Block.scrubRuns (s : Block) : Bool := s.pwr.st == .run || s.pwr.st == .lean
def Block.scrubBegin (s : Block) : Block :=
  (s.modFaults (fun f => { f with scrub := some (s.time.mono + s.time.clk), lastScrub := (s.time.mono + s.time.clk) / sysHz })).setB (pg 0 0x50) 2 true

/-- SCRUB_NOW, and the pass every PERIOD seconds. -/
def Block.scrubNow (s : Block) : Block := if s.faults.scrub.isSome || !s.scrubRuns then s else s.scrubBegin
def Block.scrubDue (s : Block) : Block :=
  if s.faults.scrub.isSome || !s.scrubRuns || !s.rbit (pg 0 0x68) 16 then s
  else if (s.time.mono + s.time.clk) / sysHz < s.faults.lastScrub + s.fld (pg 0 0x68) 7 0 then s
  else s.scrubBegin

/-- SCRUB_PASS_END: the single-bit errors corrected, memory and address. -/
def Block.scrubEnd (s : Block) (fixes : List (Nat × Nat)) : Block :=
  match s.faults.scrub with
  | none => s
  | some t0 =>
    let s := forEach fixes (fun f s =>
      let s := if f.1 = 0 then s.bump (pg 0 0x70) 15 0 1 else s.bump (pg 0 0x70) 31 16 1
      (s.setN (pg 0 0x78) (f.1 % 16 * 2 ^ 28 + f.2 % 2 ^ 24)).raiseOnce (0x20000 + f.1) 0 2 (f.1 % 16)) s
    let s := forEach (List.range 17) (fun m s => if fixes.any (fun f => f.1 = m) then s else s.endEpisode (0x20000 + m)) s
    let ms := (s.time.mono + s.time.clk - t0) * 1000 / sysHz
    let s := s.setN (pg 0 0x6C) ((s.fld (pg 0 0x6C) 31 16 + 1) % 65536 * 65536 + min 0xFFFF ms)
    (s.modFaults (fun f => { f with scrub := none })).setB (pg 0 0x50) 2 false

/-- Soft reset of SYS (R7, R565): FIRST_CODE, a running pass and what has been seen since the device reset stay. -/
def Block.sysSoftReset (s : Block) : Block :=
  forEach [0x68, 0x6C, 0x70, 0x74, 0x78, 0x7C, 0x80, 0x84] (fun o s => s.setR (pg 0 o) (regReset (pg 0 o))) s

/-! ### Self-tests (R558 to R560) -/

def Block.testReject (s : Block) : Block := s.raise 0x3F 2 0
def Block.testBusy (s : Block) : Bool := s.faults.test.isSome || s.faults.blowing.isSome

/-- TEST_STAT after a command: RESULT, LAST_CMD, LAST_TARGET, BUSY (R570). -/
def Block.testResult (s : Block) (res cmd target : Nat) : Block :=
  ((s.setF (pg 0x3F 0x44) 31 28 res).setF (pg 0x3F 0x44) 27 24 cmd).setF (pg 0x3F 0x44) 23 16 target |>.setB (pg 0x3F 0x44) 0 s.testBusy

/-- TEST_CMD BIST: CRYPT_KAT, FERAM_VERIFY, FUSE_VERIFY; it starts on the arbiter's grant. -/
def Block.testBist (s : Block) (target : Nat) : Block :=
  if s.testBusy || target = 0 || 3 < target then s.testReject
  else if (target = 1 && s.pageState 0x3C = psFault) || (target = 2 && !s.rbit (pg 0x39 0x44) 0) then s.testResult 3 1 target
  else
    let s := s.arbAsk 0x3F 3 10
    match s.arbFind 0x3F with
    | some r =>
      if r.outcome = 3 then (s.arbRelease 0x3F).testResult 3 1 target
      else ((s.modFaults (fun f => { f with test := some target })).setN (pg 0x3F 0x48) 0).testResult 0 1 target
    | none => s.testResult 3 1 target

/-- CRC word and DUS check word agree with the fuses (R561). -/
def Block.fuseCrc (s : Block) : Word := crc32 (s.fuseBytes 8 4 ++ s.fuseBytes 13 27)
def Block.fuseDchk (s : Block) : Word := BitVec.ofNat 32 (leNat ((aesEnc s.dus (List.replicate 16 0#8)).take 4))
def Block.fuseVerify (s : Block) : Block × Nat :=
  let bad := b2n (s.fuseCrc != s.fuse 40) + 2 * b2n (s.fuseDchk != s.fuse 41)
  (s.setB (pg 0x3F 0x60) 8 (bad % 2 = 0), bad)

/-- Image-store positions that an engine's record or the SYSTEM record names (R178, R602). -/
def Block.imagesNamed (s : Block) : List Nat :=
  (List.range 4).filter (fun k =>
    s.mc.pos.contains k || (nth [] s.eng.store k != [] && s.namedDigests.contains (nth [] s.eng.store k)))

/-- Current-content slots and positions that fail (R558): record segments, the held journal run, the Sheaves held, the images named. -/
def Block.feramBad (s : Block) : Nat :=
  let recs := scanIds.foldl (fun n id => match recDef id with
    | some d => if s.recState id = 2 || (s.chosenSeq id d).isSome then n else n + d.nseg
    | none => n) 0
  let jrn := (s.recs.jrn.filter (fun e => (s.jrnAt e.addr).isNone)).length
  let sheaves := (s.led.sheaves.filter (fun p => !s.slotValid p.1 0x0110 0 1 (leNat (s.feramRead (p.1 + 8) 2)))).length
  let images := (s.imagesNamed.filter (fun k => !s.slotValid (storeAddr k) 0x0120 0 1 (leNat (s.feramRead (storeAddr k + 8) 2)))).length
  recs + jrn + sheaves + images

/-- A test whose request the arbiter has refused after it waited (R530, R558). -/
def Block.testRefused (s : Block) : Block :=
  match s.faults.test with
  | none => s
  | some t =>
    if (s.arbFind 0x3F).any (fun r => r.outcome == 3) then
      ((s.modFaults (fun f => { f with test := none })).arbRelease 0x3F).testResult 3 1 t
    else s

/-- TEST_BIST_COMPLETE: fails are the parts of CRYPT_KAT that this part fails; the other tests are computed. -/
def Block.testDone (s : Block) (fails : Nat) : Block :=
  match s.faults.test with
  | none => s
  | some t =>
      if !s.granted 0x3F then s.testRefused
      else
        let x : Block × Nat × Bool := match t with
          | 1 =>
            let exp := s.fuse 33
            let s := (s.setR (pg 0x3F 0x4C) Config.katSignature).setR (pg 0x3F 0x50) exp
            (s, fails % 32, fails % 32 = 0 && Config.katSignature = exp)
          | 2 => let n := min 0xFFFF s.feramBad; (s, n, n = 0)
          | _ => let v := s.fuseVerify; (v.1, v.2, v.2 = 0)
        let s := ((x.1.modFaults (fun f => { f with test := none })).arbRelease 0x3F).setN (pg 0x3F 0x48) (2 ^ 31 + b2n x.2.2 * 2 ^ 30 + x.2.1)
        (s.testResult (if x.2.2 then 1 else 2) 1 t).raise 0x3F 1 t

/-- A running test ends ABORTED (R560). -/
def Block.testAbort (s : Block) : Block := match s.faults.test with
  | none => s
  | some t => (((s.modFaults (fun f => { f with test := none })).arbRelease 0x3F).testResult 4 1 t).raise 0x3F 1 t

/-- A life-cycle transition that has begun ends a running test (R560). -/
def Block.transAborts (s t : Block) : Block := if s.husk.trans.isNone && t.husk.trans.isSome then t.testAbort else t

/-- CRYPTO_OP_COMPLETE, with what a token's transition ends. -/
def Block.opDone (s : Block) (ecc : Bool) : Block := s.transAborts (s.opComplete ecc)

/-! ### Fuses in production test (R561 to R564) -/

def Block.prodTest (s : Block) : Bool := s.rbit (pg 0x3F 0x44) 8

/-- First word and count of a region: 1 DUS, 2 ID, 3 TRIM, 4 SIG. -/
def fuseRegion (t : Nat) : Nat × Nat := match t with
  | 1 => (0, 8)
  | 2 => (8, 4)
  | 3 => (13, 19)
  | _ => (32, 8)

/-- TEST_CMD FUSE_BLOW. -/
def Block.fuseBlow (s : Block) (target : Nat) : Block :=
  if s.testBusy || !s.prodTest || target = 0 || 4 < target || s.rbit (pg 0x3F 0x60) (target - 1) then s.testReject
  else (s.modFaults (fun f => { f with blowing := some target })).testResult 0 2 target

/-- FUSE_BLOW_COMPLETE: the staged words are blown; ok: the read-back agrees. Where it does not, what the region holds is open: a
free word each. A DUS blow also blows DCHK. -/
def Block.fuseBlowDone (s : Block) (ok : Bool) : Block :=
  match s.faults.blowing with
  | none => s
  | some t =>
    let r := fuseRegion t
    let s := forEach (List.range r.2) (fun i (s : Block) =>
      let d := s.drawWord
      if ok then s.blow (r.1 + i) (Sparse.get 0 (r.1 + i) s.faults.staged) else d.2.blow (r.1 + i) d.1) s
    let s := if t = 1 then let s := s.blow 41 s.fuseDchk; s.setR (pg 0x3F 0x5C) (s.fuse 41) else s
    let s := (s.modFaults (fun f => { f with blowing := none, blowFail := if ok then f.blowFail else t :: f.blowFail })).setB (pg 0x3F 0x60) (t - 1) true
    (s.testResult (if ok then 1 else 2) 2 t).raise 0x3F 4 t

/-- TEST_CMD STEP_VENDOR (R564). -/
def Block.stepVendor (s : Block) : Block :=
  if s.testBusy || !s.prodTest || s.fld (pg 0x3F 0x60) 3 0 ≠ 15 || !s.faults.blowFail.isEmpty || s.husk.trans.isSome then s.testReject
  else
    let s := s.blow 40 s.fuseCrc
    let v := s.fuseVerify
    if v.2 ≠ 0 then v.1.testResult 2 3 0 else (v.1.testResult 1 3 0).transBegin 0

/-- The live trim registers from the TRIM words, staged ones first in PRODTEST (R15, R563). -/
def Block.showTrim (s : Block) : Block :=
  let w := (List.range 19).map (fun i => Sparse.get (s.fuse (13 + i)) (13 + i) s.faults.staged)
  (s.setN (pg 3 0x44) (Config.xtalTrim w % 64)).setN (pg 6 0x58) (Config.refTrim w % 256)

/-- PT_DATA_ACCESS: a read, or a write of a word (R563, R571); the word read comes with the state. -/
def Block.ptAccess (s : Block) (w : Option Word) : Block × Word :=
  let k := s.fld (pg 0x3F 0x54) 6 0
  let next := s.setN (pg 0x3F 0x54) ((k + 1) % 128)
  match w with
  | some v =>
    if s.prodTest then
      let n := next.modFaults (fun f => { f with staged := Sparse.put k v f.staged })
      (if 13 ≤ k && k ≤ 31 then n.showTrim else n, 0)
    else (next.testReject, 0)
  | none => (next, if s.prodTest then Sparse.get 0 k s.faults.staged else if k < 8 || 42 ≤ k then 0 else s.fuse k)

/-- A write of PT_ADDR (R571). -/
def Block.ptAddr (s : Block) (v : Word) : Block := if s.prodTest then s.setN (pg 0x3F 0x54) (v.bits 6 0) else s.testReject

/-- Soft reset of TEST (R7, R569): TEST_STAT shows what the reset ended, or the blow that goes on. -/
def Block.testSoftReset (s : Block) : Block :=
  let t := if s.testBusy then s.testAbort else s.setF (pg 0x3F 0x44) 31 16 0
  forEach [0x48, 0x4C, 0x50, 0x54, 0x64, 0x68] (fun o s => s.setN (pg 0x3F o) 0) t

end Sys2Proof.Machine
end

