-- ==== Sys2Proof/Machine/Join.lean ====
section
/-! DEFINITION. The Selvedge link and joined systems (R573 to R591): frames, markers, polls, system latches, RING14 and RING15,
the handing on of totals when a chip is replaced. -/

namespace Sys2Proof.Machine

def Block.modJoin (s : Block) (f : Join → Join) : Block := { s with join := f s.join }

/-- Field checks (R589, R590), detector 4. -/
def joinRules : List FieldRule := [⟨0x40, 0x40, 27, 16, fun v => 33 ≤ v, 4⟩]

/-- POLL_CFG as a whole (R590). -/
def joinWordOk (o : Nat) (v : Word) : Bool := o ≠ 0x44 || (v.bits 9 0 ≠ 0 && v.bits 9 0 ≤ v.bits 25 16)

/-- A commit of the page (R587): NODE_ID and QDIV stand while EN = 1. -/
def Block.joinOk (s : Block) (w : Nat → Word) : Bool :=
  let old := s.getR (pg 0x3D 0x40)
  !old.bit 31 || ((w 0x40).bits 9 0 = old.bits 9 0 && (w 0x40).bits 27 16 = old.bits 27 16)

/-- A commit of the WARP page: reference 5 is not for node 0 (R577). -/
def Block.refOk (s : Block) (cfg : Word) : Bool := cfg.bits 2 0 ≠ 5 || s.fld (pg 0x3D 0x40) 9 0 ≠ 0

def Block.joinStat (s : Block) (k : Nat) : Bool := s.rbit (pg 0x3D 0x50) k
def Block.nodeId (s : Block) : Nat := s.fld (pg 0x3D 0x40) 9 0
def Block.joinReject (s : Block) : Block := s.raise 0x3D 4 0

/-- The link may transmit (R528, R587). -/
def Block.joinSends (s : Block) : Bool := s.joinStat 0 && s.granted 0x3D && s.pwr.st != .hold

/-- JOIN_STAT and NODES_SEEN follow. -/
def Block.showJoin (s : Block) : Block :=
  let on := (s.pageState 0x3D == psRun && s.rbit (pg 0x3D 0x40) 31) || s.pageState 0x3D == psDraining
  let s := ((s.setB (pg 0x3D 0x50) 0 on).setB (pg 0x3D 0x50) 1 (on && s.nodeId == 0)).setB (pg 0x3D 0x50) 6 s.join.req.isSome
  let s := s.setB (pg 0x3D 0x50) 4 (s.getN (pg 0x3D 0x54) ≠ 0xFFFFFFFF)
  s.setN (pg 0x3D 0x64) (if on && s.nodeId = 0 then (s.join.nodes.filter (·.present)).length else 0)

/-! ### Frames (R575) -/

/-- Bits on the line per byte, and clock periods of n bits in quarters of QDIV (R573). -/
def Block.bitClk (s : Block) (n : Nat) : Nat := n * s.fld (pg 0x3D 0x40) 27 16 / 4

/-- A frame (R575). -/
def frame (dst src ftype fseq : Nat) (payload : List Byte) : List Byte :=
  let b := [0xA5#8] ++ leBytes 2 dst ++ leBytes 2 src ++ leBytes 1 ftype ++ leBytes 1 fseq ++ [0#8] ++ leBytes 2 payload.length ++ payload
  b ++ leBytes 4 (crc32 b).toNat

/-- A frame leaves JOIN_TX; FSEQ counts those of FTYPE 3. -/
def Block.sendFrame (s : Block) (dst ftype : Nat) (payload : List Byte) : Block :=
  let q := if ftype = 3 then (s.join.fseq + 1) % 256 else s.join.fseq
  s.modJoin (fun j => { j with tx := frame dst s.nodeId ftype (if ftype = 3 then q else 0) payload, fseq := q })

/-- A frame with a good CRC has been received; it is for this node (R575). -/
def Block.heard (s : Block) : Block := s.wrapAdd (pg 0x3D 0x68) 1
def Block.forMe (s : Block) (dst : Nat) : Bool := dst / 32768 % 2 = 1 || dst % 1024 = s.nodeId

/-- FRAME_DISCARDED (R575). -/
def Block.frameBad (s : Block) (crc : Bool) : Block :=
  if !s.joinStat 0 then s
  else
    let s := if crc then s.bump (pg 0x3D 0x6C) 15 0 1 else s
    s.raiseSeen 0x6000002 0x3D 2 0

/-- An entry in RING14. -/
def Block.put14 (s : Block) (type : Nat) (body : List Byte) : Block := s.put 14 [⟨type, s.stampNow, 0, s.gen 0x3D, body⟩]

/-- DONE entries leave in RING15 SEQ order (R583, OP-7). -/
def Block.joinFlush (s : Block) : Nat → Block
  | 0 => s
  | fuel + 1 =>
    match s.join.out with
    | ⟨seq, some st, _, _, _⟩ :: rest =>
      Block.joinFlush ((s.modJoin (fun j => { j with out := rest })).put14 0x0E02 (leBytes 4 seq ++ leBytes 1 st ++ List.replicate 11 0#8)) fuel
    | _ => s

/-- The oldest entry that needs the link (R576). -/
def Block.nextOut (s : Block) : Option JoinOut := s.join.out.find? (fun o => o.status.isNone)

/-- It is transmitted: SENT; a remote read is then awaited (R583, R584). -/
def Block.sendOut (s : Block) (o : JoinOut) : Block :=
  let s := s.sendFrame o.dst o.ftype o.payload
  let s := s.modJoin (fun j =>
    { j with
      out := j.out.map (fun x => if x = o then { x with status := some 0 } else x)
      reads := if o.ftype = 5 then j.reads ++ [(leNat (o.payload.drop 4), s.absPick)] else j.reads })
  s.joinFlush 256

/-- A drained link stops once nothing is left to send (R587). -/
def Block.joinDrained (s : Block) : Block :=
  if s.pageState 0x3D = psDraining && s.nextOut.isNone then
    (s.setPageState 0x3D (if s.rbit (pg 0x3D 0x04) 0 then psRun else psOff)).showJoin
  else s

/-! ### Markers and latches (R577 to R582) -/

/-- RTC stamp of the next pick 0, known at a pick 0 (R577): the cycle's picks at its frequency. -/
def Block.nextPick0Rtc (s : Block) : Nat :=
  let p := pickClk s.warp.freq
  let len := (s.time.phase + (s.time.pickLen : Rat) + 1023 * p + 1 / 2).floor.toNat
  ((s.time.rtcClk + len) / rtcStep) % 2 ^ 64

/-- The lead settles at c.0 what closes at c+1.0 (R577). -/
def Block.leadAnnounce (s : Block) : Block :=
  let rtc := s.nextPick0Rtc
  let here := s.time.rtcPick0
  let s := ({ s with time := { s.time with rtcPick0 := rtc } }).boundaries
  let s := if s.led.cmdSheaf && s.led.pendSheaf.isNone then s.sheafDue 2 0 else s
  let r := s.gridReasons (s.time.cycle + 1) rtc
  let s := (s.dropReasons rtc).modWarp (fun w => { w with joinLatch := if r = 0 then none else some r })
  { s with time := { s.time with rtcPick0 := here } }

/-- MARKER (R577): what the lead sends at its pick 0. -/
def Block.marker (s : Block) : List Byte :=
  leBytes 6 s.time.cycle ++ leBytes 2 (s.fld (pg 5 0xA8) 15 0) ++ leBytes 4 (roundAny (s.warp.freq * 10000)).toNat
    ++ leBytes 1 s.warp.state.code ++ leBytes 1 (b2n s.warp.realignNow) ++ leBytes 2 (s.fld (pg 5 0x50) 12 0) ++ leBytes 8 s.nextPick0Rtc
    ++ leBytes 2 (s.warp.joinLatch.getD 0 % 32) ++ List.replicate 6 0#8

/-- Pick-0 work of the lead, after the latch of this pick has closed; was: it led before this pick, so that a link enabled now sends
its first marker at the next pick 0 (R587). -/
def Block.leadPick0 (s : Block) (was : Bool) : Block :=
  if !s.leading then s
  else
    let s := s.leadAnnounce
    if was && s.joinSends then s.sendFrame 32768 1 s.marker else s

/-- ALIGNED gained or lost (R579). -/
def Block.setAligned (s : Block) (on : Bool) : Block :=
  if s.joinStat 3 = on then s else (s.setB (pg 0x3D 0x50) 3 on).raise 0x3D 3 0

/-- Entries to ACQUIRING are noted: LEAD_OFS is captured at the first good marker after each (R579). -/
def Block.noteAcq (s : Block) : Block :=
  let acq := s.warp.state == .acquiring
  s.modJoin (fun j => { j with ofsWait := j.ofsWait || (acq && !j.wasAcq), wasAcq := acq })

/-- The latch a marker announces for the next pick 0, with the lead's RTC stamp (R580); an announced command latch answers this node's
request (R581). -/
def Block.announced (s : Block) (m : MarkerIn) : Block :=
  let a := m.announce % 32
  if a = 0 || !s.following then s
  else
    let s := s.modWarp (fun w => { w with joinLatch := some (reasonOr a (2 ^ rsJoin)) })
    s.modJoin (fun j => { j with leadRtc := some m.rtc, req := if a / 2 ^ rsCommand % 2 = 1 then none else j.req }) |>.showJoin

/-- MARKER_RECEIVED (R579, R580): what it announces closes whether or not it is good for the Warp. ALIGN_ERR takes an unmeasured DELAY
as 0 (log 36). -/
def Block.markerIn (s : Block) (m : MarkerIn) : Block :=
  if !s.joinStat 0 || s.leading then s
  else
    let s := s.heard.noteAcq
    let d := s.getN (pg 0x3D 0x54)
    let r : Rat := (m.ofs : Rat) - (if d = 0xFFFFFFFF then 0 else (d : Rat) / 16)
    let ns := r * 1000000000 / (sysHz : Nat)
    let s := s.setN (pg 0x3D 0x58) (unsignedOf 32 (roundAny ns))
    let good := d ≠ 0xFFFFFFFF && 1 ≤ m.state && m.state ≤ 3
    let s := s.setB (pg 0x3D 0x50) 2 good
    if !good then s.announced m
    else
      let s := s.endEpisode 0x3D01
      let s := s.modJoin (fun j => { j with meas := some (-r / pickClk s.warp.freq, (m.freq : Rat) / 10000) })
      let s := if s.join.ofsWait then
          let o := unsignedOf 48 ((m.cycle : Int) - (s.time.cycle : Int))
          (s.modJoin (fun j => { j with ofsWait := false })).set64 (pg 0x3D 0x5C) o
        else s
      let inB := ratAbs ns ≤ 2000 + (s.fld (pg 0x3D 0x48) 15 0 : Nat)
      let run := if inB then s.join.alignRun + 1 else 0
      let s := s.modJoin (fun j => { j with alignRun := run })
      let s := s.setAligned (inB && s.warp.state == .locked && (s.joinStat 3 || decide (4 ≤ run)))
      let s := if s.joinStat 5 then (s.setB (pg 0x3D 0x50) 5 false).raise 0x3D 10 0 else s
      (s.modJoin (fun j => { j with loose := 0 })).announced m

/-- Pick 4 of a follower on reference 5 (R579): the marker of the last cycle stands for the reference's measurement; without a
good one the cycle is low. -/
def Block.markerMeasure (s : Block) : Block :=
  let m := s.join.meas
  let s := s.modJoin (fun j => { j with meas := none })
  match m with
  | some (e, f) => (s.modWarp (fun w => { w with missedMarkers := 0, frozen := w.frozen - 1 })).goodCycle f e
  | none =>
    let s := if s.joinStat 0 then
        (((s.bump (pg 0x3D 0x70) 15 0 1).raiseOnce 0x3D01 0x3D 1 0).setAligned false).setB (pg 0x3D 0x50) 2 false
      else s
    let s := (s.modWarp (fun w => { w with missedMarkers := w.missedMarkers + 1, frozen := w.frozen - 1 })).raise 5 8 0
    (s.modJoin (fun j => { j with alignRun := 0 })).lowCycle false

/-- Pick-0 work of a follower before the latch of this pick (R580): an announced latch takes the lead's RTC, its calendar is
evaluated there, and the windows and the Sheaf its reasons name are due. -/
def Block.followPick0 (s : Block) : Block :=
  let loose := s.joinStat 0 && !s.leading && !(s.warp.state == .locked && s.warp.srcActive == 5)
  let s := s.noteAcq.modJoin (fun j => { j with loose := if loose then j.loose + 1 else 0 })
  match s.warp.joinLatch, s.join.leadRtc with
  | some r, some rtc =>
    if !s.following then s else
    let s := { s with time := { s.time with rtcPick0 := rtc } }
    let s := s.modJoin (fun j => { j with leadRtc := none })
    if !s.led.loaded then s
    else
      let m := minuteOf rtc
      let p := s.tar.lastMin
      let ends := if r / 2 ^ rsDemand % 2 = 1 then s.gridEnds (s.localMin (m - 1)) (s.localMin m) else []
      let s := s.modLed (fun l => { l with pendEnds := mergeEnds l.pendEnds ends })
      let s := if r / 2 ^ rsTariff % 2 = 1 then
          (if s.activationDue then let at_ := s.get64 (pg 0x30 0x60); s.calendarSwap.switchDue 2 at_ true
           else s.switchDue 0 (m * rtcMinute) false)
        else s
      let s := if r / 2 ^ rsBilling % 2 = 1 then
          let bills := s.billBetween (p * rtcMinute + rtcMinute - 1) (m * rtcMinute)
          if bills.isEmpty then s.sheafDue 2 0 else (s.sheafDue 1 bills.length).billTaken bills
        else s
      (s.modTar (fun t => { t with lastMin := max p m })).modLed (fun l => { l with timeSet := none })
  | _, _ => s

/-- JOIN_FALLBACK (R582). -/
def Block.joinFallback (s : Block) : Block :=
  if 64 ≤ s.join.loose && !s.joinStat 5 && s.joinStat 0 && !s.leading then (s.setB (pg 0x3D 0x50) 5 true).raise 0x3D 10 0 else s

/-- A latch request of this node: a command latch, or on a follower a LATCH_REQ (R53, R581). -/
def Block.askLatch (s : Block) (billing : Bool) : Block :=
  if s.following then
    s.modJoin (fun j => { j with req := some (billing || (j.req.map (·.1)).getD false, none) }) |>.showJoin
  else if billing then s.billSheaf
  else s.modWarp (fun w => { w with cmdLatch := true })

/-- WARP.LATCH_CMD and BILL_CMD SHEAF. -/
def Block.latchCmd (s : Block) : Block := s.askLatch false
def Block.billCmdSheaf (s : Block) : Block :=
  if s.following && s.rbit (pg 0x32 0x40) 25 then (if s.join.req.any (·.1) then s.raise 0x32 3 0 else s.askLatch true) else s.billSheaf

/-- LATCH_REQ reaches the lead (R581). -/
def Block.latchReq (s : Block) (billing : Bool) : Block :=
  if !s.leading then s
  else
    let s := s.modWarp (fun w => { w with cmdLatch := true })
    if billing then s.sheafDue 2 0 else s

/-! ### Received frames (R583, R584) -/

/-- DATA. -/
def Block.dataIn (s : Block) (src dst fseq : Nat) (payload : List Byte) : Block :=
  if !s.joinStat 0 then s
  else
    let s := s.heard
    if !s.forMe dst || 1024 < payload.length then s
    else
      let missed := match s.join.sources.find? (fun p => p.1 = src) with
        | some (_, q) => (fseq + 511 - q) % 256
        | none => 0
      let s := s.modJoin (fun j => { j with sources := Sparse.put src fseq j.sources })
      s.put14 0x0E01 (leBytes 2 src ++ leBytes 1 fseq ++ leBytes 1 missed ++ leBytes 2 payload.length ++ List.replicate 10 0#8 ++ payload)

/-- An LREPLY's payload (R584). -/
def lreply (tag status lseq cycle : Nat) (totals : List Nat) : List Byte :=
  leBytes 4 tag ++ leBytes 1 status ++ [0#8] ++ leBytes 6 lseq ++ leBytes 6 cycle ++ leBytes 2 totals.length ++ List.replicate 4 0#8
    ++ (totals.map (leBytes 8)).flatten

/-- The answer to a remote read: totals of the last latch applied (R23, R584). -/
def Block.readTotals (s : Block) (first count tag : Nat) : List Byte :=
  let close := match s.led.closed with
    | some c => c.set.opened
    | none => s.led.lastClose
  let cycle := (close / 65536 + s.get64 (pg 0x3D 0x5C)) % 2 ^ 48
  if count = 0 || 120 < count || 1024 < first + count then lreply tag 1 s.led.lseq cycle []
  else lreply tag 0 s.led.lseq cycle ((List.range count).map (fun k => s.total (first + k)))

/-- LREAD_FRAME: the node read owes an LREPLY; the lead sends its own at once where it may. -/
def Block.lreadIn (s : Block) (src dst first count tag : Nat) : Block :=
  if !s.joinStat 0 then s
  else
    let s := s.heard
    if !s.forMe dst then s
    else
      let p := s.readTotals first count tag
      if s.leading && s.joinSends then s.sendFrame src 6 p else s.modJoin (fun j => { j with owed := j.owed ++ [(src, p)] })

/-- LREPLY: to RING14. -/
def Block.lreplyIn (s : Block) (dst : Nat) (payload : List Byte) : Block :=
  if !s.joinStat 0 then s
  else
    let s := s.heard
    if !s.forMe dst || 1024 < payload.length then s
    else
      let tag := leNat (payload.take 4)
      (s.modJoin (fun j => { j with reads := j.reads.filter (fun r => r.1 ≠ tag) })).put14 0x0E03 payload

/-- LREAD_TIMEOUT (R584). -/
def Block.lreadTimeout (s : Block) : Block :=
  match s.join.reads.find? (fun r => decide (r.2 + 4096 ≤ s.absPick)) with
  | none => s
  | some (tag, at_) =>
    let s := s.modJoin (fun j => { j with reads := j.reads.filter (fun r => r ≠ (tag, at_)) })
    (s.put14 0x0E03 (lreply tag 2 0 0 [])).raise 0x3D 7 0

/-! ### Polls (R576, R578) -/

def JoinNode.new (n : Nat) : JoinNode := ⟨n, 0, false, false, 0, []⟩
def Block.joinNode (s : Block) (n : Nat) : JoinNode := (s.join.nodes.find? (fun x => x.id = n)).getD (JoinNode.new n)
def Block.putNode (s : Block) (x : JoinNode) : Block :=
  (s.modJoin (fun j => { j with nodes := x :: j.nodes.filter (fun y => y.id ≠ x.id) })).showJoin

/-- DELAY of a node: the mean of its last exchanges, 0xFFFF_FFFF where none was made (R578). -/
def JoinNode.delay (x : JoinNode) : Nat :=
  if x.delays.isEmpty then 0xFFFFFFFF else (roundAny ((x.delays.foldl (· + ·) 0 : Nat) / (2 * x.delays.length : Nat))).toNat % 2 ^ 32

/-- The exchange under way ends: a node that did not answer has missed a poll. -/
def Block.pollOver (s : Block) : Block := match s.join.polled with
  | some (n, false) =>
    let x := s.joinNode n
    (s.putNode { x with misses := x.misses + 1 }).modJoin (fun j => { j with polled := none })
  | _ => s.modJoin (fun j => { j with polled := none })

/-- NODE_ABSENT (R576): the node that has missed three polls and is not marked yet. -/
def Block.nodeAbsent (s : Block) : Block :=
  if !s.leading then s
  else
    let s := match s.join.polled with
      | some (n, false) => if 2 ≤ (s.joinNode n).misses then s.pollOver else s
      | _ => s
    match s.join.nodes.find? (fun x => decide (3 ≤ x.misses) && !x.absent) with
    | none => s
    | some x =>
      let s := (s.putNode { x with present := false, absent := true }).bump (pg 0x3D 0x74) 15 0 1
      if x.present then s.raise 0x3D 6 x.id else s

/-- Nodes in polling order from one on: FIRST to LAST, wrapping (R576). -/
def Block.pollOrder (s : Block) : List Nat :=
  let lo := s.fld (pg 0x3D 0x44) 9 0
  let hi := s.fld (pg 0x3D 0x44) 25 16
  let l := (List.range (hi + 1)).drop lo
  l.filter (fun n => decide (s.join.next ≤ n)) ++ l.filter (fun n => decide (n < s.join.next))

/-- A poll exchange ends in time before the lead's next pick 0 (R576): poll, longest reply, twice the largest DELAY, two bytes. -/
def Block.pollFits (s : Block) : Bool :=
  let big := s.join.nodes.foldl (fun m x => if x.delays.isEmpty then m else max m x.delay) 0
  let need : Rat := (s.bitClk (220 + 10380 + 20) + 1024 + big / 8 : Nat)
  let left : Rat := (1024 - s.time.pick : Nat) * pickClk s.warp.freq - (s.time.clk : Nat)
  decide (need ≤ left)

/-- The lead's own frames go out in the gap before a poll (R576). -/
def Block.sendAll (s : Block) : Nat → Block
  | 0 => s
  | fuel + 1 => match s.join.owed with
    | (dst, p) :: rest => Block.sendAll ((s.modJoin (fun j => { j with owed := rest })).sendFrame dst 6 p) fuel
    | [] => match s.nextOut with
      | some o => Block.sendAll (s.sendOut o) fuel
      | none => s

/-- POLL. -/
def Block.poll (s : Block) : Block :=
  if !s.leading || !s.joinSends then s
  else
    let s := (s.sendAll 1024).joinDrained
    if s.pageState 0x3D ≠ psRun || !s.pollFits then s
    else
      let s := s.pollOver
      let may (n : Nat) : Bool := let x := s.joinNode n; !x.absent || decide (x.lastPoll + 65536 ≤ s.absPick)
      match s.pollOrder.find? may with
      | none => s
      | some n =>
        let x := s.joinNode n
        let s := s.putNode { x with lastPoll := s.absPick }
        (s.modJoin (fun j => { j with polled := some (n, false), next := n + 1 })).sendFrame n 2 (leBytes 4 x.delay ++ leBytes 4 0)

/-- A follower's answer without a latch request: an LREPLY owed, the oldest RING15 entry, or EMPTY (R576). -/
def Block.answerRest (s : Block) : Block := match s.join.owed with
  | (dst, p) :: rest => (s.modJoin (fun j => { j with owed := rest })).sendFrame dst 6 p
  | [] => match s.nextOut with
    | some o => s.sendOut o
    | none => s.sendFrame 0 4 []

/-- POLL_RECEIVED: a follower takes its DELAY and answers with one frame (R576, R578, R581). -/
def Block.pollIn (s : Block) (dst delay : Nat) : Block :=
  if !s.joinStat 0 || s.leading then s
  else
    let s := s.heard
    if dst % 1024 ≠ s.nodeId then s
    else
      let s := (s.setN (pg 0x3D 0x54) delay).showJoin
      if !s.joinSends then s
      else
        let again (sent : Option Nat) : Bool := match sent with
          | none => true
          | some a => decide (a + 2048 ≤ s.absPick)
        let s := match s.join.req with
          | some (b, sent) =>
            if again sent then (s.modJoin (fun j => { j with req := some (b, some s.absPick) })).sendFrame 0 7 []
            else s.answerRest
          | none => s.answerRest
        s.joinDrained

/-- POLL_ANSWER on the lead: src and the round trip in clock periods (R576, R578); the frame's content is handled by handle. -/
def Block.pollAnswer (s : Block) (src rt : Nat) (handle : Block → Block) : Block :=
  if !s.leading then s
  else
    let ok := s.join.polled == some (src, false)
    if !ok then handle (s.raise 0x3D 5 (src % 1024))
    else
      let s := s.modJoin (fun j => { j with polled := some (src, true) })
      let x := s.joinNode src
      let ofs := 220 * s.fld (pg 0x3D 0x40) 27 16 * 4 + 1024 * 16
      let came := !x.present
      let s := s.putNode { x with misses := 0, present := true, absent := false, delays := ((rt * 16 - ofs) :: x.delays).take 8 }
      let s := if came then s.raise 0x3D 6 src else s
      handle s

/-! ### RING15 (R583) -/

/-- The Selvedge controller takes RING15 entries now. -/
def Block.joinTakes (s : Block) : Bool :=
  s.pageState 0x3D == psRun && (s.pwr.st == .run || s.pwr.st == .lean) && s.ringRoom 14 (32 * (s.join.out.length + 1))

/-- A RING15 entry joins, with its DONE status where it has one now. -/
def Block.joinAdd (s : Block) (o : JoinOut) : Block := (s.modJoin (fun j => { j with out := j.out ++ [o] })).joinFlush 256

/-- Entries of no row: LEN 0, a SEQ out of turn, a reserved TYPE (R414). -/
def Block.joinSkim (s : Block) : Nat → Block
  | 0 => s
  | fuel + 1 =>
    if !s.joinTakes then s
    else match s.tailEntry 15 with
      | none => s
      | some e =>
        if e.len = 0 then (s.tailDrop 15 e.seq).joinAdd ⟨e.seq, some 2, 0, 0, []⟩
        else if e.bytes.isEmpty then s
        else if s.ringAborts 15 then
          Block.joinSkim (((s.tailTake 15 e.len).expectAfter 15 e.seq).joinAdd ⟨e.seq, some 3, 0, 0, []⟩) fuel
        else if e.seq ≠ (s.ringMeta 15).expect || e.type < 0x0F01 || 0x0F03 < e.type then
          Block.joinSkim (((s.tailTake 15 e.len).expectAfter 15 e.seq).joinAdd ⟨e.seq, some 2, 0, 0, []⟩) fuel
        else s

/-- The next entry, where it is of a type. -/
def Block.joinTake (s : Block) (type : Nat) (f : TailEntry → Block → Block) : Block :=
  let s := s.joinSkim 256
  if !s.joinTakes then s
  else match s.tailEntry 15 with
    | none => s
    | some e =>
      if e.type ≠ type || e.bytes.isEmpty || e.seq ≠ (s.ringMeta 15).expect then s
      else (f e ((s.tailTake 15 e.len).expectAfter 15 e.seq)).joinSkim 256

/-- SEND. -/
def Block.joinSend (s : Block) : Block := s.joinTake 0x0F01 (fun e s =>
  let b (i n : Nat) : Nat := leNat ((e.bytes.drop i).take n)
  let len := b 20 2
  let dst := if b 18 1 % 2 = 1 then 32768 else b 16 2
  let bad := len = 0 || 1024 < len || e.len < 32 + len || (b 18 1 % 2 = 0 && 1023 < b 16 2)
  s.joinAdd ⟨e.seq, if bad then some 2 else if s.joinStat 0 then none else some 4, 3, dst, (e.bytes.drop 32).take len⟩)

/-- LREAD: the tag is the entry's SEQ. -/
def Block.joinLread (s : Block) : Block := s.joinTake 0x0F02 (fun e s =>
  let b (i n : Nat) : Nat := leNat ((e.bytes.drop i).take n)
  let n := b 20 2
  let bad := e.len < 32 || n = 0 || 120 < n || 1023 < b 16 2
  s.joinAdd ⟨e.seq, if bad then some 2 else if s.joinStat 0 then none else some 4, 5, b 16 2, leBytes 2 (b 18 2) ++ leBytes 2 n ++ leBytes 4 e.seq⟩)

/-- IMPORT_CHUNK: a chunk of one record, total length the same in all of them. -/
def Block.joinChunk (s : Block) : Block := s.joinTake 0x0F03 (fun e s =>
  let b (i n : Nat) : Nat := leNat ((e.bytes.drop i).take n)
  let ofs := b 16 4
  let total := b 20 4
  let len := b 24 2
  let bad := len = 0 || 1024 < len || e.len < 32 + len || total < ofs + len || 80 + 1024 * 24 + 64 < total
    || (!s.join.chunks.isEmpty && s.join.total ≠ total)
  let s := if bad then s else s.modJoin (fun j => { j with chunks := Sparse.put ofs ((e.bytes.drop 32).take len) j.chunks, total := total })
  s.joinAdd ⟨e.seq, some (if bad then 2 else 1), 0, 0, []⟩)

/-! ### Replacing a chip (R585, R586) -/

/-- Byte k of the record received; none where no chunk holds it. -/
def Block.chunkByte (s : Block) (k : Nat) : Option Byte :=
  s.join.chunks.findSome? (fun c => if c.1 ≤ k then c.2[k - c.1]? else none)

/-- The record, once all of it is there. -/
def Block.importBytes (s : Block) : Option (List Byte) :=
  let l := (List.range s.join.total).map s.chunkByte
  if s.join.total = 0 || l.any (·.isNone) then none else some (l.map (·.getD 0))

def Block.joinOutcome (s : Block) (r : Nat) : Block := (s.setF (pg 0x3D 0x50) 31 28 r).raise 0x3D 8 0

/-- The enabled registers. -/
def Block.ledOn (s : Block) : List Nat := (List.range 1024).filter (fun i => (s.defW i 0).bit 31)

/-- EXPORT: at the next latch apply. -/
def Block.joinExport (s : Block) : Block := s.modJoin (fun j => { j with wantExport := true })

/-- The export record of the latch just applied (R585), signed under the key of R502. -/
def Block.exportRecord (s : Block) (c : ClosedLatch) (hash : List Byte) : Block × List Byte :=
  let slot := s.fld (pg 0x3C 0x40) 7 0
  let held := slot < 64 && s.slotState slot == 1 && (s.slot slot).ktype == 4
  let fall := slot ≠ 0xFF && !held
  let used := if fall then 0xFF else slot
  let regs := s.ledOn
  let items := (regs.map (fun i => leBytes 2 i ++ [0#8, 0#8] ++ (s.defW i 0).toBytes ++ (s.defW i 1).toBytes ++ List.replicate 4 0#8
    ++ leBytes 8 (s.total i))).flatten
  let m := [0x4C#8, 0x59#8, 0x58#8, 0x50#8, 1#8] ++ leBytes 1 used ++ leBytes 2 regs.length ++ leBytes 6 s.led.lseq
    ++ leBytes 2 s.nodeId ++ s.deviceId ++ leBytes 8 ((c.close / 65536 + s.get64 (pg 0x3D 0x5C)) % 2 ^ 48) ++ leBytes 8 c.rtc ++ hash ++ items
  let d := if used = 0xFF then s.idKey else beNat (s.slot used).key
  let s := (s.setB (pg 0x3C 0x48) 2 fall).wrapAdd (pg 0x3C 0x84) 1
  (if fall then s.raise 0x3C 2 0 else s, m ++ ecdsaSign d (sha256 m))

/-- IMPORT's checks in order (R586). -/
def Block.joinImport (s : Block) (kslot : Nat) : Block :=
  match s.importBytes with
  | none => s.joinOutcome 2
  | some m =>
    let b (i n : Nat) : Nat := leNat ((m.drop i).take n)
    let n := b 6 2
    let len := 80 + 24 * n
    let items := (List.range n).map (fun k => (m.drop (80 + 24 * k)).take 24)
    let word (x : List Byte) (i : Nat) : Word := BitVec.ofNat 32 (leNat ((x.drop i).take 4))
    let text := m.take len
    if m.length ≠ len + 64 || m.take 4 ≠ [0x4C#8, 0x59#8, 0x58#8, 0x50#8] || b 4 1 ≠ 1 || !(s.lcState = 2 || s.lcState = 3) then s.joinOutcome 2
    else if s.keyBad kslot [5] 7 false ≠ 0 || !ecdsaVerify (s.slot kslot).key (sha256 text) (m.drop len) then s.joinOutcome 3
    else if (m.drop 16).take 16 = s.deviceId || b 14 2 ≠ s.nodeId then s.joinOutcome 4
    else if items.any (fun x =>
        let i := leNat (x.take 2)
        1023 < i || !(s.defW i 0).bit 31 || s.defW i 0 ≠ word x 4 || s.defW i 1 ≠ word x 8) then s.joinOutcome 4
    else if s.ledOn.any (fun i => s.total i ≠ 0) || s.joinStat 7 then s.joinOutcome 5
    else s.modJoin (fun j => { j with
      imp := some ⟨items.map (fun x => (leNat (x.take 2), leNat ((x.drop 16).take 8))), (m.drop 16).take 16, b 8 6, sha256 m⟩ })

/-- IMPORT_DISCARD. -/
def Block.importDiscard (s : Block) : Block := s.modJoin (fun j => { j with chunks := [], total := 0 })

/-- JOIN_CMD (R589). -/
def Block.joinCmdBad (s : Block) (v : Word) : Bool := 3 < v.bits 3 0 || s.pageState 0x3D ≠ psRun

/-- What an import does before a latch's deltas are added: totals, and the IMPORT entry of the chain (R586). -/
def Block.importApply (s : Block) (c : ClosedLatch) : Block := match s.join.imp with
  | none => s
  | some x =>
    let lseq := (s.led.lseq + 1) % 2 ^ 48
    let s := forEach x.items (fun p s => s.modLed (fun l => { l with totals := Sparse.set 0 p.1 p.2 l.totals })) s
    let e : Entry := ⟨0x0305, c.close, 0, s.gen 0x2F, x.id ++ leBytes 6 x.lseq ++ List.replicate 10 0#8 ++ x.digest.take 16⟩
    let s := (s.chainOver c.close e.body).showChain lseq
    let s := s.modLed (fun l => { l with recs := l.recs ++ [⟨lseq, [e], false⟩] })
    let s := ((s.modJoin (fun j => { j with imp := none })).setB (pg 0x3D 0x50) 7 true)
    s.billSave.joinOutcome 1

/-- LATCH_APPLY with what the Selvedge commands add (R325, R585, R586). -/
def Block.latchApplyJoin (s : Block) : Block := match s.led.closed with
  | none => s
  | some c =>
    if s.absPick < c.applyAt || !s.led.loaded then s
    else
      let s := (s.importApply c).applyClosed c []
      if !s.join.wantExport then s
      else
        let r := s.exportRecord c s.husk.chain
        (r.1.modJoin (fun j => { j with wantExport := false, exp := some (s.led.lseq, r.2) }))

/-- EXPORT_CHUNK entries of n bytes each, from an offset on. -/
def exportChunks (total ofs : Nat) : Nat → List Byte → List (List Byte)
  | 0, _ => []
  | n + 1, l =>
    if l.isEmpty then []
    else
      let p := l.take 1024
      (leBytes 4 ofs ++ leBytes 4 total ++ leBytes 2 p.length ++ List.replicate 6 0#8 ++ p) :: exportChunks total (ofs + 1024) n (l.drop 1024)

/-- At a strobe: the export record follows its latch's RING3 record (R585). -/
def Block.exportPick (s : Block) : Block := match s.join.exp with
  | none => s
  | some (lseq, m) =>
    if s.led.visible < lseq || s.pwr.st == .hold then s
    else
      let s := s.modJoin (fun j => { j with exp := none })
      (forEach (exportChunks m.length 0 32 m) (fun b s => s.put14 0x0E04 b) s).joinOutcome 1

/-! ### Disable, reset (R587) -/

/-- Pending entries answered ABORTED, in order. -/
def Block.joinAbort (s : Block) : Block :=
  (s.modJoin (fun j =>
    { j with
      out := j.out.map (fun o => if o.status.isNone then { o with status := some 3 } else o)
      owed := []
      reads := []
      polled := none })).joinFlush 256

/-- PAGE_CTRL.ENABLE. -/
def Block.joinEnable (s : Block) (on abort : Bool) : Block :=
  if on then ((s.setPageState 0x3D psRun).showJoin).joinSkim 256
  else
    let s := if abort then s.joinAbort else s
    (s.setPageState 0x3D (if s.nextOut.isNone then psOff else psDraining)).showJoin

/-- A commit of the page: the old JOIN_CFG is given; EN = 0 ends the link under MODE. -/
def Block.joinCommitted (s : Block) (old : Word) (abort : Bool) : Block :=
  if !old.bit 31 || s.rbit (pg 0x3D 0x40) 31 then s.showJoin
  else
    let s := if abort then s.joinAbort else s
    (if s.nextOut.isNone then s else s.setPageState 0x3D psDraining).showJoin

/-- Soft reset (R587): a lead keeps its link, and misses no marker. -/
def Block.joinSoftReset (s : Block) : Block :=
  let s := s.joinAbort
  let lead := s.leading
  let s := forEach [0x44, 0x48, 0x58, 0x64, 0x68, 0x6C, 0x70, 0x74] (fun o s => s.setR (pg 0x3D o) (regReset (pg 0x3D o))) s
  let s := if lead then s else s.setR (pg 0x3D 0x40) (regReset (pg 0x3D 0x40))
  let keep := s.getR (pg 0x3D 0x50) &&& 0x80#32
  let s := s.setR (pg 0x3D 0x50) keep
  let d := s.join
  (s.modJoin (fun _ => { Join.reset with tx := d.tx, wasAcq := d.wasAcq })).showJoin

end Sys2Proof.Machine
end

