-- ==== Sys2Proof/Machine/Pulses.lean ====
section
/-! DEFINITION. The pulse outputs POUT0 to POUT3 (R364 to R371). -/

namespace Sys2Proof.Machine

/-- Field checks (R369, R370), detector 2; WIDTH against MODE by `poutWordOk`. -/
def poutRules : List FieldRule := [
  ⟨0x40, 0x4C, 27, 24, fun v => v ≤ 12, 2⟩,
  ⟨0x40, 0x4C, 1, 0, fun v => v ≤ 2, 2⟩,
  ⟨0x50, 0x5C, 15, 12, fun v => v ≤ 7, 2⟩,
  ⟨0x60, 0x6C, 31, 0, fun v => 1 ≤ v && v ≤ 4096000000, 2⟩]

/-- WIDTH lies in the range of MODE (R366). -/
def poutWordOk (o : Nat) (v : Word) : Bool :=
  !(0x40 ≤ o && o ≤ 0x4C) || (if v.bit 8 then 1 ≤ v.bits 23 16 && v.bits 23 16 ≤ 49 else 30 ≤ v.bits 23 16)

/-- Width of a pulse and minimum spacing of leading edges in clock periods (R366). -/
def Block.pulseWidth (s : Block) (k : Nat) : Nat :=
  let w := s.getR (poutCfg k)
  if w.bit 8 then w.bits 23 16 * 10 else w.bits 23 16 * 98304
def Block.pulseSpace (s : Block) (k : Nat) : Nat :=
  if s.rbit (poutCfg k) 8 then max 984 (2 * s.pulseWidth k) else 2 * s.pulseWidth k

def Block.monoNow (s : Block) : Nat := s.time.mono + s.time.clk

/-- POUT_STAT and BACKLOG (R370), and the end of a drain (R367). -/
def Block.showPout (s : Block) : Block :=
  let flag (f : PulseOut → Bool) : Nat := (List.range 4).foldl (fun n k => n + b2n (f (s.pulse k)) * 2 ^ k) 0
  let s := s.setN (pg 0x35 0x70) (flag (fun p => p.pulseEnd.isSome) * 65536 + flag (fun p => decide (0 < p.backlog)) * 256 + flag (·.running))
  let s := forEach (List.range 4) (fun k s => s.setN (pg 0x35 (0x84 + 4 * k)) (s.pulse k).backlog) s
  if s.pageState 0x35 = psDraining && s.pout.all (fun p => !p.running && p.pulseEnd.isNone) then s.setPageState 0x35 psOff else s

/-- An output that drains is off once nothing is due and its last pulse has ended. -/
def Block.pulseDrain (s : Block) (k : Nat) : Block :=
  let p := s.pulse k
  (if p.off && p.runs.isEmpty && p.backlog = 0 && p.pulseEnd.isNone then s.modPulse k (fun p => { p with running := false, off := false }) else s).showPout

/-- Edges scheduled and not emitted. -/
def PulseOut.due (p : PulseOut) : Nat := (p.runs.map (fun r => r.last + 1 - r.next)).foldl (· + ·) 0 + p.backlog

/-- Scheduled edges and backlog discarded: detector 3 counts them in one event (R367). -/
def Block.pulseDrop (s : Block) (k : Nat) : Block :=
  let n := (s.pulse k).due
  let s := s.modPulse k (fun p => { p with runs := [], backlog := 0, episode := false })
  if n = 0 then s else s.raise 0x35 3 (min n 0xFFFFFFFF)

/-- EN and the page's ENABLE as they now stand for output k (R367). The accumulator keeps its fraction of a pulse (R365). -/
def Block.pulseEnable (s : Block) (k : Nat) : Block :=
  let on := s.rbit (poutCfg k) 31 && s.rbit (pg 0x35 0x04) 0
  let p := s.pulse k
  if on then
    if p.running && !p.off then s
    else
      s.modPulse k (fun p =>
        { p with
          running := true
          off := false
          from_ := s.strobeStamp
          energy := 0 })
  else if !p.running then s
  else if s.rbit (pg 0x35 0x04) 1 then
    (s.pulseDrop k).modPulse k (fun p => { p with running := false, off := false, energy := 0 })
  else (s.modPulse k (fun p => { p with off := true, energy := 0 })).pulseDrain k

/-- A POUT commit, old words given through a function from offsets (R367). -/
def Block.poutCommitted (s : Block) (old : Nat → Word) : Block :=
  let s := forEach (List.range 4) (fun k s =>
    let c := s.getR (poutCfg k) ^^^ old (0x40 + 4 * k)
    let moved := c.bits 27 24 ≠ 0 || c.bits 1 0 ≠ 0 || s.getR (poutSrc k) ≠ old (0x50 + 4 * k) || s.getR (poutConst k) ≠ old (0x60 + 4 * k)
    let s := if moved && (s.pulse k).running then
        (s.pulseDrop k).modPulse k (fun p => { p with acc := 0, energy := 0, from_ := s.strobeStamp })
      else s
    s.pulseEnable k) s
  s.showPout

/-- PAGE_CTRL of POUT. -/
def Block.poutEnable (s : Block) : Block :=
  let s := forEach (List.range 4) (fun k s => s.pulseEnable k) s
  let busy := s.pout.any (fun p => p.running || p.pulseEnd.isSome)
  (if s.rbit (pg 0x35 0x04) 0 then s.setPageState 0x35 psRun else s.setPageState 0x35 (if busy then psDraining else psOff)).showPout

/-- Soft reset of POUT (R367). -/
def Block.poutSoftReset (s : Block) : Block :=
  let s := forEach (List.range 4) (fun k s => (s.pulseDrop k).modPulse k (fun p => { PulseOut.reset with pulseEnd := p.pulseEnd, lastEdge := p.lastEdge })) s
  let s := forEach (List.range 21) (fun i s => s.setR (pg 0x35 (0x40 + 4 * i)) (regReset (pg 0x35 (0x40 + 4 * i)))) s
  s.showPout

/-- HOLD entry: pins released, everything lost (R367). -/
def Block.poutHold (s : Block) : Block :=
  (forEach (List.range 4) (fun k (s : Block) => s.setN (pg 0x35 (0x74 + 4 * k)) 0) { s with pout := s.pout.map (fun _ => PulseOut.reset) }).showPout

/-- Energy that an accepted post brings to outputs on a ledger register (R364): stamps from the output's start on. -/
def Block.poutPost (s : Block) (p : Post) (rate : Nat) : Block :=
  forEach (List.range 4) (fun k s =>
    let src := s.getR (poutSrc k)
    let d := s.defW (src.bits 9 0) 0
    if (s.pulse k).running && !(s.pulse k).off && !src.bit 31 && d.bit 31 && srcKey d = p.key && (d.bits 27 24 = 0 || d.bits 27 24 = rate)
        && decide ((s.pulse k).from_ ≤ p.stamp) then
      s.modPulse k (fun o => { o with energy := o.energy + (p.n * 2 ^ p.fine : Nat) })
    else s) s

/-- LEDGER_POST: the post's energy also reaches the outputs whose register takes it. -/
def Block.ledgerPost (s : Block) : Block := match s.posts with
  | [] => s
  | p :: _ => match s.postRate p with
    | some rate => s.takePost.poutPost p rate
    | none => s.takePost

/-- At a pick 0 (R365): the energy that has arrived is spread over the cycle; a cycle without a moved edge ends the episode. -/
def Block.poutCycle (s : Block) : Block :=
  forEach (List.range 4) (fun k s =>
    let p := s.pulse k
    let s := s.modPulse k (fun p => { p with episode := p.episode && p.moved, moved := false, energy := 0 })
    if !p.running then s
    else
      let c := s.getR (poutCfg k)
      let d := (roundAny (p.energy * (s.getN (poutConst k) : Nat) / ((4096 * 10 ^ c.bits 27 24 : Nat)) * (2 ^ 64 : Nat))).toNat
      let one := 2 ^ 64
      let first := p.acc / one + 1
      let last := (p.acc + d) / one
      let run : PulseRun := ⟨p.acc, d, s.absPick, first, last⟩
      s.modPulse k (fun p =>
        { p with
          runs := if first ≤ last then p.runs ++ [run] else p.runs
          acc := (p.acc + d) % 2 ^ 96 })) s

/-- Mono clock of the next scheduled edge (R365): within the pick of its Warp position, to the nearest clock period of that pick's
duration; one whose pick is over is due now. -/
def Block.edge (s : Block) (r : PulseRun) : Nat :=
  let x : Rat := (((r.next * 2 ^ 64 - r.acc : Nat) : Rat) / (max 1 r.delta : Nat)) * 1024
  let k := r.start + x.floor.toNat
  if k < s.absPick then s.time.mono
  else s.time.mono + (k - s.absPick) * s.time.pickLen + ((x - x.floor) * (s.time.pickLen : Nat) + 1 / 2).floor.toNat

/-- A pulse is emitted at a mono clock. -/
def Block.emit (s : Block) (k t : Nat) : Block :=
  let s := s.modPulse k (fun p => { p with lastEdge := some t, pulseEnd := some (t + s.pulseWidth k) })
  (s.wrapAdd (pg 0x35 (0x74 + 4 * k)) 1).showPout

/-- The instant of a happening at a mono clock within this pick. -/
def Block.atClk (s : Block) (t : Nat) : Block := { s with time := { s.time with clk := max s.time.clk (t - s.time.mono) } }

/-- POUT_EDGE on output k (R365, R366): the earliest of the next scheduled edge and the first permitted one of the backlog, where
it lies before the end of this pick. A scheduled edge before its time, or behind a backlog, joins the backlog. -/
def Block.poutEdge (s : Block) (k : Nat) : Block :=
  let p := s.pulse k
  let free := match p.lastEdge with
    | some t => t + max (s.pulseSpace k) ((p.pulseEnd.map (· - t)).getD 0)
    | none => 0
  let stop := s.time.mono + s.time.pickLen
  let sched := p.runs.head?.map s.edge
  let late : Bool := match sched with
    | some t => decide (0 < p.backlog) && decide (free ≤ t) && decide (free < stop)
    | none => decide (0 < p.backlog) && decide (free < stop)
  if !p.running then s
  else if late then
    let t := max free s.time.mono
    let s := s.atClk t
    (s.modPulse k (fun p => { p with backlog := p.backlog - 1 })).emit k t |>.pulseDrain k
  else match p.runs, sched with
    | r :: rest, some t =>
      if stop ≤ t then s
      else
        let s := s.atClk t
        let s := s.modPulse k (fun p => { p with runs := if r.next < r.last then { r with next := r.next + 1 } :: rest else rest })
        if p.backlog = 0 && free ≤ t then (s.emit k (max t s.time.mono)).pulseDrain k
        else
          let ep := p.episode
          let sat := decide (p.backlog = 0xFFFFFFFF)
          let s := (s.modPulse k (fun p =>
            { p with
              backlog := satAdd 0xFFFFFFFF p.backlog 1
              episode := true
              moved := true
              satEp := sat })).showPout
          let s := if ep then s else s.raise 0x35 1 0
          if sat && !p.satEp then s.raise 0x35 4 0 else s
    | _, _ => s

/-- POUT_PULSE_END on output k (R366): the pulse's width has elapsed. -/
def Block.poutEnd (s : Block) (k : Nat) : Block := match (s.pulse k).pulseEnd with
  | none => s
  | some t =>
    if s.time.mono + s.time.pickLen ≤ t then s
    else ((s.atClk t).modPulse k (fun p => { p with pulseEnd := none })).pulseDrain k

end Sys2Proof.Machine
end

