-- ==== Sys2Proof/Machine/Quality.lean ====
section
/-! DEFINITION. Power quality (R229 to R259): P05 PQEV, P03 HARM, P04 SUPRA and P08 CAPTURE. -/

namespace Sys2Proof.Machine

def Block.modPq (s : Block) (f : Pq → Pq) : Block := { s with pq := f s.pq }

/-- Field checks of the PQ page (R253, R255, R258), detector 6. -/
def pqRules : List FieldRule := [
  ⟨0x40, 0x40, 22, 16, fun v => 1 ≤ v, 6⟩,
  ⟨0x5C, 0x5C, 27, 20, fun v => 1 ≤ v, 6⟩,
  ⟨0x5C, 0x5C, 5, 4, fun v => v ≤ 2, 6⟩,
  ⟨0x64, 0x64, 15, 0, fun v => 1 ≤ v && v ≤ 32767, 6⟩,
  ⟨0x68, 0x68, 29, 20, fun v => 4 ≤ v && v ≤ 512, 6⟩,
  ⟨0x68, 0x68, 9, 0, fun v => v == 0, 6⟩]

/-- Words of which two fields exclude each other (R254, R255): the whole write is rejected. -/
def pqWordOk (o : Nat) (v : Word) : Bool :=
  match o with
  | 0x48 => !(v.bit 0 && v.bits 19 16 == 0)
  | 0x5C => !(v.bit 2 && !v.bit 3)
  | _ => true

/-- The engine whose schedule holds a program (R180). -/
def Block.progEngine (s : Block) (p : Nat) : Option Nat :=
  (List.range 16).find? (fun e => match s.schedImage e with
    | some i => s.hasTask e && (i.prog0 == p || i.prog1 == p)
    | none => false)
def Block.progArg (s : Block) (e : Nat) : Nat := s.getN (pg (mePage e) 0x44)

/-! ### Capture layout (R242, R244, R255) -/

def slotsOf (capCfg : Word) : Nat := 2 ^ capCfg.bits 5 4
def slotSize (capCfg buf : Word) : Nat := buf.bits 29 20 * 1024 / slotsOf capCfg
def bitsIn (n mask : Nat) : List Nat := (List.range n).filter (fun k => (BitVec.ofNat n mask).getLsbD k)

/-- Channels and streams a capture takes: P08's mask, and the streams of CAP_WB that its engine subscribes to. -/
def Block.capMask (s : Block) : Nat := match s.progEngine 8 with
  | some e => s.progArg e % 65536
  | none => 0
def Block.capStreams (s : Block) (trig : Word) : Nat := match s.progEngine 8 with
  | some e => trig.bits 31 24 &&& s.fld (subReg e) 31 24
  | none => 0

/-- Length of a capture (R244). -/
def capLen (nch nwb pre post preB postB : Nat) : Nat := 64 + nch * (pre + post) * 4096 + nwb * (preB + postB) * 10256

/-- A PQ commit is admitted (R255, R258), words read through a function from offsets. -/
def Block.pqOk (s : Block) (w : Nat → Word) : Bool :=
  let f (o : Nat) : Rat := f32 (w o)
  let th := decide (0 < f 0x54) && decide (f 0x54 + f 0x58 < f 0x4C) && decide (f 0x4C < 1) && decide (1 < f 0x50) && decide (f 0x50 ≤ 2)
    && decide (0 < f 0x58) && decide (f 0x58 ≤ 1 / 10)
    && [0x4C, 0x50, 0x54, 0x58].all (fun o => (f32val (w o)).isSome)
  let busy := s.pq.cap.isSome || !s.pq.held.isEmpty
  let c := w 0x5C
  let b := w 0x68
  let wb := if c.bits 15 8 = 0 then 0 else (bitsIn 8 (s.capStreams (w 0x60))).length
  let len := capLen (bitsIn 16 s.capMask).length wb (c.bits 31 28) (c.bits 27 20) (c.bits 19 16) (c.bits 15 8)
  th && decide (len ≤ slotSize c b) && decide (b.bits 19 0 + b.bits 29 20 * 1024 ≤ 0x80000)
    && !(busy && (c.bits 5 4 ≠ s.fld (pg 0x33 0x5C) 5 4 || b ≠ s.getR (pg 0x33 0x68)))

def Block.slotAddr (s : Block) (slot : Nat) : Nat :=
  0x100000 + s.fld (pg 0x33 0x68) 19 0 + slot * slotSize (s.getR (pg 0x33 0x5C)) (s.getR (pg 0x33 0x68))

/-- Slots whose copy waits in the staging buffer or is being written (R258). -/
def Block.copying (s : Block) : List Nat := (s.logStream 4).staged.filterMap (fun r => match r.src with
  | .capture k => some k
  | _ => none)

def maskOf (l : List Nat) : Nat := l.eraseDups.foldl (fun n k => n + 2 ^ k) 0

/-- CAP_STAT (R258). -/
def Block.capStat (s : Block) : Nat :=
  maskOf (s.pq.held.map (·.1)) * 2 ^ 28 + maskOf s.copying * 2 ^ 24 + (match s.pq.armed with
    | some a => a.1 * 4 + 2
    | none => 0) + b2n s.pq.cap.isSome

/-- Event evaluation and capture are enabled (R251). -/
def Block.pqOn (s : Block) : Bool := s.pageState 0x33 == psRun && s.pwr.st == .run

/-- A free slot is armed where none is (R242). -/
def Block.capArm (s : Block) : Block :=
  if s.pq.armed.isSome || !s.pqOn || !s.progRuns 8 then s
  else
    let used := s.pq.held.map (·.1) ++ (match s.pq.cap with
      | some c => [c.slot]
      | none => [])
    match (List.range (slotsOf (s.getR (pg 0x33 0x5C)))).find? (fun k => !used.contains k) with
    | some k => s.modPq (fun p => { p with armed := some (k, s.absPick) })
    | none => s

/-- An event of the page with the stamp of the entry it announces (R250). -/
def Block.pqEvent (s : Block) (d stamp : Nat) (exit inj : Bool) : Block :=
  s.raiseAt 0x33 d 0 exit inj stamp

/-- The trigger lies in a block that starts at a stamp: 5,120 samples of 96 clock periods at the present pick length. -/
def Block.inBlock (s : Block) (start trig : Nat) : Bool :=
  decide (start ≤ trig) && decide (trig < start + 491520 * 64 / max 1 s.time.pickLen)

/-- Slots neither filling nor held (R245). -/
def Block.freeSlots (s : Block) : List Nat :=
  let used := s.pq.held.map (·.1) ++ (match s.pq.cap with
    | some c => [c.slot]
    | none => [])
  (List.range (slotsOf (s.getR (pg 0x33 0x5C)))).filter (fun k => !used.contains k)

/-- A trigger (R243): the armed slot takes it, a filling capture counts it; it is lost where no slot is free. -/
def Block.capTrigger (s : Block) (code stamp abs rtc evId : Nat) (inj : Bool) : Block :=
  if !s.pqOn then s
  else match s.pq.cap, s.pq.armed with
    | some c, _ => s.modPq (fun p => { p with cap := some { c with extra := satAdd 255 c.extra 1 } })
    | none, some a =>
      let c := s.getR (pg 0x33 0x5C)
      let sm := s.capStreams (s.getR (pg 0x33 0x60))
      let from_ := max ((a.2 + 1023) / 1024) (abs / 1024 - c.bits 31 28)
      let pre := abs / 1024 - min (abs / 1024) from_
      let before (k : Nat) : Nat :=
        let l := (nth [] s.pq.blks k).filter (fun b => decide (b.2.1 ≤ stamp) && decide (a.2 ≤ b.2.1 / 65536 * 1024 + b.2.1 / 64 % 1024))
        match l.head? with
        | some b => if s.inBlock b.2.1 stamp then l.length - 1 else l.length
        | none => 0
      let preB := if c.bits 15 8 = 0 then 0 else (bitsIn 8 sm).foldl (fun n k => min n (before k)) (c.bits 19 16)
      let id := s.pq.capId + 1
      let s := s.modPq (fun p =>
        { p with
          capId := id
          armed := none
          cap := some ⟨id, a.1, code, stamp, abs, rtc, evId, inj, s.capMask, if c.bits 15 8 = 0 then 0 else sm, pre, c.bits 27 20, preB,
            c.bits 15 8, 0, false, 0, [], false⟩ })
      s.capArm
    | none, none => if s.freeSlots.isEmpty then (s.bump (pg 0x33 0x74) 15 0 1).raiseX 0x33 5 0 false inj else s

/-- Entry to overload of a channel (CHn detector 2) triggers a capture where CAP_TRIG says so (R243, code 5). -/
def Block.overloadTrigger (s : Block) (p : Nat) (inj : Bool) : Block :=
  if 0x07 ≤ p && p ≤ 0x16 && s.rbit (pg 0x33 0x60) 4 && (bitsIn 16 s.capMask).contains (p - 0x07) then
    s.capTrigger 5 (mkStamp s.time.cycle s.time.pick 0) s.absPick s.rtcNow 0 inj
  else s

/-- OVERLOAD_ENTRY: the modulator is held and reported (R81), and the entry event may trigger a capture. -/
def Block.overloadTaken (s : Block) (m : Nat) (pos : Bool) : Block :=
  if (s.mod m).ovlHeld.isSome && !(s.mod m).ovlInj || 16 < m then s
  else (s.overloadEntry m pos).overloadTrigger (s.ovlPage m).1 false

/-- Words of a channel in a cycle, as stored: 4,096 bytes. -/
def Block.capWords (s : Block) (n c : Nat) : List Byte :=
  ((((s.window n c 1024).map (fun h => h.word.toBytes)).flatten) ++ List.replicate 4096 0#8).take 4096

/-- Bytes of a slot that lie within it are stored (R244). -/
def Block.capPut (s : Block) (slot ofs : Nat) (l : List Byte) : Block :=
  s.sramPut (s.slotAddr slot + ofs) (l.take (slotSize (s.getR (pg 0x33 0x5C)) (s.getR (pg 0x33 0x68)) - ofs))

def Capture.len (c : Capture) : Nat :=
  capLen (bitsIn 16 c.mask).length (bitsIn 8 c.smask).length c.pre c.post c.preB c.postB

/-- The blocks of a stream that a capture still lacks and that are at hand: position in its array, and bytes. -/
def Block.capBlocks (s : Block) (c : Capture) (k : Nat) : List (Nat × List Byte) :=
  let l := (nth [] s.pq.blks k).reverse
  let later := l.any (fun b => decide (c.stamp < b.2.1))
  match ((l.filter (fun b => decide (b.2.1 ≤ c.stamp) && (later || s.inBlock b.2.1 c.stamp))).getLast?), Sparse.get 0 k c.blocks with
  | some j, done => (l.filterMap (fun b =>
      let pos := b.1 + c.preB - j.1
      if j.1 ≤ b.1 + c.preB && decide (done ≤ pos) && decide (pos < c.preB + c.postB) then some (pos, b.2.2) else none))
  | none, _ => []

/-- The filling capture takes what is at hand (R244): header, words of whole cycles, blocks. -/
def Block.capFill (s : Block) : Block := match s.pq.cap with
  | none => s
  | some c =>
    let chs := bitsIn 16 c.mask
    let first := c.abs / 1024 - c.pre
    let total := c.pre + c.post
    let whole (n : Nat) : Nat := (((nth [] s.hist n).head?.map (fun h => (h.pick + 1) / 1024)).getD 0) - first
    let have_ := chs.foldl (fun a n => min a (whole n)) (min total (s.time.cycle - first))
    let s := forEach (List.range total) (fun i s =>
      if c.cycles ≤ i && i < have_ then
        forEach (List.range chs.length) (fun k s =>
          s.capPut c.slot (64 + (k * total + i) * 4096) (s.capWords (nth 0 chs k) (first + i))) s
      else s) s
    let sms := bitsIn 8 c.smask
    let base := 64 + chs.length * total * 4096
    let s := forEach (List.range sms.length) (fun q s =>
      forEach (s.capBlocks c (nth 0 sms q)) (fun b s =>
        s.capPut c.slot (base + (q * (c.preB + c.postB) + b.1) * 10256) b.2) s) s
    let blocks := sms.foldl (fun l k =>
      Sparse.put k ((s.capBlocks c k).foldl (fun n b => max n (b.1 + 1)) (Sparse.get 0 k c.blocks)) l) c.blocks
    s.modPq (fun p => { p with cap := some { c with cycles := max c.cycles have_, blocks := blocks } })

/-- The last word and the last block are in the slot, or the capture was aborted (R245, R251). -/
def Capture.complete (c : Capture) : Bool :=
  c.aborted || (c.cycles == c.pre + c.post && (bitsIn 8 c.smask).all (fun k => Sparse.get 0 k c.blocks == c.preB + c.postB))

/-- Entries of RING8 come from P08's engine. -/
def Block.put8 (s : Block) (c : Capture) (type : Nat) (body : List Byte) : Block := match s.progEngine 8 with
  | some e => s.mergePut 8 e c.stamp [⟨type, c.stamp, if c.inj then fInj else 0, s.genOf e, body⟩]
  | none => s

/-- CAP_START of a trigger taken (R249), once. -/
def Block.capStart (s : Block) : Block := match s.pq.cap with
  | none => s
  | some c => if c.started then s
      else (s.put8 c 0x0801 (leBytes 4 c.id ++ leBytes 1 c.slot ++ leBytes 1 c.code ++ [0#8, 0#8] ++ leBytes 8 c.rtc ++ leBytes 4 c.evId
        ++ List.replicate 12 0#8)).modPq (fun p => { p with cap := some { c with started := true } })

/-- P08's slot (R243, R249): CAP_START of a trigger taken, then what is at hand. -/
def Block.runCapture (s : Block) : Block := s.capArm.capStart.capFill

/-- P08's BLOCK task (R243): the block joins the history of its stream; a level trigger is its first sample at the level. -/
def Block.runCapBlock (s : Block) (k : Nat) : Block :=
  match (s.stream k).blocks.head? with
  | none => s
  | some b =>
    let stamp := leNat ((b.drop 4).take 8)
    let s := s.modPq (fun p => { p with blks := modNth p.blks k (fun l => ((leNat (b.take 4), stamp, b) :: l).take 18) })
    let t := s.getR (pg 0x33 0x60)
    let lvl := s.fld (pg 0x33 0x64) 15 0
    let s := if t.bit 5 && (BitVec.ofNat 8 (t.bits 23 16)).getLsbD k then
        match (List.range 5120).find? (fun i => decide (lvl ≤ (signedOf 16 (leNat ((b.drop (16 + 2 * i)).take 2))).natAbs)) with
        | none => s
        | some i =>
          let len := max 1 s.time.pickLen
          let clk := stamp % 64 * len / 64 + 96 * i
          let p := stamp / 65536 * 1024 + stamp / 64 % 1024 + clk / len
          let ago := (s.absPick - p) * len
          s.capTrigger 6 (mkStamp (p / 1024) (p % 1024) (64 * (clk % len) / len)) p ((s.time.rtcClk - ago + clk % len) / rtcStep) 0 false
      else s
    s.capFill

/-- A slot becomes free (R245); CAP_BUF and SLOTS kept over a soft reset return once the last one is (R251). -/
def Block.capFree (s : Block) (slot : Nat) : Block :=
  let s := s.modPq (fun p => { p with held := p.held.filter (fun h => h.1 ≠ slot) })
  if s.pq.held.isEmpty && s.episodes.contains 0x33FF then
    let s := (s.endEpisode 0x33FF).setR (pg 0x33 0x68) (regReset (pg 0x33 0x68))
    (s.setF (pg 0x33 0x5C) 5 4 ((regReset (pg 0x33 0x5C)).bits 5 4)).capArm
  else s.capArm

/-- CAP_DONE (R245, R249): the slot is complete and P08 writes its entry; the copy to the log starts (R457). -/
def Block.capDone (s : Block) : Block := match s.pq.cap with
  | none => s
  | some c =>
    if !c.complete || !c.started || (s.pwr.st != .run && !c.aborted) then s
    else
      let size := slotSize (s.getR (pg 0x33 0x5C)) (s.getR (pg 0x33 0x68))
      let stored := min c.len size
      let status := if c.aborted then 2 else if size < c.len then 1 else 0
      let hdr := leBytes 4 c.id ++ leBytes 8 c.stamp ++ leBytes 8 c.rtc ++ leBytes 2 c.mask ++ leBytes 1 c.smask ++ leBytes 1 status
        ++ leBytes 1 c.pre ++ leBytes 1 c.post ++ leBytes 1 c.preB ++ leBytes 1 c.postB ++ leBytes 8 (mkStamp (c.abs / 1024 - c.pre) 0 0)
        ++ List.replicate 28 0#8
      let s := s.capPut c.slot 0 hdr
      let s := s.pqEvent 4 c.stamp false c.inj
      let s := s.put8 c 0x0802 (leBytes 4 c.id ++ leBytes 1 c.slot ++ leBytes 1 status ++ leBytes 1 c.extra ++ [0#8]
        ++ leBytes 4 (s.slotAddr c.slot) ++ leBytes 4 stored ++ leBytes 2 c.mask ++ leBytes 1 c.smask ++ [0#8]
        ++ leBytes 1 c.pre ++ leBytes 1 c.post ++ leBytes 1 c.preB ++ leBytes 1 c.postB ++ List.replicate 24 0#8)
      let s := (s.bump (pg 0x33 0x78) 31 0 1).modPq (fun p => { p with cap := none, held := p.held ++ [(c.slot, stored)] })
      let s := if s.rbit (pg 0x33 0x5C) 3 then
          s.stage 4 ⟨0x0801, b2n c.inj * 16, c.stamp, memRead s.sram (s.slotAddr c.slot) stored, .capture c.slot⟩
        else s
      let s := if s.pageState 0x33 = psDraining then s.setPageState 0x33 psOff else s
      s.capArm

/-- CAPTURE_COPY_DONE (R245): a copy has been written; with AUTOREL its slot is free. -/
def Block.capCopied (s : Block) : Block := match s.pq.copied with
  | [] => s
  | k :: rest =>
    let s := s.modPq (fun p => { p with copied := rest })
    if s.rbit (pg 0x33 0x5C) 2 then s.capFree k else s

/-- A stored copy is complete (R245). -/
def Block.capWritten (s : Block) (slot : Nat) : Block := s.modPq (fun p => { p with copied := p.copied ++ [slot] })

/-- CAP_CMD (R257). -/
def Block.capCmdTrigger (s : Block) : Block := s.capTrigger 7 s.stampNow s.absPick s.rtcNow 0 false
def Block.capCmdRelease (s : Block) (slot : Nat) : Block :=
  let filling := match s.pq.cap with
    | some c => c.slot == slot
    | none => false
  if slotsOf (s.getR (pg 0x33 0x5C)) ≤ slot || filling then s.raise 0x33 6 0 else s.capFree slot

/-! ### P05 PQEV: half-cycle values and events (R229, R233 to R235) -/

/-- Words of slot n from absolute pick lo on, 1,024 of them. -/
def Block.halfWords (s : Block) (n lo len : Nat) : List HistWord :=
  ((nth [] s.hist n).filter (fun h => decide (lo ≤ h.pick) && decide (h.pick < lo + len))).reverse

/-- The marks of words: a cause of 1 to 6, cause 7, SPARE, INJ. -/
def wordMarks (l : List HistWord) : Bool × Bool × Bool × Bool :=
  (l.any (fun h => decide (1 ≤ h.word.bits 3 0) && decide (h.word.bits 3 0 ≤ 6)), l.any (fun h => h.word.bits 3 0 == 7),
    l.any (fun h => h.word.bit 5), l.any (fun h => h.word.bit 4))

/-- Header flags of marks. -/
def markFlags (m : Bool × Bool × Bool × Bool) (early : Bool) : Nat :=
  (if m.1 || m.2.1 || early then fInvalid else 0) + (if m.2.2.1 then fSpare else 0) + (if m.2.2.2 then fInj else 0)

/-- Where P05's entries of a stamp gather before they are written (R246). -/
structure PqOut where
  st : Block
  es : List Entry

def words4 (l : List Rat) : List Byte := ((List.range 4).map (fun k => (f32of (nth 0 l k)).toBytes)).flatten

/-- An EV_START or EV_END entry (R246). -/
def Block.pqEntry (s : Block) (e : Nat) (v : PqEvent) (ends : Bool) (stamp dur : Nat) : Entry :=
  ⟨if ends then 0x0511 else 0x0510, stamp,
    (if v.inval then fInvalid else 0) + (if v.spare then fSpare else 0) + (if v.inj || v.injWords then fInj else 0), s.genOf e,
    leBytes 4 v.id ++ leBytes 1 v.kind ++ leBytes 1 v.chans ++ leBytes 2 v.flags ++ leBytes 8 v.rtc ++ leBytes 8 dur
      ++ (f32of v.ext).toBytes ++ leBytes 1 v.extCh ++ [0#8, 0#8, 0#8] ++ words4 v.exts ++ leBytes 8 v.start ++ List.replicate 8 0#8⟩

/-- EV_STAT shows the open events (R258). -/
def Block.showEvs (s : Block) : Block := s.setN (pg 0x33 0x7C) (maskOf (s.pq.evs.map (fun v => v.kind - 1)))

/-- The capture trigger of a start or an end (R243). -/
def Block.evTrigger (s : Block) (v : PqEvent) (ends : Bool) (stamp rtc : Nat) : Block :=
  let t := s.getR (pg 0x33 0x60)
  let abs := stamp / 65536 * 1024 + stamp / 64 % 1024
  if t.bit (v.kind - 1) && (!ends || t.bit 3) then s.capTrigger (if ends then 4 else v.kind) stamp abs rtc v.id v.inj else s

/-- An event ends (R234): its entry, its detector event, its trigger. now: stamp, mono clock, RTC of the ending value. -/
def PqOut.finish (o : PqOut) (e : Nat) (v : PqEvent) (now : Nat × Nat × Nat) : PqOut :=
  let dur := (roundAny (((now.2.1 - v.clk : Nat) : Rat) * 15625 / 1536000)).toNat
  let s := o.st.modPq (fun p => { p with evs := p.evs.filter (fun x => x.id ≠ v.id), injEnd := p.injEnd.filter (fun x => x.id ≠ v.id) })
  let s := s.pqEvent v.kind now.1 true v.inj
  ⟨(s.evTrigger v true now.1 now.2.2).showEvs, o.es ++ [s.pqEntry e v true now.1 dur]⟩

/-- An event starts (R233, R234). -/
def PqOut.begin_ (o : PqOut) (e : Nat) (v : PqEvent) : PqOut :=
  let s := o.st.setN (pg 0x33 0x80) (v.id % 2 ^ 32)
  let s := if v.inj then s else s.bump (pg 0x33 (0x80 + 4 * v.kind)) 31 0 1
  let s := if v.inj then s.modPq (fun p => { p with injEnd := p.injEnd ++ [v] }) else s.modPq (fun p => { p with evs := p.evs ++ [v] })
  let s := s.pqEvent v.kind v.start false v.inj
  ⟨(s.evTrigger v false v.start v.rtc).showEvs, o.es ++ [s.pqEntry e v false v.start 0]⟩

/-- The settings as they stand (R233). -/
def Block.evSetNow (s : Block) : EvSet :=
  let th (o : Nat) : Rat := f32 (s.getR (pg 0x33 o)) * s.udin
  ⟨bitsIn 4 (s.fld (pg 0x33 0x48) 19 16), th 0x4C, th 0x50, th 0x54, th 0x58⟩

/-- The settings for the value that closes at a pick: those before the commits of that pick (R234). -/
def Block.evSetAt (s : Block) (closeAbs : Nat) : EvSet := match s.pq.evSets.find? (fun x => x.1 = closeAbs) with
  | some x => x.2
  | none => s.evSetNow

/-- Channels beyond the threshold of a kind, and whether the kind's condition to start, and to end, holds (R233). -/
def EvSet.starts (g : EvSet) (kind : Nat) (u : List Rat) : List Nat × Bool :=
  let v (k : Nat) : Rat := nth 0 u k
  match kind with
  | 1 => let l := g.sel.filter (fun k => decide (v k < g.dip)); (l, !l.isEmpty)
  | 2 => let l := g.sel.filter (fun k => decide (g.swell < v k)); (l, !l.isEmpty)
  | _ => let l := g.sel.filter (fun k => decide (v k < g.int)); (l, l.length == g.sel.length && !g.sel.isEmpty)
def EvSet.ends (g : EvSet) (kind : Nat) (u : List Rat) : Bool :=
  let v (k : Nat) : Rat := nth 0 u k
  match kind with
  | 1 => g.sel.all (fun k => decide (g.dip + g.hyst ≤ v k))
  | 2 => g.sel.all (fun k => decide (v k ≤ g.swell - g.hyst))
  | _ => g.sel.any (fun k => decide (g.int + g.hyst ≤ v k))

/-- The extreme of selected channels: lowest for dips and interruptions, highest for swells, with its channel. -/
def extremeOf (kind : Nat) (sel : List Nat) (u : List Rat) : Rat × Nat :=
  match sel with
  | [] => (0, 0)
  | k :: t => t.foldl (fun (b : Rat × Nat) j =>
      let x := nth 0 u j
      if (if kind = 2 then decide (b.1 < x) else decide (x < b.1)) then (x, j) else b) (nth 0 u k, k)

/-- A new event of a kind at a value. -/
def EvSet.event (g : EvSet) (kind id : Nat) (u : List Rat) (now : Nat × Nat × Nat) (flags : Nat) (m : Bool × Bool × Bool × Bool) (inj : Bool) : PqEvent :=
  let sel := g.sel
  let x := extremeOf kind sel u
  ⟨kind, id, now.1, now.2.1, now.2.2, maskOf (g.starts kind u).1, flags + 2 * b2n m.2.1, x.1, x.2,
    (List.range 4).map (fun k => if sel.contains k then nth 0 u k else 0), sel, m.1 || m.2.1, m.2.2.1, inj, m.2.2.2⟩

/-- The words of a further value lie within an open event (R172, R235). -/
def PqEvent.marked (v : PqEvent) (m : Bool × Bool × Bool × Bool) : PqEvent :=
  { v with
    flags := v.flags ||| (2 * b2n m.2.1)
    inval := v.inval || m.1 || m.2.1
    spare := v.spare || m.2.2.1
    injWords := v.injWords || m.2.2.2 }

/-- An open event over a further value (R234). A channel that a commit has added has its own extreme from its first value on. -/
def EvSet.grow (g : EvSet) (u : List Rat) (v : PqEvent) : PqEvent :=
  let sel := g.sel
  let pick (a b : Rat) : Rat := if v.kind = 2 then max a b else min a b
  let x := extremeOf v.kind sel u
  let better := if v.kind = 2 then decide (v.ext < x.1) else decide (x.1 < v.ext)
  { v with
    chans := v.chans ||| maskOf (g.starts v.kind u).1
    ext := if better then x.1 else v.ext
    extCh := if better then x.2 else v.extCh
    exts := (List.range 4).map (fun k =>
      if !sel.contains k then nth 0 v.exts k
      else if v.seen.contains k then pick (nth 0 v.exts k) (nth 0 u k)
      else nth 0 u k)
    seen := v.seen ++ sel.filter (fun k => !v.seen.contains k) }

/-- One half-cycle value closing at now (R229, R233, R235). -/
def Block.pqHalf (s : Block) (e closeAbs : Nat) (now : Nat × Nat × Nat) : PqOut :=
  let ws := (List.range 4).map (fun n => s.halfWords n (closeAbs - 1024) 1024)
  let u := ws.map (fun l => rmsOf 1024 (l.map primary))
  let g := s.evSetAt closeAbs
  let w := wordMarks ((g.sel.map (fun k => nth [] ws k)).flatten)
  let m := (w.1 || decide (closeAbs - 1024 < (s.engine e).validFrom), w.2)
  let s := forEach (List.range 4) (fun n s => s.setR (pg 0x33 (0x90 + 4 * n)) (f32of (nth 0 u n))) s
  let s := s.modPq (fun p => { p with last := now, cycFlag := p.cycFlag || !p.evs.isEmpty })
  let s := s.modPq (fun p => { p with evs := p.evs.map (fun v => v.marked m) })
  let o := s.pq.injEnd.foldl (fun (o : PqOut) v => o.finish e v now) ⟨s, []⟩
  let live := s.rbit (pg 0x33 0x48) 0 && s.rbit (pg 0x33 0x04) 0 && s.warp.everLocked
  if s.pq.trunc || !live then
    let o := s.pq.evs.foldl (fun o v => o.finish e { v with flags := v.flags ||| 1 } now) o
    ⟨o.st.modPq (fun p => { p with trunc := false }), o.es⟩
  else
    let order := s.pq.evs.reverse
    let o := order.foldl (fun o v => if g.ends v.kind u then o.finish e v now else o) o
    let s := o.st.modPq (fun p => { p with evs := p.evs.map (g.grow u) })
    let restarted := if s.pq.restart then 8 else 0
    let o := [1, 2, 3].foldl (fun (o : PqOut) k =>
      if !o.st.pq.evs.any (fun v => v.kind = k) && (g.starts k u).2 && !(s.pq.evs.any (fun v => v.kind = k)) then
        o.begin_ e (g.event k ((o.st.getN (pg 0x33 0x80) + 1) % 2 ^ 32) u now restarted m false)
      else o) ⟨s, o.es⟩
    ⟨o.st.modPq (fun p => { p with restart := false }), o.es⟩

/-- Every open event ends with TRUNCATED at the last value computed: LEAN entry, EV_EN = 0 (R235). -/
def Block.pqTruncate (s : Block) : Block := match s.progEngine 5 with
  | none => s.modPq (fun p => { p with evs := [] })
  | some e =>
    let o := s.pq.evs.foldl (fun (o : PqOut) v => o.finish e { v with flags := v.flags ||| 1 } s.pq.last) ⟨s, []⟩
    if o.es.isEmpty then o.st else o.st.mergePut 5 e s.pq.last.1 o.es

/-- P05 starts over: open events get no END, evaluation restarts with RESTARTED (R235). -/
def Block.pqRestart (s : Block) : Block :=
  (s.modPq (fun p =>
    { p with
      evs := []
      injEnd := []
      restart := true
      cycFlag := false
      winFlag := false
      wins := []
      freq := ⟨none, 0, 0, false, false, true⟩ })).showEvs

/-- A committed change of Udin, a threshold or VMASK marks open events (R234). -/
def Block.pqChanged (s : Block) : Block := s.modPq (fun p => { p with evs := p.evs.map (fun v => { v with flags := v.flags ||| 4 }) })

/-! ### P05: windows and frequency (R230 to R232) -/

/-- √ of a mean of squares that are given. -/
def rootMean (n : Nat) (x : Rat) : Rat := sqrtRat (x / (max 1 n : Nat))

/-- Magnitudes of the positive, negative and zero sequence of three phasors, up to a common factor (R231). -/
def sequences (v : List (Rat × Rat)) : Rat × Rat × Rat :=
  let p (k : Nat) : Rat × Rat := nth (0, 0) v k
  let a := cosSin 1 3
  let b := cosSin 2 3
  (cAbs (cAdd (p 0) (cAdd (cMul a (p 1)) (cMul b (p 2)))), cAbs (cAdd (p 0) (cAdd (cMul b (p 1)) (cMul a (p 2)))),
    cAbs (cAdd (p 0) (cAdd (p 1) (p 2))))

/-- A PQW or PQ150 entry (R246). -/
def Block.pqwEntry (s : Block) (e type stamp : Nat) (u : List Rat) (u2 u0 : Rat) (flag : Bool) (flags : Nat) : Entry :=
  ⟨type, stamp, flags, s.genOf e,
    words4 u ++ (f32of u2).toBytes ++ (f32of u0).toBytes ++ leBytes 4 (b2n flag) ++ [0#8, 0#8, 0#8, 0#8]⟩

/-- The window and the 150/180-cycle values that close at c.0 (R230, R231). -/
def PqOut.window (o : PqOut) (e : Nat) : PqOut :=
  let s := o.st
  let c := s.time.cycle
  let w := s.winLen
  let s := s.modPq (fun p => { p with winFlag := p.winFlag || p.cycFlag, cycFlag := false })
  if c % w ≠ 0 || c < w then ⟨s, o.es⟩
  else
    let stamp := mkStamp c 0 0
    let lo := (c - w) * 1024
    let ws := (List.range 4).map (fun n => s.halfWords n lo (w * 1024))
    let xs := ws.map (fun l => l.map primary)
    let u := xs.map (fun x => rmsOf (w * 1024) x)
    let sq3 := sequences ((List.range 3).map (fun k => phasor (w * 1024) w (nth [] xs k)))
    let ratio (x : Rat) : Rat := if sq3.1 = 0 then 0 else x / sq3.1
    let u2 := ratio sq3.2.1
    let u0 := ratio sq3.2.2
    let m := wordMarks ws.flatten
    let early := decide (lo < (s.engine e).validFrom)
    let flags := markFlags m early
    let inval := decide (flags / 4 % 2 = 1)
    let flag := s.pq.winFlag
    let s := forEach (List.range 4) (fun n s => s.setR (pg 0x33 (0xA0 + 4 * n)) (f32of (nth 0 u n))) s
    let s := (s.setR (pg 0x33 0xC0) (f32of u2)).setR (pg 0x33 0xC4) (f32of u0)
    let s := (s.set64 (pg 0x33 0xC8) stamp).setN (pg 0x33 0xD0) (2 * b2n inval + b2n flag)
    let es := if s.rbit (pg 0x33 0x48) 8 then o.es ++ [s.pqwEntry e 0x0520 stamp u u2 u0 flag flags] else o.es
    let now : PqWin := ⟨c, w, u.map sq, u2 * u2, u0 * u0, flag, flags⟩
    let s := s.modPq (fun p => { p with winFlag := false, wins := (now :: p.wins).take 15 })
    if c % (15 * w) ≠ 0 then ⟨s, es⟩
    else
      let l := s.pq.wins.filter (fun x => x.len = w && decide (c < x.close + 15 * w))
      let u150 := (List.range 4).map (fun n => rootMean l.length (sumBy l (fun x => nth 0 x.u n)))
      let s := forEach (List.range 4) (fun n s => s.setR (pg 0x33 (0xB0 + 4 * n)) (f32of (nth 0 u150 n))) s
      let en := s.pqwEntry e 0x0521 stamp u150 (rootMean l.length (sumBy l (·.u2))) (rootMean l.length (sumBy l (·.u0))) (l.any (·.flag))
        (l.foldl (fun a x => a ||| x.flags) (if l.length < 15 then fInvalid else 0))
      ⟨s, es ++ [en]⟩

/-- FREQ10 (R232): the cycle that has ended joins its interval, good, low, or neither where none was measured (R48); a new interval closes
the old one. -/
def PqOut.freq (o : PqOut) (e : Nat) (flagged : Bool) : PqOut :=
  let s := o.st
  let f := s.pq.freq
  let no := (nth (0, 0) s.pq.at0 1).2 / 655360
  let f : PqFreq := if f.no = some no || f.no.isNone then { f with no := some no } else ⟨some no, 0, 0, false, false, false⟩
  let f : PqFreq := { f with flag := f.flag || flagged }
  let f : PqFreq := match s.warp.measured.find? (fun x => x.1 + 1 = s.time.cycle) with
    | some (_, some hz) => { f with k := f.k + 1, sum := f.sum + 1 / hz }
    | some (_, none) => { f with low := true }
    | none => f
  let next := (nth (0, 0) s.pq.at0 0).2 / 655360
  if next = no then ⟨s.modPq (fun p => { p with freq := f }), o.es⟩
  else
    let f10 := if f.k = 0 then 0 else (roundAny (10000 * ((f.k : Rat) / f.sum))).toNat
    let bits := b2n f.flag + 2 * b2n f.low
    let b := no * 655360
    let s := ((s.setN (pg 0x33 0xD4) f10).set64 (pg 0x33 0xD8) b).setN (pg 0x33 0xE0) (f.k * 65536 + 4 * b2n (f.k = 0 || f.early) + bits)
    let en : Entry := ⟨0x0522, mkStamp s.time.cycle 0 0, if f.k = 0 || f.early then fInvalid else 0, s.genOf e,
      leBytes 8 b ++ leBytes 4 f10 ++ leBytes 2 f.k ++ leBytes 1 bits ++ [0#8]⟩
    ⟨s.modPq (fun p => { p with freq := ⟨some next, 0, 0, false, false, false⟩ }), o.es ++ [en]⟩

/-- Mono clock and RTC of the latest picks 0 and 512 (R234), noted at their strobes, with the settings of the value that closes there; at
pick 0 also W and HARM_CFG of the cycle that ends (R204, R239). All this before a commit can change it. -/
def Block.pqStrobe (s : Block) : Block :=
  let m := (s.time.mono, (s.time.rtcClk / rtcStep) % 2 ^ 64)
  let x := (if s.nominalHz = 60 then 12 else 10, s.getR (pg 0x33 0x40))
  let s := if s.time.pick % 512 = 0 then s.modPq (fun p => { p with evSets := ((s.absPick, s.evSetNow) :: p.evSets).take 4 }) else s
  if s.time.pick = 0 then s.modPq (fun p => { p with at0 := (m :: p.at0).take 3, forces := (x :: p.forces).take 3 })
  else if s.time.pick = 512 then s.modPq (fun p => { p with at512 := (m :: p.at512).take 2 })
  else s

/-- P05's slot (R229 to R235, R246): startPick is the pick the slot starts at. -/
def Block.runPqev (s : Block) (e startPick : Nat) : Block :=
  let c := s.time.cycle
  if 512 ≤ startPick then
    let stamp := mkStamp c 512 0
    let o := s.pqHalf e (c * 1024 + 512) (stamp, nth (0, 0) s.pq.at512 0)
    o.st.mergePut 5 e stamp o.es
  else
    let stamp := mkStamp c 0 0
    let o := s.pqHalf e (c * 1024) (stamp, nth (0, 0) s.pq.at0 0)
    let flagged := o.st.pq.cycFlag
    let o := (o.window e).freq e flagged
    o.st.mergePut 5 e stamp o.es

/-- An injected detector 1, 2 or 3 (R259): an EV_START now, its EV_END one half cycle on. -/
def Block.pqInject (s : Block) (d : Nat) : Block :=
  if d ≤ 3 then
    match s.progEngine 5 with
    | none => s.raiseX 0x33 d 0 false true
    | some e =>
      let u := (List.range 4).map (fun n => f32 (s.getR (pg 0x33 (0x90 + 4 * n))))
      let v := s.evSetNow.event d ((s.getN (pg 0x33 0x80) + 1) % 2 ^ 32) u s.pq.last 0 (false, false, false, true) true
      let o := (⟨s, []⟩ : PqOut).begin_ e v
      o.st.mergePut 5 e s.pq.last.1 o.es
  else s.raiseX 0x33 d 0 false true

/-! ### P03 HARM (R236 to R239, R247) -/

/-- Bins 0 to 128W − 1 of a channel's window, the integrator's departure removed where SENSOR = 2 (R236, R238). -/
def Block.harmBins (s : Block) (n w : Nat) (x : List Rat) : List (Rat × Rat) :=
  let len := w * 1024
  let integ := s.fld (pg (chPage n) 0x40) 6 4 == 2
  (List.range (128 * w)).map (fun m =>
    if m = 0 then (meanOf len (x.foldl (· + ·) 0), 0)
    else
      let b := phasor len m x
      let k : Rat := if integ then tanOf m len / (((m : Rat) / (max 1 w : Nat)) * tanPick) else 1
      (b.1 * k, b.2 * k))

def magSq (x : Rat × Rat) : Rat := x.1 * x.1 + x.2 * x.2

/-- Σ c² of bins Wh + i, i from a to b. -/
def binSum (bins : List (Rat × Rat)) (w h : Nat) (a b : Int) : Rat :=
  (List.range (b - a + 1).toNat).foldl (fun (acc : Rat) (i : Nat) =>
    let m : Int := (w * h : Nat) + a + (i : Int)
    if m < 0 then acc else acc + magSq (nth (0, 0) bins m.toNat)) 0

/-- G, SG, IG, ISG and PH of an order (R237). -/
def harmOrder (bins : List (Rat × Rat)) (w h : Nat) : List Rat :=
  let half : Int := (w / 2 : Nat)
  let edge (i : Int) : Rat := binSum bins w h i i / 2
  let c0 := ratAbs (nth (0, 0) bins 0).1
  let g := if h = 0 then c0 else sqrtRat (edge (-half) + binSum bins w h (1 - half) (half - 1) + edge half)
  let sg := if h = 0 then c0 else sqrtRat (binSum bins w h (-1) 1)
  let ig := sqrtRat (binSum bins w h 1 ((w : Int) - 1))
  let isg := sqrtRat (binSum bins w h 2 ((w : Int) - 2))
  let ch := nth (0, 0) bins (w * h)
  let c1 := nth (0, 0) bins w
  let raw := argDeg ch.1 ch.2 - (h : Rat) * argDeg c1.1 c1.2
  let ph := if h = 0 || magSq ch = 0 || magSq c1 = 0 then 0 else raw - 360 * ((((raw - 180) / 360).ceil : Int) : Rat)
  [g, sg, ig, isg, ph]

/-- One channel's window closing at c.0: THD and H1, and its RING6 entry (R237, R239, R247). -/
def Block.harmChannel (s : Block) (e n : Nat) : Block × Entry :=
  let c := s.time.cycle
  let w := s.winLen
  let lo := (c - w) * 1024
  let l := s.halfWords n lo (w * 1024)
  let bins := s.harmBins n w (l.map primary)
  let ords := (List.range 128).map (harmOrder bins w)
  let g (h : Nat) : Rat := nth 0 (nth [] ords h) 0
  let thd := if g 1 = 0 then 0 else sqrtRat (((List.range 39).map (fun i => sq (g (i + 2)))).foldl (· + ·) 0) / g 1
  let cfg := (s.pq.forces.head?.map (·.2)).getD (s.getR (pg 0x33 0x40))
  let hmax := cfg.bits 22 16
  let content := cfg.bits 4 0
  let block (k : Nat) : List Byte :=
    let raw := ((List.range (hmax + 1)).map (fun h => (f32of (nth 0 (nth [] ords h) k)).toBytes)).flatten
    (raw ++ List.replicate 16 0#8).take ((hmax + 1 + 3) / 4 * 16)
  let body := leBytes 1 n ++ leBytes 1 w ++ leBytes 1 hmax ++ leBytes 1 content ++ (f32of thd).toBytes ++ (f32of (nth (0, 0) bins 0).1).toBytes
    ++ leBytes 4 (b2n (s.fld (pg (chPage n) 0x40) 6 4 == 2)) ++ ((bitsIn 5 content).map block).flatten
  let s := (s.setR (pg 0x33 (0x100 + 4 * n)) (f32of thd)).setR (pg 0x33 (0x140 + 4 * n)) (f32of (g 1))
  (s, ⟨0x0601, mkStamp c 0 0, markFlags (wordMarks l) (decide (lo < (s.engine e).validFrom)), s.genOf e, body⟩)

/-- P03's slot on engine schedule e (R239): entries where a window closes; the window in progress at a change of NOMINAL is placeheld. -/
def Block.runHarm (s : Block) (e : Nat) : Block :=
  let c := s.time.cycle
  let w := s.winLen
  let stamp := mkStamp c 0 0
  if c % w ≠ 0 || c < w then s.mergePut 6 e stamp []
  else if c - w < s.pq.nomCycle && decide (s.pq.nomCycle < c) then s.mergePut 6 e stamp [⟨0xFFFF, stamp, fInvalid, s.genOf e, []⟩]
  else
    let r := (bitsIn 16 (s.progArg e % 65536)).foldl (fun (acc : Block × List Entry) n =>
      let x := acc.1.harmChannel e n
      (x.1, acc.2 ++ [x.2])) (s, [])
    r.1.mergePut 6 e stamp r.2

/-! ### P04 SUPRA (R240, R241, R248) -/

/-- The high-pass of R240, section by section from i on: its output, and two state values each. -/
def highPassStep : Nat → Nat → List Rat → Rat → Rat × List Rat
  | 0, _, _, x => (x, [])
  | n + 1, i, st, x =>
    let k := Config.highPass i 0
    let y := k * x + nth 0 st 0
    let r := highPassStep n (i + 1) (st.drop 2) y
    (r.1, (nth 0 st 1 - 2 * k * x - Config.highPass i 1 * y) :: (k * x - Config.highPass i 2 * y) :: r.2)

/-- Its gain at a frequency in hertz, at 1.024 MS/s. -/
def highPassGain (f : Nat) : Rat :=
  let z := cosSin (1024000 - f % 1024000) 1024000
  let z2 := cMul z z
  (List.range 4).foldl (fun (g : Rat) i =>
    let k := Config.highPass i 0
    let num := (k * (1 - 2 * z.1 + z2.1), k * (z2.2 - 2 * z.2))
    let den := (1 + Config.highPass i 1 * z.1 + Config.highPass i 2 * z2.1, Config.highPass i 1 * z.2 + Config.highPass i 2 * z2.2)
    g * cAbs (cDiv num den)) 1

/-- The channel whose settings a block's source modulator runs under (R240); none for SP on its own. -/
def Block.supraChannel (s : Block) (src : Nat) : Option Nat := if s.chanOf src < 16 then some (s.chanOf src) else none

/-- |C_k|² of a block for k = 10 to 749 after the high-pass, and the filter's new state (R240). -/
def Block.supraGroups (s : Block) (src gain : Nat) (filt : List Rat) (samples : List Int) : List Rat × List Rat :=
  let ch := s.supraChannel src
  let scale : Rat := match ch with
    | some n => s.fullScale n
    | none => 1 / 2 / (2 ^ (s.chCfg src).bits 2 0 : Nat)
  let k0 : Rat := scale * pow2 (8 - (gain : Int)) / (2 ^ 23 : Nat)
  let integ := match ch with
    | some n => s.fld (pg (chPage n) 0x40) 6 4 == 2
    | none => false
  let r := samples.foldl (fun (acc : List Rat × List Rat) (x : Int) =>
    let h := highPassStep 4 0 acc.2 ((((x : Int) : Rat)) * k0)
    (h.1 :: acc.1, h.2)) ([], filt)
  let y := r.1.reverse
  ((List.range 740).map (fun b =>
    let k := b + 10
    let c := phasor 5120 k y
    let d := highPassGain (200 * k)
    let f : Rat := (if d = 0 then 1 else 1 / d) * (if integ then s.nominalHz / (200 * k : Nat) else 1)
    magSq (c.1 * f, c.2 * f)), r.2)

/-- The interval began before its engine's start (R180): its first block, 5 ms each before the first one written. -/
def Block.supraEarly (s : Block) (e : Nat) (a : SupraAcc) : Bool :=
  let first := a.stamp / 65536 * 1024 + a.stamp / 64 % 1024
  decide (first < (s.engine e).validFrom + ((a.firstB - a.bseq0) * 491520 + s.time.pickLen - 1) / max 1 s.time.pickLen)

/-- An interval closes (R241, R248). -/
def Block.supraClose (s : Block) (e k : Nat) : Block :=
  let a := nth SupraAcc.empty s.pq.supra k
  if a.cnt = 0 then s
  else
    let stat := s.rbit (pg 0x33 0x44) 0
    let vals := (if stat then a.tops else a.groups.map (fun x => x / (a.cnt : Nat))).map sqrtRat
    let top := (List.range 740).foldl (fun (b : Rat × Nat) i => if b.1 < nth 0 vals i then (nth 0 vals i, i) else b) (nth 0 vals 0, 0)
    let short := decide (a.cnt < 40)
    let s := if short && !a.episode then s.pqEvent 7 a.stamp false false else s
    let s := (s.setR (pg 0x33 (0x180 + 4 * k)) (f32of top.1)).setF (pg 0x33 (0x1A0 + 4 * k)) 9 0 top.2
    let body := leBytes 1 k ++ leBytes 1 a.src ++ leBytes 1 (b2n stat) ++ leBytes 1 a.cnt ++ leBytes 4 a.bseq0
      ++ leBytes 4 (a.sflags ||| (4 * b2n short)) ++ [0#8, 0#8, 0#8, 0#8] ++ (vals.map (fun x => (f32of x).toBytes)).flatten
    let s := s.modPq (fun p => { p with supra := modNth p.supra k (fun a => { SupraAcc.empty with filt := a.filt, episode := short }) })
    s.mergePut 7 e a.stamp [⟨0x0701, a.stamp, a.flags ||| (if a.fresh || s.supraEarly e a then fInvalid else 0), s.genOf e, body⟩]

/-- P04's BLOCK task for the latest block of stream k on engine schedule e. -/
def Block.runSupra (s : Block) (e k : Nat) : Block :=
  if !(BitVec.ofNat 8 (s.progArg e)).getLsbD k then s
  else match (s.stream k).blocks.head? with
  | none => s
  | some b =>
    let bseq := leNat (b.take 4)
    let stamp := leNat ((b.drop 4).take 8)
    let fl := leNat ((b.drop 13).take 1)
    let bit (i : Nat) : Bool := (BitVec.ofNat 8 fl).getLsbD i
    let a := nth SupraAcc.empty s.pq.supra k
    let again := decide (bseq ≤ a.lastB) && decide (0 < a.cnt)
    let s := if 0 < a.cnt && (a.bseq0 / 40 ≠ bseq / 40 || again) then s.supraClose e k else s
    let a := nth SupraAcc.empty s.pq.supra k
    let samples := (List.range 5120).map (fun i => signedOf 16 (leNat ((b.drop (16 + 2 * i)).take 2)))
    let src := leNat ((b.drop 12).take 1) % 32
    let g := s.supraGroups src (leNat ((b.drop 14).take 1) / 16) (if bseq = 0 || again then [] else a.filt) samples
    let integ := match s.supraChannel src with
      | some n => s.fld (pg (chPage n) 0x40) 6 4 == 2
      | none => false
    let flags := (if bit 2 || bit 5 then fInvalid else 0) ||| (if bit 4 then fSpare else 0) ||| (if bit 0 then fInj else 0)
    let acc : SupraAcc :=
      { filt := g.2
        bseq0 := bseq / 40 * 40
        stamp := if a.cnt = 0 then stamp else a.stamp
        firstB := if a.cnt = 0 then bseq else a.firstB
        cnt := a.cnt + 1
        groups := if a.groups.isEmpty then g.1 else List.zipWith (· + ·) a.groups g.1
        tops := if a.tops.isEmpty then g.1 else List.zipWith max a.tops g.1
        sflags := ((a.sflags ||| b2n (bit 3)) ||| (2 * b2n (bit 5))) ||| (8 * b2n integ)
        flags := a.flags ||| flags
        src := src
        fresh := decide (bseq < 40)
        episode := a.episode
        lastB := bseq }
    let s := s.modPq (fun p => { p with supra := setNth p.supra k acc })
    if bseq % 40 = 39 then s.supraClose e k else s

/-! ### Disable and reset (R251) -/

/-- A filling capture ends at once with STATUS ABORTED. -/
def Block.capAbort (s : Block) : Block :=
  ((s.modPq (fun p => { p with cap := p.cap.map (fun c => { c with aborted := true }) })).capStart).capDone

/-- ENABLE of the PQ page committed. -/
def Block.pqEnable (s : Block) (on abort : Bool) : Block :=
  if on then (if s.pageState 0x33 = psOff || s.pageState 0x33 = psDraining then (s.setPageState 0x33 psRun).capArm else s)
  else if s.pageState 0x33 = psOff then s
  else
    let s := s.modPq (fun p => { p with trunc := true, armed := none })
    if abort then
      s.capAbort.setPageState 0x33 psOff
    else s.setPageState 0x33 (if s.pq.cap.isSome then psDraining else psOff)

/-- Soft reset of the PQ page: as ABORT, then the registers' reset values; CAP_BUF and SLOTS stay while a slot is held. -/
def Block.pqSoftReset (s : Block) : Block :=
  let s := (s.modPq (fun p => { p with trunc := true })).capAbort
  let keepBuf := s.getR (pg 0x33 0x68)
  let keepSlots := s.fld (pg 0x33 0x5C) 5 4
  let busy := !s.pq.held.isEmpty
  let s := forEach (List.range 96) (fun i s => s.setR (pg 0x33 (0x40 + 4 * i)) (regReset (pg 0x33 (0x40 + 4 * i)))) s
  let s := if busy then ({ s with episodes := 0x33FF :: s.episodes.filter (· ≠ 0x33FF) } : Block) else s
  let s := if busy then (s.setR (pg 0x33 0x68) keepBuf).setF (pg 0x33 0x5C) 5 4 keepSlots else s
  (s.modPq (fun p => { p with capId := 0, armed := none })).showEvs

/-- LEAN entry (R235, R520): open events end, a filling capture ends as under ABORT. -/
def Block.pqLean (s : Block) : Block := (s.pqTruncate.capAbort).modPq (fun p => { p with armed := none })

/-- HOLD entry (R245): captures are lost with the shared SRAM. -/
def Block.pqHold (s : Block) : Block :=
  s.modPq (fun p => { p with cap := none, armed := none, held := [], copied := [], evs := [] })

end Sys2Proof.Machine
end

