-- ==== Sys2Proof/Machine/Tamper.lean ====
section
/-! DEFINITION. The tamper unit (R383 to R391) and the log store's catch-up of Sheaves and tamper entries (R467). -/

namespace Sys2Proof.Machine

def Block.modTamp (s : Block) (f : Tamp → Tamp) : Block := { s with tamp := f s.tamp }

/-- Field checks (R389), detector 6. -/
def tampRules : List FieldRule := [⟨0x40, 0x40, 19, 16, fun v => 1 ≤ v && v ≤ 8, 6⟩]

/-- Base of the log in the FeRAM window (R428, R390), and the place of an entry. -/
def tampBase : Nat := 0x036C00
def tampAddr (t : Nat) : Nat := tampBase + 32 * (t % 256)
def tampHeld (t : Tamp) : Nat := t.tseq - t.freed

/-- TAMP_STAT and TSEQ (R389). ACK_RESULT keeps. -/
def Block.showTamp (s : Block) : Block :=
  let t := s.tamp
  let i (k : Nat) : TampInput := nth TampInput.reset t.inputs k
  let a := pg 0x38 0x44
  let s := ((s.setF a 24 16 (tampHeld t)).setF a 12 8 t.vbuf.length).setF a 3 0
    (8 * b2n (i 1).loop + 4 * b2n (i 0).loop + 2 * b2n (i 1).isOpen + b2n (i 0).isOpen)
  (s.setN (pg 0x38 0x5C) t.tseq).setN (pg 0x38 0x60) tampBase

/-- An event joins the vault buffer, or is counted lost beyond 16 (R384). -/
def Block.tampEvent (s : Block) (input kind : Nat) (inj : Bool) : Block :=
  let a := if kind = 1 then pg 0x38 (0x50 + 4 * input) else pg 0x38 0x58
  let s := if (kind = 1 || kind = 3) && !inj then s.bump a 15 0 1 else s
  let cnt := s.fld (if kind ≤ 2 then pg 0x38 (0x50 + 4 * input) else pg 0x38 0x58) 15 0
  let ev : TampEvent := ⟨s.rtcNow, if s.warpRuns then s.stampNow else 0, input, kind,
    b2n (s.pwr.st == .vault) + 2 * b2n inj + 4 * b2n (!s.rtcValid), 0, cnt⟩
  if s.tamp.vbuf.length < 16 then (s.modTamp (fun t => { t with vbuf := t.vbuf ++ [ev] })).showTamp
  else s.modTamp (fun t => { t with lost := satAdd 255 t.lost 1 })

/-- One input's two samples (R383). -/
def Block.tampSense (s : Block) (k : Nat) (before end_ : Bool) : Block :=
  let cfg := s.getR (pg 0x38 0x40)
  let filt := max 1 (cfg.bits 19 16)
  if !cfg.bit k then s
  else
    let i := nth TampInput.reset s.tamp.inputs k
    let run := if before == i.loopLast then min 255 (i.loopRun + 1) else 1
    let fault := if filt ≤ run then before else i.loop
    let j : TampInput := { i with loopLast := before, loopRun := run, loop := fault }
    let put (j : TampInput) (s : Block) : Block := (s.modTamp (fun t => { t with inputs := setNth t.inputs k j })).showTamp
    let s := put j s
    let s := if fault == i.loop then s else s.tampEvent k (if fault then 3 else 4) false
    if fault then put { j with swRun := 0 } s
    else
      let swRun := if end_ == i.swLast then min 255 (i.swRun + 1) else 1
      let isOpen := if filt ≤ swRun then end_ != cfg.bit (8 + k) else i.isOpen
      let s := put { j with swLast := end_, swRun := swRun, isOpen := isOpen } s
      if isOpen == i.isOpen then s else s.tampEvent k (if isOpen then 1 else 2) false

/-- TAMPER_SAMPLE: levels of the cover and of the terminal pin before and at the end of the drive pulse. -/
def Block.tampSample (s : Block) (c0 c1 t0 t1 : Bool) : Block :=
  if s.pwr.st == .off then s else (s.tampSense 0 c0 c1).tampSense 1 t0 t1

/-- The TAMPER record (R384; layout log 22): newest TSEQ, TSEQ freed up to, the counters. -/
def Block.tampRecord (s : Block) : List Byte :=
  leBytes 4 s.tamp.tseq ++ leBytes 4 s.tamp.freed ++ leBytes 2 (s.fld (pg 0x38 0x50) 15 0) ++ leBytes 2 (s.fld (pg 0x38 0x54) 15 0)
    ++ leBytes 2 (s.fld (pg 0x38 0x58) 15 0) ++ List.replicate 18 0#8
def Block.tampCommit (s : Block) : Block := s.commitRec 0x21 [s.tampRecord]

/-- A log entry's bytes (R385). -/
def TampEvent.bytes (e : TampEvent) (t : Nat) : List Byte :=
  leBytes 4 t ++ leBytes 8 e.rtc ++ leBytes 8 e.warp ++ leBytes 1 e.input ++ leBytes 1 e.kind ++ leBytes 1 e.flags ++ leBytes 1 e.lost
    ++ leBytes 4 e.cnt ++ [0#8, 0#8, 0#8, 0#8]

/-- An entry is written to the log (R384, R385): its event in RING2, its copy to the event stream. -/
def Block.tampWrite (s : Block) (e : TampEvent) : Block :=
  let t := s.tamp.tseq + 1
  let a := tampAddr t
  let s := (s.feramPut a (e.bytes t)).modTamp (fun x => { x with tseq := t })
  let d := if e.kind ≤ 2 then e.input + 1 else if e.kind ≤ 4 then 3 else 4
  let inj := decide (e.flags / 2 % 2 = 1)
  let s := s.raiseX 0x38 d 0 false inj
  (s.stage 1 ⟨0x3801, b2n inj * 16, s.stampNow, e.bytes t, .tamper a⟩).showTamp

/-- The buffer moved entry by entry while the log has room. -/
def Block.tampMoveAll (s : Block) : Nat → Block
  | 0 => s
  | fuel + 1 =>
    if 256 ≤ tampHeld s.tamp then s
    else match s.tamp.vbuf with
    | e :: rest => Block.tampMoveAll ((s.modTamp (fun t => { t with vbuf := rest })).tampWrite e) fuel
    | [] =>
      if s.tamp.lost = 0 then s
      else
        let e : TampEvent := ⟨s.rtcNow, s.stampNow, 0, 5, 4 * b2n (!s.rtcValid), s.tamp.lost, 0⟩
        (s.modTamp (fun t => { t with lost := 0 })).tampWrite e

/-- TAMPER_LOG_MOVE (R384, R386): under a write permit, in RUN and LEAN and within the start-up transfers. -/
def Block.tampMove (s : Block) : Block :=
  if s.tamp.vbuf.isEmpty && s.tamp.lost = 0 || !s.permit || s.pwr.st == .hold then s
  else
    let before := s.tamp.tseq
    let s := s.tampMoveAll 32
    let full := decide (256 ≤ tampHeld s.tamp) && (!s.tamp.vbuf.isEmpty || decide (0 < s.tamp.lost))
    let s := if full && !s.tamp.fullEp then s.raise 0x38 5 0 else s
    let s := (s.modTamp (fun t => { t with fullEp := full })).showTamp
    if s.tamp.tseq = before then s else s.tampCommit

/-- An entry carries LOGGED (R385). -/
def Block.tampLogged (s : Block) (a : Nat) : Bool := (s.feramGet (a + 22)).getLsbD 3
/-- LOGGED is set once the entry's copy has been written (R385, R467). -/
def Block.tampMark (s : Block) (a : Nat) : Block := s.feramPut (a + 22) [s.feramGet (a + 22) ||| 8#8]

/-- Entries from the oldest on that ACK may free, at most n (R386). -/
def Block.tampFree (s : Block) (locked : Bool) : Nat → Nat → Nat
  | 0, k => k
  | n + 1, k => if locked && !s.tampLogged (tampAddr (s.tamp.freed + 1 + k)) then k else s.tampFree locked n (k + 1)

/-- TAMP_CMD ACK (R386). -/
def Block.tampAck (s : Block) : Block :=
  let diff := (s.getN (pg 0x38 0x4C) + 2 ^ 32 - s.tamp.freed % 2 ^ 32) % 2 ^ 32
  let want := if diff < 2 ^ 31 then min diff (tampHeld s.tamp) else 0
  let n := s.tampFree (decide (3 ≤ s.lcState)) want 0
  let res := if n = 0 then 3 else if n < want then 2 else 1
  let s := (s.modTamp (fun t => { t with freed := t.freed + n })).showTamp
  let s := s.setF (pg 0x38 0x44) 31 30 res
  if n = 0 then s else s.tampCommit

/-- Soft reset of TAMP (R387). -/
def Block.tampSoftReset (s : Block) : Block := s.setN (pg 0x38 0x4C) 0

/-- Injection (R388). -/
def Block.tampInject (s : Block) (d : Nat) : Block :=
  match d with
  | 1 => s.tampEvent 0 1 true
  | 2 => s.tampEvent 1 1 true
  | 3 => s.tampEvent 0 3 true
  | _ => s.raiseX 0x38 d 0 false true

/-- The log found at a start (R441): what the TAMPER record says, extended by entries moved after it; counters of the vault domain
where it kept power. -/
def Block.tampLoad (s : Block) : Block :=
  let rec_ := (s.recContent 0x21).map (fun p => p.flatten)
  let n (b : List Byte) (o k : Nat) : Nat := leNat ((b.drop o).take k)
  let base := match rec_ with
    | some b => (n b 0 4, n b 4 4)
    | none => (0, 0)
  let later := (List.range 256).foldl (fun t _ =>
    if leNat (s.feramRead (tampAddr (t + 1)) 4) = t + 1 && (s.feramGet (tampAddr (t + 1) + 21)) ≠ 0#8 then t + 1 else t) base.1
  let s := s.modTamp (fun t => { t with tseq := later, freed := base.2 })
  let s := if !s.pwr.vaultLost then s
    else match rec_ with
      | some b => ((s.setN (pg 0x38 0x50) (n b 8 2)).setN (pg 0x38 0x54) (n b 10 2)).setN (pg 0x38 0x58) (n b 12 2)
      | none => s
  s.showTamp

/-- The log store's catch-up (R467): Sheaves above the newest in their stream, tamper entries without LOGGED. -/
def Block.storCatchUp (s : Block) : Block :=
  let staged (k : Nat) (x : LogSource) : Bool := (s.logStream k).staged.any (fun r => r.src == x)
  let a := s.logStream 2
  let s := if a.catchUp && a.st = 2 then
      let l := (s.led.sheaves.reverse.filter (fun p => decide (a.newest < p.2) && !staged 2 (.sheaf p.2)))
      let s := s.modStream 2 (fun t => { t with catchUp := false })
      forEach l (fun p s => s.stage 2 ⟨0x0110, 0, s.stampNow, s.feramRead p.1 (16 + leNat (s.feramRead (p.1 + 8) 2)), .sheaf p.2⟩) s
    else s
  let b := s.logStream 1
  if b.catchUp && b.st = 2 then
    let l := ((List.range (tampHeld s.tamp)).map (fun i => tampAddr (s.tamp.freed + 1 + i))).filter (fun a =>
      !s.tampLogged a && !staged 1 (.tamper a))
    let s := s.modStream 1 (fun t => { t with catchUp := false })
    forEach l (fun a s => s.stage 1 ⟨0x3801, ((s.feramGet (a + 22)).toNat / 2 % 2) * 16, s.stampNow, s.feramRead a 32, .tamper a⟩) s
  else s

end Sys2Proof.Machine
end

