-- ==== Sys2Proof/Machine/Startup.lean ====
section
/-! DEFINITION. Kinds of start, the start-up sequence and READY (R592 to R596), HOLD and its save (R521 to R525), VAULT and OFF
(R519, R526), the CLK page (R13 to R17), the RTC page and the microcode of two units (R600 to R606). -/

namespace Sys2Proof.Machine

def Block.modMc (s : Block) (f : Micro → Micro) : Block := { s with mc := f s.mc }

/-! ### The SYSTEM record (R600) -/

/-- Its 64 bytes. -/
def Block.systemBytes (s : Block) : List Byte :=
  leBytes 2 (s.fld (pg 5 0xA8) 15 0) ++ ((List.range 10).map (fun i => leBytes 4 (s.getN (floorReg (i + 1))))).flatten
    ++ leBytes 1 (s.fld (pg 5 0x40) 4 4) ++ leBytes 1 0 ++ leBytes 4 (nth 0 s.mc.floors 0) ++ leBytes 4 (nth 0 s.mc.floors 1)
    ++ leBytes 1 (nth 255 s.mc.pos 0) ++ leBytes 1 (nth 255 s.mc.pos 1) ++ leBytes 6 s.mc.chained ++ leBytes 4 0
def Block.systemSave (s : Block) : Block := s.commitRec 0x01 [s.systemBytes]

/-- A step's effect, and the SYSTEM record committed where the step changed a field of it. -/
def Block.systemAfter (s t : Block) : Block := if s.systemBytes == t.systemBytes then t else t.systemSave

/-- The record read (R49, R441): EPOCH counts the start, NOMINAL and the floors are loaded. -/
def Block.systemLoad (s : Block) : Block :=
  let b := (s.recContent 0x01).map (fun p => p.flatten)
  let n (o k : Nat) : Nat := match b with
    | some l => leNat ((l.drop o).take k)
    | none => 0
  let pos (o : Nat) : Nat := if b.isNone then 255 else n o 1
  let s := s.setF (pg 5 0xA8) 15 0 (n 0 2 + 1)
  let s := forEach (List.range 10) (fun i s => s.setN (floorReg (i + 1)) (n (2 + 4 * i) 4)) s
  (s.setF (pg 5 0x40) 4 4 (n 42 1)).modMc (fun m =>
    { m with
      floors := [n 44 4, n 48 4]
      pos := [pos 52, pos 53]
      chained := n 54 6 })

/-! ### Power-down states (R519, R524, R526) -/

/-- Registers of the vault domain (R525, R603, R384, R389). -/
def vaultRegs : List Nat :=
  [pg 1 0x54, pg 1 0x58, pg 1 0x5C, pg 1 0x60, pg 1 0x64, pg 4 0x54, pg 4 0x58, pg 4 0x5C, pg 4 0x60, pg 0x38 0x40, pg 0x38 0x50,
    pg 0x38 0x54, pg 0x38 0x58]

/-- The vault domain loses power (R12, R525): what it held reads 0. -/
def Block.vaultLoss (s : Block) : Block :=
  let s := forEach vaultRegs (fun a s => s.setR a (if a = pg 0x38 0x40 then regReset a else 0)) s
  let s := { s with tamp := Tamp.reset, time := { s.time with rtcClk := 0, clk := 0 } }
  s.modPwr (fun p => { p with vaultLost := true })

/-- The core loses power: VAULT with VBAK, else OFF (R519). -/
def Block.powerDown (s : Block) (vbak : Bool) : Block :=
  let s := s.setB (pg 1 0x50) 18 vbak
  if vbak then s.modPwr (fun p => { p with st := .vault, failed := none })
  else (s.modPwr (fun p => { p with st := .off, failed := none })).vaultLoss

/-- A start (R592): every unit at rest; the vault domain, the FeRAM and the fuses survive. -/
def Block.boot (s : Block) (cause : Nat) : Block :=
  let b := Block.start cause s.pwr.vaultLost s.husk.fuses
  let t : Time := { Time.zero with rtcClk := s.time.rtcClk + s.time.clk }
  let f : Faults := { Faults.reset with blowFail := s.faults.blowFail }
  let h : HostPort := { HostPort.reset with reply := s.host.reply, frameNo := s.host.frameNo }
  let sp : Spare := { b.spare with cut := s.spare.cut || s.spare.inStep }
  let b := { b with spare := sp, freeCnt := s.freeCnt, feram := s.feram, time := t, tamp := s.tamp, faults := f, host := h }
  let b := forEach vaultRegs (fun a b => b.setR a (s.getR a)) b
  let b := (b.setF (pg 0x3F 0x60) 3 0 (s.fld (pg 0x3F 0x60) 3 0)).setB (pg 1 0x50) 18 (s.rbit (pg 1 0x50) 18)
  b.showTamp

/-- VIN_GOOD (R519): a start from OFF or VAULT. elapsed: RTC fraction steps since the RTC was last advanced. -/
def Block.vinGood (s : Block) (elapsed : Nat) : Block :=
  match s.pwr.st with
  | .vault => ({ s with time := { s.time with rtcClk := s.time.rtcClk + elapsed * rtcStep } }).boot 0
  | .off => s.boot 0
  | _ => s

/-- VBAK_LOSS (R519): in VAULT the device goes OFF; elsewhere VBAK_OK shows it and a save under way is not cut. -/
def Block.vbakLoss (s : Block) : Block :=
  match s.pwr.st with
  | .vault => s.powerDown false
  | .off => s
  | _ => s.setB (pg 1 0x50) 18 false

/-- VBAK_RESTORED (R519). -/
def Block.vbakBack (s : Block) : Block :=
  match s.pwr.st with
  | .off => (s.modPwr (fun p => { p with st := .vault })).setB (pg 1 0x50) 18 true
  | _ => s.setB (pg 1 0x50) 18 true

/-- TAMPER_SAMPLE in VAULT also tells that an eighth of a second has passed (R383, R526). -/
def Block.vaultTick (s : Block) : Block :=
  if s.pwr.st == .vault then { s with time := { s.time with rtcClk := s.time.rtcClk + sysHz / 8 } } else s

/-! ### Device reset (R524, R592) -/

/-- A reset is requested: RESET_N (cause 2) or SYS_CMD DEVICE_RESET (cause 3). -/
def Block.resetAsk (s : Block) (cause : Nat) : Block := if s.powered then s.modPwr (fun p => { p with resetWait := some cause }) else s

/-- It acts once no commit that has started is unfinished; in HOLD not before the save has finished. -/
def Block.resetDue (s : Block) : Block :=
  match s.pwr.resetWait with
  | none => s
  | some cause =>
    if s.pwr.st == .hold || s.recs.queue.any (fun c => c.started) then s
    else
      let s := if s.pwr.st == .run || s.pwr.st == .lean then s.setN (pg 1 0x54) 4 else s
      s.boot cause

/-! ### Steps 2 to 5 (R593) -/

/-- Pages whose units load nothing that persists: those that run once reset is released, and those that run with the Warp. -/
def pagesAtRelease : List Nat := [0x00, 0x01, 0x02, 0x03, 0x2D, 0x3E, 0x3F]
def pagesAtWarp : List Nat :=
  [0x05, 0x06] ++ (List.range 16).map chPage ++ [0x18, 0x19, 0x1A, 0x1B, 0x1C, 0x2E, 0x33, 0x35, 0x37, 0x3A]
def pagesAtScan : List Nat := [0x17, 0x2F, 0x30, 0x31, 0x32, 0x34, 0x36, 0x38, 0x39, 0x3D]
def pagesAtHusk : List Nat := [0x04, 0x3B, 0x3C]
def Block.pagesRun (s : Block) (l : List Nat) : Block := forEach l (fun p s => s.setPageState p psRun) s

/-- Standing in for the engine's own record: the bank-A image goes in, with its working region (R161, R178). -/
def Block.placeImage (s : Block) (e : Nat) (i : Image) : Block := (s.setBank e 0 (some i)).setF (pg (mePage e) 0x40) 4 4 0

/-- Where the region of engine e goes at a start; a ROM image whose region finds no gap, beside the regions of larger stored images, is
placed at a free base (log 17). -/
def Block.startRegion (s : Block) (e len : Nat) : Block := s.setRegion e ((s.regionFor e len).getD (Config.poolBase e len)) len

/-- RESET_RELEASE (R392, R562, R593 steps 2 and 3): straps and fuses. The PLL is not locked and the modulator clock stands until
PLL_LOCKED (R14). -/
def Block.resetRelease (s : Block) (hsel ha0 test vbak : Bool) : Block :=
  if s.pwr.st == .hold then s.modPwr (fun p => { p with resetWait := none })
  else if s.pwr.st != .starting || s.pwr.startStep ≠ 1 then s
  else
    let prod := test && decide (s.lcSteps = 0)
    let s := s.setN (pg 0x3E 0x40) (if hsel then b2n ha0 * 65536 + (0x5A + b2n ha0) * 256 + 1 else 0)
    let s := (s.setF (pg 0 0x50) 31 28 s.pwr.startCause).setB (pg 0 0x50) 8 prod
    let s := s.setN (pg 0 0x40) (0x16170000 + Config.siRev % 256 * 256)
    let s := (s.setB (pg 0x3F 0x44) 9 test).setB (pg 0x3F 0x44) 8 prod
    let s := s.setR (pg 0x3F 0x5C) (s.fuse 41)
    let s := if s.lcSteps = 0 then s else s.setF (pg 0x3F 0x60) 3 0 15
    let s := s.fuseVerify.1.showTrim
    let s := s.setN (pg 0x1C 0xB8) (leNat ((sha256 (4#8 :: Config.vendorKey)).take 4))
    let s := ((s.setB (pg 1 0x50) 12 true).setB (pg 1 0x50) 13 true).setB (pg 1 0x50) 18 vbak
    let s := s.setF (pg 3 0x40) 2 1 0
    let s := s.huskStart.pagesRun pagesAtRelease
    let s := s.modPwr (fun p => { p with startStep := 4 })
    let s := if test && !prod then s.raise 0x3F 3 0 else s
    if s.pwr.vaultLost then s.raise 4 2 0 else s

/-- The bytes of an image-store position, where it holds a valid image (R178). -/
def Block.storedImage (s : Block) (k : Nat) : Option (List Byte) :=
  let a := storeAddr k
  let len := leNat (s.feramRead (a + 8) 2)
  if len ≤ 16640 - 16 && s.slotValid a 0x0120 0 1 len then some (s.feramRead (a + 16) len) else none

/-- The digest an engine's record names; none for the ROM image of its default programs. -/
def Block.engineDigest (s : Block) (e : Nat) : Option (List Byte) :=
  match s.recContent (0x10 + e) with
  | some (p :: _) => some (p.take 32)
  | _ => none

/-- The ROM catalogue image an engine's record names, where it names one (R178). -/
def Block.romNamed (s : Block) (e : Nat) : Option Image :=
  match s.engineDigest e with
  | none => some (romImage e)
  | some d => ((e :: List.range 16).find? (fun j => romDigest j == d)).map romImage

/-- The ROM image of the programs of the image an engine's record names (R178). -/
def Block.romInstead (s : Block) (e : Nat) : Image :=
  match s.recContent (0x10 + e) with
  | some (p :: _) => romFor e (leNat ((p.drop 32).take 1)) (leNat ((p.drop 33).take 1))
  | _ => romImage e

/-- The bytes of the stored image an engine's record names. -/
def Block.storedFor (s : Block) (e : Nat) : Option (List Byte) :=
  (s.engineDigest e).bind (fun d => ((List.range 4).filterMap s.storedImage).find? (fun b => sha256 b == d))

/-- An engine reads its record and is given its region, in ascending engine number (R178, R179): a ROM image also goes into bank A and
starts with the Warp. -/
def Block.engineStart (s : Block) (e : Nat) : Block :=
  let s := s.modEngine e (fun g => { g with named := ((s.recContent (0x10 + e)).bind List.head?).getD (romImage e).record })
  match s.romNamed e with
  | some i => (((s.placeImage e i).startRegion e i.workLen).modEngine e (fun g => { g with startAt := 1 })).setPageState (mePage e) psRun
  | none =>
    let len := ((s.storedFor e).map (fun b => (parseImage b (b.length / 4)).1.workLen)).filter (fun n => (s.regionFor e n).isSome)
    s.startRegion e (len.getD (s.romInstead e).workLen)

/-- The Warp starts (R49, R89, R593 steps 4 and 5): the SYSTEM and ENGINE records are read, the Warp is at 0.0, ACQUIRING, at the
nominal frequency; channels settle; engines with a ROM image start with it. elapsed: RTC fraction steps since the reset release. -/
def Block.pllStart (s : Block) (elapsed : Nat) : Block :=
  let s := s.systemLoad.setF (pg 3 0x40) 2 1 3
  let f := s.nominalHz
  let t : Time := { Time.zero with rtcClk := s.time.rtcClk + s.time.clk + elapsed * rtcStep }
  let s := { s with time := { t with rtcPick0 := t.rtcClk / rtcStep } }
  let s := (s.modWarp (fun w => { w with freq := f, holdFreq := f })).setPickLen.showWarp
  let s := s.modEng (fun b => { b with store := (List.range 4).map (fun k => ((s.storedImage k).map sha256).getD []) })
  let s := forEach (List.range 16) (fun e s => s.engineStart e) s
  let s := forEach (List.range 17) (fun m s => (s.s6Start m).startSettle m) s
  (s.pagesRun pagesAtWarp).modPwr (fun p => { p with startStep := 5 })

/-- PLL_LOCKED (R593 step 4): the start, then what the strobe of pick 0 of cycle 0 does. -/
def Block.pllLocked (s : Block) (elapsed : Nat) : Block :=
  if s.pwr.st != .starting || s.pwr.startStep ≠ 4 then s
  else ((s.pllStart elapsed).pqStrobe.pickWords []).1.wbStartAll.enginesPick

/-! ### Steps 6 and 7 -/

/-- The journal holds every entry above the TOTALS set's LSEQ (R445). -/
def Block.jrnCovers (s : Block) : Bool :=
  match s.recContent 0x34, s.recs.jrn.head?, s.recs.jrn.getLast? with
  | some (b :: _), some o, some n => let base := leNat (b.take 6); decide (n.lseq ≤ base) || decide (o.lseq ≤ base + 1)
  | _, _, _ => true

/-- COVER of JRN_STAT, and detector 8 once (R444, R445). -/
def Block.coverCheck (s : Block) : Block :=
  if s.recs.conflicts.contains 0x34 && !s.recs.coverRaised && !s.jrnCovers then
    ((s.modRec (fun r => { r with coverRaised := true })).setB (pg 0x39 0x70) 31 false).raiseLater 0x39 8 0
  else s
def Block.coverStart (s : Block) : Block := (s.setB (pg 0x39 0x70) 31 true).coverCheck

/-- SCAN_DONE (R441 to R443, R593 step 6): the scan, and what the units load from it. -/
def Block.scanDone (s : Block) : Block :=
  if s.pwr.st != .starting || s.pwr.startStep ≠ 5 then s
  else
    let s := s.scanAll
    let s := (s.calRestore.ledgerLoad).tampLoad
    let s := s.recompute.coverStart
    (s.pagesRun pagesAtScan).modPwr (fun p => { p with startStep := 7, totalsLoaded := true, vaultLost := false })

/-- A stored engine image verified again; where it fails, is missing or found no region, the ROM image of its programs under ENG detector 4
(R178, R179). ROLL_FLOOR is applied to a stored image only. -/
def Block.loadStored (s : Block) (e : Nat) : Block :=
  let img := (s.storedFor e).bind (fun b =>
    let r := s.checkImage b (b.length / 4)
    if r.2 = 3 && r.1.workLen = s.getN (pg (mePage e) 0x90) then some r.1 else none)
  let s := match img with
    | some i => s.placeImage e i
    | none =>
      let i := s.romInstead e
      ((s.placeImage e i).startRegion e i.workLen).raise 0x1C 4 0
  ((s.modEngine e (fun g => { g with startAt := 4 })).setPageState (mePage e) psRun).showUtil e

/-- A microcode image's header read, and the checks of R177 in their order: 3 OK, 4 BAD_FORMAT, 5 WRONG_DEVICE, 6 BAD_SIG, 7 ROLLBACK (R600, R601). -/
def Block.checkMicro (s : Block) (u : Nat) (l : List Byte) (words : Nat) : McImage × Nat :=
  let f (o n : Nat) : Nat := leNat ((l.drop o).take n)
  let i : McImage := ⟨f 12 4, f 16 4, sha256 l, false, l⟩
  let pl := f 20 4
  let ok := l.take 4 == [0x4C#8, 0x59#8, 0x4D#8, 0x43#8] && f 4 2 == 1 && f 6 2 == 128 && f 8 1 == 0x21 + u && f 9 1 == 0
    && f 10 2 == 0 && (pl % 16 == 0 && 16 ≤ pl && pl ≤ 16384) && f 24 4 == 0 && f 28 4 == 0 && f 48 64 == 0 && f 112 16 == 0
    && words == (192 + pl) / 4
  let dev := (l.drop 32).take 16
  if !ok then (i, 4)
  else if dev != List.replicate 16 0 && dev != s.deviceId then (i, 5)
  else if !ecdsaVerify Config.vendorKey (sha256 (l.take (l.length - 64))) (l.drop (l.length - 64)) then (i, 6)
  else if i.roll < nth 0 s.mc.floors u then (i, 7)
  else (i, 3)

/-- Bit of MC_STAT that shows unit u's active bank, and its version register (R605). -/
def mcBank (u : Nat) : Nat := 16 + u
def mcVer (u : Nat) : Nat := pg 4 (0x70 + 4 * u)
def Block.mcActive (s : Block) (u : Nat) : Nat := s.fld (pg 4 0x6C) (mcBank u) (mcBank u)
def Block.mcImage (s : Block) (u bank : Nat) : Option McImage := nth none s.mc.banks (2 * u + bank)
def Block.setMcImage (s : Block) (u bank : Nat) (i : Option McImage) : Block := s.modMc (fun m => { m with banks := setNth m.banks (2 * u + bank) i })

/-- Bank A of a unit at a start (R601). -/
def Block.mcLoad (s : Block) (u : Nat) : Block :=
  let k := nth 255 s.mc.pos u
  let img : Option McImage := if k < 4 then (s.storedImage k).bind (fun b =>
      let r := s.checkMicro u b (b.length / 4)
      if r.2 = 3 then some r.1 else none)
    else none
  let s := (s.setMcImage u 0 (some (img.getD (romMicro u)))).setN (mcVer u) (img.getD (romMicro u)).ver
  if k < 4 && img.isNone then s.raise 4 5 0 else s

/-- HUSK_LOADED (R491, R593 step 7). -/
def Block.huskLoaded (s : Block) : Block :=
  if s.pwr.st != .starting || s.pwr.startStep ≠ 7 then s
  else
    let s := forEach (List.range 16) (fun e s => if (s.romNamed e).isSome then s else s.loadStored e) s
    let s := (s.mcLoad 0).mcLoad 1
    (s.huskLoad.pagesRun pagesAtHusk).modPwr (fun p => { p with startStep := 8 })

/-! ### READY (R596) -/

/-- Engines whose schedule runs a program. -/
def Block.enginesOf (s : Block) (p : Nat) : List Nat :=
  (List.range 16).filter (fun e => match s.schedImage e with
    | some i => i.prog0 == p || i.prog1 == p
    | none => false)

/-- A carry: its key, from 2,048 on those of the heat circuits, and its fraction. -/
def Block.carriesOf (s : Block) (e : Nat) : List (Nat × Nat) :=
  let f := s.fld (pg (mePage e) 0x44) 1 0
  let a := if (s.enginesOf 1).contains e then s.feed.carry.filter (fun p => p.1 / 512 = f) else []
  let b := if (s.enginesOf 6).contains e then
      ([0, 1].map (fun c => (List.range 4).map (fun q => (2048 + 32 * c + q, nth 0 (s.circ c).acked.carry q)))).flatten
    else []
  (a ++ b).filter (fun p => p.2 ≠ 0)

/-- The carry block (R438; layout log 22): per engine its number, STATE_FMT, the number of carries, and those. -/
def Block.carryBlock (s : Block) : List Byte :=
  ((List.range 16).map (fun e => match s.schedImage e with
    | some i =>
      let l := s.carriesOf e
      if (s.enginesOf 1).contains e || (s.enginesOf 6).contains e then
        leBytes 1 e ++ leBytes 2 i.stateFmt ++ leBytes 2 l.length ++ (l.map (fun p => leBytes 2 p.1 ++ leBytes 8 p.2)).flatten
      else []
    | none => [])).flatten

/-- What follows the items of a journal body. -/
def jrnTail (full : Bool) : Nat → List Byte → List Byte
  | 0, b => b
  | n + 1, b =>
    if full then jrnTail full n (b.drop (if leNat ((b.drop 2).take 1) / 16 % 2 = 1 then 16 else 8)) else jrnTail full n (b.drop 6)

/-- Carries of a block loaded into the engines that still run its STATE_FMT (R596 step 3). fq: FQ of the feeds at the save. -/
def Block.carryLoad (s : Block) (fq : Nat) : Nat → List Byte → Block
  | 0, _ => s
  | fuel + 1, b =>
    if b.length < 5 then s
    else
      let n (o k : Nat) : Nat := leNat ((b.drop o).take k)
      let e := n 0 1
      let cnt := n 3 2
      let l := (List.range cnt).map (fun i => (n (5 + 10 * i) 2, n (7 + 10 * i) 8))
      let fits := match s.schedImage e with
        | some i => i.stateFmt == n 1 2
        | none => false
      let s := if fits then forEach l (fun p s =>
          if p.1 < 2048 then s.modFeed (fun d =>
            { d with carry := Sparse.set 0 p.1 p.2 d.carry, carryFq := setNth d.carryFq (p.1 / 512) (fq / 16 ^ (p.1 / 512) % 16) })
          else s.modCirc (p.1 / 32 - 64) (fun c =>
            let a : CircProg := { c.acked with carry := setNth c.acked.carry (p.1 % 32) p.2 }
            { c with acked := a })) s
        else s
      Block.carryLoad s fq fuel (b.drop (5 + 10 * cnt))

/-- The carry block of the newest journal entry, where that is a POWERFAIL entry. -/
def Block.carryRestore (s : Block) : Block :=
  match s.recs.jrn.getLast? with
  | none => s
  | some e =>
    let b := s.jrnRead e
    if leNat ((b.drop 18).take 1) / 2 ^ rsPowerfail % 2 = 0 then s
    else s.carryLoad (leNat ((b.drop 20).take 2)) 16 (jrnTail ((b.drop 17).head? == some 1#8) (leNat ((b.drop 6).take 2)) (b.drop 32))

/-- Standing requests beside the engines' and the charger's (R528): issued, changed or withdrawn as their condition now stands. -/
def Block.standing (s : Block) (page cls mw : Nat) (on : Bool) : Block :=
  if on then s.arbRequest page cls mw true
  else if (s.arbFind page).isSome then (s.arbRelease page).arbReeval else s

/-- All standing requests, in ascending page order. -/
def Block.standAll (s : Block) : Block :=
  let s := s.chargerUpdate
  let n := ((List.range 8).filter (fun k => (s.stream k).running
    || (s.pwr.st == .lean && s.rbit (wbCfg k) 0 && s.rbit (pg 0x19 0x04) 0))).length
  let s := s.standing 0x19 2 (3 * n) (decide (0 < n))
  let s := forEach (List.range 16) (fun e s => s.engRequest e) s
  let s := s.standing 0x37 3 2 (s.rbit (pg 0x37 0x40) 31 && s.pageState 0x37 != psOff)
  s.standing 0x3D 2 6 (s.joinStat 0)

/-- The transfers of READY in their order (R596), then RUN. -/
def Block.readyRun (s : Block) : Block :=
  let s := s.systemSave
  let s := s.tampMove
  let s := if s.pwr.startCause = 0 then s.raise 0x36 3 0 else s
  let s := s.carryRestore
  let r := s.ledgerStart s.mc.chained
  let s := match r.2 with
    | some q => (r.1.modMc (fun m => { m with chained := q })).systemSave
    | none => r.1
  let last := s.getN (pg 1 0x54)
  let s := if last % 16 = 0 then s else s.raise 1 1 last
  let s := if last % 16 = 2 || last % 16 = 3 then s.raise 1 2 0 else s
  let s := forEach s.pwr.deferred (fun d s => s.raise d.1 d.2.1 d.2.2) s
  let s := s.modPwr (fun p => { p with st := .run, startStep := 0, ready := true, deferred := [] })
  forEach (List.range 64) (fun p s => if s.pageState p = psStarting then s.setPageState p psRun else s) s

/-- READY (R596) in step 8, unless a power failure has been declared. -/
def Block.readyNow (s : Block) : Block :=
  if s.pwr.st != .starting || s.pwr.startStep ≠ 8 || s.pwr.failed.isSome then s
  else s.readyRun.showPwr.standAll.showDisp

/-! ### Power failure and HOLD (R521 to R525) -/

/-- POWER_FAIL_DECLARED (R521, R524): before the ledger has loaded its totals the device stops at once. -/
def Block.powerFail (s : Block) (cause : Nat) : Block :=
  let s := if cause = 1 then s.setB (pg 1 0x50) 12 false else s
  let t := s.failDeclared cause
  match t.pwr.failed with
  | none => t
  | some k =>
    if t.pwr.st == .starting && !t.pwr.totalsLoaded then (t.setN (pg 1 0x54) (k * 256 + 5)).powerDown (t.rbit (pg 1 0x50) 18) else t

/-- HOLD_ENTRY (R522, R525). -/
def Block.holdEntry (s : Block) : Block :=
  match s.pwr.failed, s.pwr.st with
  | some k, .run | some k, .lean | some k, .starting =>
    let s := s.modSpare (fun p => { p with cut := p.cut || p.inStep })
    let s := ((s.stepAbort).pqHold).auxPowerOff
    let s := s.testAbort
    let s := s.modPwr (fun p => { p with st := .hold, holdAbs := s.absPick, pendLean := none, resetWait := none })
    let s := (s.set64 (pg 1 0x58) s.rtcNow).bump (pg 1 0x64) 15 0 1
    let s := (s.setN (pg 1 0x54) (k * 256 + 2)).setB (pg 1 0x50) 9 false
    let s := s.storHold.poutHold
    let s := forEach (List.range 12) (fun i s => s.modEngine (4 + i) (fun g => { g with queue := [] })) s
    let s := s.modEng (fun b => { b with bist := none, merge := [] })
    (s.modPwr (fun p => { p with charging := false })).arbReeval
  | _, _ => s

/-- The ledger takes every post on its way. -/
def Block.drainPosts (s : Block) : Nat → Block
  | 0 => s
  | n + 1 => if s.posts.isEmpty then s else Block.drainPosts s.takePost n

/-- The save writes DEMAND and THERMAL once, last (R440). -/
def Block.saveTrim (s : Block) : Block :=
  let late (c : Commit) : Bool := c.save && (c.id == 0x32 || c.id == 0x20)
  let last (id : Nat) : List Commit := ((s.recs.queue.filter (fun c => late c && c.id == id)).getLast?).toList
  s.modRec (fun r => { r with queue := r.queue.filter (fun c => !late c) ++ last 0x32 ++ last 0x20 })

/-- Words in the order of their stamps. -/
def byStamp (l : List (Nat × WordMark)) : List (Nat × WordMark) :=
  l.foldl (fun out x => out.filter (fun y => decide (y.2.pick ≤ x.2.pick)) ++ [x] ++ out.filter (fun y => decide (x.2.pick < y.2.pick))) []

/-- A word that was still in a chain when the chains stopped, as P01 takes it at the save pick: marked as its stamp was, its code free
where its mark does not fix it (R213, R523; log 46). -/
def Block.lateWord (s : Block) (m : Nat) (k : WordMark) : Block :=
  let d := s.draw
  let code : Int := if k.cause = 4 then 0 else match k.clamp with
    | some p => clampCode p
    | none => ((d.1 % 0xFFFFFF : Nat) : Int) - 0x7FFFFF
  let word := sampleWord code (k.cause ≠ 4 && k.clamp.isSome) (m = 16) k.inj k.cause
  { d.2 with hist := modNth s.hist k.slot (fun l => (⟨k.pick, word, k.gain, k.scale⟩ :: l).take histLen) }

/-- The words stamped before this pick and not broadcast yet. -/
def Block.lateWords (s : Block) : Block :=
  let l := ((List.range 17).map (fun m => ((s.mod m).line.filter (fun k => decide (k.pick < s.absPick))).map (fun k => (m, k)))).flatten
  forEach (byStamp l) (fun x s => s.lateWord x.1 x.2) s

/-- SAVE_PICK (R213, R523): partial posts, the POWERFAIL latch and its save; the modulators stop. -/
def Block.savePick (s : Block) : Block :=
  if s.pwr.st != .hold || s.pwr.saving || s.absPick < s.pwr.holdAbs + s.fld (pg 1 0x40) 23 16 then s
  else
    let s := (s.drainPosts s.posts.length).lateWords
    let s := forEach (List.range 4) (fun e s =>
      if (s.enginesOf 1).contains e && s.schedGate e = 0 then s.asHeard e (fun s => s.partialFeed e (s.fld (pg (mePage e) 0x44) 1 0) s.time.pick s.strobeStamp) else s) s
    let s := s.drainPosts s.posts.length
    let s := forEach (List.range 4) (fun f s => s.convertDue f s.time.cycle) s
    let s := s.ledgerSave s.carryBlock
    let s := s.saveTrim.setB (pg 3 0x40) 2 false
    s.modPwr (fun p => { p with saving := true, saveClk := s.time.mono })

/-- SAVE_FINISHED (R523, R519): the last commit of the save is complete, or one was refused. -/
def Block.saveFinished (s : Block) (vin vbak : Bool) : Block :=
  if s.pwr.st != .hold || !s.pwr.saving || !(s.recs.queue.isEmpty || s.pwr.saveRefused) then s
  else
    let s := s.setF (pg 1 0x60) 15 0 (min 0xFFFF ((s.monoNow - s.pwr.saveClk) * 1000000 / sysHz))
    let s := if s.pwr.saveRefused then s else s.setF (pg 1 0x54) 3 0 1
    if vin then s.boot (if s.pwr.resetWait.isSome then 2 else 1) else s.powerDown vbak

/-! ### Clock (R13 to R17) -/

/-- CRYSTAL_STOPPED: once per episode; the RTC is invalid until the host sets it (R604). -/
def Block.crystalStop (s : Block) : Block :=
  if !s.rbit (pg 3 0x40) 0 then s
  else
    let s := (s.setB (pg 3 0x40) 0 false).bump (pg 3 0x4C) 15 0 1
    ((s.setB (pg 4 0x54) 0 false).raise 3 1 0).raise 4 2 0
def Block.crystalBack (s : Block) : Block := s.setB (pg 3 0x40) 0 true

/-- PLL_UNLOCK: every word carries cause 1, from the word of this pick on, until relock and settling; the Warp is in holdover, from
whichever state (R17, R45; log 47). -/
def Block.pllUnlock (s : Block) : Block :=
  if !s.rbit (pg 3 0x40) 1 then s
  else
    let s := (s.setB (pg 3 0x40) 1 false).bump (pg 3 0x48) 15 0 1
    let s := s.modAll (fun d => { d with refFault := true })
    let s := s.modWarp (fun w => { w with pllLost := true })
    let s := s.raise 3 2 0
    (if s.warp.state == .holdover then s.modWarp (fun w => { w with holdInj := false }) else s.formHold.enterHoldover false).remarkAll

/-- PLL_RELOCK: the channels begin settling; a reference fault in force keeps its mark (R90). -/
def Block.pllRelock (s : Block) : Block :=
  if s.rbit (pg 3 0x40) 1 || (s.pwr.st == .starting && s.pwr.startStep < 5) then s
  else
    let s := (s.setB (pg 3 0x40) 1 true).modWarp (fun w => { w with pllLost := false })
    if s.fld (pg 6 0x5C) 1 0 = 3 then
      forEach (List.range 17) (fun m s => (s.modMod m (fun d => { d with refFault := false })).startSettle m) s
    else s

/-- MODULATOR_CLOCK_GAP: cause 1 for each channel's settling count, from the word of this pick on. The gap is over when the command is
given: MODCLK_ON stays 1 (R14; DEDUCED, log 3). -/
def Block.modClockGap (s : Block) : Block :=
  ((forEach (List.range 17) (fun m s => s.startSettle m) s).remarkAll).raise 3 3 0

/-- Soft reset of CLK (R16). -/
def Block.clkSoftReset (s : Block) : Block := (s.setN (pg 3 0x48) 0).setN (pg 3 0x4C) 0

/-! ### RTC (R603 to R606) -/

def Block.rtcReject (s : Block) : Block := s.raise 4 3 0

/-- RTC_CMD SET. -/
def Block.rtcSet (s : Block) : Block :=
  let v := s.get64 (pg 4 0x48)
  if s.mc.set.isSome || 0xFFFFFFFF < v / 65536 then s.rtcReject
  else (s.modMc (fun m => { m with set := some v })).setB (pg 4 0x54) 1 true

/-- RTC_SET_APPLY (R604): the RTC reads the new time at this strobe. -/
def Block.rtcApply (s : Block) : Block :=
  match s.mc.set with
  | none => s
  | some v =>
    let old := s.rtcNow
    let valid := s.rtcValid
    let d := (((v : Int)) - ((old : Int))).tdiv 65536
    let arg := unsignedOf 32 (max (-(2 ^ 31 - 1)) (min (2 ^ 31 - 1) d))
    let s := { s with time := { s.time with rtcClk := v * rtcStep - s.time.clk } }
    let s := (s.set64 (pg 4 0x58) old).setN (pg 4 0x54) 1
    let s := (s.bump (pg 4 0x60) 15 0 1).modMc (fun m => { m with set := none })
    let s := s.modLed (fun l => { l with timeSet := some (match l.timeSet with
      | some (o, _) => (o, v)
      | none => (old, v)) })
    let s := if valid then s else s.modTar (fun t => { t with invalidEp := true })
    s.raise 4 1 arg

/-- A MC_CMD's RESULT and unit (R605). -/
def Block.mcResult (s : Block) (r u : Nat) : Block := (s.setF (pg 4 0x6C) 31 28 r).setF (pg 4 0x6C) 27 24 u
/-- Rejected: 10 REJECTED_STATE, 9 STORE_FULL. -/
def Block.mcReject (s : Block) (r u : Nat) : Block := (s.mcResult r u).rtcReject
def Block.mcPending (s : Block) (u : Nat) : Bool := match s.mc.pend with
  | some p => p.1 == u
  | none => false

/-- MC_CMD OPEN (R601). -/
def Block.mcOpen (s : Block) (u : Nat) : Block :=
  if 1 < u then s.rtcReject
  else if s.mc.load.isSome || s.mcPending u then s.mcReject 10 u
  else (((s.setMcImage u (1 - s.mcActive u) none).modMc (fun m => { m with load := some (u, 0, []) })).mcResult 1 u).setF (pg 4 0x6C) 15 0 0

/-- A word of the image. -/
def Block.mcData (s : Block) (v : Word) : Block :=
  match s.mc.load with
  | none => s
  | some (u, n, b) =>
    (s.modMc (fun m => { m with load := some (u, n + 1, v.toBytes.reverse ++ b) })).setF (pg 4 0x6C) 15 0 (min 0xFFFF (n + 1))

/-- MC_CMD CHECK. -/
def Block.mcCheck (s : Block) : Block :=
  match s.mc.load with
  | none => s.mcReject 10 (s.fld (pg 4 0x6C) 27 24)
  | some (u, n, b) =>
    let r := s.checkMicro u b.reverse n
    let s := (s.modMc (fun m => { m with load := none })).mcResult r.2 u
    if r.2 = 3 then s.setMcImage u (1 - s.mcActive u) (some r.1) else s.raise 4 5 0

/-- MC_CMD ABANDON. -/
def Block.mcAbandon (s : Block) : Block :=
  match s.mc.load with
  | none => s.mcReject 10 (s.fld (pg 4 0x6C) 27 24)
  | some (u, _, _) => (s.modMc (fun m => { m with load := none })).mcResult 8 u

/-- Image-store positions the SYSTEM record names, and one an ACTIVATE has taken (R602). -/
def Block.mcPositions (s : Block) : List Nat :=
  s.mc.pos ++ (match s.mc.pend with
    | some (_, some k, _) => [k]
    | _ => [])

/-- MC_CMD ACTIVATE (R602). -/
def Block.mcActivate (s : Block) (u : Nat) : Block :=
  if 1 < u then s.rtcReject
  else if s.mc.load.isSome || s.mc.pend.isSome then s.mcReject 10 u
  else match s.mcImage u (1 - s.mcActive u) with
    | none => s.mcReject 10 u
    | some i =>
      let held := (List.range 4).find? (fun k => nth [] s.eng.store k == i.digest && !i.digest.isEmpty)
      let pos := if i.rom then some 255 else match held with
        | some k => some k
        | none => s.freePosition s.mcPositions
      match pos with
      | none => s.mcReject 9 u
      | some k => ((s.modMc (fun m => { m with pend := some (u, some k, false) })).mcResult 3 u).setB (pg 4 0x6C) 20 true

/-- A latch apply has ended with its commit issued: the ledger's switch may come (R602). -/
def Block.mcLatched (s : Block) : Block := s.modMc (fun m => { m with pend := m.pend.map (fun p => (p.1, p.2.1, true)) })

/-- MICROCODE_SWITCH (R602), at the unit's quiet point. -/
def Block.mcSwitch (s : Block) : Block :=
  match s.mc.pend with
  | none => s
  | some (u, pos, latched) =>
    let quiet := if u = 0 then latched else !s.husk.ops.any (fun o => o.phase == 1)
    let bank := 1 - s.mcActive u
    match s.mcImage u bank, quiet with
    | some i, true =>
      let k := pos.getD 255
      let s := s.modMc (fun m =>
        { m with
          pend := none
          floors := setNth m.floors u (max i.roll (nth 0 m.floors u))
          pos := setNth m.pos u k })
      let s := ((s.setF (pg 4 0x6C) (mcBank u) (mcBank u) bank).setB (pg 4 0x6C) 20 false).setN (mcVer u) i.ver
      let s := if i.rom || s.eng.store.contains i.digest then s else s.storeImage k i.digest i.bytes
      s.systemSave.raise 4 4 0
    | _, _ => s

/-- Soft reset of RTC (R7, R603): an open load ends ABANDONED; an activation that awaits its switch goes on. -/
def Block.rtcSoftReset (s : Block) : Block :=
  let s := (s.setF (pg 4 0x6C) 31 24 0).setF (pg 4 0x6C) 15 0 0
  let s := match s.mc.load with
    | some (u, _, _) => (s.modMc (fun m => { m with load := none })).mcResult 8 u
    | none => s
  let s := s.modMc (fun m => { m with set := none })
  ((s.setB (pg 4 0x54) 1 false).setN (pg 4 0x48) 0).setN (pg 4 0x4C) 0

/-! ### Open-drain outputs (R407, R516) -/

/-- HIRQ_N is pulled low: a summary bit is 1 (R407), from READY to HOLD. -/
def Block.hirq (s : Block) : Bool :=
  s.pwr.ready && s.pwr.st != .hold && s.powered && (List.range 64).any (fun p => (s.getR (pg p 0x0C) &&& s.getR (pg p 0x10)) != 0)
/-- PWRGOOD conducts (R516). -/
def Block.pwrGood (s : Block) : Bool := (s.pwr.st == .run || s.pwr.st == .lean) && s.rbit (pg 1 0x50) 13

end Sys2Proof.Machine
end

