-- ==== Sys2Proof/Machine/Commits.lean ====
section
/-! DEFINITION. What the completion of a commit brings about in its owner (R437, R343, R489, R493, R524), and RESOLVE (R445). -/

namespace Sys2Proof.Machine

/-- The content a record's owner holds now (R445); none for a record whose owner keeps none. -/
def Block.liveContent (s : Block) (id : Nat) : Option (List (List Byte)) :=
  if id = 0x01 then some [s.systemBytes]
  else if 0x10 ≤ id ∧ id ≤ 0x1F then
    some [(s.engine (id - 0x10)).named]
  else if 0x40 ≤ id ∧ id ≤ 0x7F then some [s.keyRecord (s.slot (id - 0x40))]
  else match id with
    | 0x20 => some [s.thermBytes]
    | 0x21 => some [s.tampRecord]
    | 0x22 => some [s.billRecord (match s.led.savedSheaf with
      | some x => some x
      | none => s.sheafOpen.map (·.saved))]
    | 0x30 => some (chunks 256 13 s.calBytes)
    | 0x31 => some s.calendarRecord
    | 0x32 => some s.demandRecord
    | 0x33 => some s.defsRecord
    | 0x34 => some (s.totalsRecord s.led.lseq)
    | 0x80 => some [stageRecord []]
    | _ => none

/-- A conflict ends (R445). -/
def Block.conflictEnd (s : Block) (id : Nat) : Block :=
  (s.modRec (fun r =>
    { r with
      conflicts := r.conflicts.filter (fun x => x ≠ id)
      resolve := r.resolve.filter (fun x => x.1 ≠ id)
      coverRaised := if id = 0x34 then false else r.coverRaised })).showConflicts

/-- The SEQ a resolving commit carries: one above the conflicting one. -/
def Block.resolveSeq (s : Block) (id : Nat) : Option Nat := (recDef id).map (fun d => (((s.chosenSeq id d).getD 0) + 1) % 2 ^ 32)

/-- The resolving commit. -/
def Block.resolveCommit (s : Block) (id : Nat) (pl : List (List Byte)) : Block :=
  match recDef id with
  | none => s
  | some d => (s.enqueue ⟨.set, id, d.cls, s.resolveSeq id, 0, pl, false, false⟩).conflictEnd id

/-- Payloads of slot B in the segments in conflict, the chosen content elsewhere. -/
def Block.slotB (s : Block) (id : Nat) (d : RecDef) : List (List Byte) :=
  let bad := s.conflictSegs id d
  let q := (s.chosenSeq id d).getD 0
  (List.range d.nseg).map (fun k => if bad.contains k then s.feramRead (d.slot k 1 + 16) d.len else s.segPayload id d k q)

/-- Slot B's content loaded into its owner, read by the owner as at a start. -/
def Block.loadB (s : Block) (id : Nat) (d : RecDef) : Block :=
  let bad := s.conflictSegs id d
  let keep := s.feram
  let t := forEach bad (fun k t => t.feramPut (d.slot k 0) (t.feramRead (d.slot k 1) (16 + d.len))) s
  let t := match id with
    | 0x01 => let x := t.systemLoad; x.setF (pg 5 0xA8) 15 0 (x.fld (pg 5 0xA8) 15 0 + 0xFFFF)
    | 0x20 => t.thermRestore
    | 0x21 => t.tampLoad
    | 0x22 => t.billLoad
    | 0x30 => t.calRestore
    | 0x31 => t.calendarLoad
    | 0x32 => t.demandLoad.1
    | 0x33 => t.defsLoad.showLedger
    | _ =>
      if 0x10 ≤ id ∧ id ≤ 0x1F then t.modEngine (id - 0x10) (fun g => { g with named := t.feramRead (d.slot 0 0 + 16) d.len })
      else if 0x40 ≤ id ∧ id ≤ 0x7F then
        let r := t.keyLoad (t.feramRead (d.slot 0 0 + 16) d.len)
        (t.modSlot (id - 0x40) (fun _ => r.1)).showHusk
      else t
  { t with feram := keep }

/-- Records whose owner takes changes at a latch (R406, R445). -/
def latchRecord (id : Nat) : Bool := id == 0x20 || id == 0x22 || id == 0x31 || id == 0x32 || id == 0x33

/-- RESOLVE takes effect (R445): slot A at once; slot B at a pick 0, or at a latch for records of pages that commit there. -/
def Block.resolveDue (s : Block) (latch : Bool) : Block :=
  forEach s.recs.resolve (fun x s => match recDef x.1 with
    | some d =>
      if x.2 = 1 && x.1 ≠ 0x34 && (latch || !latchRecord x.1) then
        let pl := s.slotB x.1 d
        (s.loadB x.1 d).resolveCommit x.1 pl
      else s
    | none => s) s

/-- REC_CMD RESOLVE (R445, R450). -/
def Block.resolveCmd (s : Block) (id slot : Nat) : Block :=
  let s := s.recResolve id slot
  if slot = 0 && s.recs.conflicts.contains id then match s.liveContent id with
    | some pl => s.resolveCommit id pl
    | none => s
  else s

/-- TOTALS resolved from slot B at a latch apply: each live total becomes live + (B − A). Before the apply. -/
def Block.totalsMerge (s : Block) : Block :=
  match s.recs.resolve.contains (0x34, 1), recDef 0x34 with
  | true, some d =>
    forEach (s.conflictSegs 0x34 d) (fun k s =>
      forEach (List.range 32) (fun i s =>
        let v (ab : Nat) : Nat := leNat (s.feramRead (d.slot k ab + 16 + 8 + 8 * i) 8)
        let r := 32 * k + i
        let x := (s.total r + v 1 + 2 ^ 64 - v 0) % 2 ^ 64
        s.modLed (fun l => { l with totals := Sparse.set 0 r x l.totals })) s) s
  | _, _ => s
/-- After the apply: the set just issued carries the resolving SEQ. -/
def Block.totalsIssued (s : Block) : Block :=
  if s.recs.resolve.contains (0x34, 1) then
    let q := s.resolveSeq 0x34
    (s.modRec (fun r => { r with queue := r.queue.map (fun c => if c.id = 0x34 && !c.started then { c with seq := q } else c) })).conflictEnd 0x34
  else s

/-- LATCH_APPLY with all that hangs on it: RESOLVE of TOTALS, the Selvedge commands, the ledger microcode's switch point. -/
def Block.latchApplyAll (s : Block) : Block :=
  let due := match s.led.closed with
    | some c => decide (c.applyAt ≤ s.absPick) && s.led.loaded
    | none => false
  if due then ((s.totalsMerge.latchApplyJoin).totalsIssued).mcLatched else s

/-- COMMIT (R437, R343, R447, R489): the commit in progress completes, and its owner goes on. -/
def Block.commitStep (s : Block) : Block :=
  let r := s.commitDone
  match r.2 with
  | none => s
  | some (c, _) =>
    let s := r.1
    let pl := c.payloads.headD []
    let s :=
      if c.id = 0x0100 then (s.journalDone (leNat (pl.take 6))).coverCheck
      else if c.id = 0x0110 then match c.kind with
        | .at a => s.sheafDone (c.seq.getD 0) a (slotBytes 0x0110 0 1 (c.seq.getD 0) c.flags pl)
        | _ => s
      else if 0x40 ≤ c.id ∧ c.id ≤ 0x80 then s.keyCommitted c.id
      else s
    s.resetDue

/-- COMMIT_START: none starts while a reset is held back for the commit in progress (R524). -/
def Block.commitBegin (s : Block) : Block := if s.pwr.resetWait.isSome && s.pwr.st != .hold then s else s.commitStart

end Sys2Proof.Machine
end

