-- ==== Sys2Proof/Machine/Programs.lean ====
section
/-! DEFINITION. What the invocations of the catalogue programs do when they complete (R165 to R172), and wideband blocks on their way
to the engines (R119 to R121, R163, R528). -/

namespace Sys2Proof.Machine

/-- An invocation that ends in a later cycle than it started in works on the cycle before its own (R165), under the feed
configuration of that cycle and with the clocks of its strobes. -/
def Block.inCycle (s : Block) (v : Invocation) (f : Block → Block) : Block :=
  let t := s.time
  if v.startAbs / 1024 = t.cycle then f s
  else
    let d := s.feed
    let past : FeedState := { d with prev := d.prev2 }
    let q := s.pq
    let th := s.therm
    let flow : Therm :=
      { th with
        snapFwd := th.prevFwd
        snapRev := th.prevRev }
    let half : Pq := { q with at0 := q.at0.drop 1, forces := q.forces.drop 1, at512 := if 512 ≤ t.pick then q.at512.drop 1 else q.at512 }
    let x := f { s with time := { t with cycle := v.startAbs / 1024, lastDur := t.prevDur }, feed := past, pq := half, therm := flow }
    let e : FeedState := { x.feed with prev := d.prev }
    let q2 : Pq := { x.pq with at0 := q.at0, forces := q.forces, at512 := q.at512 }
    let t2 : Therm :=
      { x.therm with
        snapFwd := th.snapFwd
        snapRev := th.snapRev }
    { x with time := { x.time with cycle := t.cycle, lastDur := t.lastDur }, feed := e, pq := q2, therm := t2 }

/-- A slot's program on engine schedule e: its work, by program (R170). In cycle 0 no cycle has ended that a CYCLE-grain entry could
take. -/
def Block.runSlot (s : Block) (e : Nat) (v : Invocation) : Block :=
  let arg := s.fld (pg (mePage e) 0x44) 1 0
  if v.startAbs < 1024 && slotGrain v.prog ≠ 0 then s
  else match v.prog with
    | 1 => s.inCycle v (fun s => s.runPower e arg 0)
    | 2 => s.inCycle v (fun s => s.runRms e arg 0)
    | 3 => s.inCycle v (fun s => s.runHarm e)
    | 5 => s.inCycle v (fun s => s.runPqev e (v.startAbs % 1024))
    | 6 => s.inCycle v (fun s => s.runTherm e arg 0)
    | 8 => s.runCapture
    | _ => s

/-- An invocation's work: a STREAM task only gathers words; a BLOCK task takes the block; a slot runs its program. -/
def Block.runTask (s : Block) (e : Nat) (v : Invocation) : Block :=
  if v.task = 32 then s
  else if v.task = 33 then (match v.prog with
    | 4 => s.runSupra e v.stream
    | 8 => s.runCapBlock v.stream
    | _ => s)
  else s.asHeard e (fun s => s.runSlot e v)

/-- A P07 slot has missed its deadline: a step in progress ends with DEADLINE (R148, R150). -/
def Block.recalMissed (s : Block) : Block :=
  if !s.eng.recalMiss then s
  else
    let s := s.modEng (fun b => { b with recalMiss := false })
    if s.spare.state ≠ 0 && s.spare.state ≠ 5 then (s.stepFail 5).showSpare else s

/-- INVOCATION_COMPLETE (R166, R167, R171, R196): the running invocation of engine schedule e ends. ok: the result of a P10
self-check. A late one delivers nothing; an injected miss counts, and its posts are withheld. -/
def Block.invDone (s : Block) (e : Nat) (ok : Bool) : Block :=
  match s.running e with
  | none => s
  | some v =>
    let s := s.engBusy e s.time.clk
    let s := if v.late then s.lateDone e v
      else
        let s := if v.inj then s.missNote e v 0 0 else s
        let old := s.posts
        let t := s.runTask e v
        if v.inj then { t with posts := old } else t
    let s := s.dropInv e v
    let s := if v.prog = 10 && !ok then s.engHalt (s.runnerOf e) 6 else s
    let s := (s.engChoose e).recalMissed
    if s.pageState (mePage e) = psDraining && (s.engine e).queue.isEmpty then s.engOff e else s

/-- DEADLINE_MISS also ends a step of the spare unit whose P07 slot it is (R148). -/
def Block.missStep (s : Block) (e : Nat) : Block := (s.deadlineMiss e).recalMissed

/-- WB_BLOCK_COMPLETE (R119, R121, R163, R528): the block goes to the subscribed engines, is dropped where its buffer is held, or is
not produced while the request of the page is not granted. -/
def Block.wbStep (s : Block) (k : Nat) (bufferHeld : Bool) : Block :=
  match (s.stream k).ready with
  | none => s
  | some _ =>
    if s.pwr.ready && !s.granted 0x19 then
      s.wbSkip k
    else if bufferHeld then s.wbComplete k true
    else
      let bseq := (s.stream k).bseq
      let s := s.wbComplete k false
      match (s.stream k).blocks.head? with
      | some b => s.engBlocks k bseq (leNat ((b.drop 4).take 8))
      | none => s

/-- A schedule starts from its programs' initial state (R180, R184, R212, R235): P01's and P06's carries are 0, the window sums of
P02, P04's intervals, P05, the filters of P06 and P08's captures start over. P03 and P07 keep nothing between invocations but words. -/
def Block.freshStart (s : Block) (e : Nat) : Block :=
  let feed := s.fld (pg (mePage e) 0x44) 1 0
  let s := if (s.enginesOf 1).contains e then s.clearCarry feed else s
  let s := if (s.enginesOf 2).contains e then { s with feed := { s.feed with agg := setNth s.feed.agg feed [] } } else s
  let s := if (s.enginesOf 4).contains e then forEach (bitsIn 8 (s.progArg e)) (fun k s =>
      s.modPq (fun p => { p with supra := setNth p.supra k SupraAcc.empty })) s
    else s
  let s := if (s.enginesOf 8).contains e then s.capAbort.modPq (fun p => { p with armed := none, blks := List.replicate 8 [] }) else s
  let s := if (s.enginesOf 5).contains e then s.pqRestart else s
  if (s.enginesOf 6).contains e then forEach [0, 1] (fun c s => s.modCirc c (fun x =>
      let a : CircProg := { x.acked with carry := [0, 0, 0, 0] }
      { x with
        acked := a
        sent := none
        tf := none
        tr := none })) (s.modTherm (fun t =>
          { t with
            temps := [none, none, none]
            blockNo := none }))
  else s

/-- At a pick 0, before the engines' own work: schedules due now start fresh; latch: this pick 0 closes a latch (R181). -/
def Block.startsDue (s : Block) (latch : Bool) : Block :=
  forEach (List.range 16) (fun e s =>
    let g := s.engine e
    let s := if latch && g.startAt = 2 then s.modEngine e (fun g => { g with startAt := 1 }) else s
    if (s.engine e).startAt = 1 then s.freshStart e else s) s

/-- The restart of the units that LEAN had stopped (R520). -/
def Block.unitsRun (s : Block) : Block :=
  let s := forEach (List.range 12) (fun i s => s.modEngine (4 + i) (fun g => { g with startAt := if g.startAt = 3 then 3 else 1, queue := [] })) s
  forEach (List.range 8) (fun k s =>
    if s.rbit (wbCfg k) 0 && s.pageState 0x19 = psRun && !(s.stream k).running then s.wbStart k else s) s.showAux

/-- LEAN entry (R520, R151, R235, R271): what LEAN stops acts as under ABORT, and ME4 to ME15 release their grants. -/
def Block.unitsLean (s : Block) : Block :=
  let s := ((s.stepAbort).auxPowerOff).pqLean
  let s := s.testAbort
  let s := forEach (List.range 8) (fun k s => s.wbStop k true) s
  forEach (List.range 12) (fun i s =>
    let e := 4 + i
    let s := s.placeholdAll e fInvalid
    if (s.arbFind (mePage e)).isSome then s.arbRelease (mePage e) else s) s

end Sys2Proof.Machine
end

