-- ==== Sys2Proof/Machine/Pages.lean ====
section
/-! DEFINITION. What the 64 pages have in common (R399 to R406, R545 to R553, R598): field checks, detector counts, enables,
commits of shadowed registers, soft resets and injection, each handed to the page's own unit. -/

namespace Sys2Proof.Machine

/-! ### Field checks and detectors -/

/-- The field checks of a page. -/
def pageRules (p : Nat) : List FieldRule :=
  if 0x07 ≤ p ∧ p ≤ 0x16 then chRules
  else if 0x1D ≤ p ∧ p ≤ 0x2C then meRules
  else match p with
    | 0x00 => sysRules | 0x01 => pwrRules | 0x05 => warpRules | 0x17 => spareRules | 0x18 => fltRules | 0x19 => wbRules
    | 0x1A => auxRules | 0x2E => feedRules | 0x2F => ledgerRules | 0x30 => tariffRules | 0x31 => demandRules
    | 0x32 => billRules | 0x33 => pqRules | 0x34 => thermRules | 0x35 => poutRules | 0x36 => plsiRules | 0x37 => dispRules
    | 0x38 => tampRules | 0x3A => storRules | 0x3C => cryptRules | 0x3D => joinRules
    | _ => []

/-- A written word that its page refuses whole, with the detector. -/
def Block.wordBad (s : Block) (p o : Nat) (v : Word) : Option Nat :=
  if 0x1D ≤ p ∧ p ≤ 0x2C then
    if o = 0x44 then (if progArgBad (s.schedImage (p - 0x1D)) v.toNat then some 5 else none)
    else if 0x100 ≤ o ∧ o < 0x200 then (if slotWordBad o v then some 5 else none)
    else none
  else match p with
    | 0x1A => if 0x80 ≤ o && o < 0xC0 && !auxEntryOk v then some 2 else none
    | 0x33 => if pqWordOk o v then none else some 6
    | 0x35 => if poutWordOk o v then none else some 2
    | 0x3D => if joinWordOk o v then none else some 4
    | _ => none

/-- How many detectors a page has (R545). -/
def detectors (p : Nat) : Nat :=
  if 0x07 ≤ p ∧ p ≤ 0x16 ∨ 0x1D ≤ p ∧ p ≤ 0x2C then 7
  else nth 0 [6, 8, 4, 3, 5, 8, 3, 0, 0, 0, 0, 0, 0, 0, 0, 0, 0, 0, 0, 0, 0, 0, 0, 13, 5, 4, 6, 2, 4, 0, 0, 0, 0, 0, 0, 0, 0, 0, 0, 0,
    0, 0, 0, 0, 0, 6, 6, 7, 6, 5, 4, 7, 7, 4, 4, 4, 6, 8, 10, 9, 5, 10, 5, 5] p

/-- The page has detector d; JOIN's detector 9 is reserved (R545). -/
def hasDetector (p d : Nat) : Bool := 1 ≤ d && d ≤ detectors p && !(p = 0x3D && d = 9)

/-- Metrology pages (R545, R631). -/
def metrology (p : Nat) : Bool :=
  (5 ≤ p && p ≤ 0x18) || (0x1C ≤ p && p ≤ 0x2C) || p == 0x2E || p == 0x2F || p == 0x31 || p == 0x32

/-- PAGE_CTRL.ENABLE and MODE are ignored (R631). -/
def ctrlIgnored (p : Nat) : Bool :=
  [0x00, 0x01, 0x02, 0x04, 0x05, 0x18, 0x2E, 0x2F, 0x30, 0x32, 0x36, 0x38, 0x39, 0x3B, 0x3E, 0x3F].contains p
/-- PAGE_CTRL.ENABLE alone is ignored (R631). -/
def enableIgnored (p : Nat) : Bool := ctrlIgnored p || p == 0x03 || p == 0x2D

/-- The detector of a SHADOW_CTL write that selects the next pick 0 on a page that commits at the latch (R219, R305, R347). -/
def latchOnlyDetector (p : Nat) : Nat := if p = 0x2E || p = 0x34 || p = 0x32 then 3 else 4

/-! ### Enables (R402, R553) -/

/-- ENABLE of a page committed; abort: MODE. -/
def Block.pageEnable (s : Block) (p : Nat) (on abort : Bool) : Block :=
  if enableIgnored p then s
  else if 0x07 ≤ p ∧ p ≤ 0x16 then
    let n := p - 0x07
    if !on && abort && s.pageState p = psDraining then
      (s.modMod n (fun d => { d with line := d.line.map (fun w => { w with cause := 4, clamp := none }) })).setPageState p psOff
    else if !on && s.spare.served = some n then (s.setB (pg p 0x04) 0 true).raise p 5 0
    else if !on && s.spare.ch = n && (s.spare.state = 1 || s.spare.state = 2) then (s.stepFail 6).chEnable n false abort
    else s.chEnable n on abort
  else if 0x1D ≤ p ∧ p ≤ 0x2C then s.meEnable (p - 0x1D) on abort
  else match p with
    | 0x17 => s.spareEnable on abort
    | 0x19 => s.wbEnable
    | 0x1A => s.auxEnable on abort
    | 0x1B => s.dacEnable on
    | 0x31 => s.demandEnable on abort
    | 0x33 => s.pqEnable on abort
    | 0x35 => s.poutEnable
    | 0x37 => s.dispEnable on
    | 0x3A => s.storEnable on abort
    | 0x3C => s.cryptEnable on abort
    | 0x3D => s.joinEnable on abort
    | _ => s.setPageState p (if on then psRun else psOff)

/-- A page has work in flight that a drain waits for (R402). -/
def Block.inFlight (s : Block) (p : Nat) : Bool :=
  if 0x07 ≤ p ∧ p ≤ 0x16 then (s.mod (p - 0x07)).line.any (fun w => decide (w.pick < (s.mod (p - 0x07)).drainFrom))
  else if 0x1D ≤ p ∧ p ≤ 0x2C then !(s.engine (p - 0x1D)).queue.isEmpty
  else match p with
    | 0x17 => 1 ≤ s.spare.state && s.spare.state ≤ 4
    | 0x19 => s.wb.any (fun w => w.running || w.ready.isSome)
    | 0x1A => s.aux.seq.isSome || s.aux.urg.isSome
    | 0x1B => s.aux.dac.isSome
    | 0x31 => s.dem.any (fun d => d.isOpen)
    | 0x33 => s.pq.cap.isSome
    | 0x35 => s.pout.any (fun o => o.running || o.pulseEnd.isSome)
    | 0x3A => decide (0 < s.stageUsed)
    | 0x3C => !s.husk.ops.isEmpty
    | 0x3D => s.nextOut.isSome
    | _ => false

/-- DRAIN_COMPLETE (R402): a draining page with nothing left in flight is OFF. -/
def Block.drainDone (s : Block) (p : Nat) : Block :=
  if s.pageState p = psDraining && !s.inFlight p then
    let s := s.setPageState p psOff
    match p with
    | 0x17 => (s.modSpare (fun q => { q with start := none, rotActive := false, rotWait := none })).showSpare
    | 0x35 => s.showPout
    | 0x3D => s.showJoin
    | _ => if 0x1D ≤ p ∧ p ≤ 0x2C then s.engRequest (p - 0x1D) else s
  else s

/-! ### Shadowed registers and commits (R22, R406) -/

/-- The pending words of a page. -/
def Block.pendingOf (s : Block) (p : Nat) : List (Nat × Word) := s.shadow.filter (fun x => x.1 / 0x400 = p)
/-- They are dropped. -/
def Block.dropPending (s : Block) (p : Nat) : Block := { s with shadow := s.shadow.filter (fun x => x.1 / 0x400 ≠ p) }
/-- A word made pending (R9, R406). -/
def Block.makePending (s : Block) (a : Nat) (v : Word) : Block := { s with shadow := Sparse.put a v s.shadow }

/-- The bank selections of the FLT page await a commit too (R109). -/
def Block.profPending (s : Block) : Bool := (List.range 4).any (fun k => s.rbit (profCfg k) 18)

/-- SHADOW_CTL.PENDING (R406). -/
def Block.hasPending (s : Block) (p : Nat) : Bool :=
  !(s.pendingOf p).isEmpty || (p = 0x2F && !s.led.defShadow.isEmpty) || (p = 0x18 && s.profPending)

/-- SHADOW_DISCARD: every pending write of the page is discarded, one held by an overlap too (R77, R116). -/
def Block.discardPage (s : Block) (p : Nat) : Block :=
  let s := s.dropPending p
  match p with
  | 0x2F => s.modLed (fun l => { l with defShadow := [] })
  | 0x18 => forEach (List.range 4) (fun k s =>
      if s.rbit (profCfg k) 18 then ((s.setF (profCfg k) 18 17 0)).setF (profCfg k) 24 24 (s.profActive k) else s) (s.setN (pg 0x18 0xF0) 0)
  | _ => if 0x07 ≤ p ∧ p ≤ 0x16 then s.setB (pg p 0x4C) 10 false else s

/-- The page refuses the words that a commit would leave, whole, with this detector. -/
def Block.commitBad (s : Block) (p : Nat) : Option Nat :=
  let w (o : Nat) : Word := s.pendR (pg p o)
  let bad (ok : Bool) (d : Nat) : Option Nat := if ok then none else some d
  match p with
  | 0x02 => bad (arbWordsOk (w 0x40) (w 0x44)) 3
  | 0x05 => bad (s.refOk (w 0x40)) 7
  | 0x1A => bad (decide ((w 0x40).bits 17 16 ≠ 3)) 2
  | 0x1B => bad (s.dacOk (w 0x40)) 2
  | 0x2E => bad (feedOk w) 3
  | 0x31 => bad (demandOk w) 4
  | 0x33 => bad (s.pqOk w) 6
  | 0x34 => bad (s.thermOk w) 3
  | 0x36 => bad (plsiOk w) 2
  | 0x37 => bad (dispOk w) 1
  | 0x3C => bad (s.ledgerSlotOk (w 0x40)) 5
  | 0x3D => bad (s.joinOk w) 4
  | _ => none

/-- A committed SHIFT[n] or CHAIN_CFG[n] (R116): held during an overlap of channel n, else a settling episode. -/
def Block.commitFlt (s : Block) (a : Nat) (v : Word) : Block :=
  let o := a % 0x400
  let n := (o - (if o < 0x84 then 0x40 else 0x84)) / 4
  if v = s.getR a then s
  else if s.parallel = some n then (s.makePending a v).setB (pg 0x18 0xF0) n true
  else
    let s := s.setR a v
    let s := forEach (List.range 17) (fun m s =>
      if m = n || (m = 16 && s.chanOf 16 = n) then s.startSettleChain m else s) s
    s.restartCal n

/-- A pending bank selection of profile k commits, or is held by an overlap (R109). -/
def Block.commitProf (s : Block) (k : Nat) : Block :=
  let a := profCfg k
  if !s.rbit a 18 then s
  else
    let users := (List.range 17).filter (fun m => !(s.chainCfg m).bit 2 && (s.chainCfg m).bits 1 0 = k)
    let held := match s.parallel with
      | some n => users.contains n
      | none => false
    if held then (if s.rbit a 17 then s else (s.setB a 17 true).raise 0x18 5 0)
    else
      let s := ((s.setF a 16 16 (s.fld a 24 24)).setF a 18 17 0).raise 0x18 4 0
      forEach users (fun m s =>
        (s.startSettleChain m).restartCal (s.chanOf m)) s

/-- A pending word put in place; of PAGE_CTRL only ENABLE and MODE are shadowed (R401). -/
def Block.commitReg (s : Block) (a : Nat) (v : Word) : Block := if a % 0x400 = 4 then s.setF a 1 0 (v.bits 1 0) else s.setR a v

/-- One pending word of a page takes effect. -/
def Block.commitWord (s : Block) (p a : Nat) (v : Word) : Block :=
  if 0x07 ≤ p && p ≤ 0x16 && a = pg p 0x40 then
    let r := s.commitChCfg (p - 0x07) v
    if r.2 then r.1.makePending a v else r.1
  else if p = 0x18 && a ≠ pg p 0x04 then s.commitFlt a v
  else s.commitReg a v

/-- What a commit of a page brings about once its words are in place; `old` gives them as they were, `moved` those changed. -/
def Block.commitEffect (s : Block) (p : Nat) (old : Nat → Word) (moved : Nat → Bool) : Block :=
  if 0x07 ≤ p ∧ p ≤ 0x16 then (if (old 0x40).bit 8 != s.rbit (pg p 0x40) 8 then s.checkRoles else s)
  else match p with
    | 0x02 => s.arbReeval
    | 0x05 =>
      let nom := s.rbit (pg 5 0x40) 4 != (old 0x40).bit 4
      let t := s.warpCommitted (old 0x40) (old 0x44)
      let t := if (old 0x40).bits 2 0 ≠ s.refSel then t.checkRefRole else t
      let t := if moved 0x48 then t.pqChanged else t
      if nom then (t.modPq (fun q => { q with nomCycle := s.time.cycle })).systemSave else t
    | 0x06 => s.acqCommitted
    | 0x19 => forEach (List.range 8) (fun k s => if moved (0x40 + 4 * k) then s.wbCommitted k else s) s
    | 0x1A => s.showAux
    | 0x1B => s.dacCommitted
    | 0x2E => s.feedCommitted
    | 0x30 => s.showTariff.showDst
    | 0x31 => s.modLed (fun l => { l with pendEnds := mergeEnds l.pendEnds (s.demandCommitted old) })
    | 0x33 =>
      let masked := s.fld (pg 0x33 0x48) 19 16 != (old 0x48).bits 19 16
      let s := if masked || moved 0x4C || moved 0x50 || moved 0x54 || moved 0x58 then s.pqChanged else s
      let s := if (old 0x48).bit 0 && !s.rbit (pg 0x33 0x48) 0 then s.pqTruncate else s
      let placed := moved 0x68 || s.fld (pg 0x33 0x5C) 5 4 != (old 0x5C).bits 5 4
      (if placed then s.modPq (fun q => { q with armed := none }) else s).capArm
    | 0x34 => s.thermCommitted old
    | 0x35 => s.poutCommitted old
    | 0x37 => s.dispCommitted
    | 0x3D => s.joinCommitted (old 0x40) (s.rbit (pg 0x3D 0x04) 1)
    | _ => s

/-- PAGE_CTRL as committed: a change of ENABLE, or of MODE while the page drains (R402, R553). -/
def Block.commitCtrl (s : Block) (p : Nat) (old : Word) : Block :=
  let new := s.getR (pg p 0x04)
  let on := new.bit 0
  if on != old.bit 0 then s.pageEnable p on (new.bit 1)
  else if !on && new.bit 1 && !old.bit 1 && s.pageState p = psDraining then s.pageEnable p false true
  else s

/-- A commit point of a page other than ENG and the ME pages. -/
def Block.commitPage (s : Block) (p : Nat) : Block :=
  let pend := s.pendingOf p
  let s :=
    if pend.isEmpty then s
    else match s.commitBad p with
      | some d => (s.dropPending p).raise p d 0
      | none =>
        let regs := s.regs
        let old (o : Nat) : Word := Sparse.get (regReset (pg p o)) (pg p o) regs
        let moved (o : Nat) : Bool := pend.any (fun x => x.1 = pg p o && x.2 ≠ old o)
        let s := if p = 0x18 then (s.dropPending p).setN (pg 0x18 0xF0) 0 else s.dropPending p
        let s := forEach pend (fun x s => s.commitWord p x.1 x.2) s
        let body := pend.any (fun x => x.1 ≠ pg p 0x04)
        ((if body then s.commitEffect p old moved else s)).commitCtrl p (old 0x04)
  match p with
  | 0x18 => forEach (List.range 4) (fun k s => s.commitProf k) s
  | 0x2F => s.defsCommit
  | _ => s

/-- Commits of ENG.SUB and the ME pages due at one pick (R169): the schedule of an engine that results from both is admitted, or the
pending words of both to that engine are discarded. -/
def Block.commitEngine (s : Block) (eng me : Bool) (e : Nat) : Block :=
  let p := mePage e
  let mine := (if me then s.pendingOf p else []) ++ (if eng then (s.pendingOf 0x1C).filter (fun x => x.1 = subReg e) else [])
  if mine.isEmpty then s
  else
    let clean : Block := { s with shadow := s.shadow.filter (fun x => !(mine.any (fun y => y.1 = x.1))) }
    let old := s.getR (pg p 0x04)
    let t := forEach mine (fun x s => s.commitReg x.1 x.2) clean
    let body := mine.any (fun x => x.1 ≠ pg p 0x04)
    if body && !t.admits e then clean.raise p 5 0
    else (if body then ((t.subMoved e (s.getR (subReg e))).engRequest e).arbRetry p else t).commitCtrl p old

/-- Commits of a set of pages at one pick, ENG and the ME pages judged together, the others in ascending order. -/
def Block.commitPages (s : Block) (pages : List Nat) : Block :=
  let eng := pages.contains 0x1C
  let s := forEach (pages.filter (fun p => !(0x1C ≤ p && p ≤ 0x2C))) (fun p s => s.commitPage p) s
  let s := forEach (List.range 16) (fun e s => s.commitEngine eng (pages.contains (mePage e)) e) s
  if eng then s.commitPage 0x1C else s

/-- Pages with something pending whose SHADOW_CTL selects a commit point: 0 the next pick 0, 1 the next latch. -/
def Block.pagesDue (s : Block) (point : Nat) : List Nat :=
  (List.range 64).filter (fun p => s.fld (pg p 0x2C) 1 0 = point && s.hasPending p)

/-! ### Soft resets (R401, R550, R598) -/

/-- The header of a page after a reset of its block (R7, R399): GEN, PAGE_STAT and BUDGET stay. -/
def Block.headerBack (s : Block) (p : Nat) : Block :=
  let s := forEach [0x04, 0x0C, 0x10, 0x18, 0x1C, 0x20, 0x2C] (fun o s => s.setR (pg p o) (regReset (pg p o))) s
  { s with
    frozen := s.frozen.filter (fun x => x.1 / 0x400 ≠ p)
    freezeEnd := s.freezeEnd.filter (fun x => x.1 ≠ p)
    hiCap := s.hiCap.filter (fun x => x.1 / 0x400 ≠ p) }

/-- FLT's registers back, SHIFT and CHAIN_CFG of a channel in overlap held (R116), and S6 and settling started on every modulator (R115,
R123). -/
def Block.fltSoftReset (s : Block) : Block :=
  let s := forEach [0xD8, 0xDC, 0xE0, 0xE4, 0xE8, 0xF0] (fun o s => s.setR (pg 0x18 o) (regReset (pg 0x18 o))) s
  let s := forEach (List.range 34) (fun i s =>
    let a := pg 0x18 (0x40 + 4 * i)
    if s.parallel = some (i % 17) && s.getR a ≠ regReset a then (s.makePending a (regReset a)).setB (pg 0x18 0xF0) (i % 17) true
    else s.setR a (regReset a)) s
  let s := forEach (List.range 4) (fun k s => (s.setF (profCfg k) 18 17 0).setF (profCfg k) 24 24 0) s
  let s := s.modFlt (fun f => { f with addrSet := false, satEpisode := [], satQuiet := [] })
  forEach (List.range 17) (fun m s => (s.s6Start m).startSettleChain m) s

/-- The registers that RING's soft reset restores: EN, NOTIFY and WM of every descriptor, and the counters (R418). -/
def Block.ringSoftReset (s : Block) : Block :=
  let s := forEach (List.range 16) (fun n s =>
    let r := regReset (dCfg n)
    let s := s.modRing n (fun m => { m with wm := false, leaving := if s.ringOn n = r.bit 31 then m.leaving else none })
    ((((s.setF (dCfg n) 31 31 (r.bits 31 31)).setF (dCfg n) 27 27 (r.bits 27 27)).setF (dCfg n) 15 0 (r.bits 15 0)).setN (dLost n) 0)) s
  (s.setN (pg 0x2D 0x240) 0).setN (pg 0x2D 0x248) 0

/-- A page's own reset, as its chapter states it. -/
def Block.unitReset (s : Block) (p : Nat) : Block :=
  let back (l : List Nat) (s : Block) : Block := forEach l (fun o s => s.setR (pg p o) (regReset (pg p o))) s
  if 0x07 ≤ p ∧ p ≤ 0x16 then
    let t := (s.chSoftReset (p - 0x07)).wbStale (p - 0x07)
    if t.rbit (pg p 0x40) 8 != s.rbit (pg p 0x40) 8 then t.checkRoles else t
  else if 0x1D ≤ p ∧ p ≤ 0x2C then s.meSoftReset (p - 0x1D)
  else match p with
    | 0x00 => s.sysSoftReset
    | 0x01 => s.pwrSoftReset.showPwr.chargerUpdate
    | 0x02 => s.arbSoftReset
    | 0x03 => s.clkSoftReset
    | 0x04 => s.rtcSoftReset
    | 0x05 => if s.refSel = 0 then s.warpSoftReset else s.warpSoftReset.checkRefRole
    | 0x06 => (back [0x40, 0x48, 0x4C, 0x50, 0x54] s).acqCommitted
    | 0x17 => s.spareSoftReset
    | 0x18 => s.fltSoftReset
    | 0x19 => s.wbSoftReset
    | 0x1A => s.auxSoftReset
    | 0x1B => s.dacSoftReset
    | 0x1C => s.engSoftReset
    | 0x2D => s.ringSoftReset
    | 0x2E => s.feedSoftReset
    | 0x2F => s.ledgerSoftReset
    | 0x30 => s.tariffSoftReset.showTariff.showDst
    | 0x31 => s.demandSoftReset
    | 0x32 => back [0x40, 0x60] s
    | 0x33 => s.pqSoftReset
    | 0x34 => s.thermSoftReset
    | 0x35 => s.poutSoftReset
    | 0x36 => s.plsiSoftReset
    | 0x37 => s.dispSoftReset
    | 0x38 => s.tampSoftReset
    | 0x39 => s.recSoftReset
    | 0x3A => s.storSoftReset
    | 0x3B => s.huskSoftReset
    | 0x3C => s.cryptSoftReset
    | 0x3D => s.joinSoftReset
    | 0x3E => back [0x44, 0x48, 0x4C, 0x50, 0x54, 0x58, 0x5C] s
    | 0x3F => s.testSoftReset
    | _ => s

/-- The soft reset of a page takes effect: GEN advances, pending writes go, the header and the unit's registers return; a page that
was disabled, draining or halted runs again, since ENABLE is 1 after the reset. TAMP keeps its header (R387). -/
def Block.pageReset (s : Block) (p : Nat) : Block :=
  let st := s.pageState p
  let s := { s with host := { s.host with resets := s.host.resets.filter (· ≠ p) } }
  let s := (s.discardPage p).bumpGen p
  let s := if p = 0x38 then s else s.headerBack p
  let s := s.unitReset p
  let s := if st = psOff || st = psDraining then s.pageEnable p true false
    else if st = psFault && 0x1D ≤ p && p ≤ 0x2C then s.setPageState p psRun
    else s
  s.resetBegin p

/-- A soft reset that a strobe performs now: FLT's only at a pick 0 (R123). -/
def Block.resetsDue (s : Block) : List Nat := s.host.resets.filter (fun p => p ≠ 0x18 || s.time.pick = 0)

/-! ### Injection (R64, R546 to R548) -/

/-- One detector of a page injected: an event only where the page is OFF or in its reset, or where its chapter says so. Of a CLK detector
chapter 01 says only that it may be injected: the event alone (DEDUCED, log 47). What WARP's injection changes holds for the word of this
pick (R45). -/
def Block.injectOne (s : Block) (p d : Nat) : Block :=
  if s.pageState p = psOff || s.inReset p then s.raiseX p d 0 false true
  else if 0x07 ≤ p ∧ p ≤ 0x16 then (let t := s.chInject (p - 0x07) d
    if d = 2 then t.overloadTrigger p true else t)
  else if 0x1D ≤ p ∧ p ≤ 0x2C then s.meInject (p - 0x1D) d
  else match p with
    | 0x05 => (s.warpInject d).remarkAll
    | 0x06 => s.acqInject d
    | 0x17 => s.spareInject d
    | 0x33 => s.pqInject d
    | 0x38 => s.tampInject d
    | _ => s.raiseX p d 0 false true

/-- INJECTED_RAISE: the detectors that a page's EVT_INJ bits name, in ascending order. -/
def Block.injectPage (s : Block) (p : Nat) : Block :=
  let bits := s.host.inj.filter (fun x => x.1 = p)
  let s := { s with host := { s.host with inj := s.host.inj.filter (fun x => x.1 ≠ p) } }
  forEach ((List.range 32).filter (fun d => hasDetector p d && bits.any (fun x => x.2.testBit d))) (fun d s => s.injectOne p d) s

/-- A write to EVT_INJ is answered DENIED (R403, R547). -/
def Block.injDenied (s : Block) (p : Nat) (v : Word) : Bool :=
  metrology p && s.lifeState = 3 && !s.testOpen && (List.range 32).any (fun d => hasDetector p d && v.bit d)

/-- EVT_INJ_WRITE accepted: the bits await the next strobe; in FIELD each one into a metrology page is reported (R547). -/
def Block.injWrite (s : Block) (p : Nat) (v : Word) : Block :=
  if metrology p && s.lifeState = 3 && !s.testOpen then s
  else
    let ds := (List.range 32).filter (fun d => hasDetector p d && v.bit d)
    if ds.isEmpty then s
    else
      let s := { s with host := { s.host with inj := s.host.inj ++ [(p, v.toNat)] } }
      if metrology p && s.lifeState = 3 then
        forEach ds (fun d s => ((s.wrapAdd (pg 0x3F 0x64) 1).setN (pg 0x3F 0x68) (codeOf p d)).raise 0x3F 5 (codeOf p d)) s
      else s

end Sys2Proof.Machine
end

