-- ==== Sys2Proof/Machine/Host.lean ====
section
/-! DEFINITION. The host port (R392 to R427): reads and writes of single words by access code, frames with their checks and
replies, the rings' descriptors and counters, and the commands of RING0. -/

namespace Sys2Proof.Machine

/-! ### Reading a register -/

/-- Offsets of _LO words, whose read captures the _HI word behind them (R59, R628). -/
def isLo (p o : Nat) : Bool :=
  if o = 0x1C then true
  else if 0x1D ≤ p ∧ p ≤ 0x2C then o == 0x5C
  else match p with
    | 0x00 | 0x01 => o == 0x58
    | 0x04 => o == 0x40 || o == 0x48 || o == 0x58
    | 0x05 => [0x68, 0x74, 0x7C, 0x8C, 0x94, 0xA0].contains o
    | 0x17 => o == 0x9C || o == 0xB8
    | 0x1A => o == 0x5C || o == 0x64
    | 0x2E => (0x100 ≤ o && o < 0x300 && (o % 0x80 == 0 || o % 0x80 == 0x34)) || (0x300 ≤ o && o % 0x40 == 0)
    | 0x2F => o == 0x48
    | 0x30 => o == 0x60 || o == 0x74
    | 0x31 => [0x88, 0x90, 0x9C, 0xA8, 0xB4, 0xBC, 0xC4].contains o
    | 0x32 => o == 0x50 || o == 0x58
    | 0x33 => o == 0xC8 || o == 0xD8
    | 0x34 => o == 0x78 || o == 0x80 || o == 0xA0 || (0x100 ≤ o && o < 0x140 && o % 8 == 0)
    | 0x39 => o == 0x60 || o == 0x68
    | 0x3A => o == 0x9C || o == 0xA4
    | 0x3B => o == 0x54
    | 0x3C => o == 0x4C
    | 0x3D => o == 0x5C
    | _ => false

/-- Bits of the pages lo to hi for which a condition holds, page lo as bit 0. -/
def pageBits (lo hi : Nat) (f : Nat → Bool) : Nat :=
  ((List.range (hi + 1 - lo)).filter (fun k => f (lo + k))).foldl (fun v k => v + 2 ^ k) 0

/-- A page's summary bit (R407) and its fault bit (R544). -/
def Block.pageSum (s : Block) (p : Nat) : Bool := (s.getR (pg p 0x0C) &&& s.getR (pg p 0x10)) != 0
def Block.pageFault (s : Block) (p : Nat) : Bool := s.fld (pg p 0x18) 15 0 != 0

/-- DESC_STAT of a ring (R422). -/
def Block.descStat (s : Block) (n : Nat) : Nat :=
  let m := s.ringMeta n
  b2n m.gapPending * 2 ^ 27 + b2n m.losing * 2 ^ 26 + b2n m.wm * 2 ^ 25 + b2n m.full * 2 ^ 24 + s.ringUsed n % 2 ^ 17

/-- Block registers that are computed as they are read; none: the register file holds the word. -/
def Block.computed (s : Block) (p o : Nat) : Option Nat :=
  match p with
  | 0x00 => match o with
    | 0x44 => some (pageBits 0 31 s.pageSum)
    | 0x48 => some (pageBits 32 63 s.pageSum)
    | 0x50 => some ((s.getR (pg 0 0x50)).withBits 0 0 (b2n ((List.range 64).any s.pageFault))).toNat
    | 0x60 => some (pageBits 0 31 s.pageFault)
    | 0x64 => some (pageBits 32 63 s.pageFault)
    | _ => none
  | 0x01 => if o = 0x68 then some s.chargeTime else none
  | 0x02 => match o with
    | 0x54 => some (s.reqInfo (s.fld (pg 2 0x50) 5 0))
    | 0x58 => some (s.reqRefuse (s.fld (pg 2 0x50) 5 0))
    | 0x5C => some (Sparse.get 0 (s.fld (pg 2 0x50) 5 0) s.arb.waited)
    | _ => none
  | 0x04 => match o with
    | 0x40 => some s.rtcNow
    | 0x44 => some (s.rtcNow / 2 ^ 32)
    | _ => none
  | 0x05 =>
    let w := s.pendR (pg 5 0x44)
    if o = 0x44 then some ((w.withBits 31 16 (if w.bit 15 then 0xFFFF else 0)).toNat) else none
  | 0x19 => if o = 0x60 then some (if s.granted 0x19 then
      ((List.range 8).filter (fun k => (s.stream k).running)).foldl (fun v k => v + 2 ^ k) 0 else 0) else none
  | 0x2D =>
    if o = 0x244 then some (((List.range 16).filter (fun n => (s.ringMeta n).wm)).foldl (fun v n => v + 2 ^ n) 0)
    else if 0x40 ≤ o && o < 0x240 && o % 0x20 = 0x18 then some (s.descStat ((o - 0x40) / 0x20))
    else none
  | 0x2F => s.ledgerView o
  | 0x30 => match o with
    | 0x74 => some s.nextSwitch
    | 0x78 => some (s.nextSwitch / 2 ^ 32)
    | _ => none
  | 0x31 => s.demandView o
  | 0x32 => s.billView o
  | 0x33 => if o = 0x70 then some s.capStat else none
  | 0x36 => if 0x60 ≤ o && o < 0x80 && s.isPhaseB ((o - 0x60) / 4 % 4) then some 0 else none
  | 0x37 => if o = 0x44 then some ((s.getR (pg 0x37 0x44)).withBits 0 0 (b2n s.dispSends)).toNat else none
  | 0x39 =>
    let id := s.fld (pg 0x39 0x48) 15 0
    match o with
    | 0x4C => some (s.recInfo id)
    | 0x50 => some (s.recSeq id)
    | 0x54 => some (recSlotAddr id 0)
    | 0x58 => some (recSlotAddr id 1)
    | _ => none
  | 0x3A => s.storView o
  | 0x3B =>
    let k := s.slot (s.fld (pg 0x3B 0x4C) 5 0)
    match o with
    | 0x50 => some s.slotInfo
    | 0x54 => some k.counter
    | 0x58 => some (k.counter / 2 ^ 32)
    | 0x5C => some k.epoch
    | 0x60 => some s.testLeft
    | _ => none
  | 0x3E => if o = 0x60 then some (s.ringMeta 0).expect else none
  | 0x3F => if o = 0x58 then some (s.ptAccess none).2.toNat else none
  | _ => none

/-- L fields of the pages that load persistent state in a start (R593, R632 to R653): first and last offset. -/
def loadedFields (p : Nat) : List (Nat × Nat) :=
  match p with
  | 0x04 => [(0x40, 0x44), (0x54, 0x60), (0x70, 0x74)]
  | 0x17 => [(0x6C, 0x6C), (0xC0, 0xC0)]
  | 0x2F => [(0x44, 0x4C), (0x54, 0x54), (0x60, 0xE8)]
  | 0x30 => [(0x60, 0x78)]
  | 0x31 => [(0xA8, 0xC8)]
  | 0x32 => [(0x48, 0x5C), (0x64, 0x68)]
  | 0x34 => [(0x78, 0x7C), (0x100, 0x13C)]
  | 0x36 => [(0x60, 0x7C)]
  | 0x38 => [(0x44, 0x44), (0x50, 0x60)]
  | 0x39 => [(0x44, 0x44), (0x4C, 0x50), (0x5C, 0x74), (0x7C, 0x7C)]
  | 0x3B => [(0x44, 0x44), (0x50, 0x5C), (0x70, 0x7C), (0xC0, 0xFC)]
  | 0x3D => [(0x50, 0x50)]
  | _ => []

/-- Not loaded yet: the field reads 0 while PAGE_STAT shows STARTING (R593). -/
def Block.notLoaded (s : Block) (p o : Nat) : Bool :=
  s.pageState p == psStarting && (loadedFields p).any (fun r => decide (r.1 ≤ o) && decide (o ≤ r.2))

/-- The word a page register shows, without the effects of the read (R399 to R406, R9). -/
def Block.regView (s : Block) (p o : Nat) : Word :=
  let a := pg p o
  if o < 0x40 then match o with
    | 0x04 => ((s.getR a).withBits 1 0 ((s.pendR a).bits 1 0)).withBits 4 4 (b2n (s.host.resets.contains p))
    | 0x08 => BitVec.ofNat 32 (s.pageState p + s.gen p % 8 * 256)
    | 0x14 => 0
    | 0x2C => (s.getR a).withBits 9 8 (b2n (s.hasPending p))
    | _ => s.getR a
  else match RegTable.row p o with
    | none => 0
    | some r =>
      if r.acc = .wo || s.notLoaded p o then 0
      else match s.computed p o with
        | some v => BitVec.ofNat 32 v
        | none => s.pendR a

/-- A captured _HI word (R628); before the first _LO read it reads 0 (log 28). -/
def Block.hiWord (s : Block) (a : Nat) : Word := Sparse.get 0 a s.hiCap

/-- The word a host read of a page register returns: the frozen one under FREEZE, the captured one of a _HI (R59, R401). -/
def Block.regRead (s : Block) (p o : Nat) : Word :=
  let a := pg p o
  if 4 ≤ o && isLo p (o - 4) then s.hiWord a
  else match s.frozen.find? (fun x => x.1 = a) with
    | some x => x.2
    | none => s.regView p o

/-- What reading a register does: capture of _HI, and the advance of the registers that step on each access. -/
def Block.regReadEffect (s : Block) (p o : Nat) : Block :=
  let a := pg p o
  let s := if isLo p o then
      let hi := match s.frozen.find? (fun x => x.1 = a + 4) with
        | some x => x.2
        | none => s.regView p (o + 4)
      { s with hiCap := Sparse.put (a + 4) hi s.hiCap }
    else s
  if p = 0x17 && o = 0x74 then s.calNext
  else if p = 0x18 && o = 0xDC then s.nextCoef
  else if p = 0x2F && o = 0x54 then s.defNext
  else if p = 0x30 && o = 0x54 then s.calStep
  else if p = 0x3F && o = 0x58 then (s.ptAccess none).1
  else s

/-! ### The page header written -/

/-- FREEZE set: the page's RO block registers are captured; the device clears it 1,024 picks on (R401). -/
def Block.freeze (s : Block) (p : Nat) : Block :=
  let offs := ((RegTable.ofPage p).filter (fun r => r.acc = .ro)).flatMap (fun r => (List.range r.count).map (fun k => r.off + k * r.stride))
  let words := offs.map (fun o => (pg p o, s.regView p o))
  let s := s.setB (pg p 0x04) 8 true
  { s with
    frozen := s.frozen.filter (fun x => x.1 / 0x400 ≠ p) ++ words
    freezeEnd := s.freezeEnd.filter (fun x => x.1 ≠ p) ++ [(p, s.absPick + 1024)] }

/-- FREEZE returns to 0. -/
def Block.unfreeze (s : Block) (p : Nat) : Block :=
  let s := s.setB (pg p 0x04) 8 false
  { s with
    frozen := s.frozen.filter (fun x => x.1 / 0x400 ≠ p)
    freezeEnd := s.freezeEnd.filter (fun x => x.1 ≠ p) }

/-- FREEZE_TIMEOUT: 1,024 picks after the write. -/
def Block.freezeTimeout (s : Block) (p : Nat) : Block :=
  if s.freezeEnd.any (fun x => x.1 = p && decide (x.2 ≤ s.absPick)) then s.unfreeze p else s

/-- PAGE_CTRL.SRST written: the soft reset comes at the next strobe, FLT's at the next pick 0 (R401, R123). -/
def Block.askReset (s : Block) (p : Nat) : Block :=
  if s.host.resets.contains p then s else { s with host := { s.host with resets := s.host.resets ++ [p] } }

/-- PAGE_CTRL written (R401, R406, R631): ENABLE and MODE become pending, unless the page ignores them; a channel that SP serves
cannot be disabled (R87). -/
def Block.ctrlWrite (s : Block) (p : Nat) (v : Word) : Block :=
  let a := pg p 0x04
  let old := s.pendR a
  let serving := 0x07 ≤ p && p ≤ 0x16 && s.spare.served == some (p - 0x07) && !v.bit 0
  let en := if enableIgnored p || serving then old.bits 0 0 else v.bits 0 0
  let mode := if ctrlIgnored p then old.bits 1 1 else v.bits 1 1
  let new := ((s.getR a).withBits 0 0 en).withBits 1 1 mode
  let s := if serving then s.raise p 5 0 else s
  let s := if new.bits 1 0 = old.bits 1 0 then s
    else if p = 0x2D then s.setF a 1 1 mode
    else s.makePending a (new.withBits 8 8 0)
  let s := if v.bit 8 then s.freeze p else if s.rbit a 8 then s.unfreeze p else s
  if v.bit 4 then s.askReset p else s

/-- SHADOW_CTL written (R406). -/
def Block.shadowPoint (s : Block) (p sel : Nat) : Block :=
  if sel = 3 then s
  else if sel = 0 && commitsAtLatch p then s.raise p (latchOnlyDetector p) 0
  else s.setF (pg p 0x2C) 1 0 sel
def Block.shadowWrite (s : Block) (p : Nat) (v : Word) : Block :=
  (if v.bit 9 then s.discardPage p else s).shadowPoint p (v.bits 1 0)

/-- EVT_RAW written: bits that a raise sets in the same clock period stay (R403). -/
def Block.evtClear (s : Block) (p : Nat) (bits raised : Word) : Block :=
  s.setR (pg p 0x0C) (s.getR (pg p 0x0C) &&& ~~~(bits &&& ~~~raised))

/-- FAULT_CODE written (R404). -/
def Block.faultClear (s : Block) (p : Nat) (v : Word) : Block :=
  if v.bits 15 0 = 0xFFFF then (s.setN (pg p 0x18) 0).set64 (pg p 0x1C) 0 else s

def Block.headerWrite (s : Block) (p o : Nat) (v : Word) : Block :=
  match o with
  | 0x04 => s.ctrlWrite p v
  | 0x0C => s.evtClear p v 0
  | 0x10 => s.setR (pg p 0x10) (v &&& 0xFFFFFFFE)
  | 0x14 => if s.injDenied p v then s else s.injWrite p v
  | 0x18 => s.faultClear p v
  | 0x2C => s.shadowWrite p v
  | _ => s

/-! ### Ring descriptors and counters (R408, R409, R418, R423) -/

/-- A placement obeys R408. -/
def Block.placeOk (s : Block) (n base size : Nat) : Bool :=
  let capLo := 0x100000 + s.fld (pg 0x33 0x68) 19 0
  let capHi := capLo + s.fld (pg 0x33 0x68) 29 20 * 1024
  base % size == 0 && 0x100000 ≤ base && base + size ≤ 0x180000 && (base + size ≤ capLo || capHi ≤ base)
    && (List.range 16).all (fun k => k == n || !s.ringOn k || base + size ≤ s.getN (dBase k) || s.getN (dBase k) + s.ringSize k ≤ base)

def Block.descReject (s : Block) (n : Nat) : Block := s.raise 0x2D 4 n

/-- DESC_BASE written. -/
def Block.descBase (s : Block) (n : Nat) (v : Word) : Block :=
  let b := v.bits 23 0
  let same := b == s.getN (dBase n)
  if (s.ringOn n && !same) || !s.placeOk n b (s.ringSize n) then s.descReject n
  else if same then s
  else (s.setN (dBase n) b).modRing n (fun m => { m with moved := true })

/-- WM_REACHED of a device-produced ring follows USED (R423). -/
def Block.wmCheck (s : Block) (n : Nat) : Block :=
  if s.ringHost n || !s.ringOn n then s
  else
    let now := decide (16 * s.fld (dCfg n) 15 0 ≤ s.ringUsed n)
    let was := (s.ringMeta n).wm
    let s := s.modRing n (fun m => { m with wm := now })
    if now && !was then s.raise 0x2D 2 n else s

/-- A RING1 response (R415): STATUS, index of the first failing pair or address, values read. -/
def Block.respond1 (s : Block) (type seq status : Nat) (index : Option Nat) (values : List Word) : Block :=
  let body := leBytes 4 seq ++ leBytes 1 status ++ [0#8, 0#8, 0#8] ++ leBytes 4 (index.getD 0xFFFFFFFF) ++ leBytes 4 0
    ++ (values.map Word.toBytes).flatten
  s.put 1 [{ type := type, stamp := s.stampNow, flags := 0, gen := s.gen 0x3E, body := body }]

/-- RING1 takes a response of this length without holding RING0 (R411, R415): with room, where older entries give way, or where it
would be lost whole anyway. -/
def Block.room1 (s : Block) (bytes : Nat) : Bool :=
  !s.ringOn 1 || s.fld (dCfg 1) 29 28 = 1 || s.ringSize 1 / 2 < bytes || s.ringRoom 1 bytes

/-- Values that a REG_READ entry of this length may bring back. -/
def addrsOf (e : TailEntry) : List Nat := (List.range ((e.len - 16) / 4)).map (fun i => leNat ((e.bytes.drop (16 + 4 * i)).take 4))
def respBytes (e : TailEntry) : Nat :=
  if e.type = 2 then 32 + ((((addrsOf e).filter (· ≠ 0xFFFFFFFF)).length + 3) / 4) * 16 else 32

/-- RING0 commands are taken: not in HOLD (R415). -/
def Block.takes0 (s : Block) : Bool := s.powered && s.pwr.st != .hold

/-- The command at RING0's tail where it is one to execute: in SEQ order, of a defined TYPE and length. -/
def Block.next0 (s : Block) : Option TailEntry :=
  match s.tailEntry 0 with
  | none => none
  | some e =>
    if e.len = 0 || e.bytes.isEmpty || s.ringAborts 0 || e.seq ≠ (s.ringMeta 0).expect || e.len < 32 then none
    else if e.type = 1 || (e.type = 2 && e.len ≤ 254 * 16) then some e
    else none

/-- Entries that only get a status: LEN 0, of an aborted ring, of a reserved TYPE, of a wrong length or out of SEQ order (R414 to R418);
the lowest code where several apply (R395). -/
def Block.skim0 (s : Block) : Nat → Block
  | 0 => s
  | fuel + 1 =>
    if !s.takes0 || s.next0.isSome || !s.room1 32 then s
    else match s.tailEntry 0 with
      | none => s
      | some e =>
        let bad (st : Block) (code : Nat) : Block := st.respond1 (if e.type = 2 then 0x0102 else 0x0101) e.seq code none []
        if e.len = 0 then (s.tailDrop 0 e.seq).respond1 0x0101 e.seq 3 none []
        else if e.bytes.isEmpty then s
        else
          let code := if s.ringAborts 0 then 8
            else if e.type ≠ 1 && e.type ≠ 2 then 2
            else if e.len < 32 || (e.type = 2 && 254 * 16 < e.len) then 3
            else 9
          Block.skim0 (bad ((s.tailTake 0 e.len).expectAfter 0 e.seq) code) fuel

/-- EN of a descriptor changes (R409, R418): a changed placement starts empty; a disabled host-produced ring still answers what
lies below HEAD. -/
def Block.ringSwitch (s : Block) (n : Nat) (on : Bool) : Block :=
  if on then
    let s := if (s.ringMeta n).moved then
        ((s.setN (dHead n) 0).setN (dTail n) 0).modRing n (fun m => { m with moved := false, groups := [] })
      else s
    s.modRing n (fun m => { m with wm := false, leaving := none })
  else if s.ringHost n && 0 < s.ringUsed n then
    let s := s.modRing n (fun m => { m with leaving := some (s.rbit (pg 0x2D 0x04) 1) })
    match n with
    | 0 => s.skim0 256
    | 11 => s.cryptSkim 256
    | 15 => s.joinSkim 256
    | _ => s
  else s

/-- DESC_CFG written. -/
def Block.descCfg (s : Block) (n : Nat) (v : Word) : Block :=
  let old := s.getR (dCfg n)
  let size := v.bits 20 16
  let on := old.bit 31
  let changes := v.bit 30 != old.bit 30 || v.bits 29 28 ≠ old.bits 29 28 || size ≠ old.bits 20 16
  if size < 6 || 16 < size || 1 < v.bits 29 28 || (on && changes) || !s.placeOk n (s.getN (dBase n)) (2 ^ size) then s.descReject n
  else
    let s := s.setR (dCfg n) (v &&& 0xF81FFFFF)
    let s := if size ≠ old.bits 20 16 then s.modRing n (fun m => { m with moved := true }) else s
    if v.bit 31 != on then s.ringSwitch n (v.bit 31) else s.wmCheck n

/-- Entry boundaries from a counter on: LEN of each entry in turn reaches distance d (R409, R410). zeroOk: an entry of LEN 0, which
nothing can delimit, ends the walk. -/
def Block.lands (s : Block) (n x d : Nat) (zeroOk : Bool) : Nat → Bool
  | 0 => false
  | fuel + 1 =>
    if d = 0 then true
    else
      let len := 16 * leNat (s.ringRead n (x + 14) 1)
      if len = 0 then zeroOk
      else if d < len then false
      else Block.lands s n (x + len) (d - len) zeroOk fuel

/-- Entries within c bytes from a counter on. -/
def Block.entriesIn (s : Block) (n x c : Nat) : Nat → Nat
  | 0 => 0
  | fuel + 1 =>
    let len := 16 * leNat (s.ringRead n (x + 14) 1)
    if len = 0 || c < len then 0 else 1 + Block.entriesIn s n (x + len) (c - len) fuel

/-- Groups that remain when the consumer has moved c bytes on. -/
def Block.groupsLeft (s : Block) (n : Nat) : Nat → List (Nat × Nat × Nat) → List (Nat × Nat × Nat)
  | _, [] => []
  | c, (x, len, k) :: t =>
    if c = 0 then (x, len, k) :: t
    else if len ≤ c then Block.groupsLeft s n (c - len) t
    else ((x + c) % 2 ^ 32, len - c, k - s.entriesIn n x c 256) :: t

def Block.counterReject (s : Block) (n : Nat) : Block := s.raise 0x2D 5 n

/-- DESC_TAIL_WRITE (R409): the host consumes a ring. -/
def Block.tailWrite (s : Block) (n : Nat) (v : Word) : Block :=
  if s.ringHost n then s
  else
    let old := s.getN (dTail n)
    let d := (v - s.getR (dTail n)).toNat
    if d = 0 || s.ringUsed n < d || !s.lands n old d false 4097 then s.counterReject n
    else
      let left := s.groupsLeft n d (s.ringMeta n).groups
      ((s.setR (dTail n) v).modRing n (fun m => { m with groups := left })).wmCheck n

/-- DESC_HEAD_WRITE (R409): the host has produced entries; the device looks at them. -/
def Block.headWrite (s : Block) (n : Nat) (v : Word) : Block :=
  if !s.ringHost n then s
  else
    let old := s.getN (dHead n)
    let d := (v - s.getR (dHead n)).toNat
    if d = 0 || s.ringFree n < d || !s.lands n old d true 4097 then s.counterReject n
    else
      let empty := s.ringUsed n = 0
      let s := s.setR (dHead n) v
      let s := if 16 * s.fld (dCfg n) 15 0 < s.ringUsed n then s.modRing n (fun m => { m with wm := false }) else s
      let s := if empty && s.rbit (dCfg n) 27 then (s.raise 0x2D 1 n).setF (pg 0x2D 0x240) n n 1 else s
      match n with
      | 0 => s.skim0 256
      | 11 => s.cryptSkim 256
      | 15 => s.joinSkim 256
      | _ => s

/-- A write within the descriptors. -/
def Block.ringRegWrite (s : Block) (o : Nat) (v : Word) : Block :=
  let n := (o - 0x40) / 0x20
  match (o - 0x40) % 0x20 with
  | 0x00 => s.descBase n v
  | 0x04 => s.descCfg n v
  | 0x08 => s.headWrite n v
  | 0x0C => s.tailWrite n v
  | _ => s

/-! ### Command registers -/

/-- SP_CMD (R154). -/
def Block.spCmd (s : Block) (v : Word) : Block :=
  let ch := v.bits 11 8
  match v.bits 3 0 with
  | 0 => s
  | 1 => s.spStep .step ch
  | 2 => s.spRotate
  | 3 => s.spStop
  | 4 => s.spStep .subst ch
  | 5 => s.spRelease
  | 6 => s.spAnchor (v.bits 20 16)
  | 7 => s.calSave
  | 8 => s.spMeas ch
  | _ => s.spReject

/-- AUX_CMD (R277). -/
def Block.auxCmd (s : Block) (v : Word) : Block :=
  match v.bits 3 0 with
  | 0 => s
  | 1 => s.auxCal
  | 2 => s.auxUrgent v
  | 3 => s.auxCmdStart
  | 4 => s.auxCmdStop
  | _ => s.raise 0x1A 2 0

/-- ENG_CMD other than ABANDON while a command runs is rejected (R187). -/
def Block.engGuard (s : Block) (cmd e : Nat) (f : Block) : Block :=
  if s.engBusyCmd && cmd ≠ 3 then s.engReject none cmd e
  else if 5 ≤ cmd && e = 15 then s.engReject none cmd e
  else f

/-- ENG_CMD (R187). -/
def Block.engCmd (s : Block) (v : Word) : Block :=
  let e := v.bits 19 16
  let cmd := v.bits 3 0
  let f : Block := match cmd with
    | 1 => s.engOpen e (v.bits 8 8)
    | 2 => s.engCheck e
    | 3 => s.engAbandon e
    | 4 => s.engActivate e (v.bits 8 8) s.mcPositions
    | 5 => s.engTakeover e (v.bit 9)
    | 6 => s.engGiveback e (v.bit 9)
    | 7 => s.engBist e
    | _ => s.engReject none cmd e
  if cmd = 0 then s else s.systemAfter (s.engGuard cmd e f)

/-- MC_CMD (R605). -/
def Block.mcCmd (s : Block) (v : Word) : Block :=
  let u := v.bits 19 16
  let cmd := v.bits 3 0
  if cmd = 0 then s
  else if 1 < u then s.rtcReject
  else match cmd with
    | 1 => s.mcOpen u
    | 2 => s.systemAfter s.mcCheck
    | 3 => s.mcAbandon
    | 4 => s.mcActivate u
    | _ => s.rtcReject

/-- CLEAR_ONE and CLEAR_ALL of LEDGER_CMD (R321, R350). -/
def Block.ledgerCmd (s : Block) (v : Word) : Block :=
  match v.bits 3 0 with
  | 0 => s
  | 1 => s.clearTotals [v.bits 25 16]
  | 2 => s.clearTotals (List.range 1024)
  | _ => s.ledReject

/-- STOR_CMD (R472). -/
def Block.storCmd (s : Block) (v : Word) : Block :=
  let cs := v.bits 8 8
  match v.bits 3 0 with
  | 0 => s
  | 1 => s.storMount cs
  | 2 => s.storUnmount cs
  | 3 => s.storRead cs (v.bits 27 16)
  | 4 => s.storFormat cs
  | _ => s.storReject false

/-- Registers whose write is a command or steps something; none: an ordinary register. -/
def Block.cmdWrite (s : Block) (p o : Nat) (v : Word) : Option Block :=
  let cmd := v.bits 3 0
  if 0x07 ≤ p ∧ p ≤ 0x16 then
    if o = 0x68 then some (s.modMod (p - 0x07) (fun d => { d with peakClr := true })) else none
  else if 0x1D ≤ p ∧ p ≤ 0x2C then
    if o = 0x88 then some (s.modEngine (p - 0x1D) (fun g => { g with loadClr := true })) else none
  else match p, o with
    | 0x00, 0x4C => some (match cmd with
      | 0 => s
      | 1 => if v.bits 31 16 = 0x5359 then s.resetAsk 3 else s.sysReject
      | 2 => s.scrubNow
      | _ => s.sysReject)
    | 0x00, 0x54 => some (s.firstClear v)
    | 0x01, 0x4C => some (match cmd with
      | 0 => s
      | 1 => s.pwrCmd true
      | 2 => s.pwrCmd false
      | _ => s.raise 1 5 0)
    | 0x04, 0x50 => some (match cmd with
      | 0 => s
      | 1 => s.rtcSet
      | _ => s.rtcReject)
    | 0x04, 0x64 => some (s.mcCmd v)
    | 0x04, 0x68 => some (s.mcData v)
    | 0x05, 0x54 => some (if v.bit 0 then s.latchCmd else s)
    | 0x17, 0x40 => some (s.spCmd v)
    | 0x17, 0x6C => some (s.calSelect (v.bits 0 0))
    | 0x17, 0x70 => some (s.calAddr v)
    | 0x17, 0x74 => some (s.calWrite v)
    | 0x18, 0xC8 => some (s.profWrite 0 v)
    | 0x18, 0xCC => some (s.profWrite 1 v)
    | 0x18, 0xD0 => some (s.profWrite 2 v)
    | 0x18, 0xD4 => some (s.profWrite 3 v)
    | 0x18, 0xD8 => some (s.coefAddr v)
    | 0x18, 0xDC => some (s.coefWrite v)
    | 0x1A, 0x48 => some (s.auxCmd v)
    | 0x1C, 0x40 => some (s.engCmd v)
    | 0x1C, 0x48 => some (s.imgData v)
    | 0x2E, 0x5C => some s
    | 0x2F, 0x54 => some (s.defWrite v)
    | 0x2F, 0x58 => some (s.ledgerCmd v)
    | 0x2F, 0x68 => some (if v.bit 0 then s.viewClear else s)
    | 0x30, 0x54 => some (s.tarCalWrite v)
    | 0x30, 0x5C => some (match cmd with
      | 0 => s
      | 1 => s.tarCheck
      | 2 => s.tarSchedule
      | 3 => s.tarCancel
      | _ => s.tarReject)
    | 0x32, 0x44 => some (match cmd with
      | 0 => s
      | 1 => s.billCmdSheaf
      | _ => s.raise 0x32 3 0)
    | 0x33, 0x6C => some (match cmd with
      | 0 => s
      | 1 => s.capCmdTrigger
      | 2 => s.capCmdRelease (v.bits 9 8)
      | _ => s.raise 0x33 6 0)
    | 0x34, 0x58 => some (match cmd with
      | 0 => s
      | 1 => s.seasonStart
      | _ => s.raise 0x34 3 0)
    | 0x34, 0x5C => some (s.hostT 0 v)
    | 0x34, 0x60 => some (s.hostT 1 v)
    | 0x37, 0x48 => some (match cmd with
      | 0 => s
      | 1 => s.dispShow (v.bit 24) (v.bits 21 16)
      | 2 => s.dispAuto
      | _ => s.raise 0x37 1 0)
    | 0x38, 0x48 => some (match cmd with
      | 0 => s
      | 1 => s.tampAck
      | _ => s.raise 0x38 6 0)
    | 0x39, 0x40 => some (match cmd with
      | 0 => s
      | 1 => s.resolveCmd (v.bits 31 16) (v.bits 8 8)
      | 2 => s.recDuplicate (v.bits 31 16)
      | _ => s.raise 0x39 7 0)
    | 0x3A, 0x58 => some (s.storCmd v)
    | 0x3A, o => s.storHeld o
    | 0x3B, 0x40 => some (match cmd with
      | 0 => s
      | 1 => s.transAborts ((s.lcCmd 0 (v.bits 31 16)).cryptFlush 256)
      | 2 => s.transAborts ((s.lcCmd 1 (v.bits 31 16)).cryptFlush 256)
      | 3 => s.challenge
      | 4 => s.testClose
      | _ => s.huskReject)
    | 0x3B, 0x48 => some (s.unlockWrite v)
    | 0x3C, 0x44 => some (match cmd with
      | 0 => s
      | 1 => s.drbgRestart true
      | _ => s.raise 0x3C 5 0)
    | 0x3D, 0x4C => some (match cmd with
      | 0 => s
      | 1 => if s.joinCmdBad v then s.joinReject else s.joinExport
      | 2 => if s.joinCmdBad v then s.joinReject else s.joinImport (v.bits 13 8)
      | 3 => if s.joinCmdBad v then s.joinReject else s.importDiscard
      | _ => s.joinReject)
    | 0x3F, 0x40 => some (match cmd with
      | 0 => s
      | 1 => s.testBist (v.bits 23 16)
      | 2 => s.fuseBlow (v.bits 23 16)
      | 3 => s.stepVendor
      | _ => s.testReject)
    | 0x3F, 0x54 => some (s.ptAddr v)
    | 0x3F, 0x58 => some (s.ptAccess (some v)).1
    | 0x2D, o => if 0x40 ≤ o && o < 0x240 then some (s.ringRegWrite o v) else none
    | _, _ => none

/-! ### Writing a word -/

/-- A block register written by its access code (R9), its field checks applied (R8). -/
def Block.blockWrite (s : Block) (p o : Nat) (v : Word) : Block :=
  match RegTable.row p o with
  | none => s
  | some r =>
    let a := pg p o
    let m := BitVec.ofNat 32 r.mask
    let old := s.pendR a
    let new := (old &&& ~~~m) ||| (v &&& m)
    let c := checkFields (pageRules p) o old new
    let keep (s : Block) : Block := forEach c.2 (fun d s => s.raise p d 0) (s.setR a c.1)
    match r.acc with
    | .ro | .wo | .sp => s
    | .w1c => s.setR a (s.getR a &&& ~~~(v &&& m))
    | .rwl => if 3 ≤ s.lifeState then (if p = 0x38 then s.raise 0x38 6 0 else s) else keep s
    | .rw => match s.wordBad p o new with
      | some d => s.raise p d 0
      | none => keep s
    | .rws => match s.wordBad p o new with
      | some d => s.raise p d 0
      | none => forEach c.2 (fun d s => s.raise p d 0) (s.makePending a c.1)

/-- What follows a word written to a block register: the displays and decisions that read it at once. -/
def Block.regFollow (s : Block) (p o : Nat) : Block :=
  match p, o with
  | 0x01, _ => s.showPwr.chargerUpdate
  | 0x17, 0x80 => s.showMatch
  | 0x30, 0x50 => s.calShow
  | _, _ => s

/-- A word written to a page register. -/
def Block.regWriteTo (s : Block) (p o : Nat) (v : Word) : Block :=
  if o < 0x40 then s.headerWrite p o v
  else match s.cmdWrite p o v with
    | some t => t
    | none => (s.blockWrite p o v).regFollow p o

/-! ### Windows (R398) -/

/-- Within a region of an enabled or placed ring that the host produces (R28). -/
def Block.hostRing (s : Block) (a : Nat) : Bool :=
  (List.range 16).any (fun n => s.ringHost n && s.ringOn n && s.getN (dBase n) ≤ a && a < s.getN (dBase n) + s.ringSize n)

/-- STATUS that one address brings: 0, BAD_ADDR 4, or DENIED 5. -/
def Block.readStatus (_s : Block) (a : Nat) : Nat :=
  if a % 4 ≠ 0 then 4
  else if a < 0x12000 || (0x20000 ≤ a && a < 0x60000) || (0x100000 ≤ a && a < 0x180000) then 0
  else if 0x180000 ≤ a && a < 0x200000 then 5
  else 4
def Block.writeStatus (s : Block) (a : Nat) (v : Word) : Nat :=
  if a % 4 ≠ 0 then 4
  else if a < 0x10000 then (if a % 0x400 = 0x14 && s.injDenied (a / 0x400) v then 5 else 0)
  else if a < 0x12000 || (0x20000 ≤ a && a < 0x60000) || (0x180000 ≤ a && a < 0x200000) then 5
  else if 0x100000 ≤ a && a < 0x180000 then (if s.hostRing a then 0 else 5)
  else 4

/-- Bytes of a key slot's payload, which the host reads as 0 (R490). -/
def keyPayload (a : Nat) : Bool :=
  (0x033C00 ≤ a && a < 0x036800 && decide (16 ≤ (a - 0x033C00) % 88))
    || (0x036800 ≤ a && a < 0x036C00 && decide (16 ≤ (a - 0x036800) % 512))

/-- A word read from a window, and what the read does. -/
def Block.hostRead (s : Block) (a : Nat) : Word × Block :=
  if a < 0x10000 then (s.regRead (a / 0x400) (a % 0x400), s.regReadEffect (a / 0x400) (a % 0x400))
  else if a < 0x12000 then (s.windowWord (a - 0x10000), s)
  else if a < 0x60000 then
    (BitVec.ofNat 32 (leNat ((List.range 4).map (fun i => if keyPayload (a + i) then 0#8 else nth 0#8 (memRead s.feram a 4) i))), s)
  else (BitVec.ofNat 32 (leNat (memRead s.sram a 4)), s)

/-- A word written to a window that takes it. -/
def Block.hostWrite (s : Block) (a : Nat) (v : Word) : Block :=
  if a < 0x10000 then s.regWriteTo (a / 0x400) (a % 0x400) v
  else s.sramPut a v.toBytes

/-- Pages that a word at an address needs out of their reset (R550). -/
def Block.wordHeld (s : Block) (a : Nat) : Bool := a < 0x10000 && s.inReset (a / 0x400)

/-- A denied word: counted, its address kept, HOST detector 4 raised (R398, R426). -/
def Block.violate (s : Block) (a frameAddr : Nat) (write : Bool) : Block :=
  ((s.bump (pg 0x3E 0x58) 15 0 1).setN (pg 0x3E 0x5C) (b2n write * 2 ^ 24 + a % 2 ^ 24)).raise 0x3E 4 frameAddr

/-! ### Frames (R393 to R397) -/

/-- A write frame of its own begins: UNLOCK's two words lie in two of them (R505). -/
def Block.nextFrame (s : Block) : Block := { s with host := { s.host with frameNo := s.host.frameNo + 1 } }

/-- The host port answers: from the release of reset on (R593). -/
def Block.portUp (s : Block) : Bool := s.powered && !(s.pwr.st == .starting && s.pwr.startStep == 1)

/-- The bytes of a frame's header (R393). -/
def frameHeader (f : Frame) : List Byte := [f.cmd] ++ leBytes 3 f.addr.toNat ++ leBytes 2 f.count.toNat

/-- CRC right (R393): over the header, and for a write over its words too. -/
def frameCrcOk (f : Frame) (write : Bool) : Bool :=
  f.crc == crc16 (frameHeader f ++ (if write then (f.words.map Word.toBytes).flatten else []))

/-- Address of word k of a frame. -/
def wordAddr (f : Frame) (fifo : Bool) (k : Nat) : Nat := f.addr.toNat + (if fifo then 0 else 4 * k)

/-- A reply: STATUS, words, CRC most significant byte first (R393). -/
def replyBytes (status : Nat) (words : List Word) : List Byte :=
  let b := BitVec.ofNat 8 status :: (words.map Word.toBytes).flatten
  b ++ beBytes 2 (crc16 b).toNat

/-- HOST_STAT, LAST_ADDR and the counters after a frame (R395, R426). -/
def Block.frameDone (s : Block) (f : Frame) (status index : Nat) (words : List Word) : Block :=
  let s := (s.setN (pg 0x3E 0x44) (index % 65536 * 65536 + f.cmd.toNat * 256 + status)).setN (pg 0x3E 0x48) f.addr.toNat
  let s := if status = 0 then s.wrapAdd (pg 0x3E 0x4C) 1
    else if status = 1 then s.bump (pg 0x3E 0x50) 15 0 1
    else s.bump (pg 0x3E 0x54) 15 0 1
  { s with host := { s.host with reply := replyBytes status words } }

/-- A frame that is not executed: its detector, and its reply with zeros for read words (R395, R427). -/
def Block.frameFail (s : Block) (f : Frame) (status index nread : Nat) : Block :=
  let s := match status with
    | 1 => s.raise 0x3E 1 f.addr.toNat
    | 2 | 3 => s.raise 0x3E 2 f.addr.toNat
    | 4 => s.raise 0x3E 3 f.addr.toNat
    | 6 => s.raise 0x3E 5 f.addr.toNat
    | _ => s
  s.frameDone f status index (List.replicate nread 0)

/-- In HOLD a frame is answered and does nothing (R18, R395). -/
def Block.frameHold (s : Block) (status nread : Nat) : Block :=
  { s with host := { s.host with reply := replyBytes status (List.replicate nread 0) } }

/-- Index of the first failing word, among the statuses of a frame's words. -/
def firstBad (l : List Nat) : Nat := l.findIdx (· ≠ 0)

/-- A word whose page stays in its reset for 64 picks is returned BLOCK_RESET (R21, R550, R551). -/
def Block.blockReturned (s : Block) (a : Nat) : Block :=
  (s.bump (pg 0 0x84) 15 0 1).raiseSeen (blockKey (a / 0x400) 0x3E) 0 5 (0x3E + a / 0x400 % 256 * 256)

/-- The words of a write frame applied in order, up to one that is held too long. -/
def Block.applyWords (s : Block) (f : Frame) (fifo stuck : Bool) : Nat → List Word → Block × Option Nat
  | _, [] => (s, none)
  | k, v :: t =>
    let a := wordAddr f fifo k
    if stuck && s.wordHeld a then (s.blockReturned a, some k)
    else Block.applyWords (s.hostWrite a v) f fifo stuck (k + 1) t

/-- The words of a read frame, in order. -/
def Block.readWords (s : Block) (f : Frame) (fifo stuck : Bool) (k : Nat) : Nat → Block × List Word × Option Nat
  | 0 => (s, [], none)
  | n + 1 =>
    let a := wordAddr f fifo k
    if stuck && s.wordHeld a then (s.blockReturned a, [], some k)
    else
      let r := s.hostRead a
      let rest := Block.readWords r.2 f fifo stuck (k + 1) n
      (rest.1, r.1 :: rest.2.1, rest.2.2)

/-- A WRITE or WRITE_FIFO frame (R393 to R395). stuck: a page in its reset holds a word for 64 picks. -/
def Block.frameWrite (s : Block) (f : Frame) (fifo stuck : Bool) : Block :=
  let s := s.nextFrame
  let n := f.count.toNat
  let codes := (List.range n).map (fun k => s.writeStatus (wordAddr f fifo k) (nth 0 f.words k))
  let status :=
    if !frameCrcOk f true then 1
    else if n = 0 || 256 < n || f.words.length ≠ n then 3
    else if codes.contains 4 then 4
    else if codes.contains 5 then 5
    else 0
  if s.pwr.st == .hold then s.frameHold (if status = 0 then 7 else status) 0
  else match status with
    | 0 =>
      let r := s.applyWords f fifo stuck 0 f.words
      (match r.2 with
      | none => r.1.frameDone f 0 0xFFFF []
      | some k => r.1.frameFail f 6 k 0).resetDue
    | 5 =>
      let bad := (List.range n).filter (fun k => nth 0 codes k = 5)
      (forEach bad (fun k s => s.violate (wordAddr f fifo k) f.addr.toNat true) s).frameFail f 5 (firstBad codes) 0
    | 4 => s.frameFail f 4 (firstBad codes) 0
    | c => s.frameFail f c 0xFFFF 0

/-- A READ or READ_FIFO frame. -/
def Block.frameRead (s : Block) (f : Frame) (fifo stuck : Bool) : Block :=
  let n := f.count.toNat
  let codes := (List.range n).map (fun k => s.readStatus (wordAddr f fifo k))
  let status :=
    if !frameCrcOk f false then 1
    else if n = 0 then 3
    else if codes.contains 4 then 4
    else if codes.contains 5 then 5
    else 0
  if s.pwr.st == .hold then s.frameHold (if status = 0 then 7 else status) n
  else match status with
    | 0 =>
      let r := s.readWords f fifo stuck 0 n
      match r.2.2 with
      | none => r.1.frameDone f 0 0xFFFF r.2.1
      | some k => r.1.frameFail f 6 k n
    | 5 =>
      let bad := (List.range n).filter (fun k => nth 0 codes k = 5)
      (forEach bad (fun k s => s.violate (wordAddr f fifo k) f.addr.toNat false) s).frameFail f 5 (firstBad codes) n
    | 4 => s.frameFail f 4 (firstBad codes) n
    | c => s.frameFail f c 0xFFFF n

/-- A frame as it arrived, under the CMD its row stands for; any other CMD is reserved and answered BAD_CMD (R393). -/
def Block.frameIn (s : Block) (cmd : Nat) (f : Frame) (stuck : Bool) : Block :=
  if !s.portUp then s
  else if f.cmd.toNat = cmd then
    if cmd = 2 || cmd = 6 then s.frameWrite f (cmd = 6) stuck else s.frameRead f (cmd = 7) stuck
  else if [2, 3, 6, 7].contains f.cmd.toNat then s
  else if s.pwr.st == .hold then s.frameHold 2 0
  else s.frameFail f 2 0xFFFF 0

/-- FRAME_CUT_SHORT (R396). -/
def Block.frameCut (s : Block) (f : Frame) : Block :=
  if !s.portUp then s
  else if s.pwr.st == .hold then s.frameHold 3 0
  else s.frameFail f 3 0xFFFF 0

/-! ### Single words of a row, and RING0 (R414, R415) -/

/-- One register or memory word written by a row of its own: as the word of a frame, without the frame's accounting; a word that the
host may not write is denied. -/
def Block.rowWrite (s : Block) (a : Nat) (v : Word) : Block :=
  if !s.portUp || s.pwr.st == .hold then s
  else match s.writeStatus a v with
    | 0 => s.nextFrame.hostWrite a v
    | 5 => s.violate a a true
    | _ => s.raise 0x3E 3 a

/-- One register word read by a row of its own: the effects of the read. -/
def Block.rowRead (s : Block) (a : Nat) : Block :=
  if !s.portUp || s.pwr.st == .hold then s else (s.hostRead a).2

/-- Pairs of a REG_WRITE entry, padding dropped; each with its index. -/
def pairsOf (e : TailEntry) : List (Nat × Nat × Word) :=
  ((List.range ((e.len - 16) / 8)).map (fun i =>
    (i, leNat ((e.bytes.drop (16 + 8 * i)).take 4), BitVec.ofNat 32 (leNat ((e.bytes.drop (20 + 8 * i)).take 4))))).filter
      (fun x => x.2.1 ≠ 0xFFFFFFFF)

/-- A RING0 command refused for an address: HOST detector 3, or a violation for each denied one. -/
def Block.fail0 (s : Block) (type seq code : Nat) (l : List (Nat × Nat × Nat)) (write : Bool) (nread : Nat) : Block :=
  match l.find? (fun x => x.2.2 ≠ 0) with
  | none => s
  | some (i, _, _) =>
    let s := if code = 4 then s.raise 0x3E 3 (((l.find? (fun x => x.2.2 = 4)).map (·.2.1)).getD 0)
      else forEach (l.filter (fun x => x.2.2 = 5)) (fun x s => s.violate x.2.1 x.2.1 write) s
    s.respond1 type seq code (some i) (List.replicate nread 0)

/-- REG_WRITE taken from RING0 (R415). -/
def Block.regWrite0 (s : Block) (e : TailEntry) : Block :=
  let pairs := pairsOf e
  let codes := pairs.map (fun x => (x.1, x.2.1, s.writeStatus x.2.1 x.2.2))
  if codes.any (fun x => x.2.2 = 4) then s.fail0 0x0101 e.seq 4 codes true 0
  else if codes.any (fun x => x.2.2 = 5) then s.fail0 0x0101 e.seq 5 codes true 0
  else ((forEach pairs (fun x s => s.hostWrite x.2.1 x.2.2) s.nextFrame).respond1 0x0101 e.seq 0 none []).resetDue

/-- REG_READ taken from RING0 (R415). -/
def Block.regRead0 (s : Block) (e : TailEntry) : Block :=
  let l := addrsOf e
  let addrs := ((List.range l.length).zip l).filter (fun x => x.2 ≠ 0xFFFFFFFF)
  let codes := addrs.map (fun x => (x.1, x.2, s.readStatus x.2))
  if codes.any (fun x => x.2.2 = 4) then s.fail0 0x0102 e.seq 4 codes false addrs.length
  else if codes.any (fun x => x.2.2 = 5) then s.fail0 0x0102 e.seq 5 codes false addrs.length
  else
    let r := addrs.foldl (fun (acc : Block × List Word) x => let w := acc.1.hostRead x.2; (w.2, acc.2 ++ [w.1])) (s, [])
    r.1.respond1 0x0102 e.seq 0 none r.2

/-- REG_WRITE and REG_READ (type 1 and 2): the next RING0 command is taken where it is of that type and RING1 has room. -/
def Block.take0 (s : Block) (type : Nat) : Block :=
  let s := s.skim0 256
  if !s.takes0 then s
  else match s.next0 with
    | none => s
    | some e =>
      if e.type ≠ type || !s.room1 (respBytes e) then s
      else
        let s := (s.tailTake 0 e.len).expectAfter 0 e.seq
        (if type = 1 then s.regWrite0 e else s.regRead0 e).skim0 256

/-- The entry at a host-produced ring's tail cannot be read: it is answered ABORTED, in order (R556). -/
def Block.ringEcc (s : Block) (n : Nat) : Block :=
  match s.tailEntry n with
  | none => s
  | some e =>
    if e.len = 0 || e.bytes.isEmpty then s
    else
      let t := (s.tailTake n e.len).expectAfter n e.seq
      match n with
      | 0 => t.respond1 (if e.type = 2 then 0x0102 else 0x0101) e.seq 8 none []
      | 11 => (t.opAdd e.seq 0 [] (some 8)).cryptFlush 256
      | 15 => t.joinAdd ⟨e.seq, some 3, 0, 0, []⟩
      | _ => s

/-- ECC_UNCORRECTABLE (R555, R556). -/
def Block.eccRead (s : Block) (r : EccReader) (addr : Nat) : Block :=
  match r with
  | .engine e shared => (s.eccUnc (if shared then 0 else 1 + e) addr).engHalt e 7
  | .ringUnit n => (s.eccUnc 0 addr).ringEcc n
  | .logStore k =>
    let s := s.eccUnc 0 addr
    match (s.logStream k).staged with
    | [] => s
    | r :: _ => (s.modStream k (fun t => { t with staged := t.staged.drop 1, sent := 0 })).logLose k r.stamp
  | .other mem => s.eccUnc mem addr

end Sys2Proof.Machine
end

