-- ==== Sys2Proof/Machine/Strobe.lean ====
section
/-! DEFINITION. The pick strobe (R32): the order in which everything scheduled on a pick runs. The step of the Warp comes first, then at
pick 0 what closes with the cycle, commits and the latch (R22, R51 to R56), then the words of the pick (R65) and all that reads them,
and last the arbiter, the engines and the rings (R529, R166, R437). -/

namespace Sys2Proof.Machine

/-- The modulators and the filter chain run: until the save pick (R523). -/
def Block.wordsRun (s : Block) : Bool := !(s.pwr.st == .hold && s.pwr.saving)

/-- A RUN or LEAN command takes effect with the latch that closes (R520). -/
def Block.powerChange (s : Block) : Block :=
  match s.pwr.pendLean with
  | none => s
  | some lean =>
    if s.pwr.st != .run && s.pwr.st != .lean then s
    else
      let moved := (s.pwr.st == .lean) != lean
      let s := (s.modPwr (fun p => { p with pendLean := none, st := if lean then .lean else .run })).setB (pg 1 0x50) 9 false
      if !moved then s
      else
        let s := if lean then s.unitsLean else s.unitsRun
        (s.showPwr.chargerUpdate.arbReeval).raise 1 6 0

/-- What the first latch after LOCKED settles (R346) before it closes, with the boundary reasons that come of it: they are this latch's
(R54). -/
def Block.latchSettle (s : Block) : Block × Nat :=
  let was := s.warp.boundaries
  let t := (if s.led.closed.isSome then s.latchApplyAll else s).settleRestore
  let new := (t.warp.boundaries.filter (fun b => !was.contains b)).foldl (fun r b => reasonOr r (2 ^ b.2)) 0
  (t.modWarp (fun w => { w with boundaries := was }), new)

/-- Latch reasons of this pick 0 (R51 to R55); before READY none closes, and they are kept for the first latch (R594). -/
def Block.latchNow (s : Block) : Block × Nat :=
  let r := s.latchReasons
  if r = 0 then (s, 0)
  else if !s.pwr.ready then ((s.takeReasons).modWarp (fun w => { w with reasonCarry := reasonOr w.reasonCarry r }), 0)
  else
    let t := s.latchSettle
    let all := reasonOr (reasonOr r t.2) s.warp.reasonCarry
    ((t.1.takeReasons).modWarp (fun w => { w with reasonCarry := 0 }), all)

/-- The latch of this pick 0 closes (R51, R54, R324): the pages that commit at a latch, the calibration bank, the season and the
power state change with it; registers keep the definitions under which the latch counted. -/
def Block.latchClose (s : Block) (reasons : Nat) : Block :=
  let n := s.warp.nForce
  let defs := s.led.defs
  let s := s.modLed (fun l => { l with pendEnds := mergeEnds l.pendEnds s.demandOpens })
  let feed := (s.pagesDue 1).contains 0x2E && (s.commitBad 0x2E).isNone
  let s := s.commitPages (s.pagesDue 1)
  let s := s.recordLatch reasons true
  let s := if s.warp.nForce = n || feed then s else s.showFqMin
  let s := s.spareLatch
  let season := match s.led.pendSwitch with
    | some w => w.flags % 2 == 1
    | none => false
  let s := s.seasonLatch season (s.get64 (pg 5 0x94))
  let s := s.closeLatch (s.getN (pg 5 0x9C)) false
  let s := s.modLed (fun l => { l with closed := l.closed.map (fun c => { c with defs := defs }) })
  s.powerChange

/-- In HOLD the cycle turns for the Warp and ME0 to ME3; no latch but POWERFAIL closes, and nothing commits (R18, R522, R523). -/
def Block.pick0Hold (s : Block) : Block := ((s.warpCycleStart).feedCycle.owe).pulseSnapshot

/-- What every pick 0 does before the words of the pick; the cycle that ended counts for a calibration before commits (R142), a step
begins after them (R141). ENG and the ME pages
that commit at a latch commit with those that commit at its pick 0 (R169). -/
def Block.pick0 (s : Block) : Block × Bool :=
  let led := s.leading
  let s := s.warpCycleStart.spareCycle.staleCycle
  let s := (s.feedCycle.owe).pulseSnapshot
  let s := if s.following then s.followPick0 else if s.leading then s else s.followPick0.boundaries
  let s := if s.led.cmdSheaf && s.led.pendSheaf.isNone && s.pwr.ready && !s.leading then s.sheafDue 2 0 else s
  let s := s.poutCycle
  let r := s.latchNow
  let engines := if r.2 = 0 then [] else (r.1.pagesDue 1).filter (fun p => 0x1C ≤ p && p ≤ 0x2C)
  let s := r.1.dacPick0.commitPages (r.1.pagesDue 0 ++ engines)
  let latch := r.2 != 0
  let s := s.resolveDue latch
  let s := if latch then s.latchClose r.2 else s
  let s := s.leadPick0 led
  ((s.satCycle).spareBegin, latch)

/-- Mains loss (R521): every enabled voltage channel below a tenth of Udin over the words of the cycle that ended. -/
def Block.mainsLow (s : Block) (early : List (List Rat)) : Bool :=
  let ch := (List.range 16).filter (fun n => s.rbit (pg (chPage n) 0x04) 0 && !s.rbit (pg (chPage n) 0x40) 8)
  let low (n : Nat) : Bool :=
    let l := s.cycleValues n (s.time.cycle - 1) early
    decide (100 * meanOf 1024 (dot l l) < s.udin * s.udin) && decide (l.length = 1024)
  !ch.isEmpty && ch.all low

/-- Pick 4 (R38, R48, R521, R579): the cycle's measurement, by the reference or by the marker, none with REF_SEL = 6, where a HOLDOVER
that an injection or a PLL unlock brought stays until a commit of the WARP page (DEDUCED, log 47); and the mains. What it brings about
holds for the word of this pick (R44, R47). -/
def Block.pick4 (s : Block) (early : List (List Rat)) : Block :=
  if s.time.cycle = 0 then s
  else
    let s := if s.warp.srcActive = 5 then s.markerMeasure else if s.warp.srcActive = 6 then s else s.warpMeasure early
    if s.mainsLow early then s.powerFail 2 else s

/-- A strobe: time moves on to the next pick (R32), and the counts of picks with it. -/
def Block.strobeBegin (s : Block) : Block :=
  let s := s.enginesBusy.tickTime.pqStrobe
  if s.wordsRun then s.tickMods else s

/-- The words of the pick (R65) and what reads them at once: the spare unit, the wideband branch, the converter's trigger. -/
def Block.pickAll (s : Block) (bits : List (List Bool)) : Block :=
  let b := s.cutBits bits
  let r := s.pickWords b
  ((r.1.sparePick r.2).pickWide b).auxPick

/-- Everything scheduled on the pick that has begun. -/
def Block.strobeActions (s : Block) (x : PickInput) : Block :=
  let s := if s.time.pick = 0 then s.slotsAtZero else s
  let r := if s.time.pick ≠ 0 then (s, false) else if s.pwr.st == .hold then (s.pick0Hold, false) else s.pick0
  let s := forEach r.1.resetsDue (fun p s => s.pageReset p) r.1
  let s := if s.pwr.ready && s.pwr.st != .hold then s.standAll else s
  let s := if s.time.pick = 4 then s.pick4 x.early else s
  let s := if s.wordsRun then s.pickAll x.bits else s
  let s := if s.time.pick = 0 then s.startsDue r.2 else s
  let s := s.arbEval.testRefused.enginesPick.recalMissed
  let s := if s.husk.ops.any (fun o => o.phase = 0) && s.granted 0x3C then (s.opsStart 256).cryptFlush 256 else s
  (s.ledgerPick).exportPick

/-- PICK_STROBE: time moves on and everything scheduled on the pick runs. -/
def Block.strobe (s : Block) (x : PickInput) : Block := if s.warpRuns then s.strobeBegin.strobeActions x else s

end Sys2Proof.Machine
end

