-- ==== Sys2Proof/Machine/Rows.lean ====
section
/-! DEFINITION. Forms that the rows of the table share: a row that stands for a host's write is that write of the register the spec
names (R9, R398), a row that stands for an event acts where the core is powered (R18). An operand outside its range names nothing and
changes nothing. -/

namespace Sys2Proof.Machine

/-- A command's effect on the block; the queue is not its business. -/
def State.onBlock (s : State) (f : Block → Block) : State := { s with block := f s.block }

/-- At a pick strobe or another instant the command itself fixes: no moment of its own passes before it. -/
def Block.onPick (s : Block) (f : Block → Block) : Block := if s.powered then f s else s

/-- The same, for an operand in range. -/
def Block.within (s : Block) (ok : Bool) (f : Block → Block) : Block := s.onPick (fun s => if ok then f s else s)

/-- An event at its own moment, for an operand in range. -/
def Block.actIf (s : Block) (ok : Bool) (f : Block → Block) : Block := s.act (fun s => if ok then f s else s)

/-- The same for what belongs to a unit that stops in HOLD (R18): nothing happens there. -/
def Block.pickUp (s : Block) (f : Block → Block) : Block := s.onPick (fun s => if s.pwr.st == .hold then s else f s)
def Block.withinUp (s : Block) (ok : Bool) (f : Block → Block) : Block := s.within ok (fun s => if s.pwr.st == .hold then s else f s)
def Block.actUp (s : Block) (f : Block → Block) : Block := s.act (fun s => if s.pwr.st == .hold then s else f s)
def Block.actIfUp (s : Block) (ok : Bool) (f : Block → Block) : Block := s.actIf ok (fun s => if s.pwr.st == .hold then s else f s)

/-- What the host does through its port, which answers from the release of reset on and only HOLD in HOLD (R522, R593). -/
def Block.hostDo (s : Block) (ok : Bool) (f : Block → Block) : Block :=
  s.act (fun s => if ok && s.portUp && s.pwr.st != .hold then f s else s)

/-- A word written to a register of page p. -/
def Block.toReg (s : Block) (p o : Nat) (v : Word) : Block := s.hostDo true (fun s => s.rowWrite (pg p o) v)

/-- The same, for operands in range. -/
def Block.toRegIf (s : Block) (ok : Bool) (p o : Nat) (v : Word) : Block := s.hostDo ok (fun s => s.rowWrite (pg p o) v)

/-- A word read from a register of page p. -/
def Block.fromReg (s : Block) (p o : Nat) : Block := s.hostDo true (fun s => s.rowRead (pg p o))

/-- A register that steps on each access: read, or written with a word. -/
def Block.access (s : Block) (p o : Nat) (write : Option Word) : Block :=
  match write with
  | some v => s.toReg p o v
  | none => s.fromReg p o

/-- The word of a command register: the command in bits 3:0, an operand from bit 8 on, one from bit 16 on. -/
def cmdWord (cmd a b : Nat) : Word := BitVec.ofNat 32 (cmd + 256 * a + 65536 * b)

/-- A drive pulse falls at its own moment where the core is powered (R383). -/
def Block.sampled (s : Block) : Block := if s.powered then s.arrive else s

/-- MOUNT_COMPLETE of the mount that runs on a chip select (R466); streams that mount catch up (R467). -/
def Block.mountDone (s : Block) (cs : Nat) (found : MountFound) : Block :=
  match s.storRuns 1 with
  | some (c, _) =>
    if c ≠ cs then s
    else match found with
      | .streams l => (s.mountFound cs (l.filter (fun p => decide (p.1 < 5)))).storCatchUp
      | .failed r => s.mountNone cs r
  | none => s

/-- FLASH_PROGRAM_COMPLETE with what its record's source takes from it: LOGGED of a tamper entry (R385), a capture's slot (R245). -/
def Block.programDone (s : Block) (k : Nat) (ok : Bool) : Block :=
  let r := s.flashProgram k ok
  let s := match r.2 with
    | some x => (match x.src with
      | .tamper a => r.1.tampMark a
      | .capture slot => r.1.capWritten slot
      | _ => r.1)
    | none => r.1
  s.storCatchUp

/-- The frame of a poll answer, handled (R576, R581, R583, R584). -/
def Block.pollReply (s : Block) (src : Nat) (a : PollReply) : Block :=
  match a with
  | .empty => s.heard
  | .latchReq b => s.heard.latchReq b
  | .lreply dst payload => s.lreplyIn dst payload
  | .data dst fseq payload => s.dataIn src dst fseq payload

end Sys2Proof.Machine
end

