-- ==== Sys2Proof/Machine/CmdAnalog.lean ====
section
/-! DEFINITION. Meanings of the commands of the table, analogue inputs, filter chain and wideband streams. -/

namespace Sys2Proof.Machine

/-- OVERLOAD_ENTRY (R81): An input above 1.15 x full scale resets and holds the modulator and marks its words cause 2. -/
def execOverloadEntry (m : Nat) (positive : Bool) (s : State) : Host.Outcome State Fault Refusal :=
  .next (s.onBlock (fun b => b.actIf (m < 17) (fun b => b.overloadTaken m positive)))

/-- OVERLOAD_RELEASE (R81): The input below 1.10 x full scale for a whole pick releases the modulator and starts the recovery
count. -/
def execOverloadRelease (m : Nat) (s : State) : Host.Outcome State Fault Refusal :=
  .next (s.onBlock (fun b => b.within (m < 17) (fun b => b.overloadRelease m)))

/-- OVERLOAD_RECOVERY_END (R81): The recovery count ends and detector 2 raises its recovery event. -/
def execOverloadRecoveryEnd (m : Nat) (s : State) : Host.Outcome State Fault Refusal :=
  .next (s.onBlock (fun b => b.within (m < 17) (fun b => b.overloadEnd m)))

/-- NEIGHBOUR_OVERDRIVE (R82): Clamp current above the rating marks the neighbours cause 5 and raises CHn detector 3. -/
def execNeighbourOverdrive (channel : Nat) (s : State) : Host.Outcome State Fault Refusal :=
  .next (s.onBlock (fun b => b.actIf (channel < 16) (fun b => b.clampOver channel false)))

/-- NEIGHBOUR_OVERDRIVE_END (R82): Three picks after the current falls below the rating, the neighbours' marking ends. -/
def execNeighbourOverdriveEnd (channel : Nat) (s : State) : Host.Outcome State Fault Refusal :=
  .next (s.onBlock (fun b => b.within (channel < 16) (fun b => b.clampEnd channel)))

/-- COMMON_MODE_FAULT (R83): A channel's common-mode voltage leaves its range and its words are marked cause 2. -/
def execCommonModeFault (channel : Nat) (s : State) : Host.Outcome State Fault Refusal :=
  .next (s.onBlock (fun b => b.actIf (channel < 16) (fun b => b.cmFaultOn channel)))

/-- SETTLING_END (R86): A settling count ends, and CHn detector 6 is raised once no cause 2 to 6 applies. -/
def execSettlingEnd (m : Nat) (s : State) : Host.Outcome State Fault Refusal :=
  .next (s.onBlock (fun b => b.within (m < 17) (fun b => b.settlingEnd m)))

/-- REFERENCE_FAULT (R90): The reference leaves its window and every modulator is marked cause 1. -/
def execReferenceFault (s : State) : Host.Outcome State Fault Refusal :=
  .next (s.onBlock (fun b => b.act (fun b => b.refLost 0)))

/-- AVDD_LOW (R90): AVDD falls below its threshold and every modulator is marked cause 1. -/
def execAvddLow (s : State) : Host.Outcome State Fault Refusal :=
  .next (s.onBlock (fun b => b.act (fun b => b.refLost 1)))

/-- PEAK_CLR_WRITE (R98): Any write to PEAK_CLR clears PEAK at the next pick. -/
def execPeakClrWrite (channel : Nat) (s : State) : Host.Outcome State Fault Refusal :=
  .next (s.onBlock (fun b => b.toRegIf (channel < 16) (chPage channel) 0x68 1))

/-- COEF_ADDR_WRITE (R127): A write to COEF_ADDR loads COEF_DATA and COEF_CRC from the addressed bank. -/
def execCoefAddrWrite (value : Word) (s : State) : Host.Outcome State Fault Refusal :=
  .next (s.onBlock (fun b => b.toReg 0x18 0xD8 value))

/-- COEF_DATA_WRITE (R108): A coefficient write to an inactive bank, advancing INDEX, or rejected for an active or pending bank.
-/
def execCoefDataWrite (value : Word) (s : State) : Host.Outcome State Fault Refusal :=
  .next (s.onBlock (fun b => b.toReg 0x18 0xDC value))

/-- COEF_DATA_READ (R127): A read of COEF_DATA returns the coefficient and advances INDEX. -/
def execCoefDataRead (s : State) : Host.Outcome State Fault Refusal :=
  .next (s.onBlock (fun b => b.fromReg 0x18 0xDC))

/-- WB_BLOCK_COMPLETE (R119): A wideband stream completes a block of 5,120 samples and delivers it, or drops it when its buffer is
held. -/
def execWbBlockComplete (stream : Nat) (bufferHeld : Bool) (s : State) : Host.Outcome State Fault Refusal :=
  .next (s.onBlock (fun b => b.withinUp (stream < 8) (fun b => b.wbStep stream bufferHeld)))

end Sys2Proof.Machine
end

