-- ==== Sys2Proof/Machine/CmdAux.lean ====
section
/-! DEFINITION. Meanings of the commands of the table, the auxiliary converter. -/

namespace Sys2Proof.Machine

/-- CAL (R267): AUX_CMD CAL runs the converter self-calibration. -/
def execAuxCal (s : State) : Host.Outcome State Fault Refusal :=
  .next (s.onBlock (fun b => b.toReg 0x1A 0x48 (cmdWord 1 0 0)))

/-- CAL_COMPLETE (R267): Self-calibration completes with OK or FAIL and raises AUX detector 3. -/
def execCalComplete (gain : Nat) (offset : Int) (s : State) : Host.Outcome State Fault Refusal :=
  .next (s.onBlock (fun b => b.actUp (fun b => b.auxCalDone gain offset)))

/-- URGENT (R268): AUX_CMD URGENT converts one source ahead of the sequencer. -/
def execUrgent (value : Word) (s : State) : Host.Outcome State Fault Refusal :=
  .next (s.onBlock (fun b => b.toReg 0x1A 0x48 (value.withBits 3 0 2)))

/-- URGENT_COMPLETE (R268): The urgent result is written to URG_RES and the sequence resumes. -/
def execUrgentComplete (sum : Nat) (s : State) : Host.Outcome State Fault Refusal :=
  .next (s.onBlock (fun b => b.actUp (fun b => b.auxUrgDone sum)))

/-- START (R264): AUX_CMD START starts a COMMAND or CONTINUOUS sequence. -/
def execAuxStart (s : State) : Host.Outcome State Fault Refusal :=
  .next (s.onBlock (fun b => b.toReg 0x1A 0x48 (cmdWord 3 0 0)))

/-- AUX_STOP (R264): AUX_CMD STOP ends the running CONTINUOUS sequence. -/
def execAuxStop (s : State) : Host.Outcome State Fault Refusal :=
  .next (s.onBlock (fun b => b.toReg 0x1A 0x48 (cmdWord 4 0 0)))

/-- AUX_ENTRY_COMPLETE (R260): The conversions of one sequence entry complete and its result is formed. -/
def execAuxEntryComplete (sum : Nat) (s : State) : Host.Outcome State Fault Refusal :=
  .next (s.onBlock (fun b => b.actUp (fun b => b.auxEntry sum)))

/-- SEQUENCE_END (R265): A sequence ends and its results are delivered as one block to the engines. -/
def execSequenceEnd (s : State) : Host.Outcome State Fault Refusal :=
  .next (s.onBlock (fun b => b.actUp (fun b => b.auxSeqEnd)))

end Sys2Proof.Machine
end

