-- ==== Sys2Proof/Machine/CmdClock.lean ====
section
/-! DEFINITION. Meanings of the commands of the table, clock, crossbar and command latch. -/

namespace Sys2Proof.Machine

/-- CRYSTAL_STOPPED (R17): The crystal stops for more than 4 reference periods; RTC stamps are marked invalid and the PLL runs
free. -/
def execCrystalStopped (s : State) : Host.Outcome State Fault Refusal :=
  .next (s.onBlock (fun b => b.act (fun b => b.crystalStop)))

/-- PLL_UNLOCK (R17): The PLL loses lock; sample words are marked cause 1 and the Warp enters holdover. -/
def execPllUnlock (s : State) : Host.Outcome State Fault Refusal :=
  .next (s.onBlock (fun b => b.act (fun b => b.pllUnlock)))

/-- PLL_RELOCK (R17): The PLL relocks, and the channels begin settling. -/
def execPllRelock (s : State) : Host.Outcome State Fault Refusal :=
  .next (s.onBlock (fun b => b.act (fun b => b.pllRelock)))

/-- MODULATOR_CLOCK_GAP (R17): A gap in the modulator clock marks words cause 1 for each channel's settling count. -/
def execModulatorClockGap (s : State) : Host.Outcome State Fault Refusal :=
  .next (s.onBlock (fun b => b.act (fun b => b.modClockGap)))

/-- CROSSBAR_REQUEST (R20): An initiator's request enters the crossbar and is served by arbiter class and age. -/
def execCrossbarRequest (init : Nat) (column : Nat) (target : Nat) (s : State) : Host.Outcome State Fault Refusal :=
  .next (s.onBlock (fun b => b.act (fun b => b.rxRequest init column target)))

/-- BLOCK_RESET_RETURN (R550): A request held 64 picks by a target in reset is returned with BLOCK_RESET. -/
def execBlockResetReturn (s : State) : Host.Outcome State Fault Refusal :=
  .next (s.onBlock (fun b => b.onPick (fun b => b.rxReturn)))

/-- CROSSBAR_REPLY (R551): A reply reaches its issuer and is used, or dropped when its issuer GEN is stale. -/
def execCrossbarReply (target : Nat) (s : State) : Host.Outcome State Fault Refusal :=
  .next (s.onBlock (fun b => b.act (fun b => b.rxReply target)))

/-- LATCH_CMD_WRITE (R654): A write of 1 to WARP.LATCH_CMD.LATCH requests a command latch, or a LATCH_REQ on a follower. -/
def execLatchCmdWrite (value : Word) (s : State) : Host.Outcome State Fault Refusal :=
  .next (s.onBlock (fun b => b.toReg 5 0x54 value))

end Sys2Proof.Machine
end

