-- ==== Sys2Proof/Machine/CmdEngines.lean ====
section
/-! DEFINITION. Meanings of the commands of the table, the metric engines and posts. -/

namespace Sys2Proof.Machine

/-- OPEN (R177): ENG_CMD OPEN opens an image load into an inactive bank of an engine. -/
def execEngOpen (engine : Nat) (bank : Nat) (s : State) : Host.Outcome State Fault Refusal :=
  .next (s.onBlock (fun b => b.toRegIf (engine < 16 && bank < 2) 0x1C 0x40 (cmdWord 1 bank engine)))

/-- IMG_DATA_WRITE (R177): A word of the image being loaded is written to ENG.IMG_DATA. -/
def execImgDataWrite (value : Word) (s : State) : Host.Outcome State Fault Refusal :=
  .next (s.onBlock (fun b => b.toReg 0x1C 0x48 value))

/-- CHECK (R177): ENG_CMD CHECK closes the load and checks the image's format, device, signature and rollback. -/
def execEngCheck (s : State) : Host.Outcome State Fault Refusal :=
  .next (s.onBlock (fun b => b.toReg 0x1C 0x40 (cmdWord 2 0 0)))

/-- ABANDON (R177): ENG_CMD ABANDON ends an open load with ABANDONED. -/
def execEngAbandon (s : State) : Host.Outcome State Fault Refusal :=
  .next (s.onBlock (fun b => b.toReg 0x1C 0x40 (cmdWord 3 0 0)))

/-- ACTIVATE (R178): ENG_CMD ACTIVATE makes a valid bank active, reallocates the working region and stores the image. -/
def execEngActivate (engine : Nat) (bank : Nat) (s : State) : Host.Outcome State Fault Refusal :=
  .next (s.onBlock (fun b => b.toRegIf (engine < 16 && bank < 2) 0x1C 0x40 (cmdWord 4 bank engine)))

/-- TAKEOVER (R180): ENG_CMD TAKEOVER hands an engine's schedule to ME15. -/
def execTakeover (engine : Nat) (fresh : Bool) (s : State) : Host.Outcome State Fault Refusal :=
  .next (s.onBlock (fun b => b.toRegIf (engine < 16) 0x1C 0x40 (cmdWord 5 (2 * b2n fresh) engine)))

/-- TAKEOVER_QUIET_PICK (R180): At the first quiet pick, the state and working region move to ME15, which takes over the schedule.
-/
def execTakeoverQuietPick (s : State) : Host.Outcome State Fault Refusal :=
  .next (s.onBlock (fun b => b.pickUp (fun b => b.takeoverQuiet)))

/-- NO_QUIET (R180): No quiet pick within 4,096 picks ends the takeover with NO_QUIET. -/
def execNoQuiet (s : State) : Host.Outcome State Fault Refusal :=
  .next (s.onBlock (fun b => b.pickUp (fun b => b.noQuiet)))

/-- GIVEBACK (R181): ENG_CMD GIVEBACK returns a schedule from ME15 to its engine. -/
def execGiveback (engine : Nat) (fresh : Bool) (s : State) : Host.Outcome State Fault Refusal :=
  .next (s.onBlock (fun b => b.toRegIf (engine < 16) 0x1C 0x40 (cmdWord 6 (2 * b2n fresh) engine)))

/-- GIVEBACK_QUIET_PICK (R181): At a quiet pick of ME15, the schedule and state return to the engine. -/
def execGivebackQuietPick (s : State) : Host.Outcome State Fault Refusal :=
  .next (s.onBlock (fun b => b.pickUp (fun b => b.givebackQuiet)))

/-- BIST (R182): ENG_CMD BIST runs an engine's logic BIST, memory test and bank digest check. -/
def execEngBist (engine : Nat) (s : State) : Host.Outcome State Fault Refusal :=
  .next (s.onBlock (fun b => b.toRegIf (engine < 16) 0x1C 0x40 (cmdWord 7 0 engine)))

/-- BIST_COMPLETE (R182): An engine BIST completes with OK or BIST_FAIL. -/
def execBistComplete (signature : Word) (memoryFails : Bool) (badA : Bool) (badB : Bool) (s : State) : Host.Outcome State Fault Refusal :=
  .next (s.onBlock (fun b => b.actUp (fun b => b.engBistDone signature memoryFails badA badB)))

/-- INVOCATION_READY (R165): An invocation waiting for input becomes ready when its last needed word is broadcast. -/
def execInvocationReady (engine : Nat) (s : State) : Host.Outcome State Fault Refusal :=
  .next (s.onBlock (fun b => b.within (engine < 16) (fun b => b.invReady engine)))

/-- INVOCATION_COMPLETE (R166): An invocation completes, delivers its outputs, and the engine starts the next ready invocation. -/
def execInvocationComplete (engine : Nat) (checkOk : Bool) (s : State) : Host.Outcome State Fault Refusal :=
  .next (s.onBlock (fun b => b.actIf (engine < 16) (fun b => b.invDone engine checkOk)))

/-- DEADLINE_MISS (R167): At its deadline strobe an unfinished invocation is missed, placeheld and counted. -/
def execDeadlineMiss (engine : Nat) (s : State) : Host.Outcome State Fault Refusal :=
  .next (s.onBlock (fun b => b.within (engine < 16) (fun b => b.missStep engine)))

/-- LOAD_CLR_WRITE (R195): Any write to LOAD_CLR clears the peak busy percentage at the next pick 0. -/
def execLoadClrWrite (engine : Nat) (s : State) : Host.Outcome State Fault Refusal :=
  .next (s.onBlock (fun b => b.toRegIf (engine < 16) (mePage engine) 0x88 1))

/-- ECC_UNCORRECTABLE (R556): A read finds a double-bit error; SYS detector 1 is raised and the reader acts as R556 states. -/
def execEccUncorrectable (reader : EccReader) (addr : Nat) (s : State) : Host.Outcome State Fault Refusal :=
  .next (s.onBlock (fun b => b.act (fun b => b.eccRead reader addr)))

/-- LEDGER_POST (R319): The ledger accepts a post into the open set of its latch, or refuses it as late. -/
def execLedgerPost (s : State) : Host.Outcome State Fault Refusal :=
  .next (s.onBlock (fun b => b.act (fun b => b.ledgerPost)))

end Sys2Proof.Machine
end

