-- ==== Sys2Proof/Machine/CmdHost.lean ====
section
/-! DEFINITION. Meanings of the commands of the table, host frames and rings. -/

namespace Sys2Proof.Machine

/-- WRITE (R393): A host WRITE frame writes COUNT words to consecutive addresses after its CRC is verified. -/
def execWrite (frame : Frame) (stuck : Bool) (s : State) : Host.Outcome State Fault Refusal :=
  .next (s.onBlock (fun b => b.act (fun b => b.frameIn 2 frame stuck)))

/-- READ (R393): A host READ frame returns COUNT words from consecutive addresses. -/
def execRead (frame : Frame) (stuck : Bool) (s : State) : Host.Outcome State Fault Refusal :=
  .next (s.onBlock (fun b => b.act (fun b => b.frameIn 3 frame stuck)))

/-- WRITE_FIFO (R393): A host WRITE_FIFO frame writes every word to one address. -/
def execWriteFifo (frame : Frame) (stuck : Bool) (s : State) : Host.Outcome State Fault Refusal :=
  .next (s.onBlock (fun b => b.act (fun b => b.frameIn 6 frame stuck)))

/-- READ_FIFO (R393): A host READ_FIFO frame reads every word from one address. -/
def execReadFifo (frame : Frame) (stuck : Bool) (s : State) : Host.Outcome State Fault Refusal :=
  .next (s.onBlock (fun b => b.act (fun b => b.frameIn 7 frame stuck)))

/-- FRAME_CUT_SHORT (R396): HCS_N raised before the CRC is complete ends the frame as BAD_LEN. -/
def execFrameCutShort (frame : Frame) (s : State) : Host.Outcome State Fault Refusal :=
  .next (s.onBlock (fun b => b.act (fun b => b.frameCut frame)))

/-- I2C_REREAD (R397): After WAIT the host reissues address + R and the device sends the reply again. -/
def execI2cReread (s : State) : Host.Outcome State Fault Refusal :=
  .next (s.onBlock (fun b => b.act (fun b => b)))

/-- DESC_WRITE (R408): A write to DESC_BASE or DESC_CFG places or configures a ring, or is rejected. -/
def execDescWrite (ring : Nat) (config : Bool) (value : Word) (s : State) : Host.Outcome State Fault Refusal :=
  .next (s.onBlock (fun b => b.toRegIf (ring < 16) 0x2D (0x40 + 0x20 * ring + 4 * b2n config) value))

/-- DESC_TAIL_WRITE (R409): The host advances the tail of a ring it consumes, or the write is rejected. -/
def execDescTailWrite (ring : Nat) (value : Word) (s : State) : Host.Outcome State Fault Refusal :=
  .next (s.onBlock (fun b => b.toRegIf (ring < 16) 0x2D (0x4C + 0x20 * ring) value))

/-- DESC_HEAD_WRITE (R409): The host advances the head of a ring it produces, making entries available to the device. -/
def execDescHeadWrite (ring : Nat) (value : Word) (s : State) : Host.Outcome State Fault Refusal :=
  .next (s.onBlock (fun b => b.toRegIf (ring < 16) 0x2D (0x48 + 0x20 * ring) value))

/-- NONEMPTY_CLEAR (R423): A W1C write clears NONEMPTY bits. -/
def execNonemptyClear (value : Word) (s : State) : Host.Outcome State Fault Refusal :=
  .next (s.onBlock (fun b => b.toReg 0x2D 0x240 value))

/-- LOSS_STICKY_CLEAR (R423): A W1C write clears LOSS_STICKY bits. -/
def execLossStickyClear (value : Word) (s : State) : Host.Outcome State Fault Refusal :=
  .next (s.onBlock (fun b => b.toReg 0x2D 0x248 value))

/-- REG_WRITE (R415): A RING0 REG_WRITE command applies address and value pairs as one frame and answers in RING1. -/
def execRegWrite (s : State) : Host.Outcome State Fault Refusal :=
  .next (s.onBlock (fun b => b.act (fun b => b.take0 1)))

/-- REG_READ (R415): A RING0 REG_READ command reads addresses and answers with the values in RING1. -/
def execRegRead (s : State) : Host.Outcome State Fault Refusal :=
  .next (s.onBlock (fun b => b.act (fun b => b.take0 2)))

end Sys2Proof.Machine
end

