-- ==== Sys2Proof/Machine/CmdHusk.lean ====
section
/-! DEFINITION. Meanings of the commands of the table, crypto unit and Husk. -/

namespace Sys2Proof.Machine

/-- ENCRYPT (R495): RING11 ENCRYPT encrypts data under an AES key. -/
def execEncrypt (s : State) : Host.Outcome State Fault Refusal :=
  .next (s.onBlock (fun b => b.actUp (fun b => b.cryptTake 1)))

/-- DECRYPT (R495): RING11 DECRYPT decrypts data under an AES key. -/
def execDecrypt (s : State) : Host.Outcome State Fault Refusal :=
  .next (s.onBlock (fun b => b.actUp (fun b => b.cryptTake 2)))

/-- MAC_GEN (R495): RING11 MAC_GEN computes a CMAC or HMAC tag. -/
def execMacGen (s : State) : Host.Outcome State Fault Refusal :=
  .next (s.onBlock (fun b => b.actUp (fun b => b.cryptTake 3)))

/-- MAC_VER (R495): RING11 MAC_VER verifies a tag. -/
def execMacVer (s : State) : Host.Outcome State Fault Refusal :=
  .next (s.onBlock (fun b => b.actUp (fun b => b.cryptTake 4)))

/-- HASH (R495): RING11 HASH computes SHA-256. -/
def execHash (s : State) : Host.Outcome State Fault Refusal :=
  .next (s.onBlock (fun b => b.actUp (fun b => b.cryptTake 5)))

/-- SIGN (R495): RING11 SIGN signs a digest with a P-256 key. -/
def execSign (s : State) : Host.Outcome State Fault Refusal :=
  .next (s.onBlock (fun b => b.actUp (fun b => b.cryptTake 6)))

/-- VERIFY (R495): RING11 VERIFY verifies an ECDSA signature. -/
def execVerify (s : State) : Host.Outcome State Fault Refusal :=
  .next (s.onBlock (fun b => b.actUp (fun b => b.cryptTake 7)))

/-- ECDH (R492): RING11 ECDH derives a child key from a shared secret. -/
def execEcdh (s : State) : Host.Outcome State Fault Refusal :=
  .next (s.onBlock (fun b => b.actUp (fun b => b.cryptTake 8)))

/-- DERIVE (R492): RING11 DERIVE places a child key derived from a parent in an empty slot. -/
def execDerive (s : State) : Host.Outcome State Fault Refusal :=
  .next (s.onBlock (fun b => b.actUp (fun b => b.cryptTake 9)))

/-- WRAP (R495): RING11 WRAP wraps an exportable key out. -/
def execWrap (s : State) : Host.Outcome State Fault Refusal :=
  .next (s.onBlock (fun b => b.actUp (fun b => b.cryptTake 10)))

/-- RANDOM (R495): RING11 RANDOM returns bytes from the DRBG. -/
def execRandom (s : State) : Host.Outcome State Fault Refusal :=
  .next (s.onBlock (fun b => b.actUp (fun b => b.cryptTake 11)))

/-- GET_PUB (R495): RING11 GET_PUB returns a public key. -/
def execGetPub (s : State) : Host.Outcome State Fault Refusal :=
  .next (s.onBlock (fun b => b.actUp (fun b => b.cryptTake 12)))

/-- KEY_UPDATE (R488): RING11 KEY_UPDATE checks and applies an update message that installs or deletes a key. -/
def execKeyUpdate (s : State) : Host.Outcome State Fault Refusal :=
  .next (s.onBlock (fun b => b.actUp (fun b => b.cryptTake 13)))

/-- KEY_DELETE (R493): RING11 KEY_DELETE removes a derived key. -/
def execKeyDelete (s : State) : Host.Outcome State Fault Refusal :=
  .next (s.onBlock (fun b => b.actUp (fun b => b.cryptTake 14)))

/-- TOKEN (R503): RING11 TOKEN checks a token that opens a TEST session or starts a repair or retire transition. -/
def execToken (s : State) : Host.Outcome State Fault Refusal :=
  .next (s.onBlock (fun b => b.actUp (fun b => b.cryptTake 15)))

/-- CRYPTO_OP_COMPLETE (R498): A crypto operation completes and its response is written in SEQ order. -/
def execCryptoOpComplete (ecc : Bool) (s : State) : Host.Outcome State Fault Refusal :=
  .next (s.onBlock (fun b => b.actUp (fun b => b.opDone ecc)))

/-- LC_STEP (R483): HUSK_CMD LC_STEP starts the next life-cycle transition. -/
def execLcStep (confirm : Nat) (s : State) : Host.Outcome State Fault Refusal :=
  .next (s.onBlock (fun b => b.toRegIf (confirm < 65536) 0x3B 0x40 (cmdWord 1 0 confirm)))

/-- RETIRE (R483): HUSK_CMD RETIRE starts the transition to RETIRED. -/
def execRetire (confirm : Nat) (s : State) : Host.Outcome State Fault Refusal :=
  .next (s.onBlock (fun b => b.toRegIf (confirm < 65536) 0x3B 0x40 (cmdWord 2 0 confirm)))

/-- LC_TRANSITION_COMPLETE (R484): A life-cycle transition ends with keys zeroised and records committed, or with FAIL. -/
def execLcTransitionComplete (ok : Bool) (s : State) : Host.Outcome State Fault Refusal :=
  .next (s.onBlock (fun b => b.actUp (fun b => b.transDone ok)))

/-- CHALLENGE (R503): HUSK_CMD CHALLENGE draws a new challenge from the DRBG. -/
def execChallenge (s : State) : Host.Outcome State Fault Refusal :=
  .next (s.onBlock (fun b => b.toReg 0x3B 0x40 (cmdWord 3 0 0)))

/-- CHALLENGE_EXPIRY (R503): After 600 s the challenge stops being valid. -/
def execChallengeExpiry (s : State) : Host.Outcome State Fault Refusal :=
  .next (s.onBlock (fun b => b.actUp (fun b => b.chalExpire)))

/-- TEST_CLOSE (R504): HUSK_CMD TEST_CLOSE closes the TEST session. -/
def execTestClose (s : State) : Host.Outcome State Fault Refusal :=
  .next (s.onBlock (fun b => b.toReg 0x3B 0x40 (cmdWord 4 0 0)))

/-- TEST_SESSION_EXPIRY (R504): The TEST session closes at the end of its duration. -/
def execTestSessionExpiry (s : State) : Host.Outcome State Fault Refusal :=
  .next (s.onBlock (fun b => b.actUp (fun b => b.testExpire)))

/-- UNLOCK_WRITE (R505): A write to HUSK.UNLOCK advances or opens the unlock sequence, or is rejected. -/
def execUnlockWrite (value : Word) (s : State) : Host.Outcome State Fault Refusal :=
  .next (s.onBlock (fun b => b.toReg 0x3B 0x48 value))

/-- UNLOCK_EXPIRY (R505): UNLOCK closes after 65,536 picks, or when the second word comes too late. -/
def execUnlockExpiry (s : State) : Host.Outcome State Fault Refusal :=
  .next (s.onBlock (fun b => b.pickUp (fun b => b.unlockExpire)))

/-- REMASK_PASS (R481): Once per second the key SRAM is re-encoded under a new mask. -/
def execRemaskPass (s : State) : Host.Outcome State Fault Refusal :=
  .next (s.onBlock (fun b => b.actUp (fun b => b.remask)))

/-- DRBG_RESTART (R498): CRYPT_CMD DRBG_RESTART runs the start-up test and reseeds the DRBG. -/
def execDrbgRestart (ok : Bool) (s : State) : Host.Outcome State Fault Refusal :=
  .next (s.onBlock (fun b => b.hostDo true (fun b => b.drbgRestart ok)))

/-- TRNG_HEALTH_FAIL (R498): A TRNG health test fails and the DRBG enters FAIL. -/
def execTrngHealthFail (s : State) : Host.Outcome State Fault Refusal :=
  .next (s.onBlock (fun b => b.actUp (fun b => b.trngFail)))

end Sys2Proof.Machine
end

