-- ==== Sys2Proof/Machine/CmdJoin.lean ====
section
/-! DEFINITION. Meanings of the commands of the table, the Selvedge link. -/

namespace Sys2Proof.Machine

/-- MARKER_RECEIVED (R579): A follower measures a received MARKER's alignment and feeds the Warp loop. -/
def execMarkerReceived (marker : MarkerIn) (s : State) : Host.Outcome State Fault Refusal :=
  .next (s.onBlock (fun b => b.actUp (fun b => b.markerIn marker)))

/-- POLL (R576): The lead polls the next node, which answers with one frame. -/
def execPoll (s : State) : Host.Outcome State Fault Refusal :=
  .next (s.onBlock (fun b => b.actUp (fun b => b.poll)))

/-- POLL_RECEIVED (R576): A follower answers a POLL with LATCH_REQ, LREPLY, DATA or EMPTY. -/
def execPollReceived (dst : Nat) (delay : Nat) (s : State) : Host.Outcome State Fault Refusal :=
  .next (s.onBlock (fun b => b.actUp (fun b => b.pollIn dst delay)))

/-- POLL_ANSWER (R578): The lead receives a poll answer, measures the round trip and handles the frame. -/
def execPollAnswer (src : Nat) (roundTrip : Nat) (answer : PollReply) (s : State) : Host.Outcome State Fault Refusal :=
  .next (s.onBlock (fun b => b.actUp (fun b => b.pollAnswer src roundTrip (fun b => b.pollReply src answer))))

/-- NODE_ABSENT (R576): A node that misses three polls is marked absent. -/
def execNodeAbsent (s : State) : Host.Outcome State Fault Refusal :=
  .next (s.onBlock (fun b => b.actUp (fun b => b.nodeAbsent)))

/-- DATA (R583): A received DATA frame is written to RING14 as RECV. -/
def execData (src : Nat) (dst : Nat) (fseq : Nat) (payload : List Byte) (s : State) : Host.Outcome State Fault Refusal :=
  .next (s.onBlock (fun b => b.actUp (fun b => b.dataIn src dst fseq payload)))

/-- LREAD_FRAME (R584): A node receiving an LREAD answers it with totals of a single latch. -/
def execLreadFrame (src : Nat) (dst : Nat) (first : Nat) (count : Nat) (tag : Nat) (s : State) : Host.Outcome State Fault Refusal :=
  .next (s.onBlock (fun b => b.actUp (fun b => b.lreadIn src dst first count tag)))

/-- LREPLY (R584): A received LREPLY is written to RING14. -/
def execLreply (dst : Nat) (payload : List Byte) (s : State) : Host.Outcome State Fault Refusal :=
  .next (s.onBlock (fun b => b.actUp (fun b => b.lreplyIn dst payload)))

/-- LREAD_TIMEOUT (R584): No answer within 4 cycles gives an LREPLY with TIMEOUT. -/
def execLreadTimeout (s : State) : Host.Outcome State Fault Refusal :=
  .next (s.onBlock (fun b => b.pickUp (fun b => b.lreadTimeout)))

/-- LATCH_REQ (R581): The lead takes a follower's LATCH_REQ as a command latch for the whole system. -/
def execLatchReq (billing : Bool) (s : State) : Host.Outcome State Fault Refusal :=
  .next (s.onBlock (fun b => b.actUp (fun b => if b.leading then b.heard.latchReq billing else b)))

/-- SEND (R583): A RING15 SEND entry queues a DATA frame for the link. -/
def execSend (s : State) : Host.Outcome State Fault Refusal :=
  .next (s.onBlock (fun b => b.actUp (fun b => b.joinSend)))

/-- LREAD (R583): A RING15 LREAD entry queues a remote ledger read. -/
def execLread (s : State) : Host.Outcome State Fault Refusal :=
  .next (s.onBlock (fun b => b.actUp (fun b => b.joinLread)))

/-- IMPORT_CHUNK (R583): A RING15 IMPORT_CHUNK entry stores a chunk of an export record. -/
def execImportChunk (s : State) : Host.Outcome State Fault Refusal :=
  .next (s.onBlock (fun b => b.actUp (fun b => b.joinChunk)))

/-- EXPORT (R585): JOIN_CMD EXPORT forms and signs an export record at the next latch apply. -/
def execJoinExport (s : State) : Host.Outcome State Fault Refusal :=
  .next (s.onBlock (fun b => b.toReg 0x3D 0x4C (cmdWord 1 0 0)))

/-- IMPORT (R586): JOIN_CMD IMPORT checks a received export record and loads its totals at the next latch apply. -/
def execJoinImport (kslot : Nat) (s : State) : Host.Outcome State Fault Refusal :=
  .next (s.onBlock (fun b => b.toRegIf (kslot < 64) 0x3D 0x4C (cmdWord 2 kslot 0)))

/-- IMPORT_DISCARD (R586): JOIN_CMD IMPORT_DISCARD clears the received chunks. -/
def execImportDiscard (s : State) : Host.Outcome State Fault Refusal :=
  .next (s.onBlock (fun b => b.toReg 0x3D 0x4C (cmdWord 3 0 0)))

/-- JOIN_FALLBACK (R582): A follower not LOCKED for 64 cycles falls back to its own latch grid. -/
def execJoinFallback (s : State) : Host.Outcome State Fault Refusal :=
  .next (s.onBlock (fun b => b.pickUp (fun b => b.joinFallback)))

end Sys2Proof.Machine
end

