-- ==== Sys2Proof/Machine/CmdLedger.lean ====
section
/-! DEFINITION. Meanings of the commands of the table, the ledger, tariffs, Sheaves and pulse outputs. -/

namespace Sys2Proof.Machine

/-- LATCH_APPLY (R325): At pick APPLY after its closing pick the ledger applies a closed latch, forms its record and passes the
deltas on. -/
def execLatchApply (s : State) : Host.Outcome State Fault Refusal :=
  .next (s.onBlock (fun b => b.onPick (fun b => b.latchApplyAll)))

/-- LEDGER_SIGNATURE_DONE (R339): A DEMAND_END or Sheaf signature completes and the entry is written to RING4. -/
def execLedgerSignatureDone (s : State) : Host.Outcome State Fault Refusal :=
  .next (s.onBlock (fun b => b.act (fun b => b.signDone)))

/-- SHEAF_FORM (R342): After its latch is applied and committed, a Sheaf is formed and sent for signing. -/
def execSheafForm (s : State) : Host.Outcome State Fault Refusal :=
  .next (s.onBlock (fun b => b.actUp (fun b => b.sheafForm)))

/-- DST_TRANSITION (R330): Daylight-saving time begins or ends and TARIFF detector 5 is raised. -/
def execDstTransition (s : State) : Host.Outcome State Fault Refusal :=
  .next (s.onBlock (fun b => b.actUp (fun b => b.dstTransition)))

/-- CLEAR_ONE (R321): LEDGER_CMD CLEAR_ONE clears one total at the next latch apply. -/
def execClearOne (index : Nat) (s : State) : Host.Outcome State Fault Refusal :=
  .next (s.onBlock (fun b => b.toRegIf (index < 1024) 0x2F 0x58 (cmdWord 1 0 index)))

/-- CLEAR_ALL (R321): LEDGER_CMD CLEAR_ALL clears every total at the next latch apply. -/
def execClearAll (s : State) : Host.Outcome State Fault Refusal :=
  .next (s.onBlock (fun b => b.toReg 0x2F 0x58 (cmdWord 2 0 0)))

/-- DEF_DATA_ACCESS (R350): A DEF_DATA read or write accesses a pending definition word and advances the address. -/
def execDefDataAccess (write : Option Word) (s : State) : Host.Outcome State Fault Refusal :=
  .next (s.onBlock (fun b => b.access 0x2F 0x54 write))

/-- VIEW_STAT_CLEAR (R350): Writing 1 to VIEW_STAT clears ROLLOVER of the addressed register and its ROLL_SUM bit. -/
def execViewStatClear (value : Word) (s : State) : Host.Outcome State Fault Refusal :=
  .next (s.onBlock (fun b => b.toReg 0x2F 0x68 value))

/-- TARIFF_CAL_DATA_ACCESS (R334): A TARIFF.CAL_DATA access writes or reads a calendar word and advances the address. -/
def execTariffCalDataAccess (write : Option Word) (s : State) : Host.Outcome State Fault Refusal :=
  .next (s.onBlock (fun b => b.access 0x30 0x54 write))

/-- TAR_CHECK (R332): TAR_CMD CHECK validates the passive calendar image. -/
def execTarCheck (s : State) : Host.Outcome State Fault Refusal :=
  .next (s.onBlock (fun b => b.toReg 0x30 0x5C (cmdWord 1 0 0)))

/-- SCHEDULE (R334): TAR_CMD SCHEDULE schedules activation of the valid passive calendar. -/
def execSchedule (s : State) : Host.Outcome State Fault Refusal :=
  .next (s.onBlock (fun b => b.toReg 0x30 0x5C (cmdWord 2 0 0)))

/-- CANCEL (R334): TAR_CMD CANCEL returns a scheduled passive image to VALID. -/
def execCancel (s : State) : Host.Outcome State Fault Refusal :=
  .next (s.onBlock (fun b => b.toReg 0x30 0x5C (cmdWord 3 0 0)))

/-- SHEAF (R341): BILL_CMD SHEAF requests a command latch at which a Sheaf is taken. -/
def execSheaf (s : State) : Host.Outcome State Fault Refusal :=
  .next (s.onBlock (fun b => b.toReg 0x32 0x44 (cmdWord 1 0 0)))

/-- POUT_EDGE (R365): A scheduled pulse leading edge is emitted on a pulse output, or moved to backlog. -/
def execPoutEdge (output : Nat) (s : State) : Host.Outcome State Fault Refusal :=
  .next (s.onBlock (fun b => b.withinUp (output < 4) (fun b => b.poutEdge output)))

/-- POUT_PULSE_END (R366): A pulse's width elapses and the pin is released. -/
def execPoutPulseEnd (output : Nat) (s : State) : Host.Outcome State Fault Refusal :=
  .next (s.onBlock (fun b => b.withinUp (output < 4) (fun b => b.poutEnd output)))

end Sys2Proof.Machine
end

