-- ==== Sys2Proof/Machine/CmdPages.lean ====
section
/-! DEFINITION. Meanings of the commands of the table, pages: strobe, page header, single registers. -/

namespace Sys2Proof.Machine

/-- PICK_STROBE (R32): The Warp issues a pick strobe; every scheduled action of that pick runs, and at pick 0 the cycle count
increments. -/
def execPickStrobe (x : PickInput) (s : State) : Host.Outcome State Fault Refusal :=
  .next (s.onBlock (fun b => b.strobe x))

/-- DRAIN_COMPLETE (R402): The last item in flight of a draining block completes, and PAGE_STAT changes to OFF. -/
def execDrainComplete (page : Nat) (s : State) : Host.Outcome State Fault Refusal :=
  .next (s.onBlock (fun b => b.within (page < 64) (fun b => b.drainDone page)))

/-- SOFT_RESET (R401): A write of 1 to PAGE_CTRL.SRST resets the block at the next strobe (`strobeActions`),
FLT's at the next pick 0, and increments GEN. -/
def execSoftReset (page : Nat) (s : State) : Host.Outcome State Fault Refusal :=
  .next (s.onBlock (fun b => b.hostDo (page < 64) (fun b => b.askReset page)))

/-- RESET_INIT_END (R550): A page's reset initialisation ends and it accepts the requests held meanwhile. -/
def execResetInitEnd (page : Nat) (s : State) : Host.Outcome State Fault Refusal :=
  .next (s.onBlock (fun b => b.within (page < 64) (fun b => b.resetEnd page)))

/-- FREEZE_WRITE (R401): A write to PAGE_CTRL.FREEZE captures or releases the page's RO block registers. -/
def execFreezeWrite (page : Nat) (on : Bool) (s : State) : Host.Outcome State Fault Refusal :=
  .next (s.onBlock (fun b => b.hostDo (page < 64) (fun b => if on then b.freeze page else if b.rbit (pg page 0x04) 8 then b.unfreeze page else b)))

/-- FREEZE_TIMEOUT (R401): FREEZE is cleared by the device 1,024 picks after it was written. -/
def execFreezeTimeout (page : Nat) (s : State) : Host.Outcome State Fault Refusal :=
  .next (s.onBlock (fun b => b.within (page < 64) (fun b => b.freezeTimeout page)))

/-- EVT_RAW_CLEAR (R403): A W1C write to EVT_RAW clears event bits, unless a raise falls in the same clock period. -/
def execEvtRawClear (page : Nat) (bits : Word) (raised : Word) (s : State) : Host.Outcome State Fault Refusal :=
  .next (s.onBlock (fun b => b.hostDo (page < 64) (fun b => b.evtClear page bits raised)))

/-- EVT_INJ_WRITE (R64): A write to EVT_INJ requests injection, or is answered DENIED for a metrology page in FIELD without a TEST
session. -/
def execEvtInjWrite (page : Nat) (bits : Word) (s : State) : Host.Outcome State Fault Refusal :=
  .next (s.onBlock (fun b => b.toRegIf (page < 64) page 0x14 bits))

/-- INJECTED_RAISE (R546): At the next pick strobe the requested detectors are injected in ascending order with INJ set. -/
def execInjectedRaise (page : Nat) (s : State) : Host.Outcome State Fault Refusal :=
  .next (s.onBlock (fun b => b.within (page < 64) (fun b => b.injectPage page)))

/-- FAULT_CODE_CLEAR (R404): Writing 0xFFFF to FAULT_CODE clears CODE, COUNT and FAULT_STAMP. -/
def execFaultCodeClear (page : Nat) (value : Word) (s : State) : Host.Outcome State Fault Refusal :=
  .next (s.onBlock (fun b => b.hostDo (page < 64) (fun b => b.faultClear page value)))

/-- SHADOW_DISCARD (R406): Writing SHADOW_CTL.DISCARD discards every pending RWS write of the page. -/
def execShadowDiscard (page : Nat) (s : State) : Host.Outcome State Fault Refusal :=
  .next (s.onBlock (fun b => b.hostDo (page < 64) (fun b => b.discardPage page)))

/-- SHADOW_COMMIT_SELECT (R406): A write of SHADOW_CTL.COMMIT selects the commit point, releases HOLD or is rejected on latch-
committing pages. -/
def execShadowCommitSelect (page : Nat) (point : Nat) (s : State) : Host.Outcome State Fault Refusal :=
  .next (s.onBlock (fun b => b.hostDo (page < 64 && point < 4) (fun b => b.shadowPoint page point)))

/-- REGISTER_WRITE (R9): A host write to a register that has no row of its own, applied by its access code. -/
def execRegisterWrite (addr : Nat) (value : Word) (s : State) : Host.Outcome State Fault Refusal :=
  .next (s.onBlock (fun b => b.hostDo true (fun b => (b.rowWrite addr value).resetDue)))

end Sys2Proof.Machine
end

