-- ==== Sys2Proof/Machine/CmdPanel.lean ====
section
/-! DEFINITION. Meanings of the commands of the table, display and tamper. -/

namespace Sys2Proof.Machine

/-- KEY_A_PRESS (R372): An accepted KEY_A press steps the display to the next item, MANUAL. -/
def execKeyAPress (s : State) : Host.Outcome State Fault Refusal :=
  .next (s.onBlock (fun b => b.actUp (fun b => b.keyAPress)))

/-- KEY_B_HOLD (R372): KEY_B held 2 s switches to item 0 of the other list. -/
def execKeyBHold (s : State) : Host.Outcome State Fault Refusal :=
  .next (s.onBlock (fun b => b.actUp (fun b => b.keyBHold)))

/-- KEY_STUCK (R372): A key held over 30 s is ignored until released, and DISP detector 3 is raised. -/
def execKeyStuck (keyB : Bool) (s : State) : Host.Outcome State Fault Refusal :=
  .next (s.onBlock (fun b => b.actUp (fun b => b.keyStuck keyB)))

/-- MANUAL_TIMEOUT (R372): 60 s without a press or SHOW returns the display to AUTO, normal list, item 0. -/
def execManualTimeout (s : State) : Host.Outcome State Fault Refusal :=
  .next (s.onBlock (fun b => b.actUp (fun b => b.manualTimeout)))

/-- DWELL_EXPIRY (R372): In AUTO, DWELL seconds elapse and the next item is shown. -/
def execDwellExpiry (s : State) : Host.Outcome State Fault Refusal :=
  .next (s.onBlock (fun b => b.actUp (fun b => b.dwellExpire)))

/-- SHOW (R372): DISP_CMD SHOW shows a named item, MANUAL. -/
def execDispShow (alternate : Bool) (item : Nat) (s : State) : Host.Outcome State Fault Refusal :=
  .next (s.onBlock (fun b => b.toRegIf (item < 64) 0x37 0x48 (cmdWord 1 0 (item + 256 * b2n alternate))))

/-- AUTO (R372): DISP_CMD AUTO returns the display to AUTO, normal list, item 0. -/
def execDispAuto (s : State) : Host.Outcome State Fault Refusal :=
  .next (s.onBlock (fun b => b.toReg 0x37 0x48 (cmdWord 2 0 0)))

/-- DISPLAY_FRAME (R376): At each RTC second or item change, a 160-bit frame is sent, and DISP_ITEM written when HOST_RENDER = 1.
-/
def execDisplayFrame (s : State) : Host.Outcome State Fault Refusal :=
  .next (s.onBlock (fun b => b.actUp (fun b => b.dispFrame)))

/-- TAMPER_SAMPLE (R383): At each TAMP_DRV pulse the sense pins are sampled and accepted states give tamper events. -/
def execTamperSample (cover0 : Bool) (cover1 : Bool) (term0 : Bool) (term1 : Bool) (s : State) : Host.Outcome State Fault Refusal :=
  .next (s.onBlock (fun b => b.vaultTick.sampled.tampSample cover0 cover1 term0 term1))

/-- TAMPER_LOG_MOVE (R384): The vault buffer is moved into the FeRAM tamper log and TSEQ is assigned. -/
def execTamperLogMove (s : State) : Host.Outcome State Fault Refusal :=
  .next (s.onBlock (fun b => b.act (fun b => b.tampMove.storCatchUp)))

/-- ACK (R386): TAMP_CMD ACK frees the oldest tamper log entries up to ACK_SEQ. -/
def execAck (s : State) : Host.Outcome State Fault Refusal :=
  .next (s.onBlock (fun b => b.toReg 0x38 0x48 (cmdWord 1 0 0)))

end Sys2Proof.Machine
end

