-- ==== Sys2Proof/Machine/CmdPower.lean ====
section
/-! DEFINITION. Meanings of the commands of the table, power states. -/

namespace Sys2Proof.Machine

/-- POWER_FAIL_DECLARED (R521): VIN below PF_TH for 50 µs declares a power failure. -/
def execPowerFailDeclared (s : State) : Host.Outcome State Fault Refusal :=
  .next (s.onBlock (fun b => b.act (fun b => b.powerFail 1)))

/-- HOLD_ENTRY (R522): At the first strobe after the declaration the device enters HOLD and stops all but the save. -/
def execHoldEntry (s : State) : Host.Outcome State Fault Refusal :=
  .next (s.onBlock (fun b => b.onPick (fun b => b.holdEntry)))

/-- SAVE_PICK (R523): At the save pick the POWERFAIL latch closes and the record store starts the save. -/
def execSavePick (s : State) : Host.Outcome State Fault Refusal :=
  .next (s.onBlock (fun b => b.onPick (fun b => b.savePick)))

/-- SAVE_FINISHED (R523): The last save commit completes or is refused its permit, and HOLD ends. -/
def execSaveFinished (vin : Bool) (vbak : Bool) (s : State) : Host.Outcome State Fault Refusal :=
  .next (s.onBlock (fun b => b.act (fun b => b.saveFinished vin vbak)))

/-- VIN_GOOD (R519): VIN good for 10 ms starts the device from OFF or VAULT. -/
def execVinGood (elapsed : Nat) (s : State) : Host.Outcome State Fault Refusal :=
  .next (s.onBlock (fun b => b.vinGood elapsed))

/-- VBAK_LOSS (R519): VBAK below 2.0 V with VIN absent puts the device in OFF and stops the RTC. -/
def execVbakLoss (s : State) : Host.Outcome State Fault Refusal :=
  .next (s.onBlock (fun b => b.vbakLoss))

/-- VBAK_LOW (R536): VBAK crosses its low threshold, and PWR detector 4 raises entry or exit. -/
def execVbakLow (low : Bool) (s : State) : Host.Outcome State Fault Refusal :=
  .next (s.onBlock (fun b => b.act (fun b => b.vbakLowChange low)))

/-- VREG_OVERLOAD (R516): VREG current above its limit raises PWR detector 7 once per episode. -/
def execVregOverload (isOver : Bool) (s : State) : Host.Outcome State Fault Refusal :=
  .next (s.onBlock (fun b => b.act (fun b => b.vregOverload isOver)))

/-- VSTORE_FULL (R517): VSTORE reaches 4.8 V and the charger releases its grant. -/
def execVstoreFull (s : State) : Host.Outcome State Fault Refusal :=
  .next (s.onBlock (fun b => b.act (fun b => b.vstoreFull)))

/-- VSTORE_RECHARGE (R517): VSTORE falls below 4.7 V and the charger requests again. -/
def execVstoreRecharge (s : State) : Host.Outcome State Fault Refusal :=
  .next (s.onBlock (fun b => b.act (fun b => b.vstoreRecharge)))

/-- CHARGE_TIMEOUT (R517): VSTORE not at the permit threshold 600 s into an episode raises PWR detector 8. -/
def execChargeTimeout (s : State) : Host.Outcome State Fault Refusal :=
  .next (s.onBlock (fun b => b.act (fun b => b.chargeTimeout)))

/-- PERMIT_CHANGE (R518): The write permit is lost or regained in RUN or LEAN, and PWR detector 3 raises entry or exit. -/
def execPermitChange (vstore : Bool) (vin : Bool) (s : State) : Host.Outcome State Fault Refusal :=
  .next (s.onBlock (fun b => b.act (fun b => b.permitChange vstore vin)))

/-- LEAN (R520): PWR_CMD LEAN requests LEAN at the next latch. -/
def execLean (s : State) : Host.Outcome State Fault Refusal :=
  .next (s.onBlock (fun b => b.toReg 0x01 0x4C (cmdWord 1 0 0)))

/-- RUN (R520): PWR_CMD RUN requests RUN at the next latch. -/
def execRun (s : State) : Host.Outcome State Fault Refusal :=
  .next (s.onBlock (fun b => b.toReg 0x01 0x4C (cmdWord 2 0 0)))

end Sys2Proof.Machine
end

