-- ==== Sys2Proof/Machine/CmdQuality.lean ====
section
/-! DEFINITION. Meanings of the commands of the table, captures. -/

namespace Sys2Proof.Machine

/-- TRIGGER (R243): CAP_CMD TRIGGER triggers a capture. -/
def execCapTrigger (s : State) : Host.Outcome State Fault Refusal :=
  .next (s.onBlock (fun b => b.toReg 0x33 0x6C (cmdWord 1 0 0)))

/-- CAP_RELEASE (R257): CAP_CMD RELEASE frees a capture slot. -/
def execCapRelease (slot : Nat) (s : State) : Host.Outcome State Fault Refusal :=
  .next (s.onBlock (fun b => b.toRegIf (slot < 4) 0x33 0x6C (cmdWord 2 slot 0)))

/-- CAP_DONE (R245): A capture's last word and block are in the slot and P08 writes CAP_DONE. -/
def execCapDone (s : State) : Host.Outcome State Fault Refusal :=
  .next (s.onBlock (fun b => b.actUp (fun b => b.capDone)))

/-- CAPTURE_COPY_DONE (R245): The log copy of a capture slot succeeds, and with AUTOREL the slot becomes free. -/
def execCaptureCopyDone (s : State) : Host.Outcome State Fault Refusal :=
  .next (s.onBlock (fun b => b.actUp (fun b => b.capCopied)))

end Sys2Proof.Machine
end

