-- ==== Sys2Proof/Machine/CmdSpare.lean ====
section
/-! DEFINITION. Meanings of the commands of the table, the spare unit and calibration. -/

namespace Sys2Proof.Machine

/-- SP_CMD_STEP (R150): SP_CMD STEP starts one spare rotation step on a channel. -/
def execSpCmdStep (channel : Nat) (s : State) : Host.Outcome State Fault Refusal :=
  .next (s.onBlock (fun b => b.toRegIf (channel < 16) 0x17 0x40 (cmdWord 1 channel 0)))

/-- ROTATE (R150): SP_CMD ROTATE starts rotation steps over the channels of ROT_MASK. -/
def execRotate (s : State) : Host.Outcome State Fault Refusal :=
  .next (s.onBlock (fun b => b.toReg 0x17 0x40 (cmdWord 2 0 0)))

/-- STOP (R150): SP_CMD STOP ends the rotation after the current step. -/
def execStop (s : State) : Host.Outcome State Fault Refusal :=
  .next (s.onBlock (fun b => b.toReg 0x17 0x40 (cmdWord 3 0 0)))

/-- SUBST (R150): SP_CMD SUBST hands a channel to SP and holds it there. -/
def execSubst (channel : Nat) (s : State) : Host.Outcome State Fault Refusal :=
  .next (s.onBlock (fun b => b.toRegIf (channel < 16) 0x17 0x40 (cmdWord 4 channel 0)))

/-- RELEASE (R150): SP_CMD RELEASE calibrates and hands the held channel back to its own modulator. -/
def execRelease (s : State) : Host.Outcome State Fault Refusal :=
  .next (s.onBlock (fun b => b.toReg 0x17 0x40 (cmdWord 5 0 0)))

/-- ANCHOR (R149): SP_CMD ANCHOR stores the match set and reference results of a modulator as anchors. -/
def execAnchor (m : Nat) (s : State) : Host.Outcome State Fault Refusal :=
  .next (s.onBlock (fun b => b.toRegIf (m < 32) 0x17 0x40 (cmdWord 6 0 m)))

/-- CALSAVE (R150): SP_CMD CALSAVE writes the calibration record. -/
def execCalsave (s : State) : Host.Outcome State Fault Refusal :=
  .next (s.onBlock (fun b => b.toReg 0x17 0x40 (cmdWord 7 0 0)))

/-- MEAS (R140): SP_CMD MEAS starts a measurement of a channel's words over K qualifying cycles. -/
def execMeas (channel : Nat) (s : State) : Host.Outcome State Fault Refusal :=
  .next (s.onBlock (fun b => b.toRegIf (channel < 16) 0x17 0x40 (cmdWord 8 channel 0)))

/-- MEAS_COMPLETE (R140): K cycles have qualified or 4K have elapsed; MEAS results are written and detector 1 is raised.
They are formed from the words (R140); the operands change nothing (log 34). -/
def execMeasComplete (_re : Rat) (_im : Rat) (s : State) : Host.Outcome State Fault Refusal :=
  .next (s.onBlock (fun b => b.pickUp (fun b => b.measDone)))

/-- SPARE_CAL_ADDR_WRITE (R159): A write to SPARE.CAL_ADDR loads CAL_DATA and CAL_CRC. -/
def execSpareCalAddrWrite (value : Word) (s : State) : Host.Outcome State Fault Refusal :=
  .next (s.onBlock (fun b => b.toReg 0x17 0x70 value))

/-- SPARE_CAL_DATA_ACCESS (R136): A CAL_DATA read or write accesses a bank word and advances the address; writes to active or
pending banks are rejected. -/
def execSpareCalDataAccess (write : Option Word) (s : State) : Host.Outcome State Fault Refusal :=
  .next (s.onBlock (fun b => b.access 0x17 0x74 write))

/-- CAL_BANK_SELECT (R137): A write of CAL_BANK.SEL that differs from ACTIVE sets PENDING for a swap at the next latch. -/
def execCalBankSelect (value : Word) (s : State) : Host.Outcome State Fault Refusal :=
  .next (s.onBlock (fun b => b.toReg 0x17 0x6C value))

/-- SP_CAL_SOURCE_SWITCH (R142): After 9 cycles a reference calibration moves to its next source, or completes with gain, offset
and symmetry. -/
def execSpCalSourceSwitch (s : State) : Host.Outcome State Fault Refusal :=
  .next (s.onBlock (fun b => b.pickUp (fun b => b.calSwitch)))

/-- OVERLAP_START (R141): SP or the freed modulator is connected in parallel with the channel and its S6 states are loaded. -/
def execOverlapStart (s : State) : Host.Outcome State Fault Refusal :=
  .next (s.onBlock (fun b => b.pickUp (fun b => b.overlapStart)))

/-- MATCH_COMPUTE (R145): In the cycle after a complete window, P07 computes the signal match or ends the step with a failure.
It is formed from the window's words (R144, R145); the operands change nothing (log 34). -/
def execMatchCompute (_rMag : Rat) (_rArg : Rat) (_rDist : Rat) (_d : Rat) (_dev : Rat) (s : State) :
    Host.Outcome State Fault Refusal :=
  .next (s.onBlock (fun b => b.actUp (fun b => b.matchCompute)))

/-- WINDOW_TIMEOUT (R144): A window not complete within 256 cycles ends the step with LOW_SIGNAL or TIMEOUT. -/
def execWindowTimeout (s : State) : Host.Outcome State Fault Refusal :=
  .next (s.onBlock (fun b => b.pickUp (fun b => b.windowTimeout)))

/-- HANDOVER (R146): At pick 0 after the match, the incoming modulator takes the channel's slot with its match set. -/
def execHandover (s : State) : Host.Outcome State Fault Refusal :=
  .next (s.onBlock (fun b => b.pickUp (fun b => b.handover)))

/-- HANDBACK (R147): The channel's own modulator takes the slot back with the match APPLY selects, and the step result is written.
-/
def execHandback (s : State) : Host.Outcome State Fault Refusal :=
  .next (s.onBlock (fun b => b.pickUp (fun b => b.handback)))

/-- ROTATION_NEXT_STEP (R150): ROT_GAP cycles after a step, the rotation starts its next step. -/
def execRotationNextStep (s : State) : Host.Outcome State Fault Refusal :=
  .next (s.onBlock (fun b => b.pickUp (fun b => b.rotNext)))

end Sys2Proof.Machine
end

