-- ==== Sys2Proof/Machine/CmdStart.lean ====
section
/-! DEFINITION. Meanings of the commands of the table, RTC, microcode, start-up and what comes back. -/

namespace Sys2Proof.Machine

/-- SET (R604): RTC_CMD SET captures RTC_SET for loading at the next strobe. -/
def execRtcSet (s : State) : Host.Outcome State Fault Refusal :=
  .next (s.onBlock (fun b => b.toReg 0x04 0x50 (cmdWord 1 0 0)))

/-- RTC_SET_APPLY (R604): At the strobe after the reply, the RTC takes the set time and detector 1 is raised. -/
def execRtcSetApply (s : State) : Host.Outcome State Fault Refusal :=
  .next (s.onBlock (fun b => b.onPick (fun b => b.rtcApply)))

/-- MC_OPEN (R601): MC_CMD OPEN opens a microcode load for a unit. -/
def execMcOpen (unit : Nat) (s : State) : Host.Outcome State Fault Refusal :=
  .next (s.onBlock (fun b => b.toRegIf (unit < 16) 0x04 0x64 (cmdWord 1 0 unit)))

/-- MC_DATA_WRITE (R601): A word of the microcode image is written to MC_DATA. -/
def execMcDataWrite (value : Word) (s : State) : Host.Outcome State Fault Refusal :=
  .next (s.onBlock (fun b => b.toReg 0x04 0x68 value))

/-- MC_CHECK (R601): MC_CMD CHECK verifies the loaded microcode image. -/
def execMcCheck (s : State) : Host.Outcome State Fault Refusal :=
  .next (s.onBlock (fun b => b.toReg 0x04 0x64 (cmdWord 2 0 0)))

/-- MC_ABANDON (R605): MC_CMD ABANDON ends an open microcode load. -/
def execMcAbandon (s : State) : Host.Outcome State Fault Refusal :=
  .next (s.onBlock (fun b => b.toReg 0x04 0x64 (cmdWord 3 0 0)))

/-- MC_ACTIVATE (R602): MC_CMD ACTIVATE schedules a switch to a valid microcode bank. -/
def execMcActivate (unit : Nat) (s : State) : Host.Outcome State Fault Refusal :=
  .next (s.onBlock (fun b => b.toRegIf (unit < 16) 0x04 0x64 (cmdWord 4 0 unit)))

/-- MICROCODE_SWITCH (R602): The unit switches microcode bank at its quiet point and the SYSTEM record is committed. -/
def execMicrocodeSwitch (s : State) : Host.Outcome State Fault Refusal :=
  .next (s.onBlock (fun b => b.actUp (fun b => b.mcSwitch)))

/-- RESET_N (R592): RESET_N low resets the device once any started commit has completed. -/
def execResetN (s : State) : Host.Outcome State Fault Refusal :=
  .next (s.onBlock (fun b => b.act (fun b => (b.resetAsk 2).resetDue)))

/-- RESET_RELEASE (R593): The internal reset is released, straps are sampled and fuses loaded. -/
def execResetRelease (hsel : Bool) (ha0 : Bool) (test : Bool) (vbak : Bool) (s : State) : Host.Outcome State Fault Refusal :=
  .next (s.onBlock (fun b => b.act (fun b => b.resetRelease hsel ha0 test vbak)))

/-- PLL_LOCKED (R593): The PLL locks at start-up; the Warp starts at cycle 0 and the scan begins. -/
def execPllLocked (elapsed : Nat) (s : State) : Host.Outcome State Fault Refusal :=
  .next (s.onBlock (fun b => b.onPick (fun b => b.pllLocked elapsed)))

/-- HUSK_LOADED (R491): Stored images and microcode are verified and the Husk is loaded, with KEY_STAGE treated. -/
def execHuskLoaded (s : State) : Host.Outcome State Fault Refusal :=
  .next (s.onBlock (fun b => b.act (fun b => b.huskLoaded)))

/-- READY (R596): The start-up transfers run and the device enters RUN. -/
def execReady (s : State) : Host.Outcome State Fault Refusal :=
  .next (s.onBlock (fun b => b.act (fun b => b.readyNow)))

/-- COMMON_MODE_RESTORED (R83): A channel's common-mode voltage returns to its range for one whole pick, and the CH_SETTLE count
that ends its cause-2 marking begins. -/
def execCommonModeRestored (channel : Nat) (s : State) : Host.Outcome State Fault Refusal :=
  .next (s.onBlock (fun b => b.within (channel < 16) (fun b => b.cmFaultOff channel)))

/-- REFERENCE_RESTORED (R90): The reference returns to its window, and a settling episode runs on every modulator before cause 1
ends. -/
def execReferenceRestored (s : State) : Host.Outcome State Fault Refusal :=
  .next (s.onBlock (fun b => b.act (fun b => b.refBack 0)))

/-- AVDD_RESTORED (R90): AVDD returns above its threshold, and a settling episode runs on every modulator before cause 1 ends. -/
def execAvddRestored (s : State) : Host.Outcome State Fault Refusal :=
  .next (s.onBlock (fun b => b.act (fun b => b.refBack 1)))

/-- CRYSTAL_RESTARTED (R17): A stopped crystal oscillates again and CLK_STAT.XTAL_OK returns to 1, ending the episode that
XTAL_FAIL_CNT counted. -/
def execCrystalRestarted (s : State) : Host.Outcome State Fault Refusal :=
  .next (s.onBlock (fun b => b.act (fun b => b.crystalBack)))

/-- VBAK_RESTORED (R519): VBAK rises to 2.0 V or more while VIN is absent, and the device moves from OFF to VAULT. -/
def execVbakRestored (s : State) : Host.Outcome State Fault Refusal :=
  .next (s.onBlock (fun b => b.vbakBack))

/-- KEY_RELEASE (R372): A debounced key is released; DISP_STAT shows it released, and a key ignored after a 30 s hold is accepted
again. -/
def execKeyRelease (keyB : Bool) (s : State) : Host.Outcome State Fault Refusal :=
  .next (s.onBlock (fun b => b.actUp (fun b => b.keyRelease keyB)))

/-- ACCEPTED_LEVEL_CHANGE (R286): A pulse input's accepted level changes without a counted pulse, updating PLSI_STAT, the B phase
of a quadrature pair or a LEVEL input. -/
def execAcceptedLevelChange (input : Nat) (high : Bool) (s : State) : Host.Outcome State Fault Refusal :=
  .next (s.onBlock (fun b => b.actIf (input < 4) (fun b => b.levelChange input high)))

/-- REF_CAL_TIMEOUT (R142): A reference-calibration source without 8 non-excluded cycles within 64 cycles ends the step with
TIMEOUT. -/
def execRefCalTimeout (s : State) : Host.Outcome State Fault Refusal :=
  .next (s.onBlock (fun b => b.pickUp (fun b => b.refCalTimeout)))

/-- FRAME_DISCARDED (R575): A Selvedge frame received with a wrong CRC, a LEN above 1,024 or a reserved FTYPE is discarded and
JOIN detector 2 is raised once per episode. -/
def execFrameDiscarded (crcWrong : Bool) (s : State) : Host.Outcome State Fault Refusal :=
  .next (s.onBlock (fun b => b.actUp (fun b => b.frameBad crcWrong)))

end Sys2Proof.Machine
end

