-- ==== Sys2Proof/Machine/CmdStore.lean ====
section
/-! DEFINITION. Meanings of the commands of the table, record store and log store. -/

namespace Sys2Proof.Machine

/-- COMMIT_START (R434): A queued record-store commit starts once a write permit is granted. -/
def execCommitStart (s : State) : Host.Outcome State Fault Refusal :=
  .next (s.onBlock (fun b => b.act (fun b => b.commitBegin)))

/-- COMMIT (R447): A record-store commit completes, and a COMMIT entry is written to RING9. -/
def execCommit (s : State) : Host.Outcome State Fault Refusal :=
  .next (s.onBlock (fun b => b.act (fun b => b.commitStep)))

/-- RESOLVE (R445): REC_CMD RESOLVE ends a record's CONFLICT by committing slot A or B content. -/
def execResolve (id : Nat) (slot : Nat) (s : State) : Host.Outcome State Fault Refusal :=
  .next (s.onBlock (fun b => b.toRegIf (id < 65536 && slot < 2) 0x39 0x40 (cmdWord 1 slot id)))

/-- DUPLICATE (R446): REC_CMD DUPLICATE rewrites both slots of every segment of a record. -/
def execDuplicate (id : Nat) (s : State) : Host.Outcome State Fault Refusal :=
  .next (s.onBlock (fun b => b.toRegIf (id < 65536) 0x39 0x40 (cmdWord 2 0 id)))

/-- SCAN_DONE (R441): The start-up record scan and journal replay complete. -/
def execScanDone (s : State) : Host.Outcome State Fault Refusal :=
  .next (s.onBlock (fun b => b.act (fun b => b.scanDone)))

/-- MOUNT (R466): STOR_CMD MOUNT reads the superblock and headers of a flash device and starts its streams. -/
def execMount (cs : Nat) (s : State) : Host.Outcome State Fault Refusal :=
  .next (s.onBlock (fun b => b.toRegIf (cs < 2) 0x3A 0x58 (cmdWord 1 cs 0)))

/-- MOUNT_COMPLETE (R466): A mount finishes: streams RUN with a RESTART record, or the device is ABSENT or READ_ONLY. -/
def execMountComplete (cs : Nat) (found : MountFound) (s : State) : Host.Outcome State Fault Refusal :=
  .next (s.onBlock (fun b => b.actIfUp (cs < 2) (fun b => b.mountDone cs found)))

/-- UNMOUNT (R470): STOR_CMD UNMOUNT drains and unmounts one chip select. -/
def execUnmount (cs : Nat) (s : State) : Host.Outcome State Fault Refusal :=
  .next (s.onBlock (fun b => b.toRegIf (cs < 2) 0x3A 0x58 (cmdWord 2 cs 0)))

/-- STOR_READ (R469): STOR_CMD READ reads bytes from flash into RDBUF. -/
def execStorRead (cs : Nat) (len : Nat) (s : State) : Host.Outcome State Fault Refusal :=
  .next (s.onBlock (fun b => b.toRegIf (cs < 2 && len < 4096) 0x3A 0x58 (cmdWord 3 cs len)))

/-- STOR_READ_COMPLETE (R469): A flash read completes and RD_RES gives its result. -/
def execStorReadComplete (bytes : List Byte) (corrected : Nat) (sectorFails : Bool) (ioError : Bool) (s : State) : Host.Outcome State Fault Refusal :=
  .next (s.onBlock (fun b => b.actUp (fun b => b.readDone bytes corrected sectorFails ioError)))

/-- FORMAT (R455): STOR_CMD FORMAT erases a device and writes its superblock and layout. -/
def execFormat (cs : Nat) (s : State) : Host.Outcome State Fault Refusal :=
  .next (s.onBlock (fun b => b.toRegIf (cs < 2) 0x3A 0x58 (cmdWord 4 cs 0)))

/-- FORMAT_COMPLETE (R455): A format finishes and the chip select leaves FORMATTING. -/
def execFormatComplete (ok : Bool) (bad : List (Nat × List Nat)) (s : State) : Host.Outcome State Fault Refusal :=
  .next (s.onBlock (fun b => b.actUp (fun b => b.formatDone ok bad)))

/-- FLASH_PROGRAM_COMPLETE (R464): A flash program completes and is verified, making records visible, or retires a failing unit.
-/
def execFlashProgramComplete (stream : Nat) (ok : Bool) (s : State) : Host.Outcome State Fault Refusal :=
  .next (s.onBlock (fun b => b.actIfUp (stream < 5) (fun b => b.programDone stream ok)))

/-- FLASH_ERASE_COMPLETE (R465): An erase completes for reclaiming or reuse of a unit, or retires a failing unit. -/
def execFlashEraseComplete (stream : Nat) (ok : Bool) (s : State) : Host.Outcome State Fault Refusal :=
  .next (s.onBlock (fun b => b.actIfUp (stream < 5) (fun b => b.flashErase stream ok)))

/-- DEVICE_TIMEOUT (R468): A flash device that stops answering becomes FAILED. -/
def execDeviceTimeout (cs : Nat) (s : State) : Host.Outcome State Fault Refusal :=
  .next (s.onBlock (fun b => b.actIfUp (cs < 2) (fun b => b.deviceTimeout cs)))

end Sys2Proof.Machine
end

