-- ==== Sys2Proof/Machine/CmdTest.lean ====
section
/-! DEFINITION. Meanings of the commands of the table, system, scrubbing and test. -/

namespace Sys2Proof.Machine

/-- DEVICE_RESET (R566): SYS_CMD DEVICE_RESET resets the device once its reply is sent. -/
def execDeviceReset (confirm : Nat) (s : State) : Host.Outcome State Fault Refusal :=
  .next (s.onBlock (fun b => b.hostDo (confirm < 65536) (fun b => (b.rowWrite (pg 0 0x4C) (cmdWord 1 0 confirm)).resetDue)))

/-- SCRUB_NOW (R557): SYS_CMD SCRUB_NOW starts a scrub pass. -/
def execScrubNow (s : State) : Host.Outcome State Fault Refusal :=
  .next (s.onBlock (fun b => b.toReg 0x00 0x4C (cmdWord 2 0 0)))

/-- SCRUB_PASS_START (R557): Every SCRUB_CFG.PERIOD seconds a scrub pass starts. -/
def execScrubPassStart (s : State) : Host.Outcome State Fault Refusal :=
  .next (s.onBlock (fun b => b.actUp (fun b => b.scrubDue)))

/-- SCRUB_PASS_END (R557): A scrub pass over every word completes. -/
def execScrubPassEnd (fixes : List (Nat × Nat)) (s : State) : Host.Outcome State Fault Refusal :=
  .next (s.onBlock (fun b => b.actUp (fun b => b.scrubEnd fixes)))

/-- FIRST_CODE_CLEAR (R566): Writing 0xFFFF to SYS.FIRST_CODE clears it. -/
def execFirstCodeClear (value : Word) (s : State) : Host.Outcome State Fault Refusal :=
  .next (s.onBlock (fun b => b.toReg 0x00 0x54 value))

/-- TEST_BIST (R558): TEST_CMD BIST starts CRYPT_KAT, FERAM_VERIFY or FUSE_VERIFY. -/
def execTestBist (target : Nat) (s : State) : Host.Outcome State Fault Refusal :=
  .next (s.onBlock (fun b => b.toRegIf (target < 256) 0x3F 0x40 (cmdWord 1 0 target)))

/-- TEST_BIST_COMPLETE (R559): A TEST_CMD test completes with its signature and result. -/
def execTestBistComplete (fails : Nat) (s : State) : Host.Outcome State Fault Refusal :=
  .next (s.onBlock (fun b => b.actUp (fun b => b.testDone fails)))

/-- FUSE_BLOW (R563): TEST_CMD FUSE_BLOW blows the staged words of one fuse region. -/
def execFuseBlow (target : Nat) (s : State) : Host.Outcome State Fault Refusal :=
  .next (s.onBlock (fun b => b.toRegIf (target < 256) 0x3F 0x40 (cmdWord 2 0 target)))

/-- FUSE_BLOW_COMPLETE (R563): A fuse blow ends with read-back OK or FAIL. -/
def execFuseBlowComplete (ok : Bool) (s : State) : Host.Outcome State Fault Refusal :=
  .next (s.onBlock (fun b => b.act (fun b => b.fuseBlowDone ok)))

/-- STEP_VENDOR (R564): TEST_CMD STEP_VENDOR blows the CRC word, verifies and starts the BLANK-to-VENDOR transition. -/
def execStepVendor (s : State) : Host.Outcome State Fault Refusal :=
  .next (s.onBlock (fun b => b.toReg 0x3F 0x40 (cmdWord 3 0 0)))

/-- PT_DATA_ACCESS (R571): A PT_DATA access stages or reads a fuse word and advances PT_ADDR. -/
def execPtDataAccess (write : Option Word) (s : State) : Host.Outcome State Fault Refusal :=
  .next (s.onBlock (fun b => b.access 0x3F 0x58 write))

end Sys2Proof.Machine
end

