-- ==== Sys2Proof/Machine/CmdThermal.lean ====
section
/-! DEFINITION. Meanings of the commands of the table, pulse inputs and heat metering. -/

namespace Sys2Proof.Machine

/-- PULSE_EDGE (R285): A debounced falling edge on a pulse input counts a pulse or a reverse pulse. -/
def execPulseEdge (input : Nat) (coincident : Bool) (s : State) : Host.Outcome State Fault Refusal :=
  .next (s.onBlock (fun b => b.actIf (input < 4) (fun b => b.pulseEdge input coincident)))

/-- WIRE_BREAK (R287): 64 consecutive broken samples declare a wire break on a pulsed input. -/
def execWireBreak (input : Nat) (s : State) : Host.Outcome State Fault Refusal :=
  .next (s.onBlock (fun b => b.actIf (input < 4) (fun b => b.wireBreak input true)))

/-- WIRE_BREAK_END (R287): 64 consecutive samples that are not broken end a wire break. -/
def execWireBreakEnd (input : Nat) (s : State) : Host.Outcome State Fault Refusal :=
  .next (s.onBlock (fun b => b.actIf (input < 4) (fun b => b.wireBreak input false)))

/-- HOST_T_WRITE (R294): A host temperature written to HOST_T is accepted and stamped, or rejected. -/
def execHostTWrite (k : Nat) (value : Word) (s : State) : Host.Outcome State Fault Refusal :=
  .next (s.onBlock (fun b => b.toRegIf (k < 2) 0x34 (0x5C + 4 * k) value))

/-- HOST_T_STALE (R294): HOST_TMO seconds after a write, the host temperature becomes STALE. -/
def execHostTStale (k : Nat) (s : State) : Host.Outcome State Fault Refusal :=
  .next (s.onBlock (fun b => b.within (k < 2) (fun b => b.hostTStale k)))

/-- SEASON_START (R304): THERM_CMD SEASON_START clears the season accumulators at the next latch. -/
def execSeasonStart (s : State) : Host.Outcome State Fault Refusal :=
  .next (s.onBlock (fun b => b.toReg 0x34 0x58 (cmdWord 1 0 0)))

end Sys2Proof.Machine
end

