-- ==== Sys2Proof/Machine/Dispatch.lean ====
section
/-! DEFINITION. One arm for each command: its meaning. -/

namespace Sys2Proof.Machine

def exec (i : Instr) (s : State) : Host.Outcome State Fault Refusal :=
  match i with
  | .pickStrobe x => Sys2Proof.Machine.execPickStrobe x s
  | .drainComplete page => Sys2Proof.Machine.execDrainComplete page s
  | .softReset page => Sys2Proof.Machine.execSoftReset page s
  | .resetInitEnd page => Sys2Proof.Machine.execResetInitEnd page s
  | .freezeWrite page on => Sys2Proof.Machine.execFreezeWrite page on s
  | .freezeTimeout page => Sys2Proof.Machine.execFreezeTimeout page s
  | .evtRawClear page bits raised => Sys2Proof.Machine.execEvtRawClear page bits raised s
  | .evtInjWrite page bits => Sys2Proof.Machine.execEvtInjWrite page bits s
  | .injectedRaise page => Sys2Proof.Machine.execInjectedRaise page s
  | .faultCodeClear page value => Sys2Proof.Machine.execFaultCodeClear page value s
  | .shadowDiscard page => Sys2Proof.Machine.execShadowDiscard page s
  | .shadowCommitSelect page point => Sys2Proof.Machine.execShadowCommitSelect page point s
  | .registerWrite addr value => Sys2Proof.Machine.execRegisterWrite addr value s
  | .crystalStopped => Sys2Proof.Machine.execCrystalStopped s
  | .pllUnlock => Sys2Proof.Machine.execPllUnlock s
  | .pllRelock => Sys2Proof.Machine.execPllRelock s
  | .modulatorClockGap => Sys2Proof.Machine.execModulatorClockGap s
  | .crossbarRequest init column target => Sys2Proof.Machine.execCrossbarRequest init column target s
  | .blockResetReturn => Sys2Proof.Machine.execBlockResetReturn s
  | .crossbarReply target => Sys2Proof.Machine.execCrossbarReply target s
  | .latchCmdWrite value => Sys2Proof.Machine.execLatchCmdWrite value s
  | .overloadEntry m positive => Sys2Proof.Machine.execOverloadEntry m positive s
  | .overloadRelease m => Sys2Proof.Machine.execOverloadRelease m s
  | .overloadRecoveryEnd m => Sys2Proof.Machine.execOverloadRecoveryEnd m s
  | .neighbourOverdrive channel => Sys2Proof.Machine.execNeighbourOverdrive channel s
  | .neighbourOverdriveEnd channel => Sys2Proof.Machine.execNeighbourOverdriveEnd channel s
  | .commonModeFault channel => Sys2Proof.Machine.execCommonModeFault channel s
  | .settlingEnd m => Sys2Proof.Machine.execSettlingEnd m s
  | .referenceFault => Sys2Proof.Machine.execReferenceFault s
  | .avddLow => Sys2Proof.Machine.execAvddLow s
  | .peakClrWrite channel => Sys2Proof.Machine.execPeakClrWrite channel s
  | .coefAddrWrite value => Sys2Proof.Machine.execCoefAddrWrite value s
  | .coefDataWrite value => Sys2Proof.Machine.execCoefDataWrite value s
  | .coefDataRead => Sys2Proof.Machine.execCoefDataRead s
  | .wbBlockComplete stream bufferHeld => Sys2Proof.Machine.execWbBlockComplete stream bufferHeld s
  | .spCmdStep channel => Sys2Proof.Machine.execSpCmdStep channel s
  | .rotate => Sys2Proof.Machine.execRotate s
  | .stop => Sys2Proof.Machine.execStop s
  | .subst channel => Sys2Proof.Machine.execSubst channel s
  | .release => Sys2Proof.Machine.execRelease s
  | .anchor m => Sys2Proof.Machine.execAnchor m s
  | .calsave => Sys2Proof.Machine.execCalsave s
  | .meas channel => Sys2Proof.Machine.execMeas channel s
  | .measComplete re im => Sys2Proof.Machine.execMeasComplete re im s
  | .spareCalAddrWrite value => Sys2Proof.Machine.execSpareCalAddrWrite value s
  | .spareCalDataAccess write => Sys2Proof.Machine.execSpareCalDataAccess write s
  | .calBankSelect value => Sys2Proof.Machine.execCalBankSelect value s
  | .spCalSourceSwitch => Sys2Proof.Machine.execSpCalSourceSwitch s
  | .overlapStart => Sys2Proof.Machine.execOverlapStart s
  | .matchCompute rMag rArg rDist d dev => Sys2Proof.Machine.execMatchCompute rMag rArg rDist d dev s
  | .windowTimeout => Sys2Proof.Machine.execWindowTimeout s
  | .handover => Sys2Proof.Machine.execHandover s
  | .handback => Sys2Proof.Machine.execHandback s
  | .rotationNextStep => Sys2Proof.Machine.execRotationNextStep s
  | .engOpen engine bank => Sys2Proof.Machine.execEngOpen engine bank s
  | .imgDataWrite value => Sys2Proof.Machine.execImgDataWrite value s
  | .engCheck => Sys2Proof.Machine.execEngCheck s
  | .engAbandon => Sys2Proof.Machine.execEngAbandon s
  | .engActivate engine bank => Sys2Proof.Machine.execEngActivate engine bank s
  | .takeover engine fresh => Sys2Proof.Machine.execTakeover engine fresh s
  | .takeoverQuietPick => Sys2Proof.Machine.execTakeoverQuietPick s
  | .noQuiet => Sys2Proof.Machine.execNoQuiet s
  | .giveback engine fresh => Sys2Proof.Machine.execGiveback engine fresh s
  | .givebackQuietPick => Sys2Proof.Machine.execGivebackQuietPick s
  | .engBist engine => Sys2Proof.Machine.execEngBist engine s
  | .bistComplete signature memoryFails badA badB => Sys2Proof.Machine.execBistComplete signature memoryFails badA badB s
  | .invocationReady engine => Sys2Proof.Machine.execInvocationReady engine s
  | .invocationComplete engine checkOk => Sys2Proof.Machine.execInvocationComplete engine checkOk s
  | .deadlineMiss engine => Sys2Proof.Machine.execDeadlineMiss engine s
  | .loadClrWrite engine => Sys2Proof.Machine.execLoadClrWrite engine s
  | .eccUncorrectable reader addr => Sys2Proof.Machine.execEccUncorrectable reader addr s
  | .ledgerPost => Sys2Proof.Machine.execLedgerPost s
  | .capTrigger => Sys2Proof.Machine.execCapTrigger s
  | .capRelease slot => Sys2Proof.Machine.execCapRelease slot s
  | .capDone => Sys2Proof.Machine.execCapDone s
  | .captureCopyDone => Sys2Proof.Machine.execCaptureCopyDone s
  | .auxCal => Sys2Proof.Machine.execAuxCal s
  | .calComplete gain offset => Sys2Proof.Machine.execCalComplete gain offset s
  | .urgent value => Sys2Proof.Machine.execUrgent value s
  | .urgentComplete sum => Sys2Proof.Machine.execUrgentComplete sum s
  | .auxStart => Sys2Proof.Machine.execAuxStart s
  | .auxStop => Sys2Proof.Machine.execAuxStop s
  | .auxEntryComplete sum => Sys2Proof.Machine.execAuxEntryComplete sum s
  | .sequenceEnd => Sys2Proof.Machine.execSequenceEnd s
  | .pulseEdge input coincident => Sys2Proof.Machine.execPulseEdge input coincident s
  | .wireBreak input => Sys2Proof.Machine.execWireBreak input s
  | .wireBreakEnd input => Sys2Proof.Machine.execWireBreakEnd input s
  | .hostTWrite k value => Sys2Proof.Machine.execHostTWrite k value s
  | .hostTStale k => Sys2Proof.Machine.execHostTStale k s
  | .seasonStart => Sys2Proof.Machine.execSeasonStart s
  | .latchApply => Sys2Proof.Machine.execLatchApply s
  | .ledgerSignatureDone => Sys2Proof.Machine.execLedgerSignatureDone s
  | .sheafForm => Sys2Proof.Machine.execSheafForm s
  | .dstTransition => Sys2Proof.Machine.execDstTransition s
  | .clearOne index => Sys2Proof.Machine.execClearOne index s
  | .clearAll => Sys2Proof.Machine.execClearAll s
  | .defDataAccess write => Sys2Proof.Machine.execDefDataAccess write s
  | .viewStatClear value => Sys2Proof.Machine.execViewStatClear value s
  | .tariffCalDataAccess write => Sys2Proof.Machine.execTariffCalDataAccess write s
  | .tarCheck => Sys2Proof.Machine.execTarCheck s
  | .schedule => Sys2Proof.Machine.execSchedule s
  | .cancel => Sys2Proof.Machine.execCancel s
  | .sheaf => Sys2Proof.Machine.execSheaf s
  | .poutEdge output => Sys2Proof.Machine.execPoutEdge output s
  | .poutPulseEnd output => Sys2Proof.Machine.execPoutPulseEnd output s
  | .keyAPress => Sys2Proof.Machine.execKeyAPress s
  | .keyBHold => Sys2Proof.Machine.execKeyBHold s
  | .keyStuck keyB => Sys2Proof.Machine.execKeyStuck keyB s
  | .manualTimeout => Sys2Proof.Machine.execManualTimeout s
  | .dwellExpiry => Sys2Proof.Machine.execDwellExpiry s
  | .dispShow alternate item => Sys2Proof.Machine.execDispShow alternate item s
  | .dispAuto => Sys2Proof.Machine.execDispAuto s
  | .displayFrame => Sys2Proof.Machine.execDisplayFrame s
  | .tamperSample cover0 cover1 term0 term1 => Sys2Proof.Machine.execTamperSample cover0 cover1 term0 term1 s
  | .tamperLogMove => Sys2Proof.Machine.execTamperLogMove s
  | .ack => Sys2Proof.Machine.execAck s
  | .write frame stuck => Sys2Proof.Machine.execWrite frame stuck s
  | .read frame stuck => Sys2Proof.Machine.execRead frame stuck s
  | .writeFifo frame stuck => Sys2Proof.Machine.execWriteFifo frame stuck s
  | .readFifo frame stuck => Sys2Proof.Machine.execReadFifo frame stuck s
  | .frameCutShort frame => Sys2Proof.Machine.execFrameCutShort frame s
  | .i2cReread => Sys2Proof.Machine.execI2cReread s
  | .descWrite ring config value => Sys2Proof.Machine.execDescWrite ring config value s
  | .descTailWrite ring value => Sys2Proof.Machine.execDescTailWrite ring value s
  | .descHeadWrite ring value => Sys2Proof.Machine.execDescHeadWrite ring value s
  | .nonemptyClear value => Sys2Proof.Machine.execNonemptyClear value s
  | .lossStickyClear value => Sys2Proof.Machine.execLossStickyClear value s
  | .regWrite => Sys2Proof.Machine.execRegWrite s
  | .regRead => Sys2Proof.Machine.execRegRead s
  | .commitStart => Sys2Proof.Machine.execCommitStart s
  | .commit => Sys2Proof.Machine.execCommit s
  | .resolve id slot => Sys2Proof.Machine.execResolve id slot s
  | .duplicate id => Sys2Proof.Machine.execDuplicate id s
  | .scanDone => Sys2Proof.Machine.execScanDone s
  | .mount cs => Sys2Proof.Machine.execMount cs s
  | .mountComplete cs found => Sys2Proof.Machine.execMountComplete cs found s
  | .unmount cs => Sys2Proof.Machine.execUnmount cs s
  | .storRead cs len => Sys2Proof.Machine.execStorRead cs len s
  | .storReadComplete bytes corrected sectorFails ioError => Sys2Proof.Machine.execStorReadComplete bytes corrected sectorFails ioError s
  | .format cs => Sys2Proof.Machine.execFormat cs s
  | .formatComplete ok bad => Sys2Proof.Machine.execFormatComplete ok bad s
  | .flashProgramComplete stream ok => Sys2Proof.Machine.execFlashProgramComplete stream ok s
  | .flashEraseComplete stream ok => Sys2Proof.Machine.execFlashEraseComplete stream ok s
  | .deviceTimeout cs => Sys2Proof.Machine.execDeviceTimeout cs s
  | .encrypt => Sys2Proof.Machine.execEncrypt s
  | .decrypt => Sys2Proof.Machine.execDecrypt s
  | .macGen => Sys2Proof.Machine.execMacGen s
  | .macVer => Sys2Proof.Machine.execMacVer s
  | .hash => Sys2Proof.Machine.execHash s
  | .sign => Sys2Proof.Machine.execSign s
  | .verify => Sys2Proof.Machine.execVerify s
  | .ecdh => Sys2Proof.Machine.execEcdh s
  | .derive => Sys2Proof.Machine.execDerive s
  | .wrap => Sys2Proof.Machine.execWrap s
  | .random => Sys2Proof.Machine.execRandom s
  | .getPub => Sys2Proof.Machine.execGetPub s
  | .keyUpdate => Sys2Proof.Machine.execKeyUpdate s
  | .keyDelete => Sys2Proof.Machine.execKeyDelete s
  | .token => Sys2Proof.Machine.execToken s
  | .cryptoOpComplete ecc => Sys2Proof.Machine.execCryptoOpComplete ecc s
  | .lcStep confirm => Sys2Proof.Machine.execLcStep confirm s
  | .retire confirm => Sys2Proof.Machine.execRetire confirm s
  | .lcTransitionComplete ok => Sys2Proof.Machine.execLcTransitionComplete ok s
  | .challenge => Sys2Proof.Machine.execChallenge s
  | .challengeExpiry => Sys2Proof.Machine.execChallengeExpiry s
  | .testClose => Sys2Proof.Machine.execTestClose s
  | .testSessionExpiry => Sys2Proof.Machine.execTestSessionExpiry s
  | .unlockWrite value => Sys2Proof.Machine.execUnlockWrite value s
  | .unlockExpiry => Sys2Proof.Machine.execUnlockExpiry s
  | .remaskPass => Sys2Proof.Machine.execRemaskPass s
  | .drbgRestart ok => Sys2Proof.Machine.execDrbgRestart ok s
  | .trngHealthFail => Sys2Proof.Machine.execTrngHealthFail s
  | .powerFailDeclared => Sys2Proof.Machine.execPowerFailDeclared s
  | .holdEntry => Sys2Proof.Machine.execHoldEntry s
  | .savePick => Sys2Proof.Machine.execSavePick s
  | .saveFinished vin vbak => Sys2Proof.Machine.execSaveFinished vin vbak s
  | .vinGood elapsed => Sys2Proof.Machine.execVinGood elapsed s
  | .vbakLoss => Sys2Proof.Machine.execVbakLoss s
  | .vbakLow low => Sys2Proof.Machine.execVbakLow low s
  | .vregOverload isOver => Sys2Proof.Machine.execVregOverload isOver s
  | .vstoreFull => Sys2Proof.Machine.execVstoreFull s
  | .vstoreRecharge => Sys2Proof.Machine.execVstoreRecharge s
  | .chargeTimeout => Sys2Proof.Machine.execChargeTimeout s
  | .permitChange vstore vin => Sys2Proof.Machine.execPermitChange vstore vin s
  | .lean => Sys2Proof.Machine.execLean s
  | .run => Sys2Proof.Machine.execRun s
  | .deviceReset confirm => Sys2Proof.Machine.execDeviceReset confirm s
  | .scrubNow => Sys2Proof.Machine.execScrubNow s
  | .scrubPassStart => Sys2Proof.Machine.execScrubPassStart s
  | .scrubPassEnd fixes => Sys2Proof.Machine.execScrubPassEnd fixes s
  | .firstCodeClear value => Sys2Proof.Machine.execFirstCodeClear value s
  | .testBist target => Sys2Proof.Machine.execTestBist target s
  | .testBistComplete fails => Sys2Proof.Machine.execTestBistComplete fails s
  | .fuseBlow target => Sys2Proof.Machine.execFuseBlow target s
  | .fuseBlowComplete ok => Sys2Proof.Machine.execFuseBlowComplete ok s
  | .stepVendor => Sys2Proof.Machine.execStepVendor s
  | .ptDataAccess write => Sys2Proof.Machine.execPtDataAccess write s
  | .markerReceived marker => Sys2Proof.Machine.execMarkerReceived marker s
  | .poll => Sys2Proof.Machine.execPoll s
  | .pollReceived dst delay => Sys2Proof.Machine.execPollReceived dst delay s
  | .pollAnswer src roundTrip answer => Sys2Proof.Machine.execPollAnswer src roundTrip answer s
  | .nodeAbsent => Sys2Proof.Machine.execNodeAbsent s
  | .data src dst fseq payload => Sys2Proof.Machine.execData src dst fseq payload s
  | .lreadFrame src dst first count tag => Sys2Proof.Machine.execLreadFrame src dst first count tag s
  | .lreply dst payload => Sys2Proof.Machine.execLreply dst payload s
  | .lreadTimeout => Sys2Proof.Machine.execLreadTimeout s
  | .latchReq billing => Sys2Proof.Machine.execLatchReq billing s
  | .send => Sys2Proof.Machine.execSend s
  | .lread => Sys2Proof.Machine.execLread s
  | .importChunk => Sys2Proof.Machine.execImportChunk s
  | .joinExport => Sys2Proof.Machine.execJoinExport s
  | .joinImport kslot => Sys2Proof.Machine.execJoinImport kslot s
  | .importDiscard => Sys2Proof.Machine.execImportDiscard s
  | .joinFallback => Sys2Proof.Machine.execJoinFallback s
  | .rtcSet => Sys2Proof.Machine.execRtcSet s
  | .rtcSetApply => Sys2Proof.Machine.execRtcSetApply s
  | .mcOpen unit => Sys2Proof.Machine.execMcOpen unit s
  | .mcDataWrite value => Sys2Proof.Machine.execMcDataWrite value s
  | .mcCheck => Sys2Proof.Machine.execMcCheck s
  | .mcAbandon => Sys2Proof.Machine.execMcAbandon s
  | .mcActivate unit => Sys2Proof.Machine.execMcActivate unit s
  | .microcodeSwitch => Sys2Proof.Machine.execMicrocodeSwitch s
  | .resetN => Sys2Proof.Machine.execResetN s
  | .resetRelease hsel ha0 test vbak => Sys2Proof.Machine.execResetRelease hsel ha0 test vbak s
  | .pllLocked elapsed => Sys2Proof.Machine.execPllLocked elapsed s
  | .huskLoaded => Sys2Proof.Machine.execHuskLoaded s
  | .ready => Sys2Proof.Machine.execReady s
  | .commonModeRestored channel => Sys2Proof.Machine.execCommonModeRestored channel s
  | .referenceRestored => Sys2Proof.Machine.execReferenceRestored s
  | .avddRestored => Sys2Proof.Machine.execAvddRestored s
  | .crystalRestarted => Sys2Proof.Machine.execCrystalRestarted s
  | .vbakRestored => Sys2Proof.Machine.execVbakRestored s
  | .keyRelease keyB => Sys2Proof.Machine.execKeyRelease keyB s
  | .acceptedLevelChange input high => Sys2Proof.Machine.execAcceptedLevelChange input high s
  | .refCalTimeout => Sys2Proof.Machine.execRefCalTimeout s
  | .frameDiscarded crcWrong => Sys2Proof.Machine.execFrameDiscarded crcWrong s

end Sys2Proof.Machine
end

