-- ==== Sys2Proof/Machine/Pins.lean ====
section
/-! DEFINITION. What the digital outputs show in each power state (R364, R366, R376, R383, R407, R516, R597). -/

namespace Sys2Proof.Machine

/-- A digital output between the bits it sends. -/
inductive Level | hiZ | low | high | pulses
  deriving DecidableEq, Repr

/-- Digital output pins (R597, R621). -/
inductive Pin
  | pout (k : Nat)
  | hirqN
  | pwrgood
  | xcsN (k : Nat)
  | xck
  | xd
  | xdqs
  | joinTx
  | joinDe
  | dspCk
  | dspDat
  | dspLat
  | hmiso
  | tampDrv
  deriving DecidableEq, Repr

/-- Steps 1 and 2 of a start, VAULT and OFF: nothing drives (R597). -/
def Block.pinsOff (s : Block) : Bool := !s.portUp

/-- The level of a pin: open-drain outputs conduct (low) or are released. -/
def Block.pin (s : Block) (p : Pin) : Level :=
  match p with
  | .tampDrv => if s.pwr.st == .off then .hiZ else .pulses
  | .pout k => if s.pwr.ready && (s.pwr.st == .run || s.pwr.st == .lean) && (s.pulse k).pulseEnd.isSome then .low else .hiZ
  | .hirqN => if s.hirq then .low else .hiZ
  | .pwrgood => if s.pwrGood then .low else .hiZ
  | .xcsN _ | .joinTx => if s.pinsOff then .hiZ else .high
  | .xck | .joinDe | .dspCk | .dspDat | .dspLat => if s.pinsOff then .hiZ else .low
  | .xd | .xdqs | .hmiso => .hiZ

end Sys2Proof.Machine
end

