-- ==== Sys2Proof/WellFormed.lean ====
section
/-! DEFINITION. Commands whose operands name something the block has: pages, channels, modulators, streams, engines, slots and inputs
within their numbers, fields within their widths. A command outside these ranges exists on no pin and in no frame; the machine lets it
change nothing (log 1). -/

namespace Sys2Proof

/-- A page number (R398). -/
def pageOk (p : Nat) : Bool := decide (p < 64)
/-- A channel (R65). -/
def channelOk (n : Nat) : Bool := decide (n < 16)
/-- A modulator, the spare included (R65). -/
def modulatorOk (m : Nat) : Bool := decide (m < 17)
/-- A metric engine (R161). -/
def engineOk (e : Nat) : Bool := decide (e < 16)
/-- A bank of an engine (R177). -/
def bankOk (b : Nat) : Bool := decide (b < 2)
/-- A ring (R408). -/
def ringOk (n : Nat) : Bool := decide (n < 16)
/-- A pulse input or output (R284, R364). -/
def fourOk (i : Nat) : Bool := decide (i < 4)
/-- A chip select (R453). -/
def csOk (c : Nat) : Bool := decide (c < 2)
/-- A stream of the log store (R457). -/
def logStreamOk (k : Nat) : Bool := decide (k < 5)
/-- A confirmation, a record id: sixteen bits. -/
def halfOk (v : Nat) : Bool := decide (v < 65536)
/-- A node, or broadcast: sixteen bits (R575). -/
def nodeOk (n : Nat) : Bool := decide (n < 65536)
/-- A payload of a Selvedge frame (R575). -/
def payloadOk (l : List Byte) : Bool := decide (l.length ≤ 1024)

/-- What the pins bring to a strobe: bits for each of the seventeen modulators (R65). -/
def PickInput.wf (x : PickInput) : Bool := decide (x.bits.length = 17)

/-- A reader of a protected memory (R555). -/
def EccReader.wf : EccReader → Bool
  | .engine e _ => engineOk e
  | .ringUnit n => ringOk n
  | .logStore k => logStreamOk k
  | .other m => decide (m < 17)

/-- A mount's outcome names streams the store has. -/
def MountFound.wf : MountFound → Bool
  | .streams l => l.all (fun p => logStreamOk p.1)
  | .failed r => decide (r < 16)

/-- A poll answer within its frame. -/
def PollReply.wf : PollReply → Bool
  | .empty => true
  | .latchReq _ => true
  | .lreply dst p => nodeOk dst && payloadOk p
  | .data dst fseq p => nodeOk dst && halfOk fseq && payloadOk p

/-- A command whose operands are within range. -/
def Instr.wf : Instr → Bool
  | .pickStrobe x => x.wf
  | .drainComplete p => pageOk p
  | .softReset p => pageOk p
  | .resetInitEnd p => pageOk p
  | .freezeWrite p _ => pageOk p
  | .freezeTimeout p => pageOk p
  | .evtRawClear p _ _ => pageOk p
  | .evtInjWrite p _ => pageOk p
  | .injectedRaise p => pageOk p
  | .faultCodeClear p _ => pageOk p
  | .shadowDiscard p => pageOk p
  | .shadowCommitSelect p v => pageOk p && decide (v < 4)
  | .registerWrite a _ => decide (a < 0x1000000)
  | .crossbarRequest i c t => pageOk i && decide (c < 8) && pageOk t
  | .crossbarReply t => pageOk t
  | .overloadEntry m _ => modulatorOk m
  | .overloadRelease m => modulatorOk m
  | .overloadRecoveryEnd m => modulatorOk m
  | .neighbourOverdrive n => channelOk n
  | .neighbourOverdriveEnd n => channelOk n
  | .commonModeFault n => channelOk n
  | .commonModeRestored n => channelOk n
  | .settlingEnd m => modulatorOk m
  | .peakClrWrite n => channelOk n
  | .wbBlockComplete k _ => decide (k < 8)
  | .spCmdStep n => channelOk n
  | .subst n => channelOk n
  | .anchor m => decide (m < 32)
  | .meas n => channelOk n
  | .engOpen e b => engineOk e && bankOk b
  | .engActivate e b => engineOk e && bankOk b
  | .takeover e _ => engineOk e
  | .giveback e _ => engineOk e
  | .engBist e => engineOk e
  | .invocationReady e => engineOk e
  | .invocationComplete e _ => engineOk e
  | .deadlineMiss e => engineOk e
  | .loadClrWrite e => engineOk e
  | .eccUncorrectable r a => r.wf && decide (a < 0x1000000)
  | .capRelease k => fourOk k
  | .calComplete g _ => halfOk g
  | .pulseEdge i _ => fourOk i
  | .wireBreak i => fourOk i
  | .wireBreakEnd i => fourOk i
  | .acceptedLevelChange i _ => fourOk i
  | .hostTWrite k _ => decide (k < 2)
  | .hostTStale k => decide (k < 2)
  | .clearOne i => decide (i < 1024)
  | .poutEdge k => fourOk k
  | .poutPulseEnd k => fourOk k
  | .dispShow _ i => decide (i < 64)
  | .descWrite n _ _ => ringOk n
  | .descTailWrite n _ => ringOk n
  | .descHeadWrite n _ => ringOk n
  | .resolve id k => halfOk id && bankOk k
  | .duplicate id => halfOk id
  | .mount c => csOk c
  | .mountComplete c f => csOk c && f.wf
  | .unmount c => csOk c
  | .storRead c n => csOk c && decide (n < 4096)
  | .format c => csOk c
  | .flashProgramComplete k _ => logStreamOk k
  | .flashEraseComplete k _ => logStreamOk k
  | .deviceTimeout c => csOk c
  | .lcStep c => halfOk c
  | .retire c => halfOk c
  | .deviceReset c => halfOk c
  | .testBist t => decide (t < 256)
  | .fuseBlow t => decide (t < 256)
  | .pollReceived d _ => nodeOk d
  | .pollAnswer n _ a => nodeOk n && a.wf
  | .data n d f p => nodeOk n && nodeOk d && halfOk f && payloadOk p
  | .lreadFrame n d f c _ => nodeOk n && nodeOk d && halfOk f && halfOk c
  | .lreply d p => nodeOk d && payloadOk p
  | .joinImport k => decide (k < 64)
  | .mcOpen u => decide (u < 16)
  | .mcActivate u => decide (u < 16)
  | .crystalStopped => true
  | .pllUnlock => true
  | .pllRelock => true
  | .modulatorClockGap => true
  | .blockResetReturn => true
  | .latchCmdWrite _ => true
  | .referenceFault => true
  | .avddLow => true
  | .coefAddrWrite _ => true
  | .coefDataWrite _ => true
  | .coefDataRead => true
  | .rotate => true
  | .stop => true
  | .release => true
  | .calsave => true
  | .measComplete _ _ => true
  | .spareCalAddrWrite _ => true
  | .spareCalDataAccess _ => true
  | .calBankSelect _ => true
  | .spCalSourceSwitch => true
  | .overlapStart => true
  | .matchCompute _ _ _ _ _ => true
  | .windowTimeout => true
  | .handover => true
  | .handback => true
  | .rotationNextStep => true
  | .imgDataWrite _ => true
  | .engCheck => true
  | .engAbandon => true
  | .takeoverQuietPick => true
  | .noQuiet => true
  | .givebackQuietPick => true
  | .bistComplete _ _ _ _ => true
  | .ledgerPost => true
  | .capTrigger => true
  | .capDone => true
  | .captureCopyDone => true
  | .auxCal => true
  | .urgent _ => true
  | .urgentComplete _ => true
  | .auxStart => true
  | .auxStop => true
  | .auxEntryComplete _ => true
  | .sequenceEnd => true
  | .seasonStart => true
  | .latchApply => true
  | .ledgerSignatureDone => true
  | .sheafForm => true
  | .dstTransition => true
  | .clearAll => true
  | .defDataAccess _ => true
  | .viewStatClear _ => true
  | .tariffCalDataAccess _ => true
  | .tarCheck => true
  | .schedule => true
  | .cancel => true
  | .sheaf => true
  | .keyAPress => true
  | .keyBHold => true
  | .keyStuck _ => true
  | .manualTimeout => true
  | .dwellExpiry => true
  | .dispAuto => true
  | .displayFrame => true
  | .tamperSample _ _ _ _ => true
  | .tamperLogMove => true
  | .ack => true
  | .write _ _ => true
  | .read _ _ => true
  | .writeFifo _ _ => true
  | .readFifo _ _ => true
  | .frameCutShort _ => true
  | .i2cReread => true
  | .nonemptyClear _ => true
  | .lossStickyClear _ => true
  | .regWrite => true
  | .regRead => true
  | .commitStart => true
  | .commit => true
  | .scanDone => true
  | .storReadComplete _ _ _ _ => true
  | .formatComplete _ _ => true
  | .encrypt => true
  | .decrypt => true
  | .macGen => true
  | .macVer => true
  | .hash => true
  | .sign => true
  | .verify => true
  | .ecdh => true
  | .derive => true
  | .wrap => true
  | .random => true
  | .getPub => true
  | .keyUpdate => true
  | .keyDelete => true
  | .token => true
  | .cryptoOpComplete _ => true
  | .lcTransitionComplete _ => true
  | .challenge => true
  | .challengeExpiry => true
  | .testClose => true
  | .testSessionExpiry => true
  | .unlockWrite _ => true
  | .unlockExpiry => true
  | .remaskPass => true
  | .drbgRestart _ => true
  | .trngHealthFail => true
  | .powerFailDeclared => true
  | .holdEntry => true
  | .savePick => true
  | .saveFinished _ _ => true
  | .vinGood _ => true
  | .vbakLoss => true
  | .vbakLow _ => true
  | .vregOverload _ => true
  | .vstoreFull => true
  | .vstoreRecharge => true
  | .chargeTimeout => true
  | .permitChange _ _ => true
  | .lean => true
  | .run => true
  | .scrubNow => true
  | .scrubPassStart => true
  | .scrubPassEnd _ => true
  | .firstCodeClear _ => true
  | .testBistComplete _ => true
  | .fuseBlowComplete _ => true
  | .stepVendor => true
  | .ptDataAccess _ => true
  | .markerReceived _ => true
  | .poll => true
  | .nodeAbsent => true
  | .lreadTimeout => true
  | .latchReq _ => true
  | .send => true
  | .lread => true
  | .importChunk => true
  | .joinExport => true
  | .importDiscard => true
  | .joinFallback => true
  | .rtcSet => true
  | .rtcSetApply => true
  | .mcDataWrite _ => true
  | .mcCheck => true
  | .mcAbandon => true
  | .microcodeSwitch => true
  | .resetN => true
  | .resetRelease _ _ _ _ => true
  | .pllLocked _ => true
  | .huskLoaded => true
  | .ready => true
  | .referenceRestored => true
  | .avddRestored => true
  | .crystalRestarted => true
  | .vbakRestored => true
  | .keyRelease _ => true
  | .refCalTimeout => true
  | .frameDiscarded _ => true

end Sys2Proof
end

