-- ==== Sys2Proof/Safety.lean ====
section
/-! DEFINITION. What counts as a safe run, in the terms claims use: a run that neither faults nor is refused, over commands that are
well formed. -/

namespace Sys2Proof

/-- An outcome is a next state. -/
def completes {σ φ ρ : Type} : Host.Outcome σ φ ρ → Prop
  | .next _ => True
  | .fault _ => False
  | .refused _ => False

/-- Every command that waits is well formed. -/
def Machine.State.queueOk (s : Machine.State) : Prop := ∀ c ∈ s.pending, Instr.wf c = true

/-- The host's words reach the registers: the port answers and the power state is not HOLD (R522, R593). -/
def Machine.Block.hostReady (s : Machine.Block) : Bool := s.portUp && s.pwr.st != .hold

/-- The units that stop in HOLD run: the core is powered and the power state is not HOLD (R18, R519). -/
def Machine.Block.unitsUp (s : Machine.Block) : Bool := s.powered && s.pwr.st != .hold

/-- The command completes: exec answers a next state, with the queue as it was and a block of which P holds. -/
def Instr.leads (c : Instr) (s : Machine.State) (P : Machine.Block → Prop) : Prop :=
  ∃ t, Machine.exec c s = .next t ∧ t.pending = s.pending ∧ P t.block

/-- The rows that stand for a host's write or read of one register (R9, R398). -/
def Instr.hostRegister : Instr → Bool
  | .softReset _ | .freezeWrite _ _ | .evtRawClear _ _ _ | .evtInjWrite _ _ | .faultCodeClear _ _ | .shadowDiscard _
    | .shadowCommitSelect _ _ | .registerWrite _ _ | .latchCmdWrite _ | .peakClrWrite _ | .coefAddrWrite _ | .coefDataWrite _
    | .coefDataRead | .spCmdStep _ | .rotate | .stop | .subst _ | .release | .anchor _ | .calsave | .meas _ | .spareCalAddrWrite _
    | .spareCalDataAccess _ | .calBankSelect _ | .engOpen _ _ | .imgDataWrite _ | .engCheck | .engAbandon | .engActivate _ _
    | .takeover _ _ | .giveback _ _ | .engBist _ | .loadClrWrite _ | .capTrigger | .capRelease _ | .auxCal | .urgent _ | .auxStart
    | .auxStop | .hostTWrite _ _ | .seasonStart | .clearOne _ | .clearAll | .defDataAccess _ | .viewStatClear _
    | .tariffCalDataAccess _ | .tarCheck | .schedule | .cancel | .sheaf | .dispShow _ _ | .dispAuto | .ack | .descWrite _ _ _
    | .descTailWrite _ _ | .descHeadWrite _ _ | .nonemptyClear _ | .lossStickyClear _ | .resolve _ _ | .duplicate _ | .mount _
    | .unmount _ | .storRead _ _ | .format _ | .lcStep _ | .retire _ | .challenge | .testClose | .unlockWrite _ | .drbgRestart _
    | .lean | .run | .deviceReset _ | .scrubNow | .firstCodeClear _ | .testBist _ | .fuseBlow _ | .stepVendor | .ptDataAccess _
    | .joinExport | .joinImport _ | .importDiscard | .rtcSet | .mcOpen _ | .mcDataWrite _ | .mcCheck | .mcAbandon | .mcActivate _ => true
  | _ => false

/-- k steps lead from s to t, each answering a next state. -/
def runs : Nat → Machine.State → Machine.State → Prop
  | 0, s, t => t = s
  | k + 1, s, t => ∃ u, Machine.step s = .next u ∧ runs k u t

/-! ### Frames -/

namespace Machine

/-- A modulator but for the marks its words in the chain carry. -/
def Modulator.noMarks (d : Modulator) : Modulator := { d with line := [] }

/-- The mark of the word of modulator m that is stamped in this pick (R84); none where no word of this pick is stamped. -/
def Block.markNow (s : Block) (m : Nat) : Option WordMark := (s.mod m).line.getLast?.filter (fun w => w.pick == s.absPick)

/-- Nothing of the modulators differs but what f changes in modulator m, and marks of words. -/
def Block.onlyMod (s t : Block) (m : Nat) (f : Modulator → Modulator) : Prop :=
  t.mods.map Modulator.noMarks = (modNth s.mods m f).map Modulator.noMarks

/-- Nothing differs but registers, and of those none outside the list. -/
def Block.onlyRegs (s t : Block) (as : List Nat) : Prop := t = { s with regs := t.regs } ∧ ∀ a, a ∉ as → t.getR a = s.getR a

/-- What detectors of these pages write as they are raised (R416, R543, R544): EVT_RAW, FAULT_CODE and FAULT_STAMP of the page,
SYS.FIRST_CODE and its stamp, and what an entry in RING2 moves in the RING page. -/
def reported (ps : List Nat) (a : Nat) : Bool :=
  (0x2D :: ps).any (fun p => [pg p 0x0C, pg p 0x18, pg p 0x1C, pg p 0x20].contains a)
    || [pg 0 0x54, pg 0 0x58, pg 0 0x5C].contains a || (a / 0x400 == 0x2D && decide (0x40 ≤ a % 0x400))

/-- Nothing differs but registers, ring memory and the rings' state, and of the registers none outside the list but those that a
report of these pages writes. -/
def Block.onlyRaised (s t : Block) (ps as : List Nat) : Prop :=
  t = { s with regs := t.regs, sram := t.sram, rings := t.rings }
    ∧ ∀ a, a ∉ as → reported ps a = false → t.getR a = s.getR a

end Machine

end Sys2Proof
end

