-- ==== Sys2Proof/Certificates/Slice0/Obligations.lean ====
section
/-! DEFINITION. The statements for the provers, from the numbered rules of the spec, family by family. -/

open Sys2Proof Sys2Proof.Machine

/-- A step takes the command at the front of the queue and answers what exec answers on the queue's rest (95_what_each_step_holds.md). -/
def Obligations.StepRunsFront : Prop :=
  ∀ (c : Instr) (rest : List Instr) (b : Block), step ⟨c :: rest, b⟩ = exec c ⟨rest, b⟩

/-- On an empty queue the block idles and stays as it is (95_what_each_step_holds.md). -/
def Obligations.EmptyQueueIdles : Prop := ∀ b : Block, step ⟨[], b⟩ = .next ⟨[], b⟩

/-- What a first power-up leaves: no command waits, step 1 of a start, every page STARTING, every register at its reset value (R592, R593, R413, R7). -/
def Obligations.ResetState : Prop :=
  State.reset.pending = [] ∧ State.reset.block.pwr.st = .starting ∧ State.reset.block.pwr.startStep = 1
    ∧ State.reset.block.pwr.ready = false ∧ State.reset.block.pwr.failed = none
    ∧ (∀ a, State.reset.block.getR a = regReset a)
    ∧ (∀ p < 64, State.reset.block.pageState p = psStarting ∧ State.reset.block.gen p = 0)
    ∧ State.reset.block.shadow = [] ∧ State.reset.block.frozen = []
    ∧ (∀ n < 16, State.reset.block.ringUsed n = 0 ∧ State.reset.block.getN (dSeq n) = 0)
    ∧ State.reset.block.warp.state = .acquiring ∧ State.reset.block.time.cycle = 0
    ∧ (∀ m < 16, (State.reset.block.mod m).powered = true) ∧ (State.reset.block.mod 16).powered = false
    ∧ State.reset.block.recs.queue = []

/-- The table gives its rows no bits, so no word spells a command (95_what_each_step_holds.md). -/
def Obligations.NoWordSpellsACommand : Prop :=
  (∀ nbits w, decodeTableWord nbits w = none) ∧ ∀ (s : State) (nbits w : Nat), s.withFetchWord nbits w = s

/-- Whatever waits, every step completes, takes exactly one command off the queue, and keeps what waits well formed (95_what_each_step_holds.md). -/
def Obligations.QueueSound : Prop :=
  ∀ s : State, s.queueOk → ∃ t, step s = .next t ∧ t.pending = s.pending.tail ∧ t.queueOk

/-- The queue invariant holds at reset (R592). -/
def Obligations.QueueSoundAtReset : Prop := State.reset.queueOk

/-- While the core is unpowered no run of commands touches the stores, the keys or the core's units, until VIN_GOOD starts the device (R18, R519, R383). -/
def Obligations.UnpoweredCoreKeepsStores : Prop :=
  ∀ (k : Nat) (s t : State), s.block.powered = false → (∀ e, Instr.vinGood e ∉ s.pending.take k) → runs k s t →
    t.block.powered = false ∧ t.block.feram = s.block.feram ∧ t.block.sram = s.block.sram ∧ t.block.husk = s.block.husk
      ∧ t.block.recs = s.block.recs ∧ t.block.led = s.block.led ∧ t.block.stor = s.block.stor ∧ t.block.warp = s.block.warp
      ∧ t.block.mods = s.block.mods ∧ t.block.engines = s.block.engines ∧ t.block.rings = s.block.rings
      ∧ ∀ a, a / 0x400 ∉ [0x01, 0x04, 0x38] → t.block.getR a = s.block.getR a

/-- In HOLD no register row of the host changes anything but the moment (R522, R18). -/
def Obligations.HoldAnswersHostRows : Prop :=
  ∀ (c : Instr) (s : State), c.hostRegister = true → s.block.pwr.st = .hold →
    exec c s = .next { s with block := s.block.arrive }

/-- EVT_RAW_CLEAR clears the written bits but those raised with it; FAULT_CODE_CLEAR clears only on 0xFFFF (R403, R404). -/
def Obligations.EventAndFaultClear : Prop :=
  ∀ (s : State) (p : Nat), s.block.hostReady = true → p < 64 →
    (∀ bits raised : Word, (Instr.evtRawClear p bits raised).leads s (fun t =>
      s.block.arrive.onlyRegs t [pg p 0x0C]
        ∧ ∀ k < 32, t.rbit (pg p 0x0C) k = (s.block.rbit (pg p 0x0C) k && (!bits.bit k || raised.bit k))))
    ∧ (∀ v : Word, v.bits 15 0 = 0xFFFF → (Instr.faultCodeClear p v).leads s (fun t =>
      s.block.arrive.onlyRegs t [pg p 0x18, pg p 0x1C, pg p 0x20]
        ∧ t.getR (pg p 0x18) = 0 ∧ t.getR (pg p 0x1C) = 0 ∧ t.getR (pg p 0x20) = 0))
    ∧ (∀ v : Word, v.bits 15 0 ≠ 0xFFFF → exec (.faultCodeClear p v) s = .next { s with block := s.block.arrive })

/-- SHADOW_DISCARD leaves the page nothing pending; SHADOW_COMMIT_SELECT selects the point, or is rejected where the page commits at the latch (R406). -/
def Obligations.ShadowRows : Prop :=
  ∀ (s : State) (p : Nat), s.block.hostReady = true → p < 64 →
    (Instr.shadowDiscard p).leads s (fun t => t.hasPending p = false
        ∧ ∀ x, x ∈ t.shadow ↔ x ∈ s.block.shadow ∧ x.1 / 0x400 ≠ p)
    ∧ (∀ k, k < 3 → (k = 0 → commitsAtLatch p = false) → (Instr.shadowCommitSelect p k).leads s (fun t =>
        t.fld (pg p 0x2C) 1 0 = k ∧ s.block.arrive.onlyRegs t [pg p 0x2C]))
    ∧ exec (.shadowCommitSelect p 3) s = .next { s with block := s.block.arrive }
    ∧ (commitsAtLatch p = true → (Instr.shadowCommitSelect p 0).leads s (fun t =>
        t.rbit (pg p 0x0C) (latchOnlyDetector p) = true ∧ t.getR (pg p 0x2C) = s.block.getR (pg p 0x2C)
          ∧ s.block.arrive.onlyRaised t [p] []))

/-- FREEZE keeps the RO words of its page as they read at the write, until it is written 0 or times out (R401). -/
def Obligations.FreezeRows : Prop :=
  ∀ (s : State) (p : Nat), p < 64 →
    (s.block.hostReady = true → (Instr.freezeWrite p true).leads s (fun t =>
      t.rbit (pg p 0x04) 8 = true ∧ (p, s.block.absPick + 1024) ∈ t.freezeEnd
        ∧ ∀ r k, r ∈ RegTable.ofPage p → r.acc = .ro → k < r.count → r.off + k * r.stride < 0x400 →
            ¬ (4 ≤ r.off + k * r.stride ∧ isLo p (r.off + k * r.stride - 4) = true) →
            t.regRead p (r.off + k * r.stride) = s.block.arrive.regView p (r.off + k * r.stride)))
    ∧ (s.block.hostReady = true → s.block.rbit (pg p 0x04) 8 = true → (Instr.freezeWrite p false).leads s (fun t =>
      t.rbit (pg p 0x04) 8 = false ∧ ∀ x, x ∈ t.frozen ↔ x ∈ s.block.frozen ∧ x.1 / 0x400 ≠ p))
    ∧ (∀ e, s.block.powered = true → (p, e) ∈ s.block.freezeEnd → e ≤ s.block.absPick → (Instr.freezeTimeout p).leads s (fun t =>
      t.rbit (pg p 0x04) 8 = false ∧ ∀ x, x ∈ t.frozen ↔ x ∈ s.block.frozen ∧ x.1 / 0x400 ≠ p))

/-- SOFT_RESET waits for the strobe, which takes the page into its reset; RESET_INIT_END takes it out; DRAIN_COMPLETE ends a drain (R401, R402, R550, R21, R123). -/
def Obligations.ResetAndDrainRows : Prop :=
  ∀ (s : State) (p : Nat), p < 64 →
    (s.block.hostReady = true → exec (.softReset p) s = .next { s with block := { s.block.arrive with
      host := { s.block.host with resets := if p ∈ s.block.host.resets then s.block.host.resets else s.block.host.resets ++ [p] } } })
    ∧ (p ∈ s.block.resetsDue ↔ p ∈ s.block.host.resets ∧ (p = 0x18 → s.block.time.pick = 0))
    ∧ (let t := s.block.pageReset p
       t.inReset p = true
        ∧ (p ∈ [0x06, 0x32, 0x3E] → s.block.pageState p ≠ psOff → s.block.pageState p ≠ psDraining →
            t.gen p = (s.block.gen p + 1) % 65536))
    ∧ (s.block.powered = true → (Instr.resetInitEnd p).leads s (fun t =>
      t.inReset p = false ∧ (∀ r ∈ t.faults.xbar, r.target = p → r.returned = false → r.accepted = true)
        ∧ t = { s.block with faults := t.faults }))
    ∧ (s.block.powered = true → s.block.pageState p = psDraining → s.block.inFlight p = false →
        p ∉ [0x17, 0x35, 0x3D] → ¬ (0x1D ≤ p ∧ p ≤ 0x2C) → (Instr.drainComplete p).leads s (fun t =>
      t.pageState p = psOff ∧ s.block.onlyRegs t [pg p 0x08]))

/-- EVT_INJ_WRITE queues the named detectors or is DENIED; INJECTED_RAISE raises each of them with its event bit (R403, R64, R546, R547). -/
def Obligations.InjectionRows : Prop :=
  ∀ (s : State) (p : Nat), p < 64 →
    (∀ v : Word, s.block.hostReady = true → (∃ d < 32, hasDetector p d = true ∧ v.bit d = true) →
      (¬ (metrology p = true ∧ s.block.lifeState = 3) → (Instr.evtInjWrite p v).leads s (fun t =>
        t.host.inj = s.block.host.inj ++ [(p, v.toNat)] ∧ t.regs = s.block.regs))
      ∧ (metrology p = true → s.block.lifeState = 3 → s.block.testOpen = true → (Instr.evtInjWrite p v).leads s (fun t =>
        t.host.inj = s.block.host.inj ++ [(p, v.toNat)] ∧ t.rbit (pg 0x3F 0x0C) 5 = true))
      ∧ (metrology p = true → s.block.lifeState = 3 → s.block.testOpen = false → (Instr.evtInjWrite p v).leads s (fun t =>
        t.host.inj = s.block.host.inj ∧ t.rbit (pg 0x3E 0x0C) 4 = true
          ∧ t.fld (pg 0x3E 0x58) 15 0 = min 65535 (s.block.fld (pg 0x3E 0x58) 15 0 + 1))))
    ∧ (∀ v : Word, s.block.hostReady = true → (∀ d < 32, hasDetector p d = true → v.bit d = false) →
      (Instr.evtInjWrite p v).leads s (fun t => t.host.inj = s.block.host.inj ∧ t.regs = s.block.regs))
    ∧ (s.block.powered = true → s.block.pageState p = psOff ∨ s.block.inReset p = true → (Instr.injectedRaise p).leads s (fun t =>
        (∀ x ∈ t.host.inj, x.1 ≠ p)
          ∧ ∀ d < 32, hasDetector p d = true → (∃ x ∈ s.block.host.inj, x.1 = p ∧ x.2.testBit d = true) → t.rbit (pg p 0x0C) d = true))

/-- REGISTER_WRITE applies the access code of the register, with the field checks of its page (R8, R9, R406). -/
def Obligations.RegisterWriteByAccess : Prop :=
  ∀ (s : State) (p o : Nat) (v : Word), s.block.hostReady = true → s.block.pwr.resetWait = none → p < 64 → 0x40 ≤ o → o < 0x400 →
    o % 4 = 0 → s.block.arrive.nextFrame.cmdWrite p o v = none →
    let b := s.block.arrive.nextFrame
    let old := b.pendR (pg p o)
    let gives (t : Block) : Prop := exec (.registerWrite (pg p o) v) s = .next { s with block := (t.regFollow p o) }
    (RegTable.row p o = none → gives b)
    ∧ ∀ r, RegTable.row p o = some r →
      let m := BitVec.ofNat 32 r.mask
      let new := (old &&& ~~~m) ||| (v &&& m)
      let c := checkFields (pageRules p) o old new
      let reports (t : Block) : Block := forEach c.2 (fun d t => t.raise p d 0) t
      (r.acc = .ro ∨ r.acc = .wo ∨ r.acc = .sp → gives b)
      ∧ (r.acc = .w1c → gives (b.setR (pg p o) (b.getR (pg p o) &&& ~~~(v &&& m))))
      ∧ (r.acc = .rws → (∀ d, b.wordBad p o new = some d → gives (b.raise p d 0))
          ∧ (b.wordBad p o new = none → gives (reports { b with shadow := Sparse.put (pg p o) c.1 b.shadow })))
      ∧ (r.acc = .rw → (∀ d, b.wordBad p o new = some d → gives (b.raise p d 0))
          ∧ (b.wordBad p o new = none → gives (reports (b.setR (pg p o) c.1))))
      ∧ (r.acc = .rwl → (b.lifeState < 3 → gives (reports (b.setR (pg p o) c.1)))
          ∧ (3 ≤ b.lifeState → gives (if p = 0x38 then b.raise 0x38 6 0 else b)))

/-- A word at a wrong address raises HOST detector 3, one at a closed address is counted and raises HOST detector 4; EVT_EN takes its bits (R398, R426, R403). -/
def Obligations.HostAddresses : Prop :=
  ∀ (s : State) (a : Nat) (v : Word), s.block.hostReady = true → s.block.pwr.resetWait = none →
    (a % 4 ≠ 0 ∨ (0x12000 ≤ a ∧ a < 0x20000) ∨ (0x60000 ≤ a ∧ a < 0x100000) ∨ 0x200000 ≤ a →
      exec (.registerWrite a v) s = .next { s with block := s.block.arrive.raise 0x3E 3 a })
    ∧ (a % 4 = 0 → 0x100000 ≤ a → a < 0x180000 → s.block.hostRing a = true →
      exec (.registerWrite a v) s = .next { s with block := s.block.arrive.nextFrame.sramPut a v.toBytes })
    ∧ (a % 4 = 0 → (0x10000 ≤ a ∧ a < 0x12000) ∨ (0x20000 ≤ a ∧ a < 0x60000) ∨ (0x180000 ≤ a ∧ a < 0x200000)
        ∨ (0x100000 ≤ a ∧ a < 0x180000 ∧ s.block.hostRing a = false) →
      (Instr.registerWrite a v).leads s (fun t =>
        t.rbit (pg 0x3E 0x0C) 4 = true ∧ t.fld (pg 0x3E 0x58) 15 0 = min 65535 (s.block.fld (pg 0x3E 0x58) 15 0 + 1)
          ∧ t.getR (pg 0x3E 0x5C) = BitVec.ofNat 32 (2 ^ 24 + a % 2 ^ 24)
          ∧ s.block.arrive.onlyRaised t [0x3E] [pg 0x3E 0x58, pg 0x3E 0x5C]))
    ∧ (∀ p, p < 64 → exec (.registerWrite (pg p 0x10) v) s
        = .next { s with block := s.block.arrive.nextFrame.setR (pg p 0x10) (v &&& 0xFFFFFFFE) })

/-- PICK_STROBE moves time to the next pick and runs what is scheduled there; without a running Warp it changes nothing (R32, R34, R593). -/
def Obligations.StrobeAdvancesTime : Prop :=
  ∀ (s : State) (x : PickInput),
    let u := s.block.strobeBegin
    (s.block.warpRuns = true → exec (.pickStrobe x) s = .next { s with block := u.strobeActions x })
    ∧ (s.block.warpRuns = false → exec (.pickStrobe x) s = .next s)
    ∧ u.time.pick = (if s.block.time.pick = 1023 then 0 else s.block.time.pick + 1)
    ∧ u.time.cycle = (if s.block.time.pick = 1023 then s.block.time.cycle + 1 else s.block.time.cycle)
    ∧ u.time.clk = 0 ∧ u.time.rtcClk = s.block.time.rtcClk + s.block.time.pickLen
    ∧ u.time.mono = s.block.time.mono + s.block.time.pickLen ∧ 1 ≤ u.time.pickLen
    ∧ u.pwr = s.block.pwr ∧ u.feram = s.block.feram ∧ u.warp = s.block.warp ∧ u.led = s.block.led
    ∧ ((∀ d ∈ s.block.mods, d.ovlInjHold = 0 ∨ d.ovlInj = false) → u.regs = s.block.regs)

/-- Crystal and PLL: each loss is counted once per episode, reported and marks what it invalidates; each return ends it (R14, R16, R17, R45, R86). -/
def Obligations.ClockRows : Prop :=
  ∀ s : State, s.block.powered = true →
    (s.block.rbit (pg 3 0x40) 0 = true → Instr.crystalStopped.leads s (fun t =>
      t.rbit (pg 3 0x40) 0 = false ∧ t.rbit (pg 4 0x54) 0 = false
        ∧ t.fld (pg 3 0x4C) 15 0 = min 65535 (s.block.fld (pg 3 0x4C) 15 0 + 1)
        ∧ t.rbit (pg 3 0x0C) 1 = true ∧ t.rbit (pg 4 0x0C) 2 = true
        ∧ s.block.arrive.onlyRaised t [3, 4] [pg 3 0x40, pg 3 0x4C, pg 4 0x54]))
    ∧ (s.block.rbit (pg 3 0x40) 0 = false → exec .crystalStopped s = .next { s with block := s.block.arrive })
    ∧ Instr.crystalRestarted.leads s (fun t => t.rbit (pg 3 0x40) 0 = true ∧ s.block.arrive.onlyRegs t [pg 3 0x40])
    ∧ (s.block.rbit (pg 3 0x40) 1 = true → Instr.pllUnlock.leads s (fun t =>
      t.rbit (pg 3 0x40) 1 = false ∧ t.fld (pg 3 0x48) 15 0 = min 65535 (s.block.fld (pg 3 0x48) 15 0 + 1)
        ∧ t.rbit (pg 3 0x0C) 2 = true ∧ t.warp.pllLost = true
        ∧ t.mods.map Modulator.noMarks = s.block.mods.map (fun d => { d with refFault := true, line := [] })
        ∧ (∀ m < 17, ∀ k, s.block.markNow m = some k → ∃ w, t.markNow m = some w ∧ w.cause ≠ 0)
        ∧ t.warp.state = .holdover ∧ (s.block.warp.state ≠ .holdover → t.rbit (pg 5 0x0C) 3 = true)))
    ∧ (s.block.rbit (pg 3 0x40) 1 = false → s.block.pwr.st ≠ .starting ∨ 5 ≤ s.block.pwr.startStep → Instr.pllRelock.leads s (fun t =>
      t.rbit (pg 3 0x40) 1 = true ∧ t.warp.pllLost = false
        ∧ (s.block.fld (pg 6 0x5C) 1 0 = 3 → ∀ m < 17, ∀ d, s.block.mods[m]? = some d →
            ∃ e, t.mods[m]? = some e ∧ e.refFault = false ∧ e.settleLeft = s.block.settleCount m ∧ e.settleOwed = true)
        ∧ (s.block.fld (pg 6 0x5C) 1 0 ≠ 3 → t.mods = s.block.mods)))
    ∧ Instr.modulatorClockGap.leads s (fun t => t.rbit (pg 3 0x0C) 3 = true
        ∧ ∀ m < 17, ∀ d, s.block.mods[m]? = some d →
            ∃ e, t.mods[m]? = some e ∧ e.settleLeft = s.block.settleCount m ∧ e.settleOwed = true)

/-- The crossbar refuses what an initiator may not reach, returns what a page in reset held for 64 picks, and drops a stale reply (R19, R20, R21, R549, R550, R551). -/
def Obligations.CrossbarRows : Prop :=
  ∀ s : State, s.block.powered = true →
    (∀ init col target, rxAllowed init col target = true ∨ (init = 0x3E ∧ col = 2) →
      exec (.crossbarRequest init col target) s = .next { s with block := { s.block.arrive with faults := { s.block.faults with
        xbar := s.block.faults.xbar
          ++ [⟨init, s.block.gen init, target, s.block.gen target, rxClass init col, s.block.absPick, !s.block.inReset target, false⟩] } } })
    ∧ (∀ init col target, rxAllowed init col target = false → ¬ (init = 0x3E ∧ col = 2) →
      (Instr.crossbarRequest init col target).leads s (fun t => t.faults = s.block.faults
        ∧ (init = 0x3E → t.rbit (pg 0x3E 0x0C) 4 = true)
        ∧ (init ≠ 0x3E → t.rbit (pg 0 0x0C) 4 = true ∧ t.fld (pg 0 0x80) 15 0 = min 65535 (s.block.fld (pg 0 0x80) 15 0 + 1))))
    ∧ (∀ r, s.block.faults.xbar.find? (fun r => !r.accepted && !r.returned && decide (r.since + 64 ≤ s.block.absPick)) = some r →
      Instr.blockResetReturn.leads s (fun t => { r with returned := true } ∈ t.faults.xbar
        ∧ t.fld (pg 0 0x84) 15 0 = min 65535 (s.block.fld (pg 0 0x84) 15 0 + 1)))
    ∧ (∀ target r, rxNext s.block.faults.xbar target = some r → (Instr.crossbarReply target).leads s (fun t =>
      t.faults.xbar.length + 1 = s.block.faults.xbar.length
        ∧ (r.gen ≠ s.block.gen r.init → ¬ (0x1D ≤ r.init ∧ r.init ≤ 0x2C) →
            t.fld (pg 0 0x7C) 15 0 = min 65535 (s.block.fld (pg 0 0x7C) 15 0 + 1))
        ∧ (r.gen ≠ s.block.gen r.init → 0x1D ≤ r.init → r.init ≤ 0x2C →
            t.fld (pg r.init 0x6C) 15 0 = min 65535 (s.block.fld (pg r.init 0x6C) 15 0 + 1))
        ∧ (r.gen = s.block.gen r.init → t.regs = s.block.regs)))

/-- LATCH_CMD with LATCH 1 requests a command latch, on a follower a LATCH_REQ; with LATCH 0 it has no effect; it reads 0 (R654). -/
def Obligations.LatchCommand : Prop :=
  ∀ (s : State) (v : Word), s.block.hostReady = true →
    (v.bit 0 = true → s.block.following = false →
      exec (.latchCmdWrite v) s = .next { s with block := { s.block.arrive.nextFrame with warp := { s.block.warp with cmdLatch := true } } })
    ∧ (v.bit 0 = true → s.block.following = true → (Instr.latchCmdWrite v).leads s (fun t =>
        t.join.req = some ((s.block.join.req.map (·.1)).getD false, none) ∧ t.warp = s.block.warp))
    ∧ (v.bit 0 = false → exec (.latchCmdWrite v) s = .next { s with block := s.block.arrive.nextFrame })
    ∧ s.block.regView 5 0x54 = 0

/-- RTC_CMD SET captures the time to load, RTC_SET_APPLY loads it at a strobe and reports the change (R604, R606). -/
def Obligations.TimeSetRows : Prop :=
  ∀ s : State,
    (s.block.hostReady = true → s.block.mc.set = none → s.block.get64 (pg 4 0x48) / 65536 ≤ 0xFFFFFFFF →
      Instr.rtcSet.leads s (fun t => t.mc.set = some (s.block.get64 (pg 4 0x48)) ∧ t.rbit (pg 4 0x54) 1 = true
        ∧ ({ s.block.arrive.nextFrame with mc := t.mc }).onlyRegs t [pg 4 0x54]))
    ∧ (s.block.hostReady = true → s.block.mc.set ≠ none ∨ 0xFFFFFFFF < s.block.get64 (pg 4 0x48) / 65536 →
      Instr.rtcSet.leads s (fun t => t.mc = s.block.mc ∧ t.rbit (pg 4 0x0C) 3 = true ∧ s.block.arrive.nextFrame.onlyRaised t [4] []))
    ∧ (∀ v, s.block.powered = true → s.block.mc.set = some v → Instr.rtcSetApply.leads s (fun t =>
      t.mc.set = none ∧ t.rbit (pg 4 0x54) 0 = true ∧ t.rbit (pg 4 0x54) 1 = false ∧ t.rbit (pg 4 0x0C) 1 = true
        ∧ t.get64 (pg 4 0x58) = s.block.rtcNow ∧ t.fld (pg 4 0x60) 15 0 = min 65535 (s.block.fld (pg 4 0x60) 15 0 + 1)
        ∧ (s.block.time.clk = 0 → t.rtcNow = v % 2 ^ 64)))

/-- Microcode loads: OPEN empties the idle bank, MC_DATA gathers words, CHECK and ABANDON close the load, ACTIVATE and the switch change bank (R600, R601, R602, R605). -/
def Obligations.MicrocodeRows : Prop :=
  ∀ (s : State) (u : Nat), u < 2 →
    (s.block.hostReady = true → s.block.mc.load = none → s.block.mcPending u = false → (Instr.mcOpen u).leads s (fun t =>
      t.mc = { s.block.mc with load := some (u, 0, []), banks := setNth s.block.mc.banks (2 * u + (1 - s.block.mcActive u)) none }
        ∧ t.fld (pg 4 0x6C) 31 28 = 1 ∧ t.fld (pg 4 0x6C) 15 0 = 0))
    ∧ (s.block.hostReady = true → s.block.mc.load ≠ none → (Instr.mcOpen u).leads s (fun t =>
      t.mc = s.block.mc ∧ t.fld (pg 4 0x6C) 31 28 = 10 ∧ t.rbit (pg 4 0x0C) 3 = true))
    ∧ (∀ w n b (v : Word), s.block.hostReady = true → s.block.mc.load = some (w, n, b) → (Instr.mcDataWrite v).leads s (fun t =>
      t.mc = { s.block.mc with load := some (w, n + 1, v.toBytes.reverse ++ b) } ∧ t.fld (pg 4 0x6C) 15 0 = min 0xFFFF (n + 1)))
    ∧ (∀ w n b, s.block.hostReady = true → s.block.mc.load = some (w, n, b) → Instr.mcAbandon.leads s (fun t =>
      t.mc = { s.block.mc with load := none } ∧ t.fld (pg 4 0x6C) 31 28 = 8))
    ∧ (∀ w n b, s.block.hostReady = true → s.block.mc.load = some (w, n, b) → Instr.mcCheck.leads s (fun t =>
      t.mc.load = none
        ∧ ((s.block.checkMicro w b.reverse n).2 = 3 → t.mc.banks =
            setNth s.block.mc.banks (2 * w + (1 - s.block.mcActive w)) (some (s.block.checkMicro w b.reverse n).1))
        ∧ ((s.block.checkMicro w b.reverse n).2 ≠ 3 → t.mc.banks = s.block.mc.banks)))
    ∧ (s.block.hostReady = true → s.block.mc.load = none → Instr.mcAbandon.leads s (fun t =>
      t.mc = s.block.mc ∧ t.rbit (pg 4 0x0C) 3 = true))
    ∧ (∀ i, s.block.hostReady = true → s.block.mc.load = none → s.block.mc.pend = none →
      s.block.mcImage u (1 - s.block.mcActive u) = some i → i.rom = true → (Instr.mcActivate u).leads s (fun t =>
        t.mc = { s.block.mc with pend := some (u, some 255, false) } ∧ t.fld (pg 4 0x6C) 31 28 = 3 ∧ t.rbit (pg 4 0x6C) 20 = true))
    ∧ (∀ i pos latched, s.block.unitsUp = true → s.block.mc.pend = some (u, pos, latched) →
      s.block.mcImage u (1 - s.block.mcActive u) = some i → (u = 0 → latched = true) →
      (u = 1 → s.block.husk.ops.any (fun o => o.phase == 1) = false) → Instr.microcodeSwitch.leads s (fun t =>
        t.mc.pend = none ∧ t.mc.floors = setNth s.block.mc.floors u (max i.roll (nth 0 s.block.mc.floors u))
          ∧ t.rbit (pg 4 0x0C) 4 = true))

/-- Overload: entry holds the modulator and reports it, release starts the recovery count, its end counts and reports the episode (R81, R84, R93, R97, R99). -/
def Obligations.OverloadRows : Prop :=
  ∀ (s : State) (m : Nat), s.block.powered = true → m < 17 →
    let stat := ((s.block.shownOn m).map (fun c => pg (chPage c) 0x4C)).toList ++ [pg 6 0x44, pg 6 0x54]
    (∀ pos, (s.block.mod m).ovlHeld = none → (Instr.overloadEntry m pos).leads s (fun t =>
      s.block.onlyMod t m (fun d =>
          { d with ovlHeld := some pos, ovlEpisode := true, ovlInj := false, ovlLeft := 0, ovlInjHold := 0, ovlPage := none })
        ∧ (∀ k, s.block.markNow m = some k → ∃ w, t.markNow m = some w ∧ w.clamp = some pos ∧ w.cause ≠ 0)
        ∧ t.rbit (pg 6 0x4C) m = true ∧ t.rbit (pg 6 0x44) m = false
        ∧ t.rbit (pg (s.block.ovlPage m).1 0x0C) (s.block.ovlPage m).2 = true
        ∧ ∀ a, a ∉ pg 6 0x4C :: stat → reported [(s.block.ovlPage m).1] a = false → a / 0x400 ≠ 0x33 →
            t.getR a = s.block.getR a))
    ∧ ((s.block.mod m).ovlHeld ≠ none → (Instr.overloadRelease m).leads s (fun t =>
      s.block.onlyMod t m (fun d => { d with ovlHeld := none, ovlLeft := s.block.settleCount m, ovlInjHold := 0 })
        ∧ t.rbit (pg 6 0x44) m = (s.block.mod m).powered ∧ ({ s.block with mods := t.mods }).onlyRegs t stat))
    ∧ ((s.block.mod m).ovlEpisode = true → (s.block.mod m).ovlHeld = none → (s.block.mod m).ovlLeft = 0 →
      (Instr.overloadRecoveryEnd m).leads s (fun t =>
        let at_ := match (s.block.mod m).ovlPage with
          | some n => (chPage n, 2)
          | none => s.block.ovlPage m
        let c := if at_.1 = 0x17 then pg 0x17 0xC8 else pg at_.1 0x54
        t.mods = modNth s.block.mods m (fun d => { d with ovlEpisode := false, ovlInj := false, ovlPage := none })
          ∧ t.rbit (pg at_.1 0x0C) at_.2 = true ∧ t.fld c 15 0 = min 65535 (s.block.fld c 15 0 + 1)))

/-- Clamp current above the rating marks the neighbouring channels, counts and reports; its end ends the marking unless another neighbour is over (R82, R84, R92, R96). -/
def Obligations.NeighbourRows : Prop :=
  ∀ (s : State) (n : Nat), s.block.powered = true → n < 16 →
    ((s.block.mod n).injOver = false → (Instr.neighbourOverdrive n).leads s (fun t =>
      (∀ d, s.block.mods[n]? = some d → ∃ e, t.mods[n]? = some e ∧ e.noMarks = { d.noMarks with injOver := true })
        ∧ t.fld (pg (chPage n) 0x58) 15 0 = min 65535 (s.block.fld (pg (chPage n) 0x58) 15 0 + 1)
        ∧ t.rbit (pg 6 0x50) n = true ∧ t.rbit (pg (chPage n) 0x0C) 3 = true
        ∧ (s.block.rbit (pg 6 0x40) 0 = true → ∀ k ∈ neighbours n,
            t.fld (pg (chPage k) 0x5C) 15 0 = min 65535 (s.block.fld (pg (chPage k) 0x5C) 15 0 + 1)
            ∧ (∀ d, s.block.mods[k]? = some d →
                ∃ e, t.mods[k]? = some e ∧ e.noMarks = { d.noMarks with nbrNow := true, nbrLeft := 0 })
            ∧ ∀ m ∈ s.block.modsOn k, ∀ w, s.block.markNow m = some w → ∃ x, t.markNow m = some x ∧ x.cause ≠ 0)
        ∧ (s.block.rbit (pg 6 0x40) 0 = false → t.mods = modNth s.block.mods n (fun d => { d with injOver := true })
            ∧ ∀ k < 16, t.fld (pg (chPage k) 0x5C) 15 0 = s.block.fld (pg (chPage k) 0x5C) 15 0)))
    ∧ ((s.block.mod n).injOver = true → (Instr.neighbourOverdriveEnd n).leads s (fun t =>
      (∀ d, s.block.mods[n]? = some d → t.mods[n]? = some { d with injOver := false })
        ∧ t.rbit (pg (chPage n) 0x4C) 2 = false
        ∧ (∀ k ∈ neighbours n, ∀ d, s.block.mods[k]? = some d → t.mods[k]? = some
            (if d.nbrNow = true ∧ ∀ j ∈ neighbours k, j ≠ n → (s.block.mod j).injOver = false
              then { d with nbrNow := false, nbrLeft := 4 } else d))
        ∧ ∀ k, k ≠ n → k ∉ neighbours n → t.mods[k]? = s.block.mods[k]?))

/-- Common mode out of range marks and reports the channel, its return starts the settling count; a settling episode ends with detector 6 (R83, R84, R86, R92). -/
def Obligations.CommonModeAndSettlingRows : Prop :=
  ∀ s : State, s.block.powered = true →
    (∀ n < 16, s.block.rbit (pg 6 0x40) 1 = true → (s.block.mod n).cmFault = false → (Instr.commonModeFault n).leads s (fun t =>
      s.block.onlyMod t n (fun d => { d with cmFault := true, cmLeft := 0 })
        ∧ (∀ m ∈ s.block.modsOn n, ∀ w, s.block.markNow m = some w → ∃ x, t.markNow m = some x ∧ x.cause ≠ 0)
        ∧ t.rbit (pg (chPage n) 0x4C) 4 = true ∧ t.rbit (pg (chPage n) 0x0C) 4 = true
        ∧ ({ s.block.arrive with mods := t.mods }).onlyRaised t [chPage n] [pg (chPage n) 0x4C, pg 6 0x54]))
    ∧ (∀ n < 16, (s.block.mod n).cmFault = true → (Instr.commonModeRestored n).leads s (fun t =>
      t.mods = modNth s.block.mods n (fun d => { d with cmFault := false, cmLeft := s.block.settleCount (s.block.slotMod n) + 1 })
        ∧ t.rbit (pg (chPage n) 0x4C) 4 = false ∧ ({ s.block with mods := t.mods }).onlyRegs t [pg (chPage n) 0x4C]))
    ∧ (∀ m < 17, (s.block.mod m).settleOwed = true → (s.block.mod m).settleLeft = 0 →
      (∀ c ∈ s.block.causes m, ¬ (2 ≤ c ∧ c ≤ 6)) → (Instr.settlingEnd m).leads s (fun t =>
        t.mods = modNth s.block.mods m (fun d => { d with settleOwed := false })
          ∧ (∀ c, s.block.shownOn m = some c → t.rbit (pg (chPage c) 0x0C) 6 = true
              ∧ ({ s.block with mods := t.mods }).onlyRaised t [chPage c] [])
          ∧ (s.block.shownOn m = none → t.regs = s.block.regs)))

/-- A lost reference or AVDD marks every modulator and is reported; its return starts a settling episode on each once both and the PLL are good (R84, R90, R94). -/
def Obligations.ReferenceRows : Prop :=
  ∀ (s : State) (w : Nat) (c d : Instr), s.block.powered = true →
    (w = 0 ∧ c = .referenceFault ∧ d = .referenceRestored) ∨ (w = 1 ∧ c = .avddLow ∧ d = .avddRestored) →
    (s.block.rbit (pg 6 0x5C) w = true → c.leads s (fun t =>
      t.rbit (pg 6 0x5C) w = false ∧ t.mods.map Modulator.noMarks = s.block.mods.map (fun d => { d with refFault := true, refInjLeft := 0, line := [] })
        ∧ (∀ m < 17, ∀ k, s.block.markNow m = some k → ∃ x, t.markNow m = some x ∧ x.cause ≠ 0)
        ∧ t.rbit (pg 6 0x0C) (w + 1) = true ∧ ({ s.block.arrive with mods := t.mods }).onlyRaised t [6] [pg 6 0x5C, pg 6 0x54]))
    ∧ (s.block.rbit (pg 6 0x5C) w = false → d.leads s (fun t =>
      t.rbit (pg 6 0x5C) w = true
        ∧ (s.block.rbit (pg 6 0x5C) (1 - w) = true → s.block.rbit (pg 3 0x40) 1 = true →
            ∀ m < 17, ∀ d, s.block.mods[m]? = some d →
              ∃ e, t.mods[m]? = some e ∧ e.refFault = false ∧ e.settleLeft = s.block.settleCount m ∧ e.settleOwed = true)
        ∧ (s.block.rbit (pg 6 0x5C) (1 - w) = false ∨ s.block.rbit (pg 3 0x40) 1 = false → t.mods = s.block.mods)))

/-- PEAK_CLR waits for its pick; the coefficient address loads the word, data writes reach only a free bank and both step the index (R98, R108, R127, R128). -/
def Obligations.FilterRows : Prop :=
  ∀ s : State, s.block.hostReady = true →
    let a := s.block.coefAt
    let step := if 95 ≤ s.block.fld (pg 0x18 0xD8) 6 0 then 0 else s.block.fld (pg 0x18 0xD8) 6 0 + 1
    (∀ n < 16, exec (.peakClrWrite n) s = .next { s with block := { s.block.arrive.nextFrame with
      mods := modNth s.block.mods n (fun d => { d with peakClr := true }) } })
    ∧ (∀ v : Word, v.bits 6 0 ≤ 95 → (Instr.coefAddrWrite v).leads s (fun t =>
      t.fld (pg 0x18 0xD8) 9 0 = v.bits 9 0 ∧ t.flt.coefs = s.block.flt.coefs
        ∧ t.getR (pg 0x18 0xDC) = BitVec.ofNat 32 (unsignedOf 32 (s.block.coef (v.bits 9 8) (v.bits 7 7) (v.bits 6 0)))
        ∧ ({ s.block.arrive.nextFrame with flt := t.flt }).onlyRegs t [pg 0x18 0xD8, pg 0x18 0xDC, pg 0x18 0xE0]))
    ∧ (∀ v : Word, 95 < v.bits 6 0 → (Instr.coefAddrWrite v).leads s (fun t =>
      t.rbit (pg 0x18 0x0C) 3 = true ∧ s.block.arrive.nextFrame.onlyRaised t [0x18] []))
    ∧ (∀ v : Word, s.block.bankBusy a.1 a.2.1 = false → (Instr.coefDataWrite v).leads s (fun t =>
      t.flt.coefs = Sparse.put ((2 * a.1 + a.2.1) * 96 + a.2.2) (signedOf 18 (v.bits 17 0)) s.block.flt.coefs
        ∧ t.fld (pg 0x18 0xD8) 6 0 = step
        ∧ ({ s.block.arrive.nextFrame with flt := t.flt }).onlyRegs t [pg 0x18 0xD8, pg 0x18 0xDC, pg 0x18 0xE0]))
    ∧ (∀ v : Word, s.block.bankBusy a.1 a.2.1 = true → (Instr.coefDataWrite v).leads s (fun t =>
      t.flt = s.block.flt ∧ t.fld (pg 0x18 0xD8) 6 0 = step ∧ t.rbit (pg 0x18 0x0C) 2 = true))
    ∧ Instr.coefDataRead.leads s (fun t => t.flt = s.block.flt ∧ t.fld (pg 0x18 0xD8) 6 0 = step)

/-- A completed wideband block is delivered under its BSEQ, or dropped and counted where its buffer is held; without one nothing happens (R119, R121, R122, R528). -/
def Obligations.WidebandBlockRow : Prop :=
  ∀ (s : State) (k : Nat), s.block.unitsUp = true → k < 8 →
    let run := s.block.pwr.ready = false ∨ s.block.granted 0x19 = true
    ((s.block.stream k).ready = none → exec (.wbBlockComplete k false) s = .next s ∧ exec (.wbBlockComplete k true) s = .next s)
    ∧ ((s.block.stream k).ready ≠ none → run → (Instr.wbBlockComplete k true).leads s (fun t =>
        t.wb = modNth s.block.wb k (fun w => { w.gone with gapNext := true, dropEpisode := true })
          ∧ t.fld (pg 0x19 (0x84 + 4 * k)) 15 0 = min 65535 (s.block.fld (pg 0x19 (0x84 + 4 * k)) 15 0 + 1)
          ∧ ((s.block.stream k).dropEpisode = false → t.rbit (pg 0x19 0x0C) 1 = true)
          ∧ ({ s.block with wb := t.wb }).onlyRaised t [0x19] [pg 0x19 (0x84 + 4 * k), pg 0x19 0x08]))
    ∧ ((s.block.stream k).ready ≠ none → ¬ run → ∀ held, (Instr.wbBlockComplete k held).leads s (fun t =>
        t.wb = modNth s.block.wb k (fun w => { w.gone with gapNext := true })
          ∧ ({ s.block with wb := t.wb }).onlyRegs t [pg 0x19 0x08]))
    ∧ (∀ b, (s.block.stream k).ready = some b → run → (Instr.wbBlockComplete k false).leads s (fun t =>
        let u := s.block.wbDeliver k b none
        t = (match (u.stream k).blocks.head? with
          | some l => u.engBlocks k (s.block.stream k).bseq (leNat ((l.drop 4).take 8))
          | none => u)
        ∧ u.wb = modNth s.block.wb k (fun w => { w.gone with gapNext := false, dropEpisode := false, blocks := (u.stream k).blocks })
        ∧ u.fld (pg 0x19 (0x64 + 4 * k)) 31 0 = min (2 ^ 32 - 1) (s.block.fld (pg 0x19 (0x64 + 4 * k)) 31 0 + 1)
        ∧ ∃ l, (u.stream k).blocks.head? = some l ∧ (u.stream k).blocks.tail = (s.block.stream k).blocks.take 1))

/-- SP_CMD starts: STEP, SUBST and RELEASE wait for pick 0, ROTATE takes its first enabled channel, STOP ends after the step, MEAS starts; else rejected (R140, R150). -/
def Obligations.SpareStartCommands : Prop :=
  ∀ s : State, s.block.hostReady = true →
    let b := s.block.arrive.nextFrame
    let sp := s.block.spare
    let first := ((List.range 16).filter (fun n => s.block.rbit (pg 0x17 0x48) n)).find? (fun n => s.block.rbit (pg (chPage n) 0x04) 0)
    let rejected (c : Instr) : Prop := c.leads s (fun t => t.rbit (pg 0x17 0x0C) 6 = true ∧ b.onlyRaised t [0x17] [])
    let spFree := s.block.spReady = true ∧ sp.state = 0 ∧ sp.start = none
    (∀ n < 16, (spFree → exec (.spCmdStep n) s = .next { s with block := { b with spare := { sp with start := some (.step, n) } } }
          ∧ exec (.subst n) s = .next { s with block := { b with spare := { sp with start := some (.subst, n) } } })
        ∧ (¬ spFree → rejected (.spCmdStep n) ∧ rejected (.subst n)))
    ∧ (s.block.spReady = true → sp.state = 5 → sp.start = none →
        exec .release s = .next { s with block := { b with spare := { sp with start := some (.release, sp.ch) } } })
    ∧ (¬ (s.block.spReady = true ∧ sp.state = 5 ∧ sp.start = none) → rejected .release)
    ∧ (spFree → sp.rotActive = false → Instr.rotate.leads s (fun t =>
        t.spare.start = first.map (fun n => (.step, n)) ∧ t.spare.rotActive = first.isSome ∧ t.spare.rotStop = false))
    ∧ (¬ (spFree ∧ sp.rotActive = false) → rejected .rotate)
    ∧ (sp.rotActive = true → ¬ (sp.state = 0 ∧ sp.start = none) →
        exec .stop s = .next { s with block := { b with spare := { sp with rotStop := true } } })
    ∧ (sp.rotActive = true → sp.state = 0 → sp.start = none → Instr.stop.leads s (fun t =>
        t.spare = { sp with rotActive := false, rotStop := false, rotWait := none, rotLeft := [] }
          ∧ ({ b with spare := t.spare }).onlyRegs t [pg 0x17 0x4C]))
    ∧ (sp.rotActive = false → rejected .stop)
    ∧ (∀ n < 16, (s.block.spReady = true → s.block.rbit (pg 0x17 0x4C) 14 = false → (Instr.meas n).leads s (fun t =>
          t.rbit (pg 0x17 0x4C) 14 = true ∧ t.spare.measCh = n ∧ t.spare.measWait = true ∧ t.spare.measGood = 0 ∧ t.spare.measElapsed = 0
            ∧ ({ b with spare := t.spare }).onlyRegs t [pg 0x17 0x4C]))
        ∧ (s.block.spReady = false ∨ s.block.rbit (pg 0x17 0x4C) 14 = true → rejected (.meas n)))

/-- Calibration words: the address loads the word and the CRC, data reach only a free bank and both step it; CAL_BANK waits; ANCHOR and CALSAVE store (R136, R137, R139, R149, R150, R154, R159). -/
def Obligations.SpareCalibrationData : Prop :=
  ∀ s : State, s.block.hostReady = true →
    let b := s.block.arrive.nextFrame
    let a := s.block.calAt
    let steps (t : Block) : Prop := t.fld (pg 0x17 0x70) 6 0 = (s.block.fld (pg 0x17 0x70) 6 0 + 1) % 128
    let at_ := [pg 0x17 0x70, pg 0x17 0x74, pg 0x17 0x78]
    let saves (t : Block) : Prop := ∃ c, t.recs.queue = s.block.recs.queue ++ [c] ∧ c.id = 0x30 ∧ c.payloads.length = 13 ∧ c.started = false
    (∀ v : Word, (Instr.spareCalAddrWrite v).leads s (fun t => t.fld (pg 0x17 0x70) 7 0 = v.bits 7 0
        ∧ t.getR (pg 0x17 0x74) = s.block.calWord (v.bits 7 7) (v.bits 6 3) (v.bits 2 0)
        ∧ t.getR (pg 0x17 0x78) = s.block.calCrc (v.bits 7 7) ∧ b.onlyRegs t at_))
    ∧ (∀ v x : Word, s.block.calBusy a.1 = false → a.2.2 ≠ 7 → calAccept a.2.2 v = some x → (Instr.spareCalDataAccess (some v)).leads s (fun t =>
        t.calWord a.1 a.2.1 a.2.2 = x ∧ (∀ k, k ≠ calKey a.1 a.2.1 a.2.2 → ∀ d, Sparse.get d k t.spare.banks = Sparse.get d k s.block.spare.banks)
          ∧ steps t ∧ ({ b with spare := t.spare }).onlyRegs t at_))
    ∧ (∀ v : Word, s.block.calBusy a.1 = false → a.2.2 ≠ 7 → calAccept a.2.2 v = none → (Instr.spareCalDataAccess (some v)).leads s (fun t =>
        t.rbit (pg 0x17 0x0C) 6 = true ∧ steps t ∧ b.onlyRaised t [0x17] at_))
    ∧ (∀ v : Word, s.block.calBusy a.1 = true → (Instr.spareCalDataAccess (some v)).leads s (fun t =>
        t.rbit (pg 0x17 0x0C) 10 = true ∧ steps t ∧ b.onlyRaised t [0x17] at_))
    ∧ (∀ w : Option Word, w = none ∨ (s.block.calBusy a.1 = false ∧ a.2.2 = 7) → (Instr.spareCalDataAccess w).leads s (fun t =>
        t.spare = s.block.spare ∧ t.rings = s.block.rings ∧ steps t))
    ∧ (∀ v : Word, (Instr.calBankSelect v).leads s (fun t => t.fld (pg 0x17 0x6C) 0 0 = v.bits 0 0
        ∧ t.rbit (pg 0x17 0x6C) 2 = decide (v.bits 0 0 ≠ s.block.calActive) ∧ t.calActive = s.block.calActive ∧ b.onlyRegs t [pg 0x17 0x6C]))
    ∧ (∀ m k, m ≤ 16 → k = m ∨ k = 31 → (Instr.anchor k).leads s (fun t => saves t
        ∧ ∀ g < 6, t.anchor m g = (match s.block.refResult m g with
          | some r => some ⟨r.g, r.z, r.set⟩
          | none => s.block.anchor m g)))
    ∧ (∀ k, 16 < k → k < 31 → (Instr.anchor k).leads s (fun t => t.rbit (pg 0x17 0x0C) 6 = true ∧ b.onlyRaised t [0x17] []))
    ∧ Instr.calsave.leads s (fun t => saves t ∧ t.spare = s.block.spare ∧ ({ b with recs := t.recs }).onlyRegs t [pg 0x39 0x44])

/-- A spare step: sources switch in turn at pick 0, the overlap starts with SP or the freed modulator, the match is computed or the step fails (R141, R142, R143, R144, R145, R147, R148, R149). -/
def Obligations.SpareStepEvents : Prop :=
  ∀ s : State, s.block.unitsUp = true →
    let sp := s.block.spare
    let cal := (sp.state = 1 ∨ sp.state = 3) ∧ sp.ended = false
    let fails (c : Instr) (res : Nat) : Prop := c.leads s (fun t => t.fld (pg 0x17 0x50) 3 0 = res ∧ t.fld (pg 0x17 0x50) 11 8 = sp.ch % 16
        ∧ t.rbit (pg 0x17 0x0C) 2 = true ∧ (sp.state ≤ 2 → t.spare.state = sp.state ∧ t.spare.ended = true)
        ∧ (2 < sp.state → t.spare.state = 5 ∧ t.spare.rotActive = false ∧ t.rbit (pg 0x17 0x0C) 5 = true))
    (cal → 8 ≤ sp.calKept → sp.calDone = false → s.block.time.pick = 0 →
      let mean : Rat := (sp.calSum : Rat) / (max 1 sp.calCnt : Nat)
      let next : Spare := { sp with
        calCycles := 0, calKept := 0, calSum := 0, calCnt := 0, cycSum := 0, cycCnt := 0, cycBad := false, calAgain := false
        calDone := false, calSrc := sp.calSrc + 1 }
      (sp.calSrc = 0 → exec .spCalSourceSwitch s = .next { s with block := { s.block with spare := { next with calZ := mean } } })
      ∧ (sp.calSrc = 1 → exec .spCalSourceSwitch s = .next { s with block := { s.block with spare := { next with calP := mean } } })
      ∧ (1 < sp.calSrc → Instr.spCalSourceSwitch.leads s (fun t => t.spare.calDone = true ∧ t.spare.state = sp.state
          ∧ t.refResult s.block.calMod s.block.stepGain = some ⟨(sp.calP - mean) / (2 * 134217728 / 10), sp.calZ,
              (sp.calP + mean) / 2 - sp.calZ, s.block.strobeStamp, s.block.matchSet s.block.calMod⟩)))
    ∧ (cal → sp.calDone = true → s.block.time.pick = 0 → Instr.overlapStart.leads s (fun t =>
        t.spare.state = sp.state + 1 ∧ t.spare.prelim = s.block.prelimMatch ∧ t.spare.winCyc = [] ∧ t.spare.winElapsed = 0
          ∧ t.spare.winFrom = s.block.time.cycle + 1 ∧ t.spare.computed = none ∧ t.fld (pg 0x17 0x4C) 2 0 = sp.state + 1
          ∧ ∀ d, s.block.mods[if sp.state = 1 then 16 else sp.ch]? = some d →
              ∃ e, t.mods[if sp.state = 1 then 16 else sp.ch]? = some e ∧ e.onSource = false))
    ∧ ((sp.state = 2 ∨ sp.state = 4) → sp.ended = false → sp.computed = none → s.block.windowDone = true →
      let useRef := s.block.matchMode = 2 ∨ (s.block.matchMode = 1 ∧ sp.winLow16 = true)
      let missing := s.block.matchMode ≠ 0
        ∧ (s.block.refResult 16 s.block.stepGain = none ∨ s.block.refResult sp.ch s.block.stepGain = none)
      let r := sp.ratio
      let arg := roundNear (argTurn r.1 r.2 * 4194304)
      let limit := f32 (s.block.getR (pg 0x17 0x58)) < ratAbs (cAbs r - 1) ∨ 4096 < arg.natAbs
      let stepMax : Rat := (s.block.fld (pg 0x17 0x5C) 15 0 : Nat) / 1000000
      let far := stepMax * stepMax < cNorm (cSub r (1, 0))
      let correct := sp.state = 4 ∧ s.block.rbit (pg 0x17 0x44) 4 = true ∧ s.block.refBased sp.ch ≠ none
      let gain : Rat := ((nth Correction.one sp.corr s.block.incoming).gain : Rat) / (2 ^ 30 : Nat)
      let signal : Match := ⟨sp.prelim.mg * cAbs r, sp.prelim.mp + arg, sp.prelim.mo + sp.offset / gain⟩
      ∀ rMag rArg rDist dRep devRep : Rat,
      let compute : Instr := .matchCompute rMag rArg rDist dRep devRep
      let gives (k : Match) (ref : Bool) (res : Nat) : Prop := exec compute s = .next { s with block := { s.block.arrive with
        spare := { sp with computed := some k, compCycle := s.block.time.cycle, refUsed := ref, resultAtEnd := res } } }
      (missing → fails compute 8)
      ∧ (¬ missing → useRef → correct → sp.winCyc ≠ [] → far → gives signal false 7)
      ∧ (¬ missing → useRef → ¬ (correct ∧ sp.winCyc ≠ [] ∧ far) → gives sp.prelim true 0)
      ∧ (¬ missing → ¬ useRef → sp.noisy = true → fails compute 2)
      ∧ (¬ missing → ¬ useRef → sp.noisy = false → limit → fails compute 3)
      ∧ (¬ missing → ¬ useRef → sp.noisy = false → ¬ limit →
          (¬ correct → gives signal false 0) ∧ (correct → far → gives signal false 7) ∧ (correct → ¬ far → gives sp.prelim false 0)))
    ∧ ((sp.state = 1 ∨ sp.state = 3) → sp.calDone = false → sp.ended = false → 64 ≤ sp.calCycles → sp.calKept < 8 → fails .refCalTimeout 4)
    ∧ ((sp.state = 2 ∨ sp.state = 4) → sp.ended = false → sp.computed = none → 256 ≤ sp.winElapsed → s.block.windowDone = false →
        fails .windowTimeout (if sp.winLow then 1 else 4))

/-- Handover gives SP the slot, handback returns it with the step result; the rotation's next step begins at pick 0; MEAS ends with its results (R140, R141, R146, R147, R150, R157). -/
def Obligations.SpareHandover : Prop :=
  ∀ s : State, s.block.unitsUp = true →
    let sp := s.block.spare
    (∀ k, sp.computed = some k → sp.compCycle < s.block.time.cycle → sp.state = 2 → sp.ended = false → s.block.time.pick = 0 → sp.ch < 16 →
        Instr.handover.leads s (fun t =>
        t.spare.served = some sp.ch ∧ t.spare.sets = setNth sp.sets 16 k ∧ t.spare.state = (if sp.kind = .subst then 5 else 3)
          ∧ t.spare.computed = none ∧ t.fld (pg 0x17 0x50) 3 0 = 0 ∧ t.fld (pg 0x17 0x50) 6 4 = 2
          ∧ (∀ d, s.block.mods[sp.ch]? = some d → ∃ e, t.mods[sp.ch]? = some e ∧ e.onSource = true)
          ∧ t.rbit (pg 0x17 0x0C) 1 = true ∧ ∃ c, c ∈ t.recs.queue ∧ c.id = 0x30))
    ∧ (∀ k, sp.computed = some k → sp.compCycle < s.block.time.cycle → sp.state = 4 → s.block.time.pick = 0 → sp.ch < 16 →
        Instr.handback.leads s (fun t =>
        t.spare.served = none ∧ t.spare.sets = setNth sp.sets sp.ch k ∧ t.spare.state = 0
          ∧ (∀ d, s.block.mods[16]? = some d → ∃ e, t.mods[16]? = some e ∧ e.powered = false ∧ e.onSource = false)
          ∧ t.getR (pg 0x17 0x50) = BitVec.ofNat 32 (sp.ch * 256 + b2n sp.refUsed * 128 + 4 * 16 + sp.resultAtEnd)
          ∧ t.rbit (pg 0x17 0x0C) 1 = true ∧ t.fld (pg 0x17 0xCC) 15 0 = min 65535 (s.block.fld (pg 0x17 0xCC) 15 0 + 1)))
    ∧ (∀ n rest, sp.rotActive = true → sp.state = 0 → sp.rotWait = some 0 → s.block.time.pick = 0 → s.block.spReady = true →
        sp.rotLeft = n :: rest → s.block.rbit (pg (chPage n) 0x04) 0 = true → Instr.rotationNextStep.leads s (fun t =>
          t.spare.state = 1 ∧ t.spare.ch = n ∧ t.spare.kind = .step ∧ t.spare.rotLeft = rest ∧ t.spare.rotWait = none
            ∧ ∀ d, s.block.mods[16]? = some d → ∃ e, t.mods[16]? = some e ∧ e.powered = true ∧ e.onSource = true))
    ∧ (s.block.rbit (pg 0x17 0x4C) 14 = true →
        s.block.fld (pg 0x17 0xA4) 15 0 ≤ sp.measGood ∨ 4 * s.block.fld (pg 0x17 0xA4) 15 0 ≤ sp.measElapsed →
        let n : Rat := (1024 * max 1 sp.measGood : Nat)
        ∀ re im : Rat, (Instr.measComplete re im).leads s (fun t => t.rbit (pg 0x17 0x4C) 14 = false
          ∧ t.getR (pg 0x17 0xA8) = f32of ((sp.measSum : Rat) / n)
          ∧ t.getR (pg 0x17 0xAC) = f32of (sqrtRat 2 * sp.measPh.1 / n) ∧ t.getR (pg 0x17 0xB0) = f32of (sqrtRat 2 * sp.measPh.2 / n)
          ∧ t.getR (pg 0x17 0xB4) = f32of (sqrtRat ((sp.measSq : Rat) / n)) ∧ t.get64 (pg 0x17 0xB8) = sp.measEnd % 2 ^ 64
          ∧ t.fld (pg 0x17 0xA4) 31 16 = sp.measGood % 65536
          ∧ t.fld (pg 0x17 0x50) 3 0 = (if s.block.fld (pg 0x17 0xA4) 15 0 ≤ sp.measGood then 0 else 4)
          ∧ t.rbit (pg 0x17 0x0C) 1 = true ∧ t.spare = sp
          ∧ s.block.onlyRaised t [0x17] ((List.range 6).map (fun i => pg 0x17 (0xA4 + 4 * i)) ++ [pg 0x17 0xBC, pg 0x17 0x50, pg 0x17 0x4C])))

/-- Image loads: OPEN empties the idle bank, IMG_DATA gathers words, CHECK and ABANDON close the load, ACTIVATE makes a valid bank active (R177, R178, R179, R187, R188, R191). -/
def Obligations.EngineImageCommands : Prop :=
  ∀ (s : State) (e bank : Nat), s.block.hostReady = true → e < 16 → bank < 2 →
    let b := s.block.arrive.nextFrame
    let free := s.block.engBusyCmd = false
    let bankIs (t : Block) (k j : Nat) (i : Option Image) : Prop := ∀ g, s.block.engines[k]? = some g →
      ∃ h, t.engines[k]? = some h ∧ (if j = 0 then h.bankA else h.bankB) = i
    let shows (t : Block) (res cmd k : Nat) : Prop := t.fld (pg 0x1C 0x44) 31 28 = res ∧ t.fld (pg 0x1C 0x44) 27 24 = cmd
      ∧ t.fld (pg 0x1C 0x44) 23 20 = k % 16
    (free → s.block.eng.load = none → s.block.fld (pg (mePage e) 0x40) 4 4 ≠ bank → (Instr.engOpen e bank).leads s (fun t =>
        t.eng = { s.block.eng with load := some ⟨e, bank, 0, []⟩ } ∧ bankIs t e bank none ∧ shows t 0 1 e
          ∧ t.fld (pg 0x1C 0x4C) 31 28 = 1 ∧ t.fld (pg 0x1C 0x4C) 15 0 = 0 ∧ t.rbit (pg 0x1C 0x44) 18 = true))
    ∧ (∀ (v : Word) l, s.block.eng.load = some l → (Instr.imgDataWrite v).leads s (fun t =>
        t.eng = { s.block.eng with load := some { l with words := l.words + 1, bytes := v.toBytes.reverse ++ l.bytes } }
          ∧ t.fld (pg 0x1C 0x4C) 15 0 = min 0xFFFF (l.words + 1) ∧ ({ b with eng := t.eng }).onlyRegs t [pg 0x1C 0x4C]))
    ∧ (∀ v : Word, s.block.eng.load = none → exec (.imgDataWrite v) s = .next { s with block := b })
    ∧ (∀ l, free → s.block.eng.load = some l → Instr.engCheck.leads s (fun t =>
        let r := s.block.checkImage l.bytes.reverse l.words
        t.eng = { s.block.eng with load := none } ∧ shows t 0 2 0 ∧ t.fld (pg 0x1C 0x4C) 31 28 = r.2
          ∧ bankIs t l.eng l.bank (if r.2 = 3 then some r.1 else none) ∧ (r.2 ≠ 3 → t.rbit (pg 0x1C 0x0C) 3 = true)))
    ∧ (∀ l, s.block.eng.load = some l → Instr.engAbandon.leads s (fun t =>
        t.eng = { s.block.eng with load := none } ∧ t.engines = s.block.engines ∧ shows t 0 3 0 ∧ t.fld (pg 0x1C 0x4C) 31 28 = 8))
    ∧ (∀ i, s.block.bankImage e bank = some i → ∀ base, b.regionFor e i.workLen = some base → free → s.block.idleForActivate e = true →
        (s.block.eng.load.map (fun l => (l.eng, l.bank))) ≠ some (e, bank) →
        i.rom = true ∨ s.block.eng.store.contains i.digest = true
          ∨ ((b.modEngine e (fun g => { g with named := i.record })).freePosition s.block.mcPositions).isSome = true →
        (Instr.engActivate e bank).leads s (fun t => t.fld (pg (mePage e) 0x40) 4 4 = bank ∧ shows t 0 4 e
          ∧ t.getN (pg (mePage e) 0x8C) = base % 2 ^ 32 ∧ t.getN (pg (mePage e) 0x90) = i.workLen % 2 ^ 32
          ∧ t.rbit (pg 0x1C 0x0C) 1 = true ∧ ∃ c ∈ t.recs.queue, c.id = 0x10 + e ∧ c.payloads = [i.record]))
    ∧ (s.block.engBusyCmd = true → ∀ c : Instr, c = .engOpen e bank ∨ c = .engCheck ∨ c = .engActivate e bank ∨ (∃ f, c = .takeover e f)
        ∨ (∃ f, c = .giveback e f) ∨ c = .engBist e → c.leads s (fun t => t.rbit (pg 0x1C 0x0C) 2 = true
          ∧ t.fld (pg 0x1C 0x44) 31 28 = 1 ∧ b.onlyRaised t [0x1C] [pg 0x1C 0x44]))

/-- TAKEOVER hands a schedule to ME15 at a quiet pick, GIVEBACK returns it, no quiet pick ends it; an engine BIST starts on its grant and reports (R180, R181, R182, R183, R558, R559). -/
def Obligations.EngineReserve : Prop :=
  ∀ s : State,
    let b := s.block.arrive.nextFrame
    let result (t : Block) (res cmd k : Nat) : Prop := t.fld (pg 0x1C 0x44) 31 28 = res ∧ t.fld (pg 0x1C 0x44) 27 24 = cmd
      ∧ t.fld (pg 0x1C 0x44) 23 20 = k % 16
    let may (e : Nat) : Prop := s.block.hostReady = true ∧ s.block.engBusyCmd = false ∧ e < 15
    let own (e : Nat) : Prop := s.block.meMode 15 = 0 ∧ s.block.meMode e = 0
    let fault (e : Nat) : Prop := s.block.pageState (mePage e) = psFault
    let serves (t : Block) (e k : Nat) : Prop := t.eng.served = some e ∧ t.eng.savedBank = s.block.fld (pg (mePage 15) 0x40) 4 4
      ∧ t.eng.transfer = none ∧ t.fld (pg (mePage 15) 0x40) 4 4 = k ∧ t.meMode 15 = 3 ∧ t.meMode e = 1
      ∧ t.pageState (mePage e) = psUpdating ∧ result t 0 5 e ∧ t.rbit (pg 0x1C 0x0C) 1 = true
    (∀ e f i k, may e → own e → ¬ fault e → s.block.activeImage e = some i → s.block.reserveBank i = some k →
        (Instr.takeover e f).leads s (fun t => t.eng = { s.block.eng with transfer := some ⟨e, f, s.block.absPick, false⟩ }
          ∧ result t 0 5 e ∧ t.rbit (pg 0x1C 0x44) 16 = true ∧ ({ b with eng := t.eng }).onlyRegs t [pg 0x1C 0x44]))
    ∧ (∀ e i k, may e → own e → fault e → s.block.activeImage e = some i → s.block.reserveBank i = some k →
        (Instr.takeover e true).leads s (fun t => serves t e k))
    ∧ (∀ e, may e → own e → fault e → (Instr.takeover e false).leads s (fun t =>
        result t 1 5 e ∧ t.rbit (pg 0x1C 0x0C) 2 = true ∧ b.onlyRaised t [0x1C] [pg 0x1C 0x44]))
    ∧ (∀ e f i, may e → own e → ¬ fault e ∨ f = true → s.block.activeImage e = some i → s.block.reserveBank i = none →
        (Instr.takeover e f).leads s (fun t => result t 3 5 e ∧ t.rbit (pg 0x1C 0x0C) 2 = true ∧ b.onlyRaised t [0x1C] [pg 0x1C 0x44]))
    ∧ (∀ e f p i k, s.block.unitsUp = true → s.block.eng.transfer = some ⟨e, f, p, false⟩ → e < 15 → p + 64 ≤ s.block.absPick →
        s.block.absPick ≤ p + 4096 → s.block.quiet e = true → s.block.activeImage e = some i → s.block.reserveBank i = some k →
        Instr.takeoverQuietPick.leads s (fun t => serves t e k))
    ∧ (∀ e f p, s.block.unitsUp = true → s.block.eng.transfer = some ⟨e, f, p, false⟩ → p + 4096 < s.block.absPick →
        Instr.noQuiet.leads s (fun t => t.eng = { s.block.eng with transfer := none } ∧ result t 2 5 e
          ∧ ({ s.block with eng := t.eng }).onlyRegs t [pg 0x1C 0x44]))
    ∧ (∀ e f i j, may e → s.block.eng.served = some e → s.block.activeImage e = some i → s.block.activeImage 15 = some j →
        i.prog0 = j.prog0 → i.prog1 = j.prog1 → (Instr.giveback e f).leads s (fun t =>
          t.eng = { s.block.eng with transfer := some ⟨e, f || i.stateFmt ≠ j.stateFmt, s.block.absPick, true⟩ } ∧ result t 0 6 e
            ∧ ({ b with eng := t.eng }).onlyRegs t [pg 0x1C 0x44]))
    ∧ (∀ e f p, s.block.unitsUp = true → s.block.eng.transfer = some ⟨e, f, p, true⟩ → e < 15 → p + 64 ≤ s.block.absPick →
        s.block.quiet e = true → Instr.givebackQuietPick.leads s (fun t =>
          t.eng.served = none ∧ t.eng.transfer = none ∧ t.fld (pg (mePage 15) 0x40) 4 4 = s.block.eng.savedBank % 2
            ∧ t.meMode 15 = 0 ∧ t.meMode e = 0
            ∧ t.pageState (mePage e) = (if s.block.pageState (mePage e) ≠ psUpdating then s.block.pageState (mePage e)
                else if s.block.rbit (pg (mePage e) 0x04) 0 = true then psRun else psOff)
            ∧ result t 0 6 e ∧ t.rbit (pg 0x1C 0x0C) 1 = true))
    ∧ (∀ e r, may e → s.block.meMode e = 1 ∨ fault e ∨ (s.block.meMode e = 0 ∧ s.block.hasTask e = false) →
        (b.arbAsk 0x1C 3 10).arbFind 0x1C = some r → r.outcome ≠ 3 → (Instr.engBist e).leads s (fun t =>
          t.eng.bist = some e ∧ result t 0 7 e ∧ t.rbit (pg 0x1C 0x44) 16 = true))
    ∧ (∀ e sig memFail badA badB, s.block.unitsUp = true → s.block.eng.bist = some e → e < 15 → s.block.granted 0x1C = true →
        (Instr.bistComplete sig memFail badA badB).leads s (fun t =>
          let parts := b2n (sig != s.block.fuse 32) + 2 * b2n memFail + 4 * b2n (badA || badB)
          t.eng.bist = none ∧ t.fld (pg (mePage e) 0x80) 31 31 = 1 ∧ t.fld (pg (mePage e) 0x80) 2 0 = parts
            ∧ t.rbit (pg (mePage e) 0x80) 30 = decide (parts = 0) ∧ t.getR (pg 0x3F 0x4C) = sig
            ∧ t.getR (pg 0x3F 0x50) = s.block.fuse 32 ∧ (badA = true → t.bankImage e 0 = none) ∧ (badB = true → t.bankImage e 1 = none)
            ∧ result t (if parts = 0 then 0 else 4) 7 e ∧ t.rbit (pg 0x1C 0x0C) 1 = true))

/-- Invocations: ready when their words are there, done with their program's work, late ones with an overrun, missed ones counted and reported (R165, R166, R167, R185, R195). -/
def Obligations.EngineInvocations : Prop :=
  ∀ (s : State) (e : Nat), e < 16 →
    let busy := s.block.arrive.engBusy e s.block.arrive.time.clk
    let ends (t : Block) : Block :=
      let u := (t.engChoose e).recalMissed
      if u.pageState (mePage e) = psDraining && (u.engine e).queue.isEmpty then u.engOff e else u
    let halts (v : Invocation) (ok : Bool) (t : Block) : Block := if v.prog = 10 && !ok then t.engHalt (t.runnerOf e) 6 else t
    (s.block.hostReady = true → exec (.loadClrWrite e) s = .next { s with block := { s.block.arrive.nextFrame with
      engines := modNth s.block.engines e (fun g => { g with loadClr := true }) } })
    ∧ (s.block.powered = true →
      (Instr.invocationReady e).leads s (fun t => ∀ g, s.block.engines[e]? = some g → ∃ h, t.engines[e]? = some h
        ∧ h.queue.map (fun w => (w.task, w.dueAbs, w.late, w.waiting))
          = g.queue.map (fun v => (v.task, v.dueAbs, v.late, v.waiting && !s.block.wordsHave e v.needAbs)))
      ∧ (∀ v ok, s.block.running e = some v → v.late = true → (Instr.invocationComplete e ok).leads s (fun t =>
          (v.prog ≠ 10 ∨ ok = true → t.fld (pg (mePage e) 0x58) 31 20 = min 4094 (s.block.absPick - v.dueAbs))
            ∧ t = ends (halts v ok ((busy.lateDone e v).dropInv e v))))
      ∧ (∀ v ok, s.block.running e = some v → v.late = false → v.inj = false →
          exec (.invocationComplete e ok) s = .next { s with block := ends (halts v ok ((busy.runTask e v).dropInv e v)) })
      ∧ (∀ v ok, s.block.running e = some v → v.late = false → v.inj = true →
          let u : Block := { ((busy.missNote e v 0 0).runTask e v) with posts := s.block.posts }
          exec (.invocationComplete e ok) s = .next { s with block := ends (halts v ok (u.dropInv e v)) })
      ∧ (∀ v, (s.block.engine e).queue.find? (fun v => !v.late && decide (v.dueAbs ≤ s.block.absPick)) = some v →
          (Instr.deadlineMiss e).leads s (fun t => t.fld (pg (mePage e) 0x54) 31 0 = min (2 ^ 32 - 1) (s.block.fld (pg (mePage e) 0x54) 31 0 + 1)
            ∧ t.getR (pg (mePage e) 0x58) = BitVec.ofNat 32 (v.task * 256)
            ∧ (∀ g, s.block.engines[e]? = some g → ∃ h, t.engines[e]? = some h
                ∧ h.queue.map (fun w => (w.task, w.dueAbs, w.late)) = g.queue.map (fun x => (x.task, x.dueAbs, x.late || x == v)))
            ∧ t.get64 (pg (mePage e) 0x5C) = v.missStamp % 2 ^ 64 ∧ t.rbit (pg (mePage e) 0x0C) 1 = true)))

/-- An uncorrectable error is counted, kept and reported, and its reader acts; a post joins the set of its latch or is refused as late (R319, R325, R347, R555, R556). -/
def Obligations.EccAndPosts : Prop :=
  ∀ s : State, s.block.powered = true →
    (∀ n addr, exec (.eccUncorrectable (.ringUnit n) addr) s = .next { s with block := (s.block.arrive.eccUnc 0 addr).ringEcc n })
    ∧ (∀ reader addr, (∀ n, reader ≠ .ringUnit n) → (Instr.eccUncorrectable reader addr).leads s (fun t =>
        t.fld (pg 0 0x74) 15 0 = min 65535 (s.block.fld (pg 0 0x74) 15 0 + 1) ∧ t.rbit (pg 0 0x50) 1 = true ∧ t.rbit (pg 0 0x0C) 1 = true
          ∧ t.fld (pg 0 0x78) 23 0 = addr % 2 ^ 24
          ∧ (∀ e shared, reader = .engine e shared → e < 16 → t.pageState (mePage e) = psFault ∧ t.rbit (pg (mePage e) 0x0C) 7 = true)
          ∧ (∀ k l r rest, reader = .logStore k → s.block.stor.streams[k]? = some l → l.staged = r :: rest →
              ∃ l', t.stor.streams[k]? = some l' ∧ l'.staged = rest ∧ l'.lost = min 0xFFFFFFFF (l.lost + 1))
          ∧ (∀ mem, reader = .other mem → t.fld (pg 0 0x78) 31 28 = mem % 16 ∧ s.block.arrive.onlyRaised t [0] [pg 0 0x74, pg 0 0x78, pg 0 0x50])))
    ∧ (s.block.posts = [] → exec .ledgerPost s = .next { s with block := s.block.arrive })
    ∧ (∀ p rest, s.block.posts = p :: rest → Instr.ledgerPost.leads s (fun t =>
        let l := s.block.led
        t.posts = rest
          ∧ (p.gen ≠ s.block.gen (mePage p.eng) → t.led = l
              ∧ t.fld (pg (mePage p.eng) 0x6C) 15 0 = min 65535 (s.block.fld (pg (mePage p.eng) 0x6C) 15 0 + 1))
          ∧ (p.gen = s.block.gen (mePage p.eng) →
            (l.closed = none → l.lastClose < p.stamp → t.led = { l with sets := l.sets.add p })
            ∧ (∀ c, l.closed = some c → c.close < p.stamp → c.set.opened < p.stamp → t.led = { l with sets := l.sets.add p })
            ∧ (∀ c, l.closed = some c → c.set.opened < p.stamp → p.stamp ≤ c.close →
                t.led = { l with closed := some { c with set := c.set.add p } })
            ∧ ((l.closed = none ∧ p.stamp ≤ l.lastClose) ∨ (∃ c, l.closed = some c ∧ p.stamp ≤ c.set.opened) →
                t.led = { l with lateKeys := p.key :: l.lateKeys } ∧ t.rbit (pg 0x2F 0x0C) 1 = true
                  ∧ t.fld (pg 0x2F 0xEC) 15 0 = min 65535 (s.block.fld (pg 0x2F 0xEC) 15 0 + 1)))))

/-- Captures: a trigger takes the armed slot, is counted by the filling one or lost; RELEASE frees; CAP_DONE holds the slot; a copy frees under AUTOREL (R242, R243, R245, R249, R257). -/
def Obligations.CaptureRows : Prop :=
  ∀ s : State,
    let b := s.block.arrive.nextFrame
    let cap := s.block.pq.cap
    let frees (t : Block) (k : Nat) : Prop := ∀ h, h ∈ t.pq.held ↔ h ∈ s.block.pq.held ∧ h.1 ≠ k
    (s.block.hostReady = true → s.block.pqOn = true →
      (∀ a, cap = none → s.block.pq.armed = some a → Instr.capTrigger.leads s (fun t => ∃ c, t.pq.cap = some c ∧ c.slot = a.1 ∧ c.code = 7
          ∧ c.id = s.block.pq.capId + 1 ∧ c.stamp = b.stampNow ∧ c.started = false ∧ c.extra = 0 ∧ t.pq.held = s.block.pq.held))
      ∧ (∀ c, cap = some c → exec .capTrigger s = .next { s with block := { b with
          pq := { s.block.pq with cap := some { c with extra := satAdd 255 c.extra 1 } } } })
      ∧ (cap = none → s.block.pq.armed = none → s.block.freeSlots = [] → Instr.capTrigger.leads s (fun t =>
          t.fld (pg 0x33 0x74) 15 0 = min 65535 (s.block.fld (pg 0x33 0x74) 15 0 + 1) ∧ t.rbit (pg 0x33 0x0C) 5 = true
            ∧ b.onlyRaised t [0x33] [pg 0x33 0x74])))
    ∧ (∀ k, s.block.hostReady = true → k < 4 →
      (k < slotsOf (s.block.getR (pg 0x33 0x5C)) → cap.map (·.slot) ≠ some k → (Instr.capRelease k).leads s (fun t =>
          frees t k ∧ t.pq.cap = cap))
      ∧ (slotsOf (s.block.getR (pg 0x33 0x5C)) ≤ k ∨ cap.map (·.slot) = some k → (Instr.capRelease k).leads s (fun t =>
          t.rbit (pg 0x33 0x0C) 6 = true ∧ b.onlyRaised t [0x33] [])))
    ∧ (∀ c, s.block.pwr.st = .run → cap = some c → c.complete = true → c.started = true → Instr.capDone.leads s (fun t =>
        t.pq.cap = none
          ∧ t.pq.held = s.block.pq.held ++ [(c.slot, min c.len (slotSize (s.block.getR (pg 0x33 0x5C)) (s.block.getR (pg 0x33 0x68))))]
          ∧ t.fld (pg 0x33 0x78) 31 0 = min (2 ^ 32 - 1) (s.block.fld (pg 0x33 0x78) 31 0 + 1) ∧ t.rbit (pg 0x33 0x0C) 4 = true))
    ∧ (∀ k rest, s.block.unitsUp = true → s.block.pq.copied = k :: rest → Instr.captureCopyDone.leads s (fun t => t.pq.copied = rest
        ∧ (s.block.rbit (pg 0x33 0x5C) 2 = true → frees t k) ∧ (s.block.rbit (pg 0x33 0x5C) 2 = false → t.pq.held = s.block.pq.held)))

/-- AUX_CMD: CAL runs or waits, START begins a sequence, STOP makes a continuous one the last, URGENT goes first; anything else is rejected (R264, R267, R268, R271, R276). -/
def Obligations.AuxCommands : Prop :=
  ∀ s : State, s.block.hostReady = true →
    let b := s.block.arrive.nextFrame
    let a := s.block.aux
    let up := s.block.auxUp = true
    let stat := [pg 0x1A 0x4C]
    let rejected (c : Instr) : Prop := c.leads s (fun t => t.rbit (pg 0x1A 0x0C) 2 = true ∧ b.onlyRaised t [0x1A] [])
    let trig := s.block.fld (pg 0x1A 0x44) 1 0
    let fits (v : Word) : Prop := a.urg = none ∧ up ∧ auxSrcOk (v.bits 11 8) (v.bits 16 16) = true ∧ 9 ≤ v.bits 31 24 ∧ v.bits 22 20 ≤ 4
    (up → a.calRuns = false → a.calWaits = false →
      (a.seq = none → a.urg = none → Instr.auxCal.leads s (fun t => t.aux = { a with calRuns := true } ∧ t.rbit (pg 0x1A 0x4C) 4 = true
        ∧ ({ b with aux := t.aux }).onlyRegs t stat))
      ∧ (a.seq ≠ none ∨ a.urg ≠ none → Instr.auxCal.leads s (fun t => t.aux = { a with calWaits := true } ∧ t.rbit (pg 0x1A 0x4C) 4 = true
        ∧ ({ b with aux := t.aux }).onlyRegs t stat)))
    ∧ (¬ (up ∧ a.calRuns = false ∧ a.calWaits = false) → rejected .auxCal)
    ∧ (up → trig = 2 ∨ trig = 3 → a.seq = none →
      (a.calRuns = true → exec .auxStart s = .next { s with block := { b with aux := { a with trigWaits := true } } })
      ∧ (a.calRuns = false → Instr.auxStart.leads s (fun t => ∃ q, t.aux = { a with seq := some q, trigWaits := false } ∧ q.cur = 0
          ∧ q.last = s.block.fld (pg 0x1A 0x44) 7 4 ∧ q.continuous = decide (trig = 3)
          ∧ q.entries = (List.range 16).map (fun i => s.block.getR (pg 0x1A (0x80 + 4 * i)))
          ∧ t.rbit (pg 0x1A 0x4C) 2 = true ∧ ({ b with aux := t.aux }).onlyRegs t stat)))
    ∧ (¬ (up ∧ (trig = 2 ∨ trig = 3) ∧ a.seq = none) → rejected .auxStart)
    ∧ (∀ q, a.seq = some q → q.continuous = true → exec .auxStop s = .next { s with block := { b with
        aux := { a with seq := some { q with continuous := false } } } })
    ∧ ((∀ q, a.seq = some q → q.continuous = false) → rejected .auxStop)
    ∧ (∀ v : Word, fits v → (Instr.urgent v).leads s (fun t =>
        (∃ st, t.aux.urg = some (v.withBits 3 0 2, st, !a.calRuns)) ∧ t.rbit (pg 0x1A 0x4C) 3 = true
          ∧ (∀ q, a.seq = some q → q.cur ≤ q.last → t.aux.seq = some { q with preempted := true }
              ∧ t.fld (pg 0x1A 0x74) 15 0 = min 65535 (s.block.fld (pg 0x1A 0x74) 15 0 + 1))
          ∧ (a.seq = none → t.aux.seq = none ∧ ({ b with aux := t.aux }).onlyRegs t stat)))
    ∧ (∀ v : Word, ¬ fits v → rejected (.urgent v))

/-- Aux results: an entry's result is formed, a sequence's end publishes and delivers them, an urgent result is written, a calibration gives factors (R138, R260, R263, R265, R267, R268). -/
def Obligations.AuxResults : Prop :=
  ∀ s : State, s.block.unitsUp = true →
    let a := s.block.aux
    (∀ q sum, a.seq = some q → q.cur ≤ q.last → a.urg = none → (Instr.auxEntryComplete sum).leads s (fun t =>
      let e := nth 0 q.entries q.cur
      let r := s.block.auxValue sum (e.bits 22 20)
      let w := s.block.auxResult r.1 r.2 (s.block.dacOnInput (e.bits 3 0)) q.preempted (s.block.fld (pg 0x1A 0x4C) 31 24 + 1)
      t.aux = { a with seq := some { q with cur := q.cur + 1, preempted := false, results := setNth q.results q.cur w, clamped := q.clamped || r.2 } }
        ∧ ({ s.block.arrive with aux := t.aux }).onlyRegs t [pg 0x1A 0x4C]))
    ∧ (∀ q, a.seq = some q → q.last < q.cur → q.last < 16 → Instr.sequenceEnd.leads s (fun t =>
      (∀ i ≤ q.last, t.getR (pg 0x1A (0xC0 + 4 * i)) = nth 0 q.results i)
        ∧ (∀ i, q.last < i → i < 16 → t.getR (pg 0x1A (0xC0 + 4 * i)) = s.block.getR (pg 0x1A (0xC0 + 4 * i)))
        ∧ t.fld (pg 0x1A 0x4C) 31 24 = (s.block.fld (pg 0x1A 0x4C) 31 24 + 1) % 256 ∧ t.get64 (pg 0x1A 0x64) = q.stamp % 2 ^ 64
        ∧ (let die := (List.range (q.last + 1)).filter (fun i => (nth 0 q.entries i).bits 3 0 = 4 && (nth 0 q.results i).bit 15)
           t.spare.tempCnt = s.block.spare.tempCnt + die.length
            ∧ ∀ i, die.getLast? = some i → t.getR (pg 0x1A 0x6C) = f32of (Config.dieTemp ((nth 0 q.results i).bits 31 16)))
        ∧ ∀ e < 16, s.block.rbit (pg 0x1A 0x78) e = true → ∃ k, ∀ d, (Sparse.get d (s.block.runnerOf e) t.aux.blocks) = k
            ∧ k.no = (s.block.fld (pg 0x1A 0x4C) 31 24 + 1) % 256 ∧ k.stamp = q.stamp ∧ k.entries = q.entries))
    ∧ (∀ w st sum, a.urg = some (w, st, true) → (Instr.urgentComplete sum).leads s (fun t =>
      let r := s.block.auxValue sum (w.bits 22 20)
      t.aux.urg = none ∧ t.aux.urgCnt = a.urgCnt + 1 ∧ t.get64 (pg 0x1A 0x5C) = st % 2 ^ 64
        ∧ t.getR (pg 0x1A 0x58) = s.block.auxResult r.1 r.2 (s.block.dacOnInput (w.bits 11 8)) false (a.urgCnt + 1)))
    ∧ (∀ gain ofs, a.calRuns = true → a.calWaits = false → (Instr.calComplete gain ofs).leads s (fun t =>
      let ok := 15565 ≤ gain ∧ gain ≤ 17203 ∧ ofs.natAbs ≤ 1024
      t.aux.calRuns = false ∧ t.rbit (pg 0x1A 0x0C) 3 = true
        ∧ (ok → t.getN (pg 0x1A 0x50) = gain ∧ t.getN (pg 0x1A 0x54) = unsignedOf 16 ofs ∧ t.rbit (pg 0x1A 0x4C) 5 = true
            ∧ t.fld (pg 0x1A 0x4C) 7 6 = 1)
        ∧ (¬ ok → t.getR (pg 0x1A 0x50) = s.block.getR (pg 0x1A 0x50) ∧ t.getR (pg 0x1A 0x54) = s.block.getR (pg 0x1A 0x54)
            ∧ t.rbit (pg 0x1A 0x4C) 5 = s.block.rbit (pg 0x1A 0x4C) 5 ∧ t.fld (pg 0x1A 0x4C) 7 6 = 2)))

/-- Pulse inputs: an accepted edge counts forward or reverse, a level is accepted, 64 broken samples declare a wire break; host temperatures, season start (R285, R286, R287, R289, R294, R304). -/
def Obligations.PulseInputRows : Prop :=
  ∀ s : State,
    let st := pg 0x36 0x80
    (∀ i < 4, s.block.pulsesRun = true →
      let live := s.block.rbit (pinCfg i) 0 = true ∧ s.block.rbit st (8 + i) = false ∧ s.block.isPhaseB i = false
      let mode := s.block.fld (pinCfg i) 9 8
      let weight := s.block.getN (pg 0x36 (0x50 + 4 * i))
      let forward (t : Block) : Prop := t.getN (pg 0x36 (0x60 + 4 * i)) = (s.block.getN (pg 0x36 (0x60 + 4 * i)) + 1) % 2 ^ 32
        ∧ t.therm.fwd = modNth s.block.therm.fwd i (· + weight) ∧ t.therm.rev = s.block.therm.rev
        ∧ ({ s.block.arrive with therm := t.therm }).onlyRegs t [st, pg 0x36 (0x60 + 4 * i)]
      let back (t : Block) : Prop := t.getN (pg 0x36 (0x70 + 4 * i)) = (s.block.getN (pg 0x36 (0x70 + 4 * i)) + 1) % 2 ^ 32
        ∧ t.therm.rev = modNth s.block.therm.rev i (· + weight) ∧ t.therm.fwd = s.block.therm.fwd
        ∧ ({ s.block.arrive with therm := t.therm }).onlyRegs t [st, pg 0x36 (0x70 + 4 * i)]
      (∀ both, live → mode = 0 → (Instr.pulseEdge i both).leads s forward)
      ∧ (live → mode = 1 → s.block.rbit st (i + 1) = true → (Instr.pulseEdge i false).leads s forward)
      ∧ (live → mode = 1 → s.block.rbit st (i + 1) = false → (Instr.pulseEdge i false).leads s back)
      ∧ (live → mode = 1 → s.block.therm.quadEp = false → (Instr.pulseEdge i true).leads s (fun t => t.rbit (pg 0x36 0x0C) 4 = true
          ∧ t.therm = { s.block.therm with quadEp := true } ∧ ({ s.block.arrive with therm := t.therm }).onlyRaised t [0x36] [st]))
      ∧ (∀ high, (Instr.acceptedLevelChange i high).leads s (fun t => t.rbit st i = high ∧ s.block.arrive.onlyRegs t [st]))
      ∧ (s.block.fld (pinCfg i) 17 16 = 2 → s.block.rbit st (8 + i) = false → (Instr.wireBreak i).leads s (fun t =>
          t.rbit st (8 + i) = true ∧ t.rbit (pg 0x36 0x0C) 1 = true
            ∧ t.fld (pg 0x36 (0x84 + 4 * i)) 15 0 = min 65535 (s.block.fld (pg 0x36 (0x84 + 4 * i)) 15 0 + 1)
            ∧ s.block.arrive.onlyRaised t [0x36] [st, pg 0x36 (0x84 + 4 * i)]))
      ∧ (s.block.rbit st (8 + i) = true → (Instr.wireBreakEnd i).leads s (fun t =>
          t.rbit st (8 + i) = false ∧ s.block.arrive.onlyRaised t [0x36] [st])))
    ∧ (∀ k < 2,
      (∀ v : Word, s.block.hostReady = true → f32within (-60) 260 v.toNat = true → (Instr.hostTWrite k v).leads s (fun t =>
          t.getR (pg 0x34 (0x5C + 4 * k)) = v ∧ t.rbit (pg 0x34 0x64) k = false
            ∧ t.therm.hostAt = setNth s.block.therm.hostAt k (some s.block.arrive.monoNow)
            ∧ ({ s.block.arrive.nextFrame with therm := t.therm }).onlyRegs t [pg 0x34 (0x5C + 4 * k), pg 0x34 0x64]))
      ∧ (∀ v : Word, s.block.hostReady = true → f32within (-60) 260 v.toNat = false → (Instr.hostTWrite k v).leads s (fun t =>
          t.rbit (pg 0x34 0x0C) 3 = true ∧ s.block.arrive.nextFrame.onlyRaised t [0x34] []))
      ∧ (∀ at_, s.block.powered = true → s.block.therm.hostAt[k]? = some (some at_) → nth false s.block.therm.hostStaleEp k = false →
          at_ + s.block.fld (pg 0x34 0x48) 23 16 * sysHz ≤ s.block.time.mono + s.block.time.pickLen → (Instr.hostTStale k).leads s (fun t =>
            t.rbit (pg 0x34 0x64) k = true ∧ t.rbit (pg 0x34 0x0C) 2 = true
              ∧ t.therm = { s.block.therm with hostStaleEp := setNth s.block.therm.hostStaleEp k true }
              ∧ ({ s.block with therm := t.therm }).onlyRaised t [0x34] [pg 0x34 0x64])))
    ∧ (s.block.hostReady = true → exec .seasonStart s = .next { s with block := { s.block.arrive.nextFrame with
        therm := { s.block.therm with seasonWait := true } } })

/-- A pulse output emits at the permitted instant from its backlog or its schedule, an edge before its time joins the backlog; a pulse ends at its width (R365, R366, R367). -/
def Obligations.PulseOutputRows : Prop :=
  ∀ (s : State) (k : Nat) (p : PulseOut), s.block.unitsUp = true → k < 4 → s.block.pout[k]? = some p →
    let free := match p.lastEdge with
      | some t => t + max (s.block.pulseSpace k) ((p.pulseEnd.map (· - t)).getD 0)
      | none => 0
    let stop := s.block.time.mono + s.block.time.pickLen
    let emits (t : Block) : Prop := t.getN (pg 0x35 (0x74 + 4 * k)) = (s.block.getN (pg 0x35 (0x74 + 4 * k)) + 1) % 2 ^ 32
    let queued (t : Block) (n : Nat) : Prop := ∃ q, t.pout[k]? = some q ∧ q.backlog = n
    (p.running = true → 0 < p.backlog → free < stop → (∀ r ∈ p.runs.head?, free ≤ s.block.edge r) → (Instr.poutEdge k).leads s (fun t =>
        emits t ∧ queued t (p.backlog - 1)))
    ∧ (∀ r rest, p.running = true → p.backlog = 0 → p.runs = r :: rest → s.block.edge r < stop → free ≤ s.block.edge r →
        (Instr.poutEdge k).leads s (fun t => emits t ∧ queued t 0))
    ∧ (∀ r rest, p.running = true → p.runs = r :: rest → s.block.edge r < stop → s.block.edge r < free → (Instr.poutEdge k).leads s (fun t =>
        queued t (min 0xFFFFFFFF (p.backlog + 1)) ∧ t.getR (pg 0x35 (0x74 + 4 * k)) = s.block.getR (pg 0x35 (0x74 + 4 * k))
          ∧ (p.episode = false → t.rbit (pg 0x35 0x0C) 1 = true)))
    ∧ (∀ e, p.pulseEnd = some e → e < stop → (Instr.poutPulseEnd k).leads s (fun t =>
        (∃ q, t.pout[k]? = some q ∧ q.pulseEnd = none) ∧ t.rbit (pg 0x35 0x70) (16 + k) = false))

/-- Display: keys and commands choose what it shows, dwell and timeout go on by the RTC, a stuck key is ignored, a frame is counted (R372, R376, R380, R528). -/
def Obligations.DisplayRows : Prop :=
  ∀ s : State,
    let d := s.block.disp
    let now := s.block.arrive.rtcSec
    let stat := [pg 0x37 0x44]
    let shows (t : Block) (alt : Bool) (i : Nat) (manual : Bool) : Prop := t.disp.alt = alt ∧ t.disp.item = i ∧ t.disp.manual = manual
      ∧ t.disp.since = now ∧ t.disp.changed = true
    (s.block.unitsUp = true →
      (s.block.dispOn = true → d.ignA = false → Instr.keyAPress.leads s (fun t => shows t d.alt s.block.nextItem true ∧ t.disp.keyA = true
          ∧ t.rbit (pg 0x37 0x0C) 4 = true ∧ ({ s.block.arrive with disp := t.disp }).onlyRaised t [0x37] stat))
      ∧ (s.block.dispOn = true → d.ignB = false → Instr.keyBHold.leads s (fun t => shows t (!d.alt) 0 true ∧ t.disp.keyB = true
          ∧ t.rbit (pg 0x37 0x0C) 4 = true ∧ ({ s.block.arrive with disp := t.disp }).onlyRaised t [0x37] stat))
      ∧ (d.manual = true → d.lastAct + 60 ≤ now → Instr.manualTimeout.leads s (fun t => shows t false 0 false
          ∧ t.rbit (pg 0x37 0x0C) 4 = true ∧ ({ s.block.arrive with disp := t.disp }).onlyRaised t [0x37] stat))
      ∧ (s.block.dispOn = true → d.manual = false → d.since + s.block.fld (pg 0x37 0x40) 20 16 ≤ now → Instr.dwellExpiry.leads s (fun t =>
          shows t false s.block.nextItem false ∧ ({ s.block.arrive with disp := t.disp }).onlyRegs t stat))
      ∧ (d.ignA = false → d.keyA = true → (Instr.keyStuck false).leads s (fun t => t.disp = { d with ignA := true }
          ∧ t.rbit (pg 0x37 0x0C) 3 = true ∧ ({ s.block.arrive with disp := t.disp }).onlyRaised t [0x37] []))
      ∧ (d.ignB = false → d.keyB = true → (Instr.keyStuck true).leads s (fun t => t.disp = { d with ignB := true }
          ∧ t.rbit (pg 0x37 0x0C) 3 = true ∧ ({ s.block.arrive with disp := t.disp }).onlyRaised t [0x37] []))
      ∧ (∀ b, (Instr.keyRelease b).leads s (fun t =>
          t.disp = (if b then { d with keyB := false, ignB := false } else { d with keyA := false, ignA := false })
            ∧ ({ s.block.arrive with disp := t.disp }).onlyRegs t stat))
      ∧ (s.block.dispOn = true → s.block.rbit (pg 0x37 0x40) 31 = false ∨ s.block.granted 0x37 = true → Instr.displayFrame.leads s (fun t => t.disp.changed = false
          ∧ (s.block.rbit (pg 0x37 0x40) 31 = true → t.getN (pg 0x37 0x4C) = (s.block.getN (pg 0x37 0x4C) + 1) % 2 ^ 32)))
      ∧ (s.block.dispOn = false ∨ (s.block.rbit (pg 0x37 0x40) 31 = true ∧ s.block.granted 0x37 = false) → exec .displayFrame s = .next { s with block := s.block.arrive }))
    ∧ (s.block.hostReady = true →
      (∀ alt i, i < 64 → (s.block.itemUsed alt i = true → (Instr.dispShow alt i).leads s (fun t => shows t alt i true ∧ t.disp.lastAct = now
          ∧ ({ s.block.arrive.nextFrame with disp := t.disp }).onlyRegs t stat))
        ∧ (s.block.itemUsed alt i = false → (Instr.dispShow alt i).leads s (fun t => t.rbit (pg 0x37 0x0C) 1 = true
          ∧ s.block.arrive.nextFrame.onlyRaised t [0x37] [])))
      ∧ Instr.dispAuto.leads s (fun t => shows t false 0 false ∧ ({ s.block.arrive.nextFrame with disp := t.disp }).onlyRegs t stat))

/-- Tamper: samples pass their filters and each accepted change is an event; the buffer moves to the log under a permit; ACK frees what it may (R383, R384, R386). -/
def Obligations.TamperRows : Prop :=
  ∀ s : State,
    let cfg := s.block.getR (pg 0x38 0x40)
    let filt := max 1 (cfg.bits 19 16)
    let senses (k : Nat) (i : TampInput) (before end_ : Bool) : TampInput :=
      if !cfg.bit k then i
      else
        let run := if before == i.loopLast then min 255 (i.loopRun + 1) else 1
        let swRun := if end_ == i.swLast then min 255 (i.swRun + 1) else 1
        let fault := if filt ≤ run then before else i.loop
        if fault then { i with loopLast := before, loopRun := run, loop := fault, swRun := 0 }
        else ⟨before, run, end_, swRun, fault, if filt ≤ swRun then end_ != cfg.bit (8 + k) else i.isOpen⟩
    let changes (i j : TampInput) : Nat := b2n (i.loop != j.loop) + b2n (i.isOpen != j.isOpen)
    (∀ i j c0 c1 t0 t1, s.block.pwr.st ≠ .off → s.block.tamp.inputs = [i, j] → (Instr.tamperSample c0 c1 t0 t1).leads s (fun t =>
        t.tamp.inputs = [senses 0 i c0 c1, senses 1 j t0 t1]
          ∧ (s.block.tamp.vbuf.length + changes i (senses 0 i c0 c1) + changes j (senses 1 j t0 t1) ≤ 16 →
              t.tamp.vbuf.length = s.block.tamp.vbuf.length + changes i (senses 0 i c0 c1) + changes j (senses 1 j t0 t1)
                ∧ t.tamp.lost = s.block.tamp.lost)))
    ∧ (s.block.powered = true → s.block.permit = true → s.block.pwr.st ≠ .hold → s.block.tamp.vbuf ≠ [] ∨ 0 < s.block.tamp.lost →
        s.block.tamp.vbuf.length ≤ 16 → tampHeld s.block.tamp + s.block.tamp.vbuf.length < 256 → s.block.tamp.freed ≤ s.block.tamp.tseq →
        Instr.tamperLogMove.leads s (fun t => t.tamp.vbuf = [] ∧ t.tamp.lost = 0
          ∧ t.tamp.tseq = s.block.tamp.tseq + s.block.tamp.vbuf.length + (if 0 < s.block.tamp.lost then 1 else 0)
          ∧ ∃ c ∈ t.recs.queue, c.id = 0x21))
    ∧ (s.block.hostReady = true → Instr.ack.leads s (fun t =>
        let diff := (s.block.getN (pg 0x38 0x4C) + 2 ^ 32 - s.block.tamp.freed % 2 ^ 32) % 2 ^ 32
        let want := if diff < 2 ^ 31 then min diff (tampHeld s.block.tamp) else 0
        let n := s.block.tampFree (decide (3 ≤ s.block.lcState)) want 0
        t.tamp = { s.block.tamp with freed := s.block.tamp.freed + n } ∧ n ≤ want ∧ (s.block.lcState < 3 → n = want)
          ∧ (∀ i < n, 3 ≤ s.block.lcState → s.block.tampLogged (tampAddr (s.block.tamp.freed + 1 + i)) = true)
          ∧ t.fld (pg 0x38 0x44) 31 30 = (if n = 0 then 3 else if n < want then 2 else 1)
          ∧ (n = 0 → t.recs = s.block.recs) ∧ (0 < n → ∃ c ∈ t.recs.queue, c.id = 0x21)))

/-- LATCH_APPLY applies the closed latch to every total, a signature leaves one fewer waiting, SHEAF_FORM numbers the next Sheaf, BILL_CMD SHEAF asks one (R319, R320, R321, R325, R339, R341, R342). -/
def Obligations.LatchApplyRows : Prop :=
  ∀ s : State,
    let l := s.block.led
    (∀ c, s.block.powered = true → l.closed = some c → c.applyAt ≤ s.block.absPick → l.loaded = true → Instr.latchApply.leads s (fun t =>
        t.led.closed = none ∧ t.led.lseq = (l.lseq + 1) % 2 ^ 48 ∧ t.led.clears = [] ∧ t.led.lateKeys = [] ∧ t.rbit (pg 0x2F 0x44) 0 = false
          ∧ (s.block.join.imp = none → s.block.recs.resolve = [] → ∀ i < 1024,
              ((Sparse.get 0 (2 * i) c.defs).bit 31 = true ∨ i ∈ l.clears → t.total i = (s.block.ledItem c i).total)
              ∧ ((Sparse.get 0 (2 * i) c.defs).bit 31 = false → i ∉ l.clears → t.total i = s.block.total i))))
    ∧ (s.block.powered = true → s.block.pwr.st ≠ .hold → (∀ o ∈ s.block.husk.ops, ¬ (o.phase = 1 ∧ o.ecc = true)) →
        s.block.husk.trans = none → s.block.granted 0x3C = true → 0 < s.block.sigWaiting → Instr.ledgerSignatureDone.leads s (fun t =>
          t.sigWaiting + 1 = s.block.sigWaiting))
    ∧ (∀ d, s.block.unitsUp = true → s.block.sheafNext = some d → Instr.sheafForm.leads s (fun t =>
        t.getN (pg 0x32 0x4C) = (s.block.getN (pg 0x32 0x4C) + 1) % 2 ^ 32 ∧ t.led.prevSheaf = d.rtc
          ∧ ∃ x, t.led.out4 = .sheaf x :: l.out4.drop 1 ∧ x.shseq = (s.block.getN (pg 0x32 0x4C) + 1) % 2 ^ 32 ∧ x.payload.isSome = true
            ∧ x.lseq = d.lseq ∧ x.totals = d.totals ∧ x.sig = d.sig))
    ∧ (s.block.hostReady = true →
        (s.block.following = true → s.block.rbit (pg 0x32 0x40) 25 = true →
          (s.block.join.req.any (fun q => q.1) = false → exec .sheaf s = .next { s with block := ({ s.block.arrive.nextFrame with
              join := { s.block.join with req := some (true, none) } }).showJoin })
          ∧ (s.block.join.req.any (fun q => q.1) = true → Instr.sheaf.leads s (fun t =>
              t.rbit (pg 0x32 0x0C) 3 = true ∧ s.block.arrive.nextFrame.onlyRaised t [0x32] [])))
        ∧ (s.block.following = false → s.block.rbit (pg 0x32 0x40) 25 = true → l.cmdSheaf = false → exec .sheaf s = .next { s with block := { s.block.arrive.nextFrame with
          led := { l with cmdSheaf := true }
          warp := { s.block.warp with cmdLatch := true } } })
        ∧ (s.block.rbit (pg 0x32 0x40) 25 = false ∨ s.block.following = false ∧ l.cmdSheaf = true → Instr.sheaf.leads s (fun t =>
          t.rbit (pg 0x32 0x0C) 3 = true ∧ s.block.arrive.nextFrame.onlyRaised t [0x32] [])))

/-- Ledger commands: clears wait for the next apply in VENDOR and MAKER only, definition words go to the pending set and step, a view's mark clears (R318, R321, R323, R350). -/
def Obligations.LedgerCommands : Prop :=
  ∀ s : State, s.block.hostReady = true →
    let b := s.block.arrive.nextFrame
    let l := s.block.led
    let open_ := s.block.lcState = 1 ∨ s.block.lcState = 2
    let rejected (c : Instr) : Prop := c.leads s (fun t => t.rbit (pg 0x2F 0x0C) 4 = true ∧ b.onlyRaised t [0x2F] [])
    let next := (s.block.fld (pg 0x2F 0x50) 10 0 + 1) % 2048
    (∀ i < 1024, (open_ → exec (.clearOne i) s = .next { s with block := { b with led := { l with clears := l.clears ++ [i] } } })
        ∧ (¬ open_ → rejected (.clearOne i)))
    ∧ (open_ → Instr.clearAll.leads s (fun t => (∀ i < 1024, i ∈ t.led.clears) ∧ t = { b with led := { l with clears := t.led.clears } }))
    ∧ (¬ open_ → rejected .clearAll)
    ∧ (∀ v : Word, (Instr.defDataAccess (some v)).leads s (fun t =>
        t.led = { l with defShadow := Sparse.put (2 * s.block.defAt.1 + s.block.defAt.2) (v &&& defMask s.block.defAt.2) l.defShadow }
          ∧ t.getN (pg 0x2F 0x50) = next ∧ ({ b with led := t.led }).onlyRegs t [pg 0x2F 0x50]))
    ∧ (Instr.defDataAccess none).leads s (fun t => t.getN (pg 0x2F 0x50) = next ∧ s.block.arrive.onlyRegs t [pg 0x2F 0x50])
    ∧ (∀ v : Word, v.bit 0 = true → exec (.viewStatClear v) s = .next { s with block := { b with
        led := { l with roll := l.roll.filter (· ≠ s.block.fld (pg 0x2F 0x5C) 9 0) } } })
    ∧ (∀ v : Word, v.bit 0 = false → exec (.viewStatClear v) s = .next { s with block := b })

/-- The passive calendar: words are written unless scheduled, CHECK validates, SCHEDULE and CANCEL move between VALID and SCHEDULED; DST turns over (R330, R332, R334, R353, R354). -/
def Obligations.TariffRows : Prop :=
  ∀ s : State,
    let b := s.block.arrive.nextFrame
    let w := s.block.fld (pg 0x30 0x50) 7 0
    let steps (t : Block) : Prop := t.fld (pg 0x30 0x50) 7 0 = (if 244 ≤ w then 0 else w + 1)
    let dst := s.block.arrive.rtcValid && s.block.arrive.dstAt (minuteOf s.block.arrive.rtcNow)
    let saves (t : Block) : Prop := ∃ c ∈ t.recs.queue, c.id = 0x31
    (s.block.hostReady = true →
      let rejected (c : Instr) : Prop := c.leads s (fun t => t.rbit (pg 0x30 0x0C) 4 = true ∧ b.onlyRaised t [0x30] [])
      (∀ v : Word, (s.block.rbit (pg 0x30 0x50) 8 = false → s.block.passive ≠ 3 → (Instr.tariffCalDataAccess (some v)).leads s (fun t =>
            t.tar = { s.block.tar with passive := setNth s.block.tar.passive w v } ∧ t.passive = 1 ∧ steps t))
          ∧ (s.block.rbit (pg 0x30 0x50) 8 = true ∨ s.block.passive = 3 → rejected (.tariffCalDataAccess (some v))))
      ∧ (Instr.tariffCalDataAccess none).leads s (fun t => steps t ∧ s.block.arrive.onlyRegs t [pg 0x30 0x50, pg 0x30 0x54, pg 0x30 0x58])
      ∧ (s.block.passive ≠ 3 →
        (calendarBad s.block.tar.passive = none → Instr.tarCheck.leads s (fun t => t.passive = 2 ∧ t.fld (pg 0x30 0x68) 23 16 = 0xFF
            ∧ saves t ∧ t.tar = s.block.tar))
        ∧ (∀ k, calendarBad s.block.tar.passive = some k → Instr.tarCheck.leads s (fun t => t.passive = 4
            ∧ t.fld (pg 0x30 0x68) 23 16 = k % 256 ∧ t.rbit (pg 0x30 0x0C) 3 = true ∧ t.tar = s.block.tar
            ∧ b.onlyRaised t [0x30] [pg 0x30 0x68])))
      ∧ (s.block.passive = 3 → rejected .tarCheck)
      ∧ (s.block.passive = 2 → Instr.schedule.leads s (fun t => t.passive = 3 ∧ saves t ∧ t.tar = s.block.tar))
      ∧ (s.block.passive ≠ 2 → rejected .schedule)
      ∧ (s.block.passive = 3 → Instr.cancel.leads s (fun t => t.passive = 2 ∧ t.get64 (pg 0x30 0x60) = 0 ∧ saves t ∧ t.tar = s.block.tar))
      ∧ (s.block.passive ≠ 3 → rejected .cancel))
    ∧ (s.block.unitsUp = true → dst ≠ s.block.rbit (pg 0x30 0x68) 27 → Instr.dstTransition.leads s (fun t =>
        t.rbit (pg 0x30 0x68) 27 = dst ∧ t.rbit (pg 0x30 0x0C) 5 = true ∧ s.block.arrive.onlyRaised t [0x30] [pg 0x30 0x68]))
    ∧ (s.block.unitsUp = true → dst = s.block.rbit (pg 0x30 0x68) 27 → exec .dstTransition s = .next { s with block := s.block.arrive })

/-- A write frame applies its words in order and answers OK; a bad CRC, length, address or a denied word applies none and answers its status (R393, R394, R395, R396, R397). -/
def Obligations.WriteFrames : Prop :=
  ∀ (s : State) (f : Frame) (fifo stuck : Bool), s.block.hostReady = true →
    let b := s.block.arrive.nextFrame
    let c : Instr := if fifo then .writeFifo f stuck else .write f stuck
    let n := f.count.toNat
    let code (k : Nat) : Nat := b.writeStatus (wordAddr f fifo k) (nth 0 f.words k)
    let sized := 1 ≤ n ∧ n ≤ 256 ∧ f.words.length = n
    let r := b.applyWords f fifo stuck 0 f.words
    let refused (c : Instr) (x : Block) (st d cnt : Nat) : Prop := c.leads s (fun t => t.rbit (pg 0x3E 0x0C) d = true
      ∧ t.fld (pg 0x3E cnt) 15 0 = min 65535 (s.block.fld (pg 0x3E cnt) 15 0 + 1) ∧ t.fld (pg 0x3E 0x44) 7 0 = st
      ∧ t.host = { x.host with reply := replyBytes st [] } ∧ ({ x with host := t.host }).onlyRaised t [0x3E] [pg 0x3E 0x44, pg 0x3E 0x48, pg 0x3E cnt])
    let own := f.cmd.toNat = (if fifo then 6 else 2)
    (own → frameCrcOk f true = true → sized → (∀ k < n, code k = 0) → exec c s = .next { s with block := (match r.2 with
        | none => r.1.frameDone f 0 0xFFFF []
        | some k => r.1.frameFail f 6 k 0).resetDue })
    ∧ b.applyWords f fifo false 0 f.words
        = ((List.range f.words.length).foldl (fun t k => t.hostWrite (wordAddr f fifo k) (nth 0 f.words k)) b, none)
    ∧ (∀ (u : Block) (st i : Nat) (ws : List Word), (u.frameDone f st i ws).host.reply
        = (BitVec.ofNat 8 st :: (ws.map Word.toBytes).flatten) ++ beBytes 2 (crc16 (BitVec.ofNat 8 st :: (ws.map Word.toBytes).flatten)).toNat)
    ∧ (own → frameCrcOk f true = false → refused c b 1 1 0x50)
    ∧ (own → frameCrcOk f true = true → ¬ sized → refused c b 3 2 0x54)
    ∧ (own → frameCrcOk f true = true → sized → (∃ k < n, code k = 4) → refused c b 4 3 0x54)
    ∧ (own → frameCrcOk f true = true → sized → (∀ k < n, code k ≠ 4) → (∃ k < n, code k = 5) → c.leads s (fun t =>
        t.rbit (pg 0x3E 0x0C) 4 = true ∧ t.fld (pg 0x3E 0x44) 7 0 = 5 ∧ t.host = { b.host with reply := replyBytes 5 [] }
          ∧ ({ b with host := t.host }).onlyRaised t [0x3E] [pg 0x3E 0x44, pg 0x3E 0x48, pg 0x3E 0x54, pg 0x3E 0x58, pg 0x3E 0x5C]))
    ∧ refused (.frameCutShort f) s.block.arrive 3 2 0x54
    ∧ exec .i2cReread s = .next { s with block := s.block.arrive }

/-- A read frame answers OK with its words in order and makes their reads' effects; in HOLD frames are answered HOLD and do nothing (R18, R393, R395, R427). -/
def Obligations.ReadFrames : Prop :=
  ∀ (s : State) (f : Frame) (fifo stuck : Bool),
    let b := s.block.arrive
    let c : Instr := if fifo then .readFifo f stuck else .read f stuck
    let n := f.count.toNat
    let zeros := List.replicate n (0 : Word)
    let r := b.readWords f fifo stuck 0 n
    let refused (st d cnt : Nat) : Prop := c.leads s (fun t => t.rbit (pg 0x3E 0x0C) d = true
      ∧ t.fld (pg 0x3E cnt) 15 0 = min 65535 (s.block.fld (pg 0x3E cnt) 15 0 + 1) ∧ t.fld (pg 0x3E 0x44) 7 0 = st
      ∧ t.host = { b.host with reply := replyBytes st zeros } ∧ ({ b with host := t.host }).onlyRaised t [0x3E] [pg 0x3E 0x44, pg 0x3E 0x48, pg 0x3E cnt])
    (f.cmd.toNat = (if fifo then 7 else 3) →
      (s.block.hostReady = true → frameCrcOk f false = true → 1 ≤ n → (∀ k < n, b.readStatus (wordAddr f fifo k) = 0) →
        exec c s = .next { s with block := match r.2.2 with
          | none => r.1.frameDone f 0 0xFFFF r.2.1
          | some k => r.1.frameFail f 6 k n }
        ∧ (n = 1 → stuck = false → c.leads s (fun t => t.host.reply = replyBytes 0 [(b.hostRead f.addr.toNat).1])))
      ∧ (s.block.hostReady = true → frameCrcOk f false = false → refused 1 1 0x50)
      ∧ (s.block.hostReady = true → frameCrcOk f false = true → 1 ≤ n → (∃ k < n, b.readStatus (wordAddr f fifo k) = 4) → refused 4 3 0x54)
      ∧ (s.block.pwr.st = .hold → frameCrcOk f false = true → 1 ≤ n → (∀ k < n, b.readStatus (wordAddr f fifo k) = 0) →
        exec c s = .next { s with block := { b with host := { b.host with reply := replyBytes 7 zeros } } }))
    ∧ (f.cmd.toNat = 2 → s.block.pwr.st = .hold → frameCrcOk f true = true → 1 ≤ n → n ≤ 256 → f.words.length = n →
        (∀ k < n, b.nextFrame.writeStatus (wordAddr f false k) (nth 0 f.words k) = 0) →
        exec (.write f stuck) s = .next { s with block := { b with host := { b.nextFrame.host with reply := replyBytes 7 [] } } })

/-- Ring descriptors and counters: a legal placement, TAIL or HEAD is taken, another rejected; RING0 commands run in order; marks clear on 1 (R408, R409, R414, R415, R418, R423). -/
def Obligations.RingRows : Prop :=
  ∀ s : State, s.block.hostReady = true →
    let b := s.block.arrive.nextFrame
    let rejected (c : Instr) (d : Nat) : Prop := c.leads s (fun t => t.rbit (pg 0x2D 0x0C) d = true ∧ b.onlyRaised t [0x2D] [])
    (∀ n < 16,
      (∀ v : Word, s.block.ringOn n = false → s.block.placeOk n (v.bits 23 0) (s.block.ringSize n) = true → (Instr.descWrite n false v).leads s (fun t =>
          t.getN (dBase n) = v.bits 23 0 ∧ ({ b with rings := t.rings }).onlyRegs t [dBase n]))
      ∧ (∀ v : Word, s.block.placeOk n (v.bits 23 0) (s.block.ringSize n) = false
          ∨ (s.block.ringOn n = true ∧ v.bits 23 0 ≠ s.block.getN (dBase n)) → rejected (.descWrite n false v) 4)
      ∧ (∀ v : Word, let size := v.bits 20 16
          let old := s.block.getR (dCfg n)
          let legal := 6 ≤ size ∧ size ≤ 16 ∧ v.bits 29 28 ≤ 1 ∧ s.block.placeOk n (s.block.getN (dBase n)) (2 ^ size) = true
            ∧ (old.bit 31 = true → v.bit 30 = old.bit 30 ∧ v.bits 29 28 = old.bits 29 28 ∧ size = old.bits 20 16)
          (legal → v.bit 31 = old.bit 31 → (Instr.descWrite n true v).leads s (fun t => t.getR (dCfg n) = v &&& 0xF81FFFFF
              ∧ b.onlyRaised t [0x2D] [dCfg n]))
          ∧ (¬ legal → rejected (.descWrite n true v) 4))
      ∧ (∀ v : Word, s.block.ringHost n = false →
          let d := (v - s.block.getR (dTail n)).toNat
          let good := 0 < d ∧ d ≤ s.block.ringUsed n ∧ s.block.lands n (s.block.getN (dTail n)) d false 4097 = true
          (good → (n = 2 → (s.block.ringMeta 2).wm = true) → (Instr.descTailWrite n v).leads s (fun t => t.getR (dTail n) = v ∧ b.onlyRaised t [0x2D] [dTail n]))
          ∧ (¬ good → rejected (.descTailWrite n v) 5) ∧ exec (.descHeadWrite n v) s = .next { s with block := b })
      ∧ (∀ v : Word, s.block.ringHost n = true →
          let d := (v - s.block.getR (dHead n)).toNat
          let good := 0 < d ∧ d ≤ s.block.ringFree n ∧ s.block.lands n (s.block.getN (dHead n)) d true 4097 = true
          (good → n ≠ 2 → ∃ u : Block, exec (.descHeadWrite n v) s = .next { s with block := match n with
              | 0 => u.skim0 256
              | 11 => u.cryptSkim 256
              | 15 => u.joinSkim 256
              | _ => u } ∧ u.getR (dHead n) = v ∧ b.onlyRaised u [0x2D] [dHead n, pg 0x2D 0x240])
          ∧ (¬ good → rejected (.descHeadWrite n v) 5) ∧ exec (.descTailWrite n v) s = .next { s with block := b }))
    ∧ (∀ e, s.block.arrive.next0 = some e → s.block.arrive.room1 (respBytes e) = true →
      let u := (s.block.arrive.tailTake 0 e.len).expectAfter 0 e.seq
      (e.type = 1 → (∀ x ∈ pairsOf e, u.writeStatus x.2.1 x.2.2 = 0) → exec .regWrite s = .next { s with block :=
          ((forEach (pairsOf e) (fun x t => t.hostWrite x.2.1 x.2.2) u.nextFrame).respond1 0x0101 e.seq 0 none []).resetDue.skim0 256 })
      ∧ (e.type = 2 → exec .regRead s = .next { s with block := (u.regRead0 e).skim0 256 }))
    ∧ (∀ v : Word, (Instr.nonemptyClear v).leads s (fun t => b.onlyRegs t [pg 0x2D 0x240]
        ∧ ∀ k < 16, t.rbit (pg 0x2D 0x240) k = (s.block.rbit (pg 0x2D 0x240) k && !v.bit k)))
    ∧ (∀ v : Word, (Instr.lossStickyClear v).leads s (fun t => b.onlyRegs t [pg 0x2D 0x248]
        ∧ ∀ k < 16, t.rbit (pg 0x2D 0x248) k = (s.block.rbit (pg 0x2D 0x248) k && !v.bit k)))

/-- Record store: a commit starts under a permit or waits with one event; COMMIT writes its slots; RESOLVE and DUPLICATE queue; the scan ends (R431, R432, R434, R435, R436, R441, R444, R445, R446, R447, R593). -/
def Obligations.RecordStoreRows : Prop :=
  ∀ s : State,
    let q := s.block.recs.queue
    (s.block.powered = true →
      let b := s.block.arrive
      (s.block.nextCommit = none → exec .commitStart s = .next { s with block := b })
      ∧ (∀ c, s.block.nextCommit = some c → c.started = false → c.save = false → s.block.pwr.saveRefused = false → s.block.pwr.resetWait = none →
          (s.block.permit = true → Instr.commitStart.leads s (fun t =>
            t.recs = { s.block.recs with queue := replaceFirst c [{ c with started := true }] q, permitEpisode := false }
              ∧ t.fld (pg 0x39 0x44) 31 24 = min 255 (t.recs.queue.filter (fun c => !c.started)).length ∧ t.rbit (pg 0x39 0x44) 8 = false
              ∧ t.rbit (pg 0x39 0x44) 1 = true ∧ ({ b with recs := t.recs }).onlyRegs t [pg 0x39 0x44]))
          ∧ (s.block.permit = false → s.block.pwr.st ≠ .hold → s.block.recs.permitEpisode = false → Instr.commitStart.leads s (fun t =>
              t.recs = { s.block.recs with permitEpisode := true } ∧ t.rbit (pg 0x39 0x44) 8 = true ∧ t.rbit (pg 0x39 0x0C) 4 = true
                ∧ t.fld (pg 0x39 0x84) 15 0 = min 65535 (s.block.fld (pg 0x39 0x84) 15 0 + 1)
                ∧ ({ b with recs := t.recs }).onlyRaised t [0x39] [pg 0x39 0x44, pg 0x39 0x84]))
          ∧ (s.block.permit = false → s.block.pwr.st ≠ .hold → s.block.recs.permitEpisode = true → exec .commitStart s = .next { s with block := b }))
      ∧ (s.block.activeCommit = none → exec .commit s = .next { s with block := b })
      ∧ (∀ c d, s.block.activeCommit = some c → s.block.pwr.resetWait = none → c.kind = .set → c.id < 0x40 → recDef c.id = some d →
          let new := b.chosenSeq c.id d
          let seq := c.seq.getD (match new with
            | none => 1
            | some q => (q + 1) % 2 ^ 32)
          let w := b.writeSet c.id d new seq c.flags 0 c.payloads
          (s.block.recs.conflicts.contains c.id = false → Instr.commit.leads s (fun t =>
            t.recs = { s.block.recs with queue := replaceFirst c [] q, states := s.block.recs.states.filter (fun p => p.1 ≠ c.id) }
              ∧ t.feram = (if d.dup then w.1.writeDup c.id d seq c.flags 0 c.payloads w.2 else w.1).feram
              ∧ t.getN (pg 0x39 0x78) = (s.block.getN (pg 0x39 0x78) + 1) % 2 ^ 32
              ∧ ({ b with recs := t.recs, feram := t.feram }).onlyRaised t [] [pg 0x39 0x44, pg 0x39 0x78]))
          ∧ (s.block.recs.conflicts.contains c.id = true → Instr.commit.leads s (fun t =>
              t.recs = { s.block.recs with queue := replaceFirst c [] q } ∧ t.fld (pg 0x39 0x80) 15 0 = min 65535 (s.block.fld (pg 0x39 0x80) 15 0 + 1)
                ∧ ({ b with recs := t.recs }).onlyRaised t [] [pg 0x39 0x44, pg 0x39 0x80])))
      ∧ (∀ c a, s.block.activeCommit = some c → s.block.pwr.resetWait = none → c.kind = .at a → c.id = 0x0120 → Instr.commit.leads s (fun t =>
          t.recs = { s.block.recs with queue := replaceFirst c [] q }
            ∧ t.feram = memWrite s.block.feram a (slotBytes 0x0120 0 1 (c.seq.getD 0) c.flags (c.payloads.headD []))
            ∧ t.getN (pg 0x39 0x78) = (s.block.getN (pg 0x39 0x78) + 1) % 2 ^ 32
            ∧ ({ b with recs := t.recs, feram := t.feram }).onlyRaised t [] [pg 0x39 0x44, pg 0x39 0x78]))
      ∧ (s.block.pwr.st = .starting → s.block.pwr.startStep = 5 → Instr.scanDone.leads s (fun t => t.pwr.startStep = 7
          ∧ t.pwr.totalsLoaded = true ∧ t.pwr.vaultLost = false ∧ ∀ p ∈ pagesAtScan, t.pageState p = psRun)))
    ∧ (s.block.hostReady = true →
      let b := s.block.arrive.nextFrame
      let rejected (c : Instr) : Prop := c.leads s (fun t => t.rbit (pg 0x39 0x0C) 7 = true ∧ b.onlyRaised t [0x39] [])
      ∀ id, id < 65536 →
        (s.block.recs.conflicts.contains id = true →
          exec (.resolve id 1) s = .next { s with block := { b with recs := { s.block.recs with
            resolve := s.block.recs.resolve.filter (fun (x : Nat × Nat) => x.1 ≠ id) ++ [(id, 1)] } } }
          ∧ (∀ d pl, recDef id = some d → ({ b with recs := { s.block.recs with
              resolve := s.block.recs.resolve.filter (fun (x : Nat × Nat) => x.1 ≠ id) ++ [(id, 0)] } }).liveContent id = some pl →
            (Instr.resolve id 0).leads s (fun t => t.recs.resolve = s.block.recs.resolve.filter (fun (x : Nat × Nat) => x.1 ≠ id) ∧ t.recs.conflicts = s.block.recs.conflicts.filter (fun x => x ≠ id)
              ∧ t.recs.queue = q ++ [⟨.set, id, d.cls, b.resolveSeq id, 0, pl, false, false⟩])))
        ∧ (s.block.recs.conflicts.contains id = false → ∀ slot, slot < 2 → rejected (.resolve id slot))
        ∧ (∀ d, recDef id = some d → s.block.recState id ≠ 2 → s.block.recState id ≠ 3 → (Instr.duplicate id).leads s (fun t =>
            t.recs = { s.block.recs with queue := q ++ [⟨.dup, id, d.cls, none, 1, [], false, false⟩] }
              ∧ ({ b with recs := t.recs }).onlyRegs t [pg 0x39 0x44]))
        ∧ (recDef id = none ∨ s.block.recState id = 2 ∨ s.block.recState id = 3 → rejected (.duplicate id)))

/-- Log store commands: MOUNT, UNMOUNT, READ and FORMAT of a chip select start, end at once or are rejected under detector 2 (R453, R455, R456, R466, R469, R470, R472, R474). -/
def Obligations.LogStoreCommands : Prop :=
  ∀ (s : State) (cs : Nat), s.block.hostReady = true → cs < 2 →
    let b := s.block.arrive.nextFrame
    let stat := pg 0x3A 0x5C
    let rejected (c : Instr) (shown : Bool) : Prop := c.leads s (fun t => t.rbit (pg 0x3A 0x0C) 2 = true
      ∧ (shown = true → t.fld stat 3 0 = 1) ∧ b.onlyRaised t [0x3A] (if shown then [stat] else []))
    let starts (c : Instr) (k len : Nat) : Prop := c.leads s (fun t => t.stor = { s.block.stor with cmd := some (k, cs, len) }
      ∧ t.rbit stat 4 = true ∧ (k = 1 → t.csState cs = csMounting) ∧ (k = 4 → t.csState cs = csFormatting)
      ∧ ({ b with stor := t.stor }).onlyRegs t [stat])
    (s.block.stor.cmd.isSome = true → rejected (.mount cs) false ∧ rejected (.unmount cs) false ∧ rejected (.format cs) false
      ∧ ∀ len, len < 4096 → rejected (.storRead cs len) false)
    ∧ (s.block.stor.cmd = none →
      (s.block.devOk cs = true → starts (.mount cs) 1 0) ∧ (s.block.devOk cs = false → rejected (.mount cs) true)
      ∧ (s.block.csState cs ≠ csMounted → (Instr.unmount cs).leads s (fun t => t.csState cs = csUnmounted ∧ t.fld stat 3 0 = 0 ∧ b.onlyRegs t [stat]))
      ∧ (s.block.csState cs = csMounted → (s.block.streamsOf cs).all s.block.streamDry = false → starts (.unmount cs) 2 0)
      ∧ (s.block.csState cs = csMounted → (s.block.streamsOf cs).all s.block.streamDry = true → (Instr.unmount cs).leads s (fun t =>
          t.csState cs = csUnmounted ∧ t.stor.cmd = none ∧ t.fld stat 4 0 = 0 ∧ ({ b with stor := t.stor }).onlyRegs t [stat]))
      ∧ (∀ len, 4 ≤ len → len ≤ 512 → len % 4 = 0 →
          (s.block.csState cs ≠ csAbsent → starts (.storRead cs len) 3 len)
          ∧ (s.block.csState cs = csAbsent → (Instr.storRead cs len).leads s (fun t => t.stor.cmd = none ∧ t.fld stat 4 0 = 2
              ∧ t.fld (pg 0x3A 0x64) 31 28 = 2 ∧ b.onlyRegs t [stat, pg 0x3A 0x64])))
      ∧ (∀ len, len < 4096 → len < 4 ∨ 512 < len ∨ len % 4 ≠ 0 → rejected (.storRead cs len) false)
      ∧ (s.block.devOk cs = true → s.block.regionsOk cs = true → s.block.lifeState = 1 ∨ s.block.lifeState = 2
          ∨ s.block.csState cs = csAbsent ∨ s.block.csState cs = csReadOnly → starts (.format cs) 4 0)
      ∧ (s.block.devOk cs = false ∨ s.block.regionsOk cs = false → s.block.lifeState = 1 ∨ s.block.lifeState = 2 → rejected (.format cs) true)
      ∧ (s.block.lifeState ≠ 1 → s.block.lifeState ≠ 2 → s.block.csState cs = csUnmounted → nth 0 s.block.stor.super cs = 1 →
          rejected (.format cs) true))

/-- Log store events: mounts, reads, formats, programs and erases complete or fail as the device answers, and a device that stops is FAILED (R455, R459, R461, R464, R465, R466, R468, R469). -/
def Obligations.LogStoreEvents : Prop :=
  ∀ s : State, s.block.unitsUp = true →
    let b := s.block.arrive
    let stat := pg 0x3A 0x5C
    let idle (c : Instr) : Prop := exec c s = .next { s with block := b }
    (∀ cs len, cs < 2 → s.block.stor.cmd = some (1, cs, len) →
      (∀ l, (Instr.mountComplete cs (.streams l)).leads s (fun t => t.csState cs = csMounted ∧ t.stor.cmd = none ∧ t.fld stat 4 0 = 0))
      ∧ (∀ r, (Instr.mountComplete cs (.failed r)).leads s (fun t => t.stor.cmd = none
          ∧ (r = 2 → t.csState cs = csAbsent ∧ t.fld stat 4 0 = 2 ∧ t.rbit (pg 0x3A 0x0C) 1 = true)
          ∧ (r = 3 → t.csState cs = csReadOnly ∧ t.fld stat 4 0 = 3 ∧ t.rbit (pg 0x3A 0x0C) 8 = true)
          ∧ (r ≠ 2 → r ≠ 3 → t.csState cs = csFailed ∧ t.fld stat 4 0 = 5 ∧ t.rbit (pg 0x3A 0x0C) 10 = true))))
    ∧ (∀ cs found, (∀ len, s.block.stor.cmd ≠ some (1, cs, len)) → idle (.mountComplete cs found))
    ∧ (∀ cs len bytes corr, s.block.stor.cmd = some (3, cs, len) → corr < 6 →
      let ends (c : Instr) (res : Nat) (P : Block → Prop) : Prop := c.leads s (fun t => t.stor.cmd = none ∧ t.fld stat 4 0 = res
        ∧ t.fld (pg 0x3A 0x64) 31 28 = res ∧ t.fld (pg 0x3A 0x64) 7 0 = corr ∧ P t)
      let words (t : Block) : Prop := ∀ i, i < len / 4 → t.getN (pg 0x3A (0x200 + 4 * i)) = leNat ((bytes.drop (4 * i)).take 4)
      len ≤ 512 →
        ends (.storReadComplete bytes corr false false) 0 (fun t => words t ∧ ({ b with stor := t.stor }).onlyRegs t
            ([stat, pg 0x3A 0x64] ++ (List.range (len / 4)).map (fun i => pg 0x3A (0x200 + 4 * i))))
        ∧ (∀ f, ends (.storReadComplete bytes corr f true) 5 (fun t => ({ b with stor := t.stor }).onlyRegs t [stat, pg 0x3A 0x64]))
        ∧ ends (.storReadComplete bytes corr true false) 4 (fun t => words t ∧ t.rbit (pg 0x3A 0x0C) 6 = true
            ∧ t.fld (pg 0x3A 0xBC) 15 0 = min 65535 (s.block.fld (pg 0x3A 0xBC) 15 0 + 1)))
    ∧ ((∀ cs len, s.block.stor.cmd ≠ some (3, cs, len)) → ∀ bytes corr f e, idle (.storReadComplete bytes corr f e))
    ∧ (∀ cs len bad, cs < 2 → s.block.stor.cmd = some (4, cs, len) →
        (Instr.formatComplete false bad).leads s (fun t => t.csState cs = csFailed ∧ t.stor.cmd = none ∧ t.fld stat 4 0 = 5
          ∧ t.rbit (pg 0x3A 0x0C) 10 = true)
        ∧ (Instr.formatComplete true bad).leads s (fun t => t.csState cs = csUnmounted ∧ t.stor.cmd = none ∧ t.fld stat 4 0 = 0
          ∧ (∀ k l, k ∈ s.block.streamsOf cs → s.block.stor.streams[k]? = some l → ∃ m, t.stor.streams[k]? = some m ∧ m.units = []
              ∧ m.off = 0 ∧ m.st = 1 ∧ m.bad = ((bad.find? (fun p => p.1 = k)).map (·.2)).getD [])
          ∧ ({ b with stor := t.stor }).onlyRegs t [stat]))
    ∧ (∀ k l u r rest, k < 5 → s.block.stor.streams[k]? = some l → s.block.mayProgram k = true → l.off ≠ 0 → l.units.getLast? = some u →
        l.staged = r :: rest → let size := s.block.unitSize (s.block.streamCs k)
        (r.body.length ≤ l.sent + (size - l.off - 32) → (Instr.flashProgramComplete k true).leads s (fun t =>
          t.stor.prog = [(u.unit * size + l.off, fragBytes r k l.nextRseq l.sent (r.body.drop l.sent))]
            ∧ ∃ m, t.stor.streams[k]? = some m ∧ m.head = l.nextRseq ∧ m.nextRseq = l.nextRseq + 1))
        ∧ (Instr.flashProgramComplete k false).leads s (fun t => t.rbit (pg 0x3A 0x0C) 5 = true
            ∧ ∃ m, t.stor.streams[k]? = some m ∧ m.bad = l.bad ++ [u.unit] ∧ m.nextRseq = l.nextRseq ∧ m.head = l.head))
    ∧ (∀ k u, k < 5 → (s.block.logStream k).erasing = some u →
        exec (.flashEraseComplete k true) s = .next { s with block := b.modStream k (fun t => { t with
          erasing := none
          weak := t.weak.filter (· ≠ u)
          erases := Sparse.put u (Sparse.get 0 u t.erases + 1) t.erases }) }
        ∧ (∀ l, s.block.stor.streams[k]? = some l → (Instr.flashEraseComplete k false).leads s (fun t => t.rbit (pg 0x3A 0x0C) 5 = true
            ∧ ∃ m, t.stor.streams[k]? = some m ∧ m.erasing = none ∧ m.bad = l.bad ++ [u])))
    ∧ (∀ k ok, k < 5 → (s.block.logStream k).erasing = none → idle (.flashEraseComplete k ok))
    ∧ (∀ cs, cs < 2 →
        (s.block.csState cs = csMounted ∨ s.block.csState cs = csMounting ∨ s.block.csState cs = csFormatting ∨ s.block.csState cs = csReadOnly →
          (Instr.deviceTimeout cs).leads s (fun t => t.csState cs = csFailed ∧ t.rbit (pg 0x3A 0x0C) 10 = true
            ∧ (∀ x y, s.block.stor.cmd = some (x, cs, y) → t.stor.cmd = none ∧ t.fld stat 4 0 = 5)))
        ∧ (s.block.csState cs = csUnmounted ∨ s.block.csState cs = csAbsent ∨ s.block.csState cs = csFailed → idle (.deviceTimeout cs)))

/-- Crypto requests: an entry at RING11's tail is taken in order and settled by its operation; one with a wrong length is answered BAD_PARAM (R488, R492, R493, R494, R495, R496, R497, R498, R503). -/
def Obligations.CryptoRequests : Prop :=
  (∀ (s : State) (op : Nat) (c : Instr) (e : TailEntry), s.block.unitsUp = true → s.block.cryptTakes = true →
    (op, c) ∈ [(1, Instr.encrypt), (2, .decrypt), (3, .macGen), (4, .macVer), (5, .hash), (6, .sign), (7, .verify), (8, .ecdh), (9, .derive),
      (10, .wrap), (11, .random), (12, .getPub), (13, .keyUpdate), (14, .keyDelete), (15, .token)] →
    let b := s.block.arrive
    let r := cryptReq e.bytes
    let u := ((b.tailTake 11 e.len).expectAfter 11 e.seq).opAdd e.seq op e.bytes (if r.lenOk then none else some 3)
    (s.block.cryptNext = some (e, op) → respLen r.maxOut ≤ s.block.ringSize 12 / 2 → s.block.respRoom (respLen r.maxOut) = true →
      exec c s = .next { s with block := ((u.opsStart 256).cryptFlush 256).cryptSkim 256 }
      ∧ (s.block.husk.ops = [] → r.lenOk = true → s.block.granted 0x3C = true → s.block.fld (pg 0x3C 0x48) 31 24 = 0 → s.block.ringUsed 11 = e.len →
        11 < s.block.rings.length → c.leads s (fun t => t.husk.ops = [⟨e.seq, op, e.bytes, 1, (u.opResult r).1, (u.opResult r).2.1, (u.opResult r).2.2, false⟩]
          ∧ t.ringUsed 11 = 0 ∧ (t.ringMeta 11).expect = (e.seq + 1) % 2 ^ 32)))
    ∧ (∀ o, s.block.cryptNext = some (e, o) → o ≠ op → exec c s = .next { s with block := b }))
  ∧ (∀ (x : Block) (r : CryptReq),
    let k := x.slot r.kslot
    let may (types : List Nat) (usage : Nat) : Prop := x.keyBad r.kslot types usage true = 0
    let n := if k.ktype = 3 then 32 else 16
    (r.op = 1 → may [1, 2] 1 → r.mode ≤ 3 → x.opResult r = (0, (aesMode true r.mode k.key r.iv r.aad r.data).getD [], .none))
    ∧ (r.op = 2 → may [1, 2] 2 → r.mode ≤ 3 → (∀ o, aesMode false r.mode k.key r.iv r.aad r.data = some o → x.opResult r = (0, o, .none))
      ∧ (aesMode false r.mode k.key r.iv r.aad r.data = none → x.opResult r = (0x23, [], .none)))
    ∧ (r.op = 3 → may [1, 2, 3] 6 → x.opResult r = (0, keyMac k r.data, .none))
    ∧ (r.op = 4 → may [1, 2, 3] 6 → n ≤ r.dlen → x.opResult r
        = (if keyMac k (r.data.take (r.dlen - n)) = r.data.drop (r.dlen - n) then 0 else 0x23, [], .none))
    ∧ (r.op = 5 → x.opResult r = (0, sha256 r.data, .none))
    ∧ (r.op = 6 → may [4] 5 → x.opResult r = (0, ecdsaSign (beNat k.key) r.data, .none))
    ∧ (r.op = 7 → x.keyBad r.kslot [5] 7 false = 0 →
        x.opResult r = (if ecdsaVerify k.key (r.data.take 32) (r.data.drop 32) then 0 else 0x23, [], .none))
    ∧ (r.op = 8 → may [4] 4 → x.opResult r = ((x.childOf r).1, [], if (x.childOf r).1 = 0 then .child r.tslot (x.childOf r).2 else .none))
    ∧ (r.op = 9 → may [1, 2, 3] 4 → x.opResult r = ((x.childOf r).1, [], if (x.childOf r).1 = 0 then .child r.tslot (x.childOf r).2 else .none))
    ∧ (r.op = 10 → may [1, 2] 3 → x.keyBad r.tslot [1, 2, 3, 4] 0 false = 0 → (x.slot r.tslot).attr / 2 % 2 = 1 →
        x.opResult r = (0, aesWrap k.key (x.slot r.tslot).key, .none))
    ∧ (r.op = 11 → x.opResult r = if x.drbgFail then (0x29, [], .none) else (0, (x.drawBytes r.dlen).1, .none))
    ∧ (r.op = 12 → r.kslot = 0xFF → x.opResult r = (0, ecPublic x.idKey, .none))
    ∧ (r.op = 12 → r.kslot ≠ 0xFF → x.keyBad r.kslot [4, 5] 0 false = 0 →
        x.opResult r = (0, if k.ktype = 5 then k.key else ecPublic (beNat k.key), .none))
    ∧ (r.op = 13 → (x.updateCheck r.data).1 = 0 → x.opResult r = (0, [], .update (x.updateCheck r.data).2.1 (x.updateCheck r.data).2.2 r.data))
    ∧ (r.op = 14 → x.lcState ≠ 0 → r.kslot < 64 → k.ktype ≠ 0 → k.unusable = false → k.attr / 8 % 2 = 1 → x.opResult r
        = (0, [], .delete r.kslot { KeySlot.empty with counter := k.counter, epoch := (k.epoch + 1) % 2 ^ 32 }))
    ∧ (r.op = 15 → (x.tokenCheck r.data).1 = 0 → x.opResult r = (0, [], .token (x.tokenCheck r.data).2.1 (x.tokenCheck r.data).2.2))
    ∧ (∀ types usage, (r.op, types, usage) ∈ [(1, [1, 2], 1), (2, [1, 2], 2), (3, [1, 2, 3], 6), (4, [1, 2, 3], 6), (6, [4], 5), (8, [4], 4),
        (9, [1, 2, 3], 4), (10, [1, 2], 3)] → ¬ may types usage → x.opResult r = (x.keyBad r.kslot types usage true, [], .none)))

/-- A crypto operation completes with its answer or its commit; life cycle, challenge, TEST session, unlock, masks and DRBG change as R483 to R505 say (R481, R483, R484, R489, R492, R493, R496, R498, R503, R504, R505, R508). -/
def Obligations.HuskRows : Prop :=
  ∀ s : State,
    let h := s.block.husk
    let stat := pg 0x3B 0x44
    (s.block.unitsUp = true →
      let b := s.block.arrive
      let idle (c : Instr) : Prop := exec c s = .next { s with block := b }
      (∀ ecc o, h.ops = [o] → o.phase = 1 → o.ecc = ecc → s.block.tailEntry 11 = none →
        (o.eff = .none → o.op ≠ 13 → o.op ≠ 15 → (Instr.cryptoOpComplete ecc).leads s (fun t => t.husk = { h with ops := [] }
          ∧ t.getN (pg 0x3C 0x80) = (s.block.getN (pg 0x3C 0x80) + 1) % 2 ^ 32
          ∧ ((s.block.ringMeta 12).gapPending = false → s.block.fld (dCfg 12) 29 28 ≠ 1 →
            t.getN (dSeq 12) = (s.block.getN (dSeq 12) + 1) % 2 ^ 32)))
        ∧ (∀ slot new msg, o.eff = .update slot new msg → h.stage = none → (Instr.cryptoOpComplete ecc).leads s (fun t =>
            t.husk = { h with stage := some (1, slot, new, o.seq), ops := [{ o with phase := 2, status := 0 }] }
              ∧ t.recs.queue = s.block.recs.queue ++ [⟨.set, 0x80, 2, none, 0, [stageRecord msg], false, false⟩]))
        ∧ (∀ slot new, o.eff = .child slot new ∨ o.eff = .delete slot new → slot < 64 → (Instr.cryptoOpComplete ecc).leads s (fun t =>
            t.husk = { h with waits := h.waits ++ [(slot, new, o.seq)], ops := [{ o with phase := 2, status := 0 }] }
              ∧ t.recs.queue = s.block.recs.queue ++ [⟨.set, 0x40 + slot, 2, none, 0, [b.keyRecord new], false, false⟩]))
        ∧ (∀ dur, o.eff = .token 1 dur → (Instr.cryptoOpComplete ecc).leads s (fun t => t.testOpen = true ∧ t.husk.chal = none
            ∧ t.husk.testUntil = b.monoSec + dur ∧ t.rbit (pg 0x3B 0x0C) 8 = true)))
      ∧ ((∀ o ∈ h.ops, o.phase ≠ 1) → ∀ ecc, idle (.cryptoOpComplete ecc))
      ∧ (h.trans = none → ∀ ok, idle (.lcTransitionComplete ok))
      ∧ (∀ kind, h.trans = some kind →
        let waits := h.ops.any (fun o => o.phase = 1 || o.phase = 2) || s.block.recs.queue.any (fun c => c.started) || !s.block.permit
        (waits = true → ∀ ok, idle (.lcTransitionComplete ok))
        ∧ (waits = false → (Instr.lcTransitionComplete true).leads s (fun t => t.husk.trans = none
            ∧ t.husk.slots = List.replicate 64 KeySlot.empty ∧ t.husk.stage = none ∧ t.husk.waits = [] ∧ t.husk.chal = none
            ∧ t.husk.unlockAt = none ∧ t.testOpen = false ∧ t.getR (pg 0x3C 0x40) = 0xFF
            ∧ t.fuse 12 = s.block.fuse 12 ||| BitVec.ofNat 32 (2 ^ (if kind = 1 then 9 else s.block.lcSteps))
            ∧ (∀ k, k ≠ 12 → t.fuse k = s.block.fuse k) ∧ t.rbit (pg 0x3B 0x0C) 4 = true))
        ∧ (waits = false → (Instr.lcTransitionComplete false).leads s (fun t => t.husk = { h with trans := none } ∧ t.rbit stat 16 = false
            ∧ t.rbit (pg 0x3B 0x0C) 4 = true ∧ ({ b with husk := t.husk }).onlyRaised t [0x3B] [stat])))
      ∧ (h.chal.isSome = true → h.chalUntil ≤ b.rtcSec → Instr.challengeExpiry.leads s (fun t => t.husk = { h with chal := none }
          ∧ t.rbit stat 20 = false ∧ (∀ i, i < 4 → t.getN (pg 0x3B (0x80 + 4 * i)) = 0)
          ∧ ({ b with husk := t.husk }).onlyRegs t [stat, pg 0x3B 0x80, pg 0x3B 0x84, pg 0x3B 0x88, pg 0x3B 0x8C]))
      ∧ (h.chal = none ∨ b.rtcSec < h.chalUntil → idle .challengeExpiry)
      ∧ (s.block.testOpen = true → h.testUntil ≤ b.monoSec → Instr.testSessionExpiry.leads s (fun t => t.testOpen = false
          ∧ t.rbit (pg 0x3B 0x0C) 8 = true ∧ b.onlyRaised t [0x3B] [stat]))
      ∧ (s.block.testOpen = false ∨ b.monoSec < h.testUntil → idle .testSessionExpiry)
      ∧ (∀ a, h.unlockAt = some a → h.unlock1 = none → a + 65536 ≤ s.block.absPick → Instr.unlockExpiry.leads s (fun t =>
          t.husk = { h with unlockAt := none } ∧ t.rbit stat 18 = false ∧ ({ s.block with husk := t.husk }).onlyRegs t [stat]))
      ∧ (∀ a f, h.unlockAt = none → h.unlock1 = some (a, f) → exec .unlockExpiry s = .next { s with block := { s.block with
          husk := { h with unlock1 := if a + 1024 < s.block.absPick then none else some (a, f) } } })
      ∧ Instr.remaskPass.leads s (fun t => t.getN (pg 0x3B 0x64) = (s.block.getN (pg 0x3B 0x64) + 1) % 2 ^ 32
          ∧ t.husk.inverted = (if t.getN (pg 0x3B 0x64) % 64 = 0 then !h.inverted else h.inverted)
          ∧ t.husk.mask = (if s.block.drbgFail then h.mask else (b.draw).1) ∧ t.husk.slots = h.slots)
      ∧ Instr.trngHealthFail.leads s (fun t => t.drbgFail = true ∧ t.rbit (pg 0x3C 0x0C) 1 = true ∧ b.onlyRaised t [0x3C] [pg 0x3C 0x48]))
    ∧ (s.block.hostReady = true →
      let b := s.block.arrive.nextFrame
      let rejected (c : Instr) : Prop := c.leads s (fun t => t.rbit (pg 0x3B 0x0C) 7 = true ∧ b.onlyRaised t [0x3B] [])
      let opened := s.block.unlocked = true ∧ h.trans = none ∧ (s.block.lcState = 1 ∨ s.block.lcState = 2)
      (opened → s.block.lcSteps < 9 → (Instr.lcStep 0x4C43).leads s (fun t => t.husk.trans = some 0 ∧ t.husk.slots = h.slots ∧ ∀ o ∈ t.husk.ops, o.phase ≠ 0))
      ∧ (opened → (Instr.retire 0x4C43).leads s (fun t => t.husk.trans = some 1 ∧ t.husk.slots = h.slots ∧ ∀ o ∈ t.husk.ops, o.phase ≠ 0))
      ∧ (∀ k, k < 65536 → k ≠ 0x4C43 ∨ ¬ opened → (Instr.lcStep k).leads s (fun t => t.rbit (pg 0x3B 0x0C) 7 = true ∧ t.husk.trans = h.trans)
          ∧ (Instr.retire k).leads s (fun t => t.rbit (pg 0x3B 0x0C) 7 = true ∧ t.husk.trans = h.trans))
      ∧ (s.block.drbgFail = false → Instr.challenge.leads s (fun t => t.husk = { h with chal := some (b.drawBytes 16).1, chalUntil := b.rtcSec + 600 }
          ∧ t.rbit stat 20 = true ∧ ∀ i, i < 4 → t.getN (pg 0x3B (0x80 + 4 * i)) = leNat (((b.drawBytes 16).1.drop (4 * i)).take 4)))
      ∧ (s.block.drbgFail = true → rejected .challenge)
      ∧ (s.block.testOpen = true → Instr.testClose.leads s (fun t => t.testOpen = false ∧ t.rbit (pg 0x3B 0x0C) 8 = true
          ∧ b.onlyRaised t [0x3B] [stat]))
      ∧ (s.block.testOpen = false → exec .testClose s = .next { s with block := b })
      ∧ (s.block.lcState = 1 ∨ s.block.lcState = 2 →
        (Instr.unlockWrite 0).leads s (fun t => t.husk = { h with unlock1 := none, unlockAt := none } ∧ t.rbit stat 18 = false
          ∧ ({ b with husk := t.husk }).onlyRegs t [stat])
        ∧ exec (.unlockWrite 0x5A5A0F0F) s = .next { s with block := { b with husk := { h with unlock1 := some (s.block.absPick, b.host.frameNo) } } }
        ∧ (∀ a f, h.unlock1 = some (a, f) → f ≠ b.host.frameNo → s.block.absPick ≤ a + 1024 → (Instr.unlockWrite 0xA5A5F0F0).leads s (fun t =>
            t.husk = { h with unlock1 := none, unlockAt := some s.block.absPick } ∧ t.rbit stat 18 = true
              ∧ ({ b with husk := t.husk }).onlyRegs t [stat]))
        ∧ (h.unlock1 = none → rejected (.unlockWrite 0xA5A5F0F0))
        ∧ (∀ v, v ≠ 0 → v ≠ 0x5A5A0F0F → v ≠ 0xA5A5F0F0 → rejected (.unlockWrite v)))
      ∧ (s.block.lcState ≠ 1 → s.block.lcState ≠ 2 → ∀ v, rejected (.unlockWrite v))
      ∧ (Instr.drbgRestart true).leads s (fun t => t.fld (pg 0x3C 0x48) 7 6 = 1 ∧ s.block.arrive.onlyRegs t [pg 0x3C 0x48])
      ∧ (Instr.drbgRestart false).leads s (fun t => t.drbgFail = true ∧ t.rbit (pg 0x3C 0x0C) 1 = true))

/-- Power states: failure, HOLD entry, save and its end, VIN and VBAK; VREG, VSTORE, the charger, the write permit, and the RUN and LEAN commands (R516, R517, R518, R519, R520, R521, R522, R523, R524, R525, R526, R536). -/
def Obligations.PowerRows : Prop :=
  ∀ s : State,
    let p := s.block.pwr
    let b := s.block.arrive
    let stat := pg 1 0x50
    (p.failed = none → s.block.powered = true → p.st ≠ .hold →
      (p.st ≠ .starting ∨ p.totalsLoaded = true → Instr.powerFailDeclared.leads s (fun t => t.pwr = { p with failed := some 1 }
        ∧ t.rbit stat 12 = false ∧ ({ b with pwr := t.pwr }).onlyRegs t [stat]))
      ∧ (p.st = .starting → p.totalsLoaded = false → Instr.powerFailDeclared.leads s (fun t =>
          t.pwr.st = (if s.block.rbit stat 18 then .vault else .off) ∧ (s.block.rbit stat 18 = true → t.getN (pg 1 0x54) = 0x105) ∧ t.feram = s.block.feram)))
    ∧ (∀ k, p.failed = some k → p.st = .run ∨ p.st = .lean ∨ p.st = .starting → Instr.holdEntry.leads s (fun t => t.pwr.st = .hold
        ∧ t.pwr.holdAbs = s.block.absPick ∧ t.pwr.pendLean = none ∧ t.pwr.resetWait = none ∧ t.pwr.charging = false
        ∧ t.getR (pg 1 0x54) = BitVec.ofNat 32 (k * 256 + 2) ∧ t.get64 (pg 1 0x58) = s.block.rtcNow
        ∧ t.fld (pg 1 0x64) 15 0 = min 65535 (s.block.fld (pg 1 0x64) 15 0 + 1)
        ∧ (∀ e g, 4 ≤ e → e < 16 → t.engines[e]? = some g → g.queue = [])))
    ∧ (p.failed = none ∨ p.st = .hold ∨ s.block.powered = false → exec .holdEntry s = .next s)
    ∧ (p.st = .hold → p.saving = false → p.holdAbs + s.block.fld (pg 1 0x40) 23 16 ≤ s.block.absPick → Instr.savePick.leads s (fun t =>
        t.pwr.saving = true ∧ t.pwr.saveClk = t.monoNow ∧ (t.recs.queue.filter (fun c => c.save && c.id == 0x32)).length ≤ 1
          ∧ (t.recs.queue.filter (fun c => c.save && c.id == 0x20)).length ≤ 1))
    ∧ (p.st ≠ .hold ∨ p.saving = true ∨ s.block.absPick < p.holdAbs + s.block.fld (pg 1 0x40) 23 16 → exec .savePick s = .next s)
    ∧ (p.st = .hold → p.saving = true → s.block.recs.queue = [] ∨ p.saveRefused = true →
        (∀ vbak, (Instr.saveFinished true vbak).leads s (fun t => t.pwr = Power.starting (if p.resetWait.isSome then 2 else 1) p.vaultLost
          ∧ t.feram = s.block.feram ∧ (p.saveRefused = false → t.fld (pg 1 0x54) 3 0 = 1)))
        ∧ (Instr.saveFinished false true).leads s (fun t => t.pwr.st = .vault ∧ t.feram = s.block.feram
          ∧ (p.saveRefused = false → t.fld (pg 1 0x54) 3 0 = 1))
        ∧ (Instr.saveFinished false false).leads s (fun t => t.pwr.st = .off ∧ t.feram = s.block.feram ∧ t.pwr.vaultLost = true))
    ∧ (p.st = .hold → s.block.recs.queue ≠ [] → p.saveRefused = false → ∀ vin vbak, exec (.saveFinished vin vbak) s = .next { s with block := b })
    ∧ (∀ n, (p.st = .off ∨ p.st = .vault → (Instr.vinGood n).leads s (fun t => t.pwr = Power.starting 0 p.vaultLost ∧ t.feram = s.block.feram
          ∧ t.husk = Husk.reset s.block.husk.fuses ∧ t.led = Ledger.reset ∧ t.tamp = s.block.tamp
          ∧ (p.st = .vault → t.time.rtcClk = s.block.time.rtcClk + n * rtcStep + s.block.time.clk)))
        ∧ (s.block.powered = true → exec (.vinGood n) s = .next s))
    ∧ (p.st = .vault → Instr.vbakLoss.leads s (fun t => t.pwr.st = .off ∧ t.pwr.vaultLost = true ∧ t.time.rtcClk = 0 ∧ t.tamp = Tamp.reset
        ∧ t.rbit stat 18 = false ∧ t.feram = s.block.feram ∧ ∀ a ∈ vaultRegs, a ≠ pg 0x38 0x40 → t.getR a = 0))
    ∧ (p.st = .off → exec .vbakLoss s = .next s)
    ∧ (s.block.powered = true → exec .vbakLoss s = .next { s with block := s.block.setB stat 18 false }
        ∧ exec .vbakRestored s = .next { s with block := s.block.setB stat 18 true })
    ∧ (p.st = .off → exec .vbakRestored s = .next { s with block := ({ s.block with pwr := { p with st := .vault } }).setB stat 18 true })
    ∧ (s.block.powered = true →
      (∀ low, (p.vbakLow ≠ low → (Instr.vbakLow low).leads s (fun t => t.pwr = { p with vbakLow := low } ∧ t.rbit stat 19 = low
            ∧ t.rbit (pg 1 0x0C) 4 = true ∧ ({ b with pwr := t.pwr }).onlyRaised t [1] [stat]))
          ∧ (p.vbakLow = low → exec (.vbakLow low) s = .next { s with block := b }))
      ∧ (p.vregOver = false → (Instr.vregOverload true).leads s (fun t => t.pwr = { p with vregOver := true } ∧ t.rbit (pg 1 0x0C) 7 = true
          ∧ ({ b with pwr := t.pwr }).onlyRaised t [1] []))
      ∧ (p.vregOver = true → exec (.vregOverload true) s = .next { s with block := b })
      ∧ exec (.vregOverload false) s = .next { s with block := { b with pwr := { p with vregOver := false } } }
      ∧ Instr.vstoreFull.leads s (fun t => t.rbit stat 17 = true ∧ t.pwr = { p with charging := false }
          ∧ (p.charging = true → t.arbFind 1 = none ∧ t.fld stat 28 24 = 0))
      ∧ Instr.vstoreRecharge.leads s (fun t => t.rbit stat 17 = false
          ∧ (p.st = .run ∨ p.st = .lean → p.ready = true → s.block.rbit (pg 1 0x48) 31 = true → t.pwr.charging = true
            ∧ (s.block.arbFind 1 = none → t.arb.reqs = s.block.arb.reqs ++ [⟨1, 3, 5 * s.block.fld (pg 1 0x48) 4 0, true, s.block.arb.nextAge, 0, 0, 0, 0⟩])))
      ∧ (p.charging = true → p.chargeLate = false → 600 ≤ b.chargeTime → s.block.rbit stat 16 = false → Instr.chargeTimeout.leads s (fun t =>
          t.pwr = { p with chargeLate := true } ∧ t.rbit (pg 1 0x0C) 8 = true ∧ ({ b with pwr := t.pwr }).onlyRaised t [1] []))
      ∧ (p.charging = false ∨ p.chargeLate = true ∨ b.chargeTime < 600 ∨ s.block.rbit stat 16 = true → exec .chargeTimeout s = .next { s with block := b })
      ∧ (∀ vstore vin, (Instr.permitChange vstore vin).leads s (fun t => t.rbit stat 16 = vstore ∧ t.pwr.vinAbove = vin ∧ t.rbit stat 14 = t.permit
          ∧ (p.st = .run ∨ p.st = .lean → t.pwr.permitLost = (!t.permit) ∧ (t.pwr.permitLost ≠ p.permitLost → t.rbit (pg 1 0x0C) 3 = true))
          ∧ ({ b with pwr := t.pwr }).onlyRaised t [1] [stat])))
    ∧ (s.block.hostReady = true →
      let asks (c : Instr) (lean : Bool) : Prop :=
        (p.st = .run ∨ p.st = .lean → (p.st == .lean) ≠ lean ∨ p.pendLean.isSome = true → c.leads s (fun t => t.pwr = { p with pendLean := some lean }
          ∧ t.rbit stat 9 = true ∧ ({ b.nextFrame with pwr := t.pwr }).onlyRegs t [stat]))
        ∧ (p.st = .starting ∨ ((p.st == .lean) = lean ∧ p.pendLean = none) → c.leads s (fun t => t.rbit (pg 1 0x0C) 5 = true ∧ b.nextFrame.onlyRaised t [1] []))
      asks .lean true ∧ asks .run false)

/-- Start: reset released, PLL locked, Husk loaded and READY lead from step 1 to RUN; RESET_N acts at once or after a started commit (R392, R491, R524, R592, R593, R596). -/
def Obligations.StartRows : Prop :=
  ∀ s : State, s.block.powered = true →
    let p := s.block.pwr
    let b := s.block.arrive
    (p.st ≠ .hold → s.block.recs.queue.any (fun c => c.started) = false → Instr.resetN.leads s (fun t => t.pwr = Power.starting 2 p.vaultLost
      ∧ t.feram = s.block.feram ∧ t.husk = Husk.reset s.block.husk.fuses ∧ t.tamp = s.block.tamp
      ∧ t.time.rtcClk = s.block.time.rtcClk + b.time.clk ∧ (p.st = .run ∨ p.st = .lean → t.getN (pg 1 0x54) = 4)
      ∧ (∀ a ∈ vaultRegs, a ≠ pg 1 0x54 → t.getR a = s.block.getR a)))
    ∧ (p.st = .hold ∨ s.block.recs.queue.any (fun c => c.started) = true → exec .resetN s = .next { s with block := { b with pwr := { p with resetWait := some 2 } } })
    ∧ (∀ hsel ha0 test vbak, (p.st = .starting → p.startStep = 1 → (Instr.resetRelease hsel ha0 test vbak).leads s (fun t =>
          t.pwr = { p with startStep := 4 } ∧ t.getN (pg 0x3E 0x40) = (if hsel then b2n ha0 * 65536 + (0x5A + b2n ha0) * 256 + 1 else 0)
            ∧ t.fld (pg 0 0x50) 31 28 = p.startCause % 16 ∧ t.rbit (pg 0x3F 0x44) 9 = test ∧ t.rbit (pg 1 0x50) 18 = vbak
            ∧ t.rbit (pg 0x3F 0x44) 8 = (test && decide (s.block.lcSteps = 0)) ∧ (∀ q ∈ pagesAtRelease, t.pageState q = psRun)))
        ∧ (p.st = .hold → exec (.resetRelease hsel ha0 test vbak) s = .next { s with block := { b with pwr := { p with resetWait := none } } })
        ∧ (p.st ≠ .hold → p.st ≠ .starting ∨ p.startStep ≠ 1 → exec (.resetRelease hsel ha0 test vbak) s = .next { s with block := b }))
    ∧ (∀ n, (p.st = .starting → p.startStep = 4 → let u := s.block.pllStart n
          exec (.pllLocked n) s = .next { s with block := (u.pqStrobe.pickWords []).1.wbStartAll.enginesPick }
          ∧ u.pwr.st = .starting ∧ u.pwr.startStep = 5 ∧ u.time.cycle = 0 ∧ u.time.pick = 0 ∧ u.time.clk = 0
          ∧ u.time.rtcClk = s.block.time.rtcClk + s.block.time.clk + n * rtcStep ∧ (∀ q ∈ pagesAtWarp, u.pageState q = psRun)
          ∧ u.feram = s.block.feram)
        ∧ (p.st ≠ .starting ∨ p.startStep ≠ 4 → exec (.pllLocked n) s = .next s))
    ∧ (p.st = .starting → p.startStep = 7 → Instr.huskLoaded.leads s (fun t => t.pwr.startStep = 8 ∧ ∀ q ∈ pagesAtHusk, t.pageState q = psRun))
    ∧ (p.st ≠ .starting ∨ p.startStep ≠ 7 → exec .huskLoaded s = .next { s with block := b })
    ∧ (p.st = .starting → p.startStep = 8 → p.failed = none → let u := b.readyRun
        exec .ready s = .next { s with block := u.showPwr.standAll.showDisp }
        ∧ u.pwr.st = .run ∧ u.pwr.startStep = 0 ∧ u.pwr.ready = true ∧ u.pwr.deferred = [] ∧ u.showPwr.fld (pg 1 0x50) 2 0 = 1
        ∧ ∀ q, q < 64 → u.pageState q ≠ psStarting)
    ∧ (p.st ≠ .starting ∨ p.startStep ≠ 8 ∨ p.failed.isSome = true → exec .ready s = .next { s with block := b })

/-- Device reset, scrub passes, FIRST_CODE, the started self-tests, fuse blows, STEP_VENDOR and PT_DATA act as R557 to R571 say (R524, R557, R558, R559, R561, R563, R564, R566, R570, R571). -/
def Obligations.SystemAndTestRows : Prop :=
  ∀ s : State,
    let f := s.block.faults
    let a := s.block.arrive
    let b := a.nextFrame
    let stat := pg 0x3F 0x44
    let now := a.time.mono + a.time.clk
    let scrubs (x : Block) (c : Instr) : Prop := c.leads s (fun t => t.faults = { f with scrub := some now, lastScrub := now / sysHz }
      ∧ t.rbit (pg 0 0x50) 2 = true ∧ ({ x with faults := t.faults }).onlyRegs t [pg 0 0x50])
    let shows (t : Block) (res cmd target : Nat) : Prop := t.fld stat 31 28 = res ∧ t.fld stat 27 24 = cmd ∧ t.fld stat 23 16 = target
    let rejected (c : Instr) (p d : Nat) : Prop := c.leads s (fun t => t.rbit (pg p 0x0C) d = true ∧ b.onlyRaised t [p] [])
    (s.block.hostReady = true →
      (s.block.recs.queue.any (fun c => c.started) = false → (Instr.deviceReset 0x5359).leads s (fun t =>
        t.pwr = Power.starting 3 s.block.pwr.vaultLost ∧ t.feram = s.block.feram ∧ t.husk = Husk.reset s.block.husk.fuses
          ∧ (s.block.pwr.st = .run ∨ s.block.pwr.st = .lean → t.getN (pg 1 0x54) = 4)))
      ∧ (s.block.recs.queue.any (fun c => c.started) = true → exec (.deviceReset 0x5359) s
          = .next { s with block := { b with pwr := { s.block.pwr with resetWait := some 3 } } })
      ∧ (s.block.pwr.resetWait = none → ∀ k, k < 65536 → k ≠ 0x5359 → rejected (.deviceReset k) 0 6)
      ∧ (s.block.scrubRuns = true → f.scrub = none → scrubs b .scrubNow)
      ∧ (s.block.scrubRuns = false ∨ f.scrub.isSome = true → exec .scrubNow s = .next { s with block := b })
      ∧ (∀ v : Word, (v.bits 15 0 = 0xFFFF → (Instr.firstCodeClear v).leads s (fun t => t.getR (pg 0 0x54) = 0 ∧ t.get64 (pg 0 0x58) = 0
            ∧ b.onlyRegs t [pg 0 0x54, pg 0 0x58, pg 0 0x5C]))
          ∧ (v.bits 15 0 ≠ 0xFFFF → exec (.firstCodeClear v) s = .next { s with block := b }))
      ∧ (∀ k, k < 256 → s.block.testBusy = true ∨ k = 0 ∨ 3 < k → rejected (.testBist k) 0x3F 2)
      ∧ (s.block.testBusy = false → s.block.pageState 0x3C = psFault → (Instr.testBist 1).leads s (fun t => shows t 3 1 1 ∧ b.onlyRegs t [stat]))
      ∧ (s.block.testBusy = false → s.block.rbit (pg 0x39 0x44) 0 = false → (Instr.testBist 2).leads s (fun t => shows t 3 1 2 ∧ b.onlyRegs t [stat]))
      ∧ (∀ k r, s.block.testBusy = false → 1 ≤ k → k ≤ 3 → (k = 1 → s.block.pageState 0x3C ≠ psFault) → (k = 2 → s.block.rbit (pg 0x39 0x44) 0 = true) →
          (b.arbAsk 0x3F 3 10).arbFind 0x3F = some r →
          (r.outcome ≠ 3 → (Instr.testBist k).leads s (fun t => t.faults.test = some k ∧ t.getR (pg 0x3F 0x48) = 0 ∧ shows t 0 1 k ∧ t.rbit stat 0 = true))
          ∧ (r.outcome = 3 → (Instr.testBist k).leads s (fun t => t.faults.test = none ∧ shows t 3 1 k)))
      ∧ (∀ k, k < 256 →
          (s.block.testBusy = false → s.block.prodTest = true → 1 ≤ k → k ≤ 4 → s.block.rbit (pg 0x3F 0x60) (k - 1) = false →
            (Instr.fuseBlow k).leads s (fun t => t.faults = { f with blowing := some k } ∧ shows t 0 2 k ∧ t.rbit stat 0 = true
              ∧ ({ b with faults := t.faults }).onlyRegs t [stat]))
          ∧ (s.block.testBusy = true ∨ s.block.prodTest = false ∨ k = 0 ∨ 4 < k → rejected (.fuseBlow k) 0x3F 2))
      ∧ (s.block.testBusy = false → s.block.prodTest = true → s.block.fld (pg 0x3F 0x60) 3 0 = 15 → f.blowFail = [] → s.block.husk.trans = none →
          Instr.stepVendor.leads s (fun t => t.fuse 40 = s.block.fuse 40 ||| s.block.fuseCrc
            ∧ ((b.blow 40 b.fuseCrc).fuseVerify.2 = 0 → t.husk.trans = some 0 ∧ shows t 1 3 0)
            ∧ ((b.blow 40 b.fuseCrc).fuseVerify.2 ≠ 0 → t.husk.trans = none ∧ shows t 2 3 0)))
      ∧ (s.block.testBusy = true ∨ s.block.prodTest = false ∨ f.blowFail ≠ [] → rejected .stepVendor 0x3F 2)
      ∧ (let k := s.block.fld (pg 0x3F 0x54) 6 0
        (Instr.ptDataAccess none).leads s (fun t => t.getN (pg 0x3F 0x54) = (k + 1) % 128 ∧ a.onlyRegs t [pg 0x3F 0x54])
        ∧ (∀ v, (s.block.prodTest = true → (Instr.ptDataAccess (some v)).leads s (fun t => t.getN (pg 0x3F 0x54) = (k + 1) % 128
              ∧ t.faults = { f with staged := Sparse.put k v f.staged } ∧ ({ b with faults := t.faults }).onlyRegs t [pg 0x3F 0x54, pg 3 0x44, pg 6 0x58]))
            ∧ (s.block.prodTest = false → (Instr.ptDataAccess (some v)).leads s (fun t => t.getN (pg 0x3F 0x54) = (k + 1) % 128
              ∧ t.rbit (pg 0x3F 0x0C) 2 = true ∧ b.onlyRaised t [0x3F] [pg 0x3F 0x54])))))
    ∧ (s.block.unitsUp = true →
      let due := f.scrub = none ∧ s.block.scrubRuns = true ∧ s.block.rbit (pg 0 0x68) 16 = true ∧ f.lastScrub + s.block.fld (pg 0 0x68) 7 0 ≤ now / sysHz
      (due → scrubs a .scrubPassStart) ∧ (¬ due → exec .scrubPassStart s = .next { s with block := a })
      ∧ (∀ l, f.scrub.isSome = true → (Instr.scrubPassEnd l).leads s (fun t => t.faults = { f with scrub := none } ∧ t.rbit (pg 0 0x50) 2 = false
          ∧ t.fld (pg 0 0x70) 15 0 = min 65535 (s.block.fld (pg 0 0x70) 15 0 + (l.filter (fun x => x.1 = 0)).length)
          ∧ t.fld (pg 0 0x70) 31 16 = min 65535 (s.block.fld (pg 0 0x70) 31 16 + (l.filter (fun x => x.1 ≠ 0)).length)
          ∧ t.fld (pg 0 0x6C) 31 16 = (s.block.fld (pg 0 0x6C) 31 16 + 1) % 65536))
      ∧ (∀ l, f.scrub = none → exec (.scrubPassEnd l) s = .next { s with block := a })
      ∧ (∀ k r fails, f.test = some k → 1 ≤ k → k ≤ 3 → s.block.arbFind 0x3F = some r →
          let parts := if k = 1 then fails % 32 else if k = 2 then min 0xFFFF a.feramBad else a.fuseVerify.2
          let ok := decide (parts = 0) && (k != 1 || Config.katSignature == s.block.fuse 33)
          (r.outcome = 1 → (Instr.testBistComplete fails).leads s (fun t => t.faults = { f with test := none } ∧ t.arbFind 0x3F = none
            ∧ t.rbit (pg 0x3F 0x48) 31 = true ∧ t.rbit (pg 0x3F 0x48) 30 = ok ∧ t.fld (pg 0x3F 0x48) 15 0 = parts ∧ shows t (if ok then 1 else 2) 1 k
            ∧ t.rbit (pg 0x3F 0x0C) 1 = true))
          ∧ (r.outcome = 3 → (Instr.testBistComplete fails).leads s (fun t => t.faults = { f with test := none } ∧ shows t 3 1 k))
          ∧ (r.outcome ≠ 1 → r.outcome ≠ 3 → exec (.testBistComplete fails) s = .next { s with block := a }))
      ∧ (∀ fails, f.test = none → exec (.testBistComplete fails) s = .next { s with block := a }))
    ∧ (s.block.powered = true →
      (∀ k, f.blowing = some k → 1 ≤ k → k ≤ 4 →
        (Instr.fuseBlowComplete true).leads s (fun t => t.faults = { f with blowing := none } ∧ t.rbit (pg 0x3F 0x60) (k - 1) = true
          ∧ shows t 1 2 k ∧ t.rbit (pg 0x3F 0x0C) 4 = true
          ∧ (∀ i, i < (fuseRegion k).2 → t.fuse ((fuseRegion k).1 + i) = s.block.fuse ((fuseRegion k).1 + i) ||| Sparse.get 0 ((fuseRegion k).1 + i) f.staged))
        ∧ (Instr.fuseBlowComplete false).leads s (fun t => t.faults = { f with blowing := none, blowFail := k :: f.blowFail }
          ∧ t.rbit (pg 0x3F 0x60) (k - 1) = true ∧ shows t 2 2 k ∧ t.rbit (pg 0x3F 0x0C) 4 = true))
      ∧ (f.blowing = none → ∀ ok, exec (.fuseBlowComplete ok) s = .next { s with block := a }))

/-- FAULT_CODE counts raises and keeps the first code and its stamp until 0xFFFF clears them; reading the stamp's low word captures its high word (R404). -/
def Obligations.RaiseKeepsFirstCode : Prop :=
  ∀ (s : State) (p : Nat), p < 64 →
    (∀ d arg, 1 ≤ d → d < 32 →
      let b := s.block
      let t := b.raise p d arg
      let code := pg p 0x18
      (p ≠ 0x2D → t.fld code 23 16 = min 255 (b.fld code 23 16 + 1)) ∧ min 255 (b.fld code 23 16 + 1) ≤ t.fld code 23 16
      ∧ t.fld code 31 24 = b.fld code 31 24
      ∧ (b.fld code 15 0 = 0 → t.fld code 15 0 = p * 0x100 + d ∧ t.getR (pg p 0x1C) = BitVec.ofNat 32 b.stampNow
          ∧ t.getR (pg p 0x20) = BitVec.ofNat 32 (b.stampNow / 2 ^ 32))
      ∧ (b.fld code 15 0 ≠ 0 → t.fld code 15 0 = b.fld code 15 0 ∧ t.getR (pg p 0x1C) = b.getR (pg p 0x1C)
          ∧ t.getR (pg p 0x20) = b.getR (pg p 0x20)))
    ∧ (s.block.hostReady = true → ∀ v : Word,
      (v.bits 15 0 = 0xFFFF → (Instr.faultCodeClear p v).leads s (fun t => t.getR (pg p 0x18) = 0 ∧ t.getR (pg p 0x1C) = 0 ∧ t.getR (pg p 0x20) = 0))
      ∧ (v.bits 15 0 ≠ 0xFFFF → (Instr.faultCodeClear p v).leads s (fun t => ∀ o, t.getR (pg p o) = s.block.getR (pg p o))))
    ∧ State.reset.block.getR (pg p 0x18) = 0 ∧ State.reset.block.getR (pg p 0x1C) = 0 ∧ State.reset.block.getR (pg p 0x20) = 0
    ∧ ((∀ x ∈ s.block.frozen, x.1 ≠ pg p 0x20) → (s.block.hostRead (pg p 0x1C)).2.hiWord (pg p 0x20) = s.block.getR (pg p 0x20))

/-- A read of a _LO word captures its _HI word; a frame that reads _HI returns the word of the last _LO read of that pair (R628). -/
def Obligations.HighWordCapture : Prop :=
  ∀ (s : State) (p o : Nat), p < 64 → 0x1C ≤ o → o + 4 < 0x400 → o % 4 = 0 → isLo p o = true → isLo p (o - 4) = false →
    let b := s.block.arrive
    let shown (k : Nat) : Word := match b.frozen.find? (fun x => x.1 = pg p k) with
      | some x => x.2
      | none => b.regView p k
    (∀ f : Frame, s.block.hostReady = true → f.cmd = 3 → f.count = 1 → frameCrcOk f false = true →
      (f.addr.toNat = pg p o → (Instr.read f false).leads s (fun t => t.hiWord (pg p (o + 4)) = shown (o + 4)
        ∧ t.host.reply = replyBytes 0 [shown o]))
      ∧ (f.addr.toNat = pg p (o + 4) → (Instr.read f false).leads s (fun t => t.host.reply = replyBytes 0 [s.block.hiWord (pg p (o + 4))]
        ∧ t.hiWord (pg p (o + 4)) = s.block.hiWord (pg p (o + 4)))))
    ∧ (∀ x, x ≠ pg p o → (s.block.hostRead x).2.hiWord (pg p (o + 4)) = s.block.hiWord (pg p (o + 4)))

/-- Selvedge link: markers, polls, answers, absent nodes, DATA, remote reads, latch requests, fallback and discarded frames (R575, R576, R577, R578, R579, R580, R581, R582, R583, R584). -/
def Obligations.JoinLinkRows : Prop :=
  ∀ s : State, s.block.unitsUp = true →
    let b := s.block.arrive
    let j := s.block.join
    let stat := pg 0x3D 0x50
    let linked := s.block.joinStat 0 = true
    let idle (c : Instr) : Prop := exec c s = .next { s with block := b }
    let counted (t : Block) : Prop := t.getN (pg 0x3D 0x68) = (s.block.getN (pg 0x3D 0x68) + 1) % 2 ^ 32
    let runs := s.block.pageState 0x3D = psRun ∧ s.block.rbit (pg 0x3D 0x40) 31 = true ∧ s.block.granted 0x3D = true
    (∀ m : MarkerIn, (linked → s.block.leading = false →
        let d := s.block.getN (pg 0x3D 0x54)
        let r : Rat := (m.ofs : Rat) - (if d = 0xFFFFFFFF then 0 else (d : Rat) / 16)
        let good := d ≠ 0xFFFFFFFF ∧ 1 ≤ m.state ∧ m.state ≤ 3
        (Instr.markerReceived m).leads s (fun t => counted t ∧ t.getN (pg 0x3D 0x58) = unsignedOf 32 (roundAny (r * 1000000000 / (sysHz : Nat)))
          ∧ (t.rbit stat 2 = true ↔ good) ∧ (¬ good → t.join.meas = j.meas)
          ∧ (m.announce % 32 ≠ 0 → s.block.warp.srcActive = 5 → good ∨ s.block.joinStat 5 = false →
              t.warp.joinLatch = some (reasonOr (m.announce % 32) (2 ^ rsJoin)) ∧ t.join.leadRtc = some m.rtc)
          ∧ (good → t.join.meas = some (-r / pickClk s.block.warp.freq, (m.freq : Rat) / 10000) ∧ t.rbit stat 5 = false)))
      ∧ (¬ linked ∨ s.block.leading = true → idle (.markerReceived m)))
    ∧ (s.block.leading = true → s.block.joinSends = true → j.owed = [] → s.block.nextOut = none → s.block.pageState 0x3D = psRun →
        b.pollFits = true → j.polled = none → ∀ n, s.block.pollOrder.find? (fun n => !(s.block.joinNode n).absent
            || decide ((s.block.joinNode n).lastPoll + 65536 ≤ s.block.absPick)) = some n →
        Instr.poll.leads s (fun t => t.join.polled = some (n, false) ∧ t.join.next = n + 1 ∧ (t.joinNode n).lastPoll = s.block.absPick
          ∧ t.join.tx = frame n s.block.nodeId 2 0 (leBytes 4 (s.block.joinNode n).delay ++ leBytes 4 0)))
    ∧ (s.block.leading = false ∨ s.block.joinSends = false → idle .poll)
    ∧ (∀ dst delay, (linked → s.block.leading = false → dst % 1024 ≠ s.block.nodeId → exec (.pollReceived dst delay) s = .next { s with block := b.heard })
        ∧ (linked → s.block.leading = false → dst % 1024 = s.block.nodeId → delay < 2 ^ 32 → runs → (Instr.pollReceived dst delay).leads s (fun t =>
            counted t ∧ t.getN (pg 0x3D 0x54) = delay ∧ t.rbit stat 4 = decide (delay ≠ 0xFFFFFFFF)
            ∧ (j.req = none → j.owed = [] → s.block.nextOut = none → t.join.tx = frame 0 s.block.nodeId 4 0 [] ∧ t.join.out = j.out)
            ∧ (∀ x, j.req = some (x, none) → t.join.tx = frame 0 s.block.nodeId 7 0 [] ∧ t.join.req = some (x, some s.block.absPick))))
        ∧ (¬ linked ∨ s.block.leading = true → idle (.pollReceived dst delay)))
    ∧ (∀ src rt, (s.block.leading = true → j.polled = some (src, false) → (Instr.pollAnswer src rt .empty).leads s (fun t => counted t
          ∧ t.join.polled = some (src, true) ∧ (t.joinNode src).present = true ∧ (t.joinNode src).misses = 0 ∧ (t.joinNode src).absent = false
          ∧ ((s.block.joinNode src).present = false → t.rbit (pg 0x3D 0x0C) 6 = true)))
        ∧ (s.block.leading = true → (∀ x, j.polled = some (src, x) → x = true) → (Instr.pollAnswer src rt .empty).leads s (fun t => counted t
          ∧ t.join = j ∧ t.rbit (pg 0x3D 0x0C) 5 = true))
        ∧ (∀ ans, s.block.leading = false → idle (.pollAnswer src rt ans)))
    ∧ (∀ x, s.block.leading = true → j.polled = none → j.nodes.find? (fun x => decide (3 ≤ x.misses) && !x.absent) = some x →
        Instr.nodeAbsent.leads s (fun t => (t.joinNode x.id).present = false ∧ (t.joinNode x.id).absent = true
          ∧ t.fld (pg 0x3D 0x74) 15 0 = min 65535 (s.block.fld (pg 0x3D 0x74) 15 0 + 1) ∧ (x.present = true → t.rbit (pg 0x3D 0x0C) 6 = true)))
    ∧ (s.block.leading = false → idle .nodeAbsent)
    ∧ (∀ src dst fseq l, (linked → s.block.forMe dst = true → l.length ≤ 1024 → (Instr.data src dst fseq l).leads s (fun t => counted t
          ∧ t.join = { j with sources := Sparse.put src fseq j.sources } ∧ ({ b with join := t.join }).onlyRaised t [] [pg 0x3D 0x68]))
        ∧ (linked → s.block.forMe dst = false ∨ 1024 < l.length → exec (.data src dst fseq l) s = .next { s with block := b.heard })
        ∧ (¬ linked → idle (.data src dst fseq l)))
    ∧ (∀ src dst first n tag, (linked → s.block.forMe dst = true →
          let k : Join := { j with owed := j.owed ++ [(src, b.heard.readTotals first n tag)] }
          (s.block.leading = false ∨ s.block.joinSends = false → exec (.lreadFrame src dst first n tag) s = .next { s with block := { b.heard with join := k } })
          ∧ (s.block.leading = true → s.block.joinSends = true → exec (.lreadFrame src dst first n tag) s
              = .next { s with block := (b.heard.sendFrame src 6 (b.heard.readTotals first n tag)) }))
        ∧ (¬ linked → idle (.lreadFrame src dst first n tag)))
    ∧ (∀ dst l, (linked → s.block.forMe dst = true → l.length ≤ 1024 → (Instr.lreply dst l).leads s (fun t => counted t
          ∧ t.join = { j with reads := j.reads.filter (fun r => r.1 ≠ leNat (l.take 4)) } ∧ ({ b with join := t.join }).onlyRaised t [] [pg 0x3D 0x68]))
        ∧ (¬ linked → idle (.lreply dst l)))
    ∧ (∀ r, j.reads.find? (fun r => decide (r.2 + 4096 ≤ s.block.absPick)) = some r → Instr.lreadTimeout.leads s (fun t =>
        t.join = { j with reads := j.reads.filter (fun x => x ≠ r) } ∧ t.rbit (pg 0x3D 0x0C) 7 = true
          ∧ ({ s.block with join := t.join }).onlyRaised t [0x3D] []))
    ∧ ((∀ r ∈ j.reads, s.block.absPick < r.2 + 4096) → exec .lreadTimeout s = .next s)
    ∧ (s.block.leading = true → exec (.latchReq false) s = .next { s with block := { b.heard with warp := { s.block.warp with cmdLatch := true } } }
        ∧ (Instr.latchReq true).leads s (fun t => t.warp.cmdLatch = true ∧ t.led.pendSheaf.isSome = true))
    ∧ (s.block.leading = false → ∀ x, idle (.latchReq x))
    ∧ (64 ≤ j.loose → s.block.joinStat 5 = false → linked → s.block.leading = false → Instr.joinFallback.leads s (fun t => t.joinStat 5 = true
        ∧ t.rbit (pg 0x3D 0x0C) 10 = true ∧ s.block.onlyRaised t [0x3D] [stat]))
    ∧ (j.loose < 64 ∨ s.block.joinStat 5 = true ∨ ¬ linked ∨ s.block.leading = true → exec .joinFallback s = .next s)
    ∧ (∀ x, (linked → (Instr.frameDiscarded x).leads s (fun t => t.join = j
          ∧ t.fld (pg 0x3D 0x6C) 15 0 = (if x then min 65535 (s.block.fld (pg 0x3D 0x6C) 15 0 + 1) else s.block.fld (pg 0x3D 0x6C) 15 0)
          ∧ t.episodes.contains 0x6000002 = true ∧ (s.block.episodes.contains 0x6000002 = false → t.rbit (pg 0x3D 0x0C) 2 = true)))
        ∧ (¬ linked → idle (.frameDiscarded x)))

/-- Selvedge for the host: RING15 entries are taken in order and queued, stored or answered BAD_PARAM; EXPORT, IMPORT and IMPORT_DISCARD (R414, R583, R585, R586, R589). -/
def Obligations.JoinHostRows : Prop :=
  ∀ s : State,
    let j := s.block.join
    (s.block.unitsUp = true → s.block.joinTakes = true → ∀ e : TailEntry, s.block.tailEntry 15 = some e → e.len ≠ 0 → e.bytes ≠ [] →
      s.block.ringAborts 15 = false → e.seq = (s.block.ringMeta 15).expect →
      let u := (s.block.arrive.tailTake 15 e.len).expectAfter 15 e.seq
      let f (i n : Nat) : Nat := leNat ((e.bytes.drop i).take n)
      let now (bad : Bool) : Option Nat := if bad then some 2 else if s.block.joinStat 0 then none else some 4
      let takes (c : Instr) (x : Block) (o : JoinOut) : Prop := exec c s = .next { s with block := (x.joinAdd o).joinSkim 256 }
      (e.type = 0x0F01 →
        let dst := if f 18 1 % 2 = 1 then 32768 else f 16 2
        takes .send u ⟨e.seq, now (f 20 2 = 0 || 1024 < f 20 2 || e.len < 32 + f 20 2 || (f 18 1 % 2 = 0 && 1023 < f 16 2)), 3, dst,
          (e.bytes.drop 32).take (f 20 2)⟩)
      ∧ (e.type = 0x0F02 → takes .lread u ⟨e.seq, now (e.len < 32 || f 20 2 = 0 || 120 < f 20 2 || 1023 < f 16 2), 5, f 16 2,
          leBytes 2 (f 18 2) ++ leBytes 2 (f 20 2) ++ leBytes 4 e.seq⟩)
      ∧ (e.type = 0x0F03 →
        let bad := f 24 2 = 0 ∨ 1024 < f 24 2 ∨ e.len < 32 + f 24 2 ∨ f 20 4 < f 16 4 + f 24 2 ∨ 80 + 1024 * 24 + 64 < f 20 4
          ∨ (j.chunks ≠ [] ∧ j.total ≠ f 20 4)
        let k : Join := { j with chunks := Sparse.put (f 16 4) ((e.bytes.drop 32).take (f 24 2)) j.chunks, total := f 20 4 }
        (bad → takes .importChunk u ⟨e.seq, some 2, 0, 0, []⟩) ∧ (¬ bad → takes .importChunk { u with join := k } ⟨e.seq, some 1, 0, 0, []⟩))
      ∧ (s.block.ringUsed 15 = e.len → j.out = [] → ∀ x o, takes x u o → o.status = none → x.leads s (fun t => t.join = { j with out := [o] } ∧ t.ringUsed 15 = 0)))
    ∧ (s.block.hostReady = true →
      let b := s.block.arrive.nextFrame
      let rejected (c : Instr) : Prop := c.leads s (fun t => t.rbit (pg 0x3D 0x0C) 4 = true ∧ b.onlyRaised t [0x3D] [])
      (s.block.pageState 0x3D = psRun →
        exec .joinExport s = .next { s with block := { b with join := { j with wantExport := true } } }
        ∧ exec .importDiscard s = .next { s with block := { b with join := { j with chunks := [], total := 0 } } }
        ∧ (∀ k, k < 64 → s.block.importBytes = none → (Instr.joinImport k).leads s (fun t => t.fld (pg 0x3D 0x50) 31 28 = 2
            ∧ t.rbit (pg 0x3D 0x0C) 8 = true ∧ b.onlyRaised t [0x3D] [pg 0x3D 0x50]))
        ∧ (∀ k m, k < 64 → s.block.importBytes = some m →
          let n := leNat ((m.drop 6).take 2)
          let items := (List.range n).map (fun i => (m.drop (80 + 24 * i)).take 24)
          let word (x : List Byte) (i : Nat) : Word := BitVec.ofNat 32 (leNat ((x.drop i).take 4))
          m.length = 80 + 24 * n + 64 → m.take 4 = [0x4C#8, 0x59#8, 0x58#8, 0x50#8] → leNat ((m.drop 4).take 1) = 1 →
          s.block.lcState = 2 ∨ s.block.lcState = 3 → s.block.keyBad k [5] 7 false = 0 →
          ecdsaVerify (s.block.slot k).key (sha256 (m.take (80 + 24 * n))) (m.drop (80 + 24 * n)) = true →
          (m.drop 16).take 16 ≠ s.block.deviceId → leNat ((m.drop 14).take 2) = s.block.nodeId →
          (∀ x ∈ items, leNat (x.take 2) ≤ 1023 ∧ (s.block.defW (leNat (x.take 2)) 0).bit 31 = true
            ∧ s.block.defW (leNat (x.take 2)) 0 = word x 4 ∧ s.block.defW (leNat (x.take 2)) 1 = word x 8) →
          (∀ i ∈ s.block.ledOn, s.block.total i = 0) → s.block.joinStat 7 = false →
          let due : JoinImport :=
            ⟨items.map (fun x => (leNat (x.take 2), leNat ((x.drop 16).take 8))), (m.drop 16).take 16, leNat ((m.drop 8).take 6), sha256 m⟩
          exec (.joinImport k) s = .next { s with block := { b with join := { j with imp := some due } } }))
      ∧ (s.block.pageState 0x3D ≠ psRun → rejected .joinExport ∧ rejected .importDiscard ∧ ∀ k, k < 64 → rejected (.joinImport k)))
end

