-- ==== Sys2Proof/Laws/Engines.lean ====
section
/-! SUPPORT. What the engine pool guarantees (R161): where a working region can be found. -/

namespace Sys2Proof.Machine

/-- The staging buffer stands in the pool. -/
theorem poolLow_le_stagingBase : poolLow ≤ stagingBase := by
  unfold stagingBase
  split
  · rename_i h; simp only [regionFits, Bool.and_eq_true, decide_eq_true_eq] at h; omega
  · omega

/-- Where no other engine holds a region, one of half the pool or less is found, wherever the staging buffer stands. -/
theorem Block.regionFor_isSome (s : Block) (e len : Nat) (hl : len ≤ 0x38000)
    (free : (((List.range 16).filter (fun k => k ≠ e)).map (fun k => (s.getN (pg (mePage k) 0x8C), s.getN (pg (mePage k) 0x90)))).filter
      (fun r => r.2 ≠ 0) = []) : (s.regionFor e len).isSome = true := by
  have low := poolLow_le_stagingBase
  unfold Block.regionFor
  dsimp only
  rw [free, List.find?_isSome]
  have fits (b : Nat) (h1 : poolLow ≤ b) (h2 : b + len ≤ poolEnd)
      (h3 : b + len ≤ stagingBase ∨ stagingBase + stagingLen ≤ b) : regionFits [(stagingBase, stagingLen)] len b = true := by
    unfold regionFits
    rw [decide_eq_true h1, decide_eq_true h2]
    simpa using h3
  have hp : poolLow = 0x180000 := rfl
  have he : poolEnd = 0x200000 := rfl
  have hs : stagingLen = 0x10000 := rfl
  by_cases h : poolLow + len ≤ stagingBase
  · exact ⟨poolLow, by simp, fits _ (Nat.le_refl _) (by omega) (Or.inl h)⟩
  · exact ⟨stagingBase + stagingLen, by simp, fits _ (by omega) (by omega) (Or.inr (Nat.le_refl _))⟩

end Sys2Proof.Machine
end

