-- ==== Sys2Proof/Laws/Sparse.lean ====
section
/-! SUPPORT. Laws of sparse tables and of the two byte memories: a read after a write, a write elsewhere, and the canonical form. -/

namespace Sys2Proof

variable {α : Type}

@[simp] theorem Sparse.get_nil (d : α) (k : Nat) : Sparse.get d k [] = d := rfl

theorem Sparse.get_cons (d : α) (k : Nat) (p : Nat × α) (t : List (Nat × α)) :
    Sparse.get d k (p :: t) = if p.1 = k then p.2 else Sparse.get d k t := rfl

@[simp] theorem Sparse.get_put_same (d v : α) (k : Nat) (l : List (Nat × α)) : Sparse.get d k (Sparse.put k v l) = v := by
  induction l with
  | nil => simp [Sparse.put, Sparse.get_cons]
  | cons p t ih =>
    obtain ⟨a, w⟩ := p
    simp only [Sparse.put]
    split
    · simp [Sparse.get_cons]
    · split
      · simp [Sparse.get_cons]
      · next h => simp only [Sparse.get_cons, ih]; rw [if_neg (fun e => h e.symm)]

theorem Sparse.get_put_ne (d v : α) {j k : Nat} (h : j ≠ k) (l : List (Nat × α)) :
    Sparse.get d j (Sparse.put k v l) = Sparse.get d j l := by
  induction l with
  | nil => simp [Sparse.put, Sparse.get_cons, Ne.symm h]
  | cons p t ih =>
    obtain ⟨a, w⟩ := p
    simp only [Sparse.put]
    split
    · simp [Sparse.get_cons, Ne.symm h]
    · split
      · next e => subst e; simp [Sparse.get_cons, Ne.symm h]
      · simp [Sparse.get_cons, ih]

@[simp] theorem Sparse.get_del_same (d : α) (k : Nat) (l : List (Nat × α)) : Sparse.get d k (Sparse.del k l) = d := by
  induction l with
  | nil => rfl
  | cons p t ih =>
    simp only [Sparse.del, List.filter_cons] at *
    split
    · next h => simp only [Sparse.get_cons, ih]; simp at h; rw [if_neg h]
    · exact ih

theorem Sparse.get_del_ne (d : α) {j k : Nat} (h : j ≠ k) (l : List (Nat × α)) :
    Sparse.get d j (Sparse.del k l) = Sparse.get d j l := by
  induction l with
  | nil => rfl
  | cons p t ih =>
    simp only [Sparse.del, List.filter_cons] at *
    split
    · simp only [Sparse.get_cons, ih]
    · next e => simp at e; simp only [Sparse.get_cons, ih, e]; rw [if_neg (Ne.symm h)]

@[simp] theorem Sparse.get_set_same [DecidableEq α] (d v : α) (k : Nat) (l : List (Nat × α)) :
    Sparse.get d k (Sparse.set d k v l) = v := by
  unfold Sparse.set
  split
  · next h => simp [h]
  · simp

theorem Sparse.get_set_ne [DecidableEq α] (d e v : α) {j k : Nat} (h : j ≠ k) (l : List (Nat × α)) :
    Sparse.get d j (Sparse.set e k v l) = Sparse.get d j l := by
  unfold Sparse.set
  split
  · exact Sparse.get_del_ne d h l
  · exact Sparse.get_put_ne d v h l

/-! ### The canonical form -/

/-- All keys of a table lie above a bound. -/
def Sparse.above (k : Nat) (l : List (Nat × α)) : Prop := ∀ p ∈ l, k < p.1

theorem Sparse.rising_cons (a : Nat) (v : α) (t : List (Nat × α)) :
    Sparse.rising ((a, v) :: t) = true ↔ Sparse.above a t ∧ Sparse.rising t = true := by
  induction t generalizing a v with
  | nil => simp [Sparse.rising, Sparse.above]
  | cons p t ih =>
    obtain ⟨b, w⟩ := p
    rw [show Sparse.rising ((a, v) :: (b, w) :: t) = (decide (a < b) && Sparse.rising ((b, w) :: t)) from rfl]
    rw [Bool.and_eq_true, decide_eq_true_eq]
    constructor
    · rintro ⟨h, r⟩
      refine ⟨?_, r⟩
      intro q hq
      rcases List.mem_cons.1 hq with e | hq
      · rw [e]; exact h
      · exact Nat.lt_trans h (((ih b w).1 r).1 q hq)
    · rintro ⟨h, r⟩
      exact ⟨h (b, w) (List.mem_cons_self ..), r⟩

theorem Sparse.mem_put {k : Nat} {v : α} {l : List (Nat × α)} {p : Nat × α} (h : p ∈ Sparse.put k v l) : p = (k, v) ∨ p ∈ l := by
  induction l with
  | nil => simpa [Sparse.put] using h
  | cons q t ih =>
    obtain ⟨a, w⟩ := q
    simp only [Sparse.put] at h
    split at h
    · simpa using h
    · split at h
      · rcases List.mem_cons.1 h with h | h
        · exact .inl h
        · exact .inr (List.mem_cons_of_mem _ h)
      · rcases List.mem_cons.1 h with h | h
        · exact .inr (by rw [h]; exact List.mem_cons_self ..)
        · rcases ih h with h | h
          · exact .inl h
          · exact .inr (List.mem_cons_of_mem _ h)

theorem Sparse.rising_put (k : Nat) (v : α) {l : List (Nat × α)} (h : Sparse.rising l = true) :
    Sparse.rising (Sparse.put k v l) = true := by
  induction l with
  | nil => rfl
  | cons q t ih =>
    obtain ⟨a, w⟩ := q
    have ht := (Sparse.rising_cons a w t).1 h
    simp only [Sparse.put]
    split
    · next hk =>
      refine (Sparse.rising_cons _ _ _).2 ⟨?_, h⟩
      intro p hp
      rcases List.mem_cons.1 hp with e | hp
      · rw [e]; exact hk
      · exact Nat.lt_trans hk (ht.1 p hp)
    · split
      · next hk => subst hk; exact (Sparse.rising_cons _ _ _).2 ht
      · refine (Sparse.rising_cons _ _ _).2 ⟨?_, ih ht.2⟩
        intro p hp
        rcases Sparse.mem_put hp with e | hp
        · rw [e]; show a < k; omega
        · exact ht.1 p hp

theorem Sparse.rising_del (k : Nat) {l : List (Nat × α)} (h : Sparse.rising l = true) : Sparse.rising (Sparse.del k l) = true := by
  induction l with
  | nil => rfl
  | cons q t ih =>
    obtain ⟨a, w⟩ := q
    have ht := (Sparse.rising_cons a w t).1 h
    simp only [Sparse.del, List.filter_cons] at *
    split
    · refine (Sparse.rising_cons _ _ _).2 ⟨?_, ih ht.2⟩
      intro p hp
      exact ht.1 p (List.mem_filter.1 hp).1
    · exact ih ht.2

/-- A write keeps the canonical form. -/
theorem Sparse.wf_set [DecidableEq α] (d : Nat → α) (k : Nat) (v : α) {l : List (Nat × α)} (h : Sparse.wf d l = true) :
    Sparse.wf d (Sparse.set (d k) k v l) = true := by
  unfold Sparse.wf at *
  rw [Bool.and_eq_true, List.all_eq_true] at *
  unfold Sparse.set
  split
  · refine ⟨Sparse.rising_del k h.1, ?_⟩
    intro p hp
    exact h.2 p (List.mem_filter.1 hp).1
  · next hv =>
    refine ⟨Sparse.rising_put k v h.1, ?_⟩
    intro p hp
    rcases Sparse.mem_put hp with e | hp
    · rw [e]; simpa using hv
    · exact h.2 p hp

namespace Machine

/-! ### The byte memories -/

/-- Writing bytes keeps the canonical form. -/
theorem memWrite_wf (l : List Byte) (m : List Host.Cell) (a : Nat) (h : Memory.wf m = true) : Memory.wf (memWrite m a l) = true := by
  induction l generalizing m a with
  | nil => exact h
  | cons b t ih => exact ih _ _ (Sparse.wf_set (fun _ => unlisted) a b h)

/-- Bytes outside a write stay. -/
theorem memWrite_get_out (l : List Byte) (m : List Host.Cell) (a x : Nat) (h : x < a ∨ a + l.length ≤ x) :
    Sparse.get unlisted x (memWrite m a l) = Sparse.get unlisted x m := by
  induction l generalizing m a with
  | nil => rfl
  | cons b t ih =>
    simp only [List.length_cons] at h
    show Sparse.get unlisted x (memWrite (Sparse.set unlisted a b m) (a + 1) t) = _
    rw [ih _ _ (by omega)]
    exact Sparse.get_set_ne unlisted unlisted b (by omega) m

/-- A byte written is read. -/
theorem memWrite_get_in (l : List Byte) (m : List Host.Cell) (a i : Nat) (h : i < l.length) :
    Sparse.get unlisted (a + i) (memWrite m a l) = l[i] := by
  induction l generalizing m a i with
  | nil => exact absurd h (Nat.not_lt_zero _)
  | cons b t ih =>
    show Sparse.get unlisted (a + i) (memWrite (Sparse.set unlisted a b m) (a + 1) t) = _
    cases i with
    | zero =>
      rw [Nat.add_zero, memWrite_get_out t _ _ _ (.inl (by omega))]
      simp
    | succ i =>
      rw [show a + (i + 1) = a + 1 + i by omega, ih _ _ _ (by simpa using h)]
      simp

theorem Block.sramPut_wf (s : Block) (a : Nat) (l : List Byte) (h : Memory.wf s.sram = true) : Memory.wf (s.sramPut a l).sram = true :=
  memWrite_wf l s.sram a h

theorem Block.feramPut_wf (s : Block) (a : Nat) (l : List Byte) (h : Memory.wf s.feram = true) : Memory.wf (s.feramPut a l).feram = true :=
  memWrite_wf l s.feram a h

/-- A register write keeps the register file's canonical form. -/
theorem Block.setR_wf (s : Block) (a : Nat) (v : Word) (h : Sparse.wf regReset s.regs = true) :
    Sparse.wf regReset (s.setR a v).regs = true := Sparse.wf_set regReset a v h

end Machine

end Sys2Proof
end

