-- ==== Sys2Proof/Laws/State.lean ====
section
/-! SUPPORT. What each named update of the block leaves in each field: one lemma per field per update, all true by unfolding, so that no
proof unfolds a record update. -/

namespace Sys2Proof.Machine

variable (s : Block)

@[simp] theorem Block.setR_freeCnt (a : Nat) (v : Word) : (s.setR a v).freeCnt = s.freeCnt := rfl
@[simp] theorem Block.setR_shadow (a : Nat) (v : Word) : (s.setR a v).shadow = s.shadow := rfl
@[simp] theorem Block.setR_frozen (a : Nat) (v : Word) : (s.setR a v).frozen = s.frozen := rfl
@[simp] theorem Block.setR_freezeEnd (a : Nat) (v : Word) : (s.setR a v).freezeEnd = s.freezeEnd := rfl
@[simp] theorem Block.setR_hiCap (a : Nat) (v : Word) : (s.setR a v).hiCap = s.hiCap := rfl
@[simp] theorem Block.setR_episodes (a : Nat) (v : Word) : (s.setR a v).episodes = s.episodes := rfl
@[simp] theorem Block.setR_sram (a : Nat) (v : Word) : (s.setR a v).sram = s.sram := rfl
@[simp] theorem Block.setR_feram (a : Nat) (v : Word) : (s.setR a v).feram = s.feram := rfl
@[simp] theorem Block.setR_time (a : Nat) (v : Word) : (s.setR a v).time = s.time := rfl
@[simp] theorem Block.setR_warp (a : Nat) (v : Word) : (s.setR a v).warp = s.warp := rfl
@[simp] theorem Block.setR_mods (a : Nat) (v : Word) : (s.setR a v).mods = s.mods := rfl
@[simp] theorem Block.setR_slots (a : Nat) (v : Word) : (s.setR a v).slots = s.slots := rfl
@[simp] theorem Block.setR_hist (a : Nat) (v : Word) : (s.setR a v).hist = s.hist := rfl
@[simp] theorem Block.setR_rings (a : Nat) (v : Word) : (s.setR a v).rings = s.rings := rfl
@[simp] theorem Block.setR_spare (a : Nat) (v : Word) : (s.setR a v).spare = s.spare := rfl
@[simp] theorem Block.setR_flt (a : Nat) (v : Word) : (s.setR a v).flt = s.flt := rfl
@[simp] theorem Block.setR_wb (a : Nat) (v : Word) : (s.setR a v).wb = s.wb := rfl
@[simp] theorem Block.setR_pwr (a : Nat) (v : Word) : (s.setR a v).pwr = s.pwr := rfl
@[simp] theorem Block.setR_arb (a : Nat) (v : Word) : (s.setR a v).arb = s.arb := rfl
@[simp] theorem Block.setR_recs (a : Nat) (v : Word) : (s.setR a v).recs = s.recs := rfl
@[simp] theorem Block.setR_engines (a : Nat) (v : Word) : (s.setR a v).engines = s.engines := rfl
@[simp] theorem Block.setR_eng (a : Nat) (v : Word) : (s.setR a v).eng = s.eng := rfl
@[simp] theorem Block.setR_aux (a : Nat) (v : Word) : (s.setR a v).aux = s.aux := rfl
@[simp] theorem Block.setR_feed (a : Nat) (v : Word) : (s.setR a v).feed = s.feed := rfl
@[simp] theorem Block.setR_posts (a : Nat) (v : Word) : (s.setR a v).posts = s.posts := rfl
@[simp] theorem Block.setR_therm (a : Nat) (v : Word) : (s.setR a v).therm = s.therm := rfl
@[simp] theorem Block.setR_stor (a : Nat) (v : Word) : (s.setR a v).stor = s.stor := rfl
@[simp] theorem Block.setR_husk (a : Nat) (v : Word) : (s.setR a v).husk = s.husk := rfl
@[simp] theorem Block.setR_tar (a : Nat) (v : Word) : (s.setR a v).tar = s.tar := rfl
@[simp] theorem Block.setR_dem (a : Nat) (v : Word) : (s.setR a v).dem = s.dem := rfl
@[simp] theorem Block.setR_led (a : Nat) (v : Word) : (s.setR a v).led = s.led := rfl
@[simp] theorem Block.setR_pq (a : Nat) (v : Word) : (s.setR a v).pq = s.pq := rfl
@[simp] theorem Block.setR_pout (a : Nat) (v : Word) : (s.setR a v).pout = s.pout := rfl
@[simp] theorem Block.setR_disp (a : Nat) (v : Word) : (s.setR a v).disp = s.disp := rfl
@[simp] theorem Block.setR_tamp (a : Nat) (v : Word) : (s.setR a v).tamp = s.tamp := rfl
@[simp] theorem Block.setR_faults (a : Nat) (v : Word) : (s.setR a v).faults = s.faults := rfl
@[simp] theorem Block.setR_join (a : Nat) (v : Word) : (s.setR a v).join = s.join := rfl
@[simp] theorem Block.setR_mc (a : Nat) (v : Word) : (s.setR a v).mc = s.mc := rfl
@[simp] theorem Block.setR_host (a : Nat) (v : Word) : (s.setR a v).host = s.host := rfl

@[simp] theorem Block.setF_freeCnt (a hi lo v : Nat) : (s.setF a hi lo v).freeCnt = s.freeCnt := rfl
@[simp] theorem Block.setF_shadow (a hi lo v : Nat) : (s.setF a hi lo v).shadow = s.shadow := rfl
@[simp] theorem Block.setF_frozen (a hi lo v : Nat) : (s.setF a hi lo v).frozen = s.frozen := rfl
@[simp] theorem Block.setF_freezeEnd (a hi lo v : Nat) : (s.setF a hi lo v).freezeEnd = s.freezeEnd := rfl
@[simp] theorem Block.setF_hiCap (a hi lo v : Nat) : (s.setF a hi lo v).hiCap = s.hiCap := rfl
@[simp] theorem Block.setF_episodes (a hi lo v : Nat) : (s.setF a hi lo v).episodes = s.episodes := rfl
@[simp] theorem Block.setF_sram (a hi lo v : Nat) : (s.setF a hi lo v).sram = s.sram := rfl
@[simp] theorem Block.setF_feram (a hi lo v : Nat) : (s.setF a hi lo v).feram = s.feram := rfl
@[simp] theorem Block.setF_time (a hi lo v : Nat) : (s.setF a hi lo v).time = s.time := rfl
@[simp] theorem Block.setF_warp (a hi lo v : Nat) : (s.setF a hi lo v).warp = s.warp := rfl
@[simp] theorem Block.setF_mods (a hi lo v : Nat) : (s.setF a hi lo v).mods = s.mods := rfl
@[simp] theorem Block.setF_slots (a hi lo v : Nat) : (s.setF a hi lo v).slots = s.slots := rfl
@[simp] theorem Block.setF_hist (a hi lo v : Nat) : (s.setF a hi lo v).hist = s.hist := rfl
@[simp] theorem Block.setF_rings (a hi lo v : Nat) : (s.setF a hi lo v).rings = s.rings := rfl
@[simp] theorem Block.setF_spare (a hi lo v : Nat) : (s.setF a hi lo v).spare = s.spare := rfl
@[simp] theorem Block.setF_flt (a hi lo v : Nat) : (s.setF a hi lo v).flt = s.flt := rfl
@[simp] theorem Block.setF_wb (a hi lo v : Nat) : (s.setF a hi lo v).wb = s.wb := rfl
@[simp] theorem Block.setF_pwr (a hi lo v : Nat) : (s.setF a hi lo v).pwr = s.pwr := rfl
@[simp] theorem Block.setF_arb (a hi lo v : Nat) : (s.setF a hi lo v).arb = s.arb := rfl
@[simp] theorem Block.setF_recs (a hi lo v : Nat) : (s.setF a hi lo v).recs = s.recs := rfl
@[simp] theorem Block.setF_engines (a hi lo v : Nat) : (s.setF a hi lo v).engines = s.engines := rfl
@[simp] theorem Block.setF_eng (a hi lo v : Nat) : (s.setF a hi lo v).eng = s.eng := rfl
@[simp] theorem Block.setF_aux (a hi lo v : Nat) : (s.setF a hi lo v).aux = s.aux := rfl
@[simp] theorem Block.setF_feed (a hi lo v : Nat) : (s.setF a hi lo v).feed = s.feed := rfl
@[simp] theorem Block.setF_posts (a hi lo v : Nat) : (s.setF a hi lo v).posts = s.posts := rfl
@[simp] theorem Block.setF_therm (a hi lo v : Nat) : (s.setF a hi lo v).therm = s.therm := rfl
@[simp] theorem Block.setF_stor (a hi lo v : Nat) : (s.setF a hi lo v).stor = s.stor := rfl
@[simp] theorem Block.setF_husk (a hi lo v : Nat) : (s.setF a hi lo v).husk = s.husk := rfl
@[simp] theorem Block.setF_tar (a hi lo v : Nat) : (s.setF a hi lo v).tar = s.tar := rfl
@[simp] theorem Block.setF_dem (a hi lo v : Nat) : (s.setF a hi lo v).dem = s.dem := rfl
@[simp] theorem Block.setF_led (a hi lo v : Nat) : (s.setF a hi lo v).led = s.led := rfl
@[simp] theorem Block.setF_pq (a hi lo v : Nat) : (s.setF a hi lo v).pq = s.pq := rfl
@[simp] theorem Block.setF_pout (a hi lo v : Nat) : (s.setF a hi lo v).pout = s.pout := rfl
@[simp] theorem Block.setF_disp (a hi lo v : Nat) : (s.setF a hi lo v).disp = s.disp := rfl
@[simp] theorem Block.setF_tamp (a hi lo v : Nat) : (s.setF a hi lo v).tamp = s.tamp := rfl
@[simp] theorem Block.setF_faults (a hi lo v : Nat) : (s.setF a hi lo v).faults = s.faults := rfl
@[simp] theorem Block.setF_join (a hi lo v : Nat) : (s.setF a hi lo v).join = s.join := rfl
@[simp] theorem Block.setF_mc (a hi lo v : Nat) : (s.setF a hi lo v).mc = s.mc := rfl
@[simp] theorem Block.setF_host (a hi lo v : Nat) : (s.setF a hi lo v).host = s.host := rfl

@[simp] theorem Block.setB_freeCnt (a k : Nat) (v : Bool) : (s.setB a k v).freeCnt = s.freeCnt := rfl
@[simp] theorem Block.setB_shadow (a k : Nat) (v : Bool) : (s.setB a k v).shadow = s.shadow := rfl
@[simp] theorem Block.setB_frozen (a k : Nat) (v : Bool) : (s.setB a k v).frozen = s.frozen := rfl
@[simp] theorem Block.setB_freezeEnd (a k : Nat) (v : Bool) : (s.setB a k v).freezeEnd = s.freezeEnd := rfl
@[simp] theorem Block.setB_hiCap (a k : Nat) (v : Bool) : (s.setB a k v).hiCap = s.hiCap := rfl
@[simp] theorem Block.setB_episodes (a k : Nat) (v : Bool) : (s.setB a k v).episodes = s.episodes := rfl
@[simp] theorem Block.setB_sram (a k : Nat) (v : Bool) : (s.setB a k v).sram = s.sram := rfl
@[simp] theorem Block.setB_feram (a k : Nat) (v : Bool) : (s.setB a k v).feram = s.feram := rfl
@[simp] theorem Block.setB_time (a k : Nat) (v : Bool) : (s.setB a k v).time = s.time := rfl
@[simp] theorem Block.setB_warp (a k : Nat) (v : Bool) : (s.setB a k v).warp = s.warp := rfl
@[simp] theorem Block.setB_mods (a k : Nat) (v : Bool) : (s.setB a k v).mods = s.mods := rfl
@[simp] theorem Block.setB_slots (a k : Nat) (v : Bool) : (s.setB a k v).slots = s.slots := rfl
@[simp] theorem Block.setB_hist (a k : Nat) (v : Bool) : (s.setB a k v).hist = s.hist := rfl
@[simp] theorem Block.setB_rings (a k : Nat) (v : Bool) : (s.setB a k v).rings = s.rings := rfl
@[simp] theorem Block.setB_spare (a k : Nat) (v : Bool) : (s.setB a k v).spare = s.spare := rfl
@[simp] theorem Block.setB_flt (a k : Nat) (v : Bool) : (s.setB a k v).flt = s.flt := rfl
@[simp] theorem Block.setB_wb (a k : Nat) (v : Bool) : (s.setB a k v).wb = s.wb := rfl
@[simp] theorem Block.setB_pwr (a k : Nat) (v : Bool) : (s.setB a k v).pwr = s.pwr := rfl
@[simp] theorem Block.setB_arb (a k : Nat) (v : Bool) : (s.setB a k v).arb = s.arb := rfl
@[simp] theorem Block.setB_recs (a k : Nat) (v : Bool) : (s.setB a k v).recs = s.recs := rfl
@[simp] theorem Block.setB_engines (a k : Nat) (v : Bool) : (s.setB a k v).engines = s.engines := rfl
@[simp] theorem Block.setB_eng (a k : Nat) (v : Bool) : (s.setB a k v).eng = s.eng := rfl
@[simp] theorem Block.setB_aux (a k : Nat) (v : Bool) : (s.setB a k v).aux = s.aux := rfl
@[simp] theorem Block.setB_feed (a k : Nat) (v : Bool) : (s.setB a k v).feed = s.feed := rfl
@[simp] theorem Block.setB_posts (a k : Nat) (v : Bool) : (s.setB a k v).posts = s.posts := rfl
@[simp] theorem Block.setB_therm (a k : Nat) (v : Bool) : (s.setB a k v).therm = s.therm := rfl
@[simp] theorem Block.setB_stor (a k : Nat) (v : Bool) : (s.setB a k v).stor = s.stor := rfl
@[simp] theorem Block.setB_husk (a k : Nat) (v : Bool) : (s.setB a k v).husk = s.husk := rfl
@[simp] theorem Block.setB_tar (a k : Nat) (v : Bool) : (s.setB a k v).tar = s.tar := rfl
@[simp] theorem Block.setB_dem (a k : Nat) (v : Bool) : (s.setB a k v).dem = s.dem := rfl
@[simp] theorem Block.setB_led (a k : Nat) (v : Bool) : (s.setB a k v).led = s.led := rfl
@[simp] theorem Block.setB_pq (a k : Nat) (v : Bool) : (s.setB a k v).pq = s.pq := rfl
@[simp] theorem Block.setB_pout (a k : Nat) (v : Bool) : (s.setB a k v).pout = s.pout := rfl
@[simp] theorem Block.setB_disp (a k : Nat) (v : Bool) : (s.setB a k v).disp = s.disp := rfl
@[simp] theorem Block.setB_tamp (a k : Nat) (v : Bool) : (s.setB a k v).tamp = s.tamp := rfl
@[simp] theorem Block.setB_faults (a k : Nat) (v : Bool) : (s.setB a k v).faults = s.faults := rfl
@[simp] theorem Block.setB_join (a k : Nat) (v : Bool) : (s.setB a k v).join = s.join := rfl
@[simp] theorem Block.setB_mc (a k : Nat) (v : Bool) : (s.setB a k v).mc = s.mc := rfl
@[simp] theorem Block.setB_host (a k : Nat) (v : Bool) : (s.setB a k v).host = s.host := rfl

@[simp] theorem Block.setN_freeCnt (a v : Nat) : (s.setN a v).freeCnt = s.freeCnt := rfl
@[simp] theorem Block.setN_shadow (a v : Nat) : (s.setN a v).shadow = s.shadow := rfl
@[simp] theorem Block.setN_frozen (a v : Nat) : (s.setN a v).frozen = s.frozen := rfl
@[simp] theorem Block.setN_freezeEnd (a v : Nat) : (s.setN a v).freezeEnd = s.freezeEnd := rfl
@[simp] theorem Block.setN_hiCap (a v : Nat) : (s.setN a v).hiCap = s.hiCap := rfl
@[simp] theorem Block.setN_episodes (a v : Nat) : (s.setN a v).episodes = s.episodes := rfl
@[simp] theorem Block.setN_sram (a v : Nat) : (s.setN a v).sram = s.sram := rfl
@[simp] theorem Block.setN_feram (a v : Nat) : (s.setN a v).feram = s.feram := rfl
@[simp] theorem Block.setN_time (a v : Nat) : (s.setN a v).time = s.time := rfl
@[simp] theorem Block.setN_warp (a v : Nat) : (s.setN a v).warp = s.warp := rfl
@[simp] theorem Block.setN_mods (a v : Nat) : (s.setN a v).mods = s.mods := rfl
@[simp] theorem Block.setN_slots (a v : Nat) : (s.setN a v).slots = s.slots := rfl
@[simp] theorem Block.setN_hist (a v : Nat) : (s.setN a v).hist = s.hist := rfl
@[simp] theorem Block.setN_rings (a v : Nat) : (s.setN a v).rings = s.rings := rfl
@[simp] theorem Block.setN_spare (a v : Nat) : (s.setN a v).spare = s.spare := rfl
@[simp] theorem Block.setN_flt (a v : Nat) : (s.setN a v).flt = s.flt := rfl
@[simp] theorem Block.setN_wb (a v : Nat) : (s.setN a v).wb = s.wb := rfl
@[simp] theorem Block.setN_pwr (a v : Nat) : (s.setN a v).pwr = s.pwr := rfl
@[simp] theorem Block.setN_arb (a v : Nat) : (s.setN a v).arb = s.arb := rfl
@[simp] theorem Block.setN_recs (a v : Nat) : (s.setN a v).recs = s.recs := rfl
@[simp] theorem Block.setN_engines (a v : Nat) : (s.setN a v).engines = s.engines := rfl
@[simp] theorem Block.setN_eng (a v : Nat) : (s.setN a v).eng = s.eng := rfl
@[simp] theorem Block.setN_aux (a v : Nat) : (s.setN a v).aux = s.aux := rfl
@[simp] theorem Block.setN_feed (a v : Nat) : (s.setN a v).feed = s.feed := rfl
@[simp] theorem Block.setN_posts (a v : Nat) : (s.setN a v).posts = s.posts := rfl
@[simp] theorem Block.setN_therm (a v : Nat) : (s.setN a v).therm = s.therm := rfl
@[simp] theorem Block.setN_stor (a v : Nat) : (s.setN a v).stor = s.stor := rfl
@[simp] theorem Block.setN_husk (a v : Nat) : (s.setN a v).husk = s.husk := rfl
@[simp] theorem Block.setN_tar (a v : Nat) : (s.setN a v).tar = s.tar := rfl
@[simp] theorem Block.setN_dem (a v : Nat) : (s.setN a v).dem = s.dem := rfl
@[simp] theorem Block.setN_led (a v : Nat) : (s.setN a v).led = s.led := rfl
@[simp] theorem Block.setN_pq (a v : Nat) : (s.setN a v).pq = s.pq := rfl
@[simp] theorem Block.setN_pout (a v : Nat) : (s.setN a v).pout = s.pout := rfl
@[simp] theorem Block.setN_disp (a v : Nat) : (s.setN a v).disp = s.disp := rfl
@[simp] theorem Block.setN_tamp (a v : Nat) : (s.setN a v).tamp = s.tamp := rfl
@[simp] theorem Block.setN_faults (a v : Nat) : (s.setN a v).faults = s.faults := rfl
@[simp] theorem Block.setN_join (a v : Nat) : (s.setN a v).join = s.join := rfl
@[simp] theorem Block.setN_mc (a v : Nat) : (s.setN a v).mc = s.mc := rfl
@[simp] theorem Block.setN_host (a v : Nat) : (s.setN a v).host = s.host := rfl

@[simp] theorem Block.bump_freeCnt (a hi lo n : Nat) : (s.bump a hi lo n).freeCnt = s.freeCnt := rfl
@[simp] theorem Block.bump_shadow (a hi lo n : Nat) : (s.bump a hi lo n).shadow = s.shadow := rfl
@[simp] theorem Block.bump_frozen (a hi lo n : Nat) : (s.bump a hi lo n).frozen = s.frozen := rfl
@[simp] theorem Block.bump_freezeEnd (a hi lo n : Nat) : (s.bump a hi lo n).freezeEnd = s.freezeEnd := rfl
@[simp] theorem Block.bump_hiCap (a hi lo n : Nat) : (s.bump a hi lo n).hiCap = s.hiCap := rfl
@[simp] theorem Block.bump_episodes (a hi lo n : Nat) : (s.bump a hi lo n).episodes = s.episodes := rfl
@[simp] theorem Block.bump_sram (a hi lo n : Nat) : (s.bump a hi lo n).sram = s.sram := rfl
@[simp] theorem Block.bump_feram (a hi lo n : Nat) : (s.bump a hi lo n).feram = s.feram := rfl
@[simp] theorem Block.bump_time (a hi lo n : Nat) : (s.bump a hi lo n).time = s.time := rfl
@[simp] theorem Block.bump_warp (a hi lo n : Nat) : (s.bump a hi lo n).warp = s.warp := rfl
@[simp] theorem Block.bump_mods (a hi lo n : Nat) : (s.bump a hi lo n).mods = s.mods := rfl
@[simp] theorem Block.bump_slots (a hi lo n : Nat) : (s.bump a hi lo n).slots = s.slots := rfl
@[simp] theorem Block.bump_hist (a hi lo n : Nat) : (s.bump a hi lo n).hist = s.hist := rfl
@[simp] theorem Block.bump_rings (a hi lo n : Nat) : (s.bump a hi lo n).rings = s.rings := rfl
@[simp] theorem Block.bump_spare (a hi lo n : Nat) : (s.bump a hi lo n).spare = s.spare := rfl
@[simp] theorem Block.bump_flt (a hi lo n : Nat) : (s.bump a hi lo n).flt = s.flt := rfl
@[simp] theorem Block.bump_wb (a hi lo n : Nat) : (s.bump a hi lo n).wb = s.wb := rfl
@[simp] theorem Block.bump_pwr (a hi lo n : Nat) : (s.bump a hi lo n).pwr = s.pwr := rfl
@[simp] theorem Block.bump_arb (a hi lo n : Nat) : (s.bump a hi lo n).arb = s.arb := rfl
@[simp] theorem Block.bump_recs (a hi lo n : Nat) : (s.bump a hi lo n).recs = s.recs := rfl
@[simp] theorem Block.bump_engines (a hi lo n : Nat) : (s.bump a hi lo n).engines = s.engines := rfl
@[simp] theorem Block.bump_eng (a hi lo n : Nat) : (s.bump a hi lo n).eng = s.eng := rfl
@[simp] theorem Block.bump_aux (a hi lo n : Nat) : (s.bump a hi lo n).aux = s.aux := rfl
@[simp] theorem Block.bump_feed (a hi lo n : Nat) : (s.bump a hi lo n).feed = s.feed := rfl
@[simp] theorem Block.bump_posts (a hi lo n : Nat) : (s.bump a hi lo n).posts = s.posts := rfl
@[simp] theorem Block.bump_therm (a hi lo n : Nat) : (s.bump a hi lo n).therm = s.therm := rfl
@[simp] theorem Block.bump_stor (a hi lo n : Nat) : (s.bump a hi lo n).stor = s.stor := rfl
@[simp] theorem Block.bump_husk (a hi lo n : Nat) : (s.bump a hi lo n).husk = s.husk := rfl
@[simp] theorem Block.bump_tar (a hi lo n : Nat) : (s.bump a hi lo n).tar = s.tar := rfl
@[simp] theorem Block.bump_dem (a hi lo n : Nat) : (s.bump a hi lo n).dem = s.dem := rfl
@[simp] theorem Block.bump_led (a hi lo n : Nat) : (s.bump a hi lo n).led = s.led := rfl
@[simp] theorem Block.bump_pq (a hi lo n : Nat) : (s.bump a hi lo n).pq = s.pq := rfl
@[simp] theorem Block.bump_pout (a hi lo n : Nat) : (s.bump a hi lo n).pout = s.pout := rfl
@[simp] theorem Block.bump_disp (a hi lo n : Nat) : (s.bump a hi lo n).disp = s.disp := rfl
@[simp] theorem Block.bump_tamp (a hi lo n : Nat) : (s.bump a hi lo n).tamp = s.tamp := rfl
@[simp] theorem Block.bump_faults (a hi lo n : Nat) : (s.bump a hi lo n).faults = s.faults := rfl
@[simp] theorem Block.bump_join (a hi lo n : Nat) : (s.bump a hi lo n).join = s.join := rfl
@[simp] theorem Block.bump_mc (a hi lo n : Nat) : (s.bump a hi lo n).mc = s.mc := rfl
@[simp] theorem Block.bump_host (a hi lo n : Nat) : (s.bump a hi lo n).host = s.host := rfl

@[simp] theorem Block.wrapAdd_freeCnt (a n : Nat) : (s.wrapAdd a n).freeCnt = s.freeCnt := rfl
@[simp] theorem Block.wrapAdd_shadow (a n : Nat) : (s.wrapAdd a n).shadow = s.shadow := rfl
@[simp] theorem Block.wrapAdd_frozen (a n : Nat) : (s.wrapAdd a n).frozen = s.frozen := rfl
@[simp] theorem Block.wrapAdd_freezeEnd (a n : Nat) : (s.wrapAdd a n).freezeEnd = s.freezeEnd := rfl
@[simp] theorem Block.wrapAdd_hiCap (a n : Nat) : (s.wrapAdd a n).hiCap = s.hiCap := rfl
@[simp] theorem Block.wrapAdd_episodes (a n : Nat) : (s.wrapAdd a n).episodes = s.episodes := rfl
@[simp] theorem Block.wrapAdd_sram (a n : Nat) : (s.wrapAdd a n).sram = s.sram := rfl
@[simp] theorem Block.wrapAdd_feram (a n : Nat) : (s.wrapAdd a n).feram = s.feram := rfl
@[simp] theorem Block.wrapAdd_time (a n : Nat) : (s.wrapAdd a n).time = s.time := rfl
@[simp] theorem Block.wrapAdd_warp (a n : Nat) : (s.wrapAdd a n).warp = s.warp := rfl
@[simp] theorem Block.wrapAdd_mods (a n : Nat) : (s.wrapAdd a n).mods = s.mods := rfl
@[simp] theorem Block.wrapAdd_slots (a n : Nat) : (s.wrapAdd a n).slots = s.slots := rfl
@[simp] theorem Block.wrapAdd_hist (a n : Nat) : (s.wrapAdd a n).hist = s.hist := rfl
@[simp] theorem Block.wrapAdd_rings (a n : Nat) : (s.wrapAdd a n).rings = s.rings := rfl
@[simp] theorem Block.wrapAdd_spare (a n : Nat) : (s.wrapAdd a n).spare = s.spare := rfl
@[simp] theorem Block.wrapAdd_flt (a n : Nat) : (s.wrapAdd a n).flt = s.flt := rfl
@[simp] theorem Block.wrapAdd_wb (a n : Nat) : (s.wrapAdd a n).wb = s.wb := rfl
@[simp] theorem Block.wrapAdd_pwr (a n : Nat) : (s.wrapAdd a n).pwr = s.pwr := rfl
@[simp] theorem Block.wrapAdd_arb (a n : Nat) : (s.wrapAdd a n).arb = s.arb := rfl
@[simp] theorem Block.wrapAdd_recs (a n : Nat) : (s.wrapAdd a n).recs = s.recs := rfl
@[simp] theorem Block.wrapAdd_engines (a n : Nat) : (s.wrapAdd a n).engines = s.engines := rfl
@[simp] theorem Block.wrapAdd_eng (a n : Nat) : (s.wrapAdd a n).eng = s.eng := rfl
@[simp] theorem Block.wrapAdd_aux (a n : Nat) : (s.wrapAdd a n).aux = s.aux := rfl
@[simp] theorem Block.wrapAdd_feed (a n : Nat) : (s.wrapAdd a n).feed = s.feed := rfl
@[simp] theorem Block.wrapAdd_posts (a n : Nat) : (s.wrapAdd a n).posts = s.posts := rfl
@[simp] theorem Block.wrapAdd_therm (a n : Nat) : (s.wrapAdd a n).therm = s.therm := rfl
@[simp] theorem Block.wrapAdd_stor (a n : Nat) : (s.wrapAdd a n).stor = s.stor := rfl
@[simp] theorem Block.wrapAdd_husk (a n : Nat) : (s.wrapAdd a n).husk = s.husk := rfl
@[simp] theorem Block.wrapAdd_tar (a n : Nat) : (s.wrapAdd a n).tar = s.tar := rfl
@[simp] theorem Block.wrapAdd_dem (a n : Nat) : (s.wrapAdd a n).dem = s.dem := rfl
@[simp] theorem Block.wrapAdd_led (a n : Nat) : (s.wrapAdd a n).led = s.led := rfl
@[simp] theorem Block.wrapAdd_pq (a n : Nat) : (s.wrapAdd a n).pq = s.pq := rfl
@[simp] theorem Block.wrapAdd_pout (a n : Nat) : (s.wrapAdd a n).pout = s.pout := rfl
@[simp] theorem Block.wrapAdd_disp (a n : Nat) : (s.wrapAdd a n).disp = s.disp := rfl
@[simp] theorem Block.wrapAdd_tamp (a n : Nat) : (s.wrapAdd a n).tamp = s.tamp := rfl
@[simp] theorem Block.wrapAdd_faults (a n : Nat) : (s.wrapAdd a n).faults = s.faults := rfl
@[simp] theorem Block.wrapAdd_join (a n : Nat) : (s.wrapAdd a n).join = s.join := rfl
@[simp] theorem Block.wrapAdd_mc (a n : Nat) : (s.wrapAdd a n).mc = s.mc := rfl
@[simp] theorem Block.wrapAdd_host (a n : Nat) : (s.wrapAdd a n).host = s.host := rfl

@[simp] theorem Block.set64_freeCnt (a v : Nat) : (s.set64 a v).freeCnt = s.freeCnt := rfl
@[simp] theorem Block.set64_shadow (a v : Nat) : (s.set64 a v).shadow = s.shadow := rfl
@[simp] theorem Block.set64_frozen (a v : Nat) : (s.set64 a v).frozen = s.frozen := rfl
@[simp] theorem Block.set64_freezeEnd (a v : Nat) : (s.set64 a v).freezeEnd = s.freezeEnd := rfl
@[simp] theorem Block.set64_hiCap (a v : Nat) : (s.set64 a v).hiCap = s.hiCap := rfl
@[simp] theorem Block.set64_episodes (a v : Nat) : (s.set64 a v).episodes = s.episodes := rfl
@[simp] theorem Block.set64_sram (a v : Nat) : (s.set64 a v).sram = s.sram := rfl
@[simp] theorem Block.set64_feram (a v : Nat) : (s.set64 a v).feram = s.feram := rfl
@[simp] theorem Block.set64_time (a v : Nat) : (s.set64 a v).time = s.time := rfl
@[simp] theorem Block.set64_warp (a v : Nat) : (s.set64 a v).warp = s.warp := rfl
@[simp] theorem Block.set64_mods (a v : Nat) : (s.set64 a v).mods = s.mods := rfl
@[simp] theorem Block.set64_slots (a v : Nat) : (s.set64 a v).slots = s.slots := rfl
@[simp] theorem Block.set64_hist (a v : Nat) : (s.set64 a v).hist = s.hist := rfl
@[simp] theorem Block.set64_rings (a v : Nat) : (s.set64 a v).rings = s.rings := rfl
@[simp] theorem Block.set64_spare (a v : Nat) : (s.set64 a v).spare = s.spare := rfl
@[simp] theorem Block.set64_flt (a v : Nat) : (s.set64 a v).flt = s.flt := rfl
@[simp] theorem Block.set64_wb (a v : Nat) : (s.set64 a v).wb = s.wb := rfl
@[simp] theorem Block.set64_pwr (a v : Nat) : (s.set64 a v).pwr = s.pwr := rfl
@[simp] theorem Block.set64_arb (a v : Nat) : (s.set64 a v).arb = s.arb := rfl
@[simp] theorem Block.set64_recs (a v : Nat) : (s.set64 a v).recs = s.recs := rfl
@[simp] theorem Block.set64_engines (a v : Nat) : (s.set64 a v).engines = s.engines := rfl
@[simp] theorem Block.set64_eng (a v : Nat) : (s.set64 a v).eng = s.eng := rfl
@[simp] theorem Block.set64_aux (a v : Nat) : (s.set64 a v).aux = s.aux := rfl
@[simp] theorem Block.set64_feed (a v : Nat) : (s.set64 a v).feed = s.feed := rfl
@[simp] theorem Block.set64_posts (a v : Nat) : (s.set64 a v).posts = s.posts := rfl
@[simp] theorem Block.set64_therm (a v : Nat) : (s.set64 a v).therm = s.therm := rfl
@[simp] theorem Block.set64_stor (a v : Nat) : (s.set64 a v).stor = s.stor := rfl
@[simp] theorem Block.set64_husk (a v : Nat) : (s.set64 a v).husk = s.husk := rfl
@[simp] theorem Block.set64_tar (a v : Nat) : (s.set64 a v).tar = s.tar := rfl
@[simp] theorem Block.set64_dem (a v : Nat) : (s.set64 a v).dem = s.dem := rfl
@[simp] theorem Block.set64_led (a v : Nat) : (s.set64 a v).led = s.led := rfl
@[simp] theorem Block.set64_pq (a v : Nat) : (s.set64 a v).pq = s.pq := rfl
@[simp] theorem Block.set64_pout (a v : Nat) : (s.set64 a v).pout = s.pout := rfl
@[simp] theorem Block.set64_disp (a v : Nat) : (s.set64 a v).disp = s.disp := rfl
@[simp] theorem Block.set64_tamp (a v : Nat) : (s.set64 a v).tamp = s.tamp := rfl
@[simp] theorem Block.set64_faults (a v : Nat) : (s.set64 a v).faults = s.faults := rfl
@[simp] theorem Block.set64_join (a v : Nat) : (s.set64 a v).join = s.join := rfl
@[simp] theorem Block.set64_mc (a v : Nat) : (s.set64 a v).mc = s.mc := rfl
@[simp] theorem Block.set64_host (a v : Nat) : (s.set64 a v).host = s.host := rfl

@[simp] theorem Block.bumpGen_freeCnt (p : Nat) : (s.bumpGen p).freeCnt = s.freeCnt := rfl
@[simp] theorem Block.bumpGen_shadow (p : Nat) : (s.bumpGen p).shadow = s.shadow := rfl
@[simp] theorem Block.bumpGen_frozen (p : Nat) : (s.bumpGen p).frozen = s.frozen := rfl
@[simp] theorem Block.bumpGen_freezeEnd (p : Nat) : (s.bumpGen p).freezeEnd = s.freezeEnd := rfl
@[simp] theorem Block.bumpGen_hiCap (p : Nat) : (s.bumpGen p).hiCap = s.hiCap := rfl
@[simp] theorem Block.bumpGen_episodes (p : Nat) : (s.bumpGen p).episodes = s.episodes := rfl
@[simp] theorem Block.bumpGen_sram (p : Nat) : (s.bumpGen p).sram = s.sram := rfl
@[simp] theorem Block.bumpGen_feram (p : Nat) : (s.bumpGen p).feram = s.feram := rfl
@[simp] theorem Block.bumpGen_time (p : Nat) : (s.bumpGen p).time = s.time := rfl
@[simp] theorem Block.bumpGen_warp (p : Nat) : (s.bumpGen p).warp = s.warp := rfl
@[simp] theorem Block.bumpGen_mods (p : Nat) : (s.bumpGen p).mods = s.mods := rfl
@[simp] theorem Block.bumpGen_slots (p : Nat) : (s.bumpGen p).slots = s.slots := rfl
@[simp] theorem Block.bumpGen_hist (p : Nat) : (s.bumpGen p).hist = s.hist := rfl
@[simp] theorem Block.bumpGen_rings (p : Nat) : (s.bumpGen p).rings = s.rings := rfl
@[simp] theorem Block.bumpGen_spare (p : Nat) : (s.bumpGen p).spare = s.spare := rfl
@[simp] theorem Block.bumpGen_flt (p : Nat) : (s.bumpGen p).flt = s.flt := rfl
@[simp] theorem Block.bumpGen_wb (p : Nat) : (s.bumpGen p).wb = s.wb := rfl
@[simp] theorem Block.bumpGen_pwr (p : Nat) : (s.bumpGen p).pwr = s.pwr := rfl
@[simp] theorem Block.bumpGen_arb (p : Nat) : (s.bumpGen p).arb = s.arb := rfl
@[simp] theorem Block.bumpGen_recs (p : Nat) : (s.bumpGen p).recs = s.recs := rfl
@[simp] theorem Block.bumpGen_engines (p : Nat) : (s.bumpGen p).engines = s.engines := rfl
@[simp] theorem Block.bumpGen_eng (p : Nat) : (s.bumpGen p).eng = s.eng := rfl
@[simp] theorem Block.bumpGen_aux (p : Nat) : (s.bumpGen p).aux = s.aux := rfl
@[simp] theorem Block.bumpGen_feed (p : Nat) : (s.bumpGen p).feed = s.feed := rfl
@[simp] theorem Block.bumpGen_posts (p : Nat) : (s.bumpGen p).posts = s.posts := rfl
@[simp] theorem Block.bumpGen_therm (p : Nat) : (s.bumpGen p).therm = s.therm := rfl
@[simp] theorem Block.bumpGen_stor (p : Nat) : (s.bumpGen p).stor = s.stor := rfl
@[simp] theorem Block.bumpGen_husk (p : Nat) : (s.bumpGen p).husk = s.husk := rfl
@[simp] theorem Block.bumpGen_tar (p : Nat) : (s.bumpGen p).tar = s.tar := rfl
@[simp] theorem Block.bumpGen_dem (p : Nat) : (s.bumpGen p).dem = s.dem := rfl
@[simp] theorem Block.bumpGen_led (p : Nat) : (s.bumpGen p).led = s.led := rfl
@[simp] theorem Block.bumpGen_pq (p : Nat) : (s.bumpGen p).pq = s.pq := rfl
@[simp] theorem Block.bumpGen_pout (p : Nat) : (s.bumpGen p).pout = s.pout := rfl
@[simp] theorem Block.bumpGen_disp (p : Nat) : (s.bumpGen p).disp = s.disp := rfl
@[simp] theorem Block.bumpGen_tamp (p : Nat) : (s.bumpGen p).tamp = s.tamp := rfl
@[simp] theorem Block.bumpGen_faults (p : Nat) : (s.bumpGen p).faults = s.faults := rfl
@[simp] theorem Block.bumpGen_join (p : Nat) : (s.bumpGen p).join = s.join := rfl
@[simp] theorem Block.bumpGen_mc (p : Nat) : (s.bumpGen p).mc = s.mc := rfl
@[simp] theorem Block.bumpGen_host (p : Nat) : (s.bumpGen p).host = s.host := rfl

@[simp] theorem Block.setPageState_freeCnt (p v : Nat) : (s.setPageState p v).freeCnt = s.freeCnt := rfl
@[simp] theorem Block.setPageState_shadow (p v : Nat) : (s.setPageState p v).shadow = s.shadow := rfl
@[simp] theorem Block.setPageState_frozen (p v : Nat) : (s.setPageState p v).frozen = s.frozen := rfl
@[simp] theorem Block.setPageState_freezeEnd (p v : Nat) : (s.setPageState p v).freezeEnd = s.freezeEnd := rfl
@[simp] theorem Block.setPageState_hiCap (p v : Nat) : (s.setPageState p v).hiCap = s.hiCap := rfl
@[simp] theorem Block.setPageState_episodes (p v : Nat) : (s.setPageState p v).episodes = s.episodes := rfl
@[simp] theorem Block.setPageState_sram (p v : Nat) : (s.setPageState p v).sram = s.sram := rfl
@[simp] theorem Block.setPageState_feram (p v : Nat) : (s.setPageState p v).feram = s.feram := rfl
@[simp] theorem Block.setPageState_time (p v : Nat) : (s.setPageState p v).time = s.time := rfl
@[simp] theorem Block.setPageState_warp (p v : Nat) : (s.setPageState p v).warp = s.warp := rfl
@[simp] theorem Block.setPageState_mods (p v : Nat) : (s.setPageState p v).mods = s.mods := rfl
@[simp] theorem Block.setPageState_slots (p v : Nat) : (s.setPageState p v).slots = s.slots := rfl
@[simp] theorem Block.setPageState_hist (p v : Nat) : (s.setPageState p v).hist = s.hist := rfl
@[simp] theorem Block.setPageState_rings (p v : Nat) : (s.setPageState p v).rings = s.rings := rfl
@[simp] theorem Block.setPageState_spare (p v : Nat) : (s.setPageState p v).spare = s.spare := rfl
@[simp] theorem Block.setPageState_flt (p v : Nat) : (s.setPageState p v).flt = s.flt := rfl
@[simp] theorem Block.setPageState_wb (p v : Nat) : (s.setPageState p v).wb = s.wb := rfl
@[simp] theorem Block.setPageState_pwr (p v : Nat) : (s.setPageState p v).pwr = s.pwr := rfl
@[simp] theorem Block.setPageState_arb (p v : Nat) : (s.setPageState p v).arb = s.arb := rfl
@[simp] theorem Block.setPageState_recs (p v : Nat) : (s.setPageState p v).recs = s.recs := rfl
@[simp] theorem Block.setPageState_engines (p v : Nat) : (s.setPageState p v).engines = s.engines := rfl
@[simp] theorem Block.setPageState_eng (p v : Nat) : (s.setPageState p v).eng = s.eng := rfl
@[simp] theorem Block.setPageState_aux (p v : Nat) : (s.setPageState p v).aux = s.aux := rfl
@[simp] theorem Block.setPageState_feed (p v : Nat) : (s.setPageState p v).feed = s.feed := rfl
@[simp] theorem Block.setPageState_posts (p v : Nat) : (s.setPageState p v).posts = s.posts := rfl
@[simp] theorem Block.setPageState_therm (p v : Nat) : (s.setPageState p v).therm = s.therm := rfl
@[simp] theorem Block.setPageState_stor (p v : Nat) : (s.setPageState p v).stor = s.stor := rfl
@[simp] theorem Block.setPageState_husk (p v : Nat) : (s.setPageState p v).husk = s.husk := rfl
@[simp] theorem Block.setPageState_tar (p v : Nat) : (s.setPageState p v).tar = s.tar := rfl
@[simp] theorem Block.setPageState_dem (p v : Nat) : (s.setPageState p v).dem = s.dem := rfl
@[simp] theorem Block.setPageState_led (p v : Nat) : (s.setPageState p v).led = s.led := rfl
@[simp] theorem Block.setPageState_pq (p v : Nat) : (s.setPageState p v).pq = s.pq := rfl
@[simp] theorem Block.setPageState_pout (p v : Nat) : (s.setPageState p v).pout = s.pout := rfl
@[simp] theorem Block.setPageState_disp (p v : Nat) : (s.setPageState p v).disp = s.disp := rfl
@[simp] theorem Block.setPageState_tamp (p v : Nat) : (s.setPageState p v).tamp = s.tamp := rfl
@[simp] theorem Block.setPageState_faults (p v : Nat) : (s.setPageState p v).faults = s.faults := rfl
@[simp] theorem Block.setPageState_join (p v : Nat) : (s.setPageState p v).join = s.join := rfl
@[simp] theorem Block.setPageState_mc (p v : Nat) : (s.setPageState p v).mc = s.mc := rfl
@[simp] theorem Block.setPageState_host (p v : Nat) : (s.setPageState p v).host = s.host := rfl

@[simp] theorem Block.sramPut_freeCnt (a : Nat) (l : List Byte) : (s.sramPut a l).freeCnt = s.freeCnt := rfl
@[simp] theorem Block.sramPut_regs (a : Nat) (l : List Byte) : (s.sramPut a l).regs = s.regs := rfl
@[simp] theorem Block.sramPut_shadow (a : Nat) (l : List Byte) : (s.sramPut a l).shadow = s.shadow := rfl
@[simp] theorem Block.sramPut_frozen (a : Nat) (l : List Byte) : (s.sramPut a l).frozen = s.frozen := rfl
@[simp] theorem Block.sramPut_freezeEnd (a : Nat) (l : List Byte) : (s.sramPut a l).freezeEnd = s.freezeEnd := rfl
@[simp] theorem Block.sramPut_hiCap (a : Nat) (l : List Byte) : (s.sramPut a l).hiCap = s.hiCap := rfl
@[simp] theorem Block.sramPut_episodes (a : Nat) (l : List Byte) : (s.sramPut a l).episodes = s.episodes := rfl
@[simp] theorem Block.sramPut_feram (a : Nat) (l : List Byte) : (s.sramPut a l).feram = s.feram := rfl
@[simp] theorem Block.sramPut_time (a : Nat) (l : List Byte) : (s.sramPut a l).time = s.time := rfl
@[simp] theorem Block.sramPut_warp (a : Nat) (l : List Byte) : (s.sramPut a l).warp = s.warp := rfl
@[simp] theorem Block.sramPut_mods (a : Nat) (l : List Byte) : (s.sramPut a l).mods = s.mods := rfl
@[simp] theorem Block.sramPut_slots (a : Nat) (l : List Byte) : (s.sramPut a l).slots = s.slots := rfl
@[simp] theorem Block.sramPut_hist (a : Nat) (l : List Byte) : (s.sramPut a l).hist = s.hist := rfl
@[simp] theorem Block.sramPut_rings (a : Nat) (l : List Byte) : (s.sramPut a l).rings = s.rings := rfl
@[simp] theorem Block.sramPut_spare (a : Nat) (l : List Byte) : (s.sramPut a l).spare = s.spare := rfl
@[simp] theorem Block.sramPut_flt (a : Nat) (l : List Byte) : (s.sramPut a l).flt = s.flt := rfl
@[simp] theorem Block.sramPut_wb (a : Nat) (l : List Byte) : (s.sramPut a l).wb = s.wb := rfl
@[simp] theorem Block.sramPut_pwr (a : Nat) (l : List Byte) : (s.sramPut a l).pwr = s.pwr := rfl
@[simp] theorem Block.sramPut_arb (a : Nat) (l : List Byte) : (s.sramPut a l).arb = s.arb := rfl
@[simp] theorem Block.sramPut_recs (a : Nat) (l : List Byte) : (s.sramPut a l).recs = s.recs := rfl
@[simp] theorem Block.sramPut_engines (a : Nat) (l : List Byte) : (s.sramPut a l).engines = s.engines := rfl
@[simp] theorem Block.sramPut_eng (a : Nat) (l : List Byte) : (s.sramPut a l).eng = s.eng := rfl
@[simp] theorem Block.sramPut_aux (a : Nat) (l : List Byte) : (s.sramPut a l).aux = s.aux := rfl
@[simp] theorem Block.sramPut_feed (a : Nat) (l : List Byte) : (s.sramPut a l).feed = s.feed := rfl
@[simp] theorem Block.sramPut_posts (a : Nat) (l : List Byte) : (s.sramPut a l).posts = s.posts := rfl
@[simp] theorem Block.sramPut_therm (a : Nat) (l : List Byte) : (s.sramPut a l).therm = s.therm := rfl
@[simp] theorem Block.sramPut_stor (a : Nat) (l : List Byte) : (s.sramPut a l).stor = s.stor := rfl
@[simp] theorem Block.sramPut_husk (a : Nat) (l : List Byte) : (s.sramPut a l).husk = s.husk := rfl
@[simp] theorem Block.sramPut_tar (a : Nat) (l : List Byte) : (s.sramPut a l).tar = s.tar := rfl
@[simp] theorem Block.sramPut_dem (a : Nat) (l : List Byte) : (s.sramPut a l).dem = s.dem := rfl
@[simp] theorem Block.sramPut_led (a : Nat) (l : List Byte) : (s.sramPut a l).led = s.led := rfl
@[simp] theorem Block.sramPut_pq (a : Nat) (l : List Byte) : (s.sramPut a l).pq = s.pq := rfl
@[simp] theorem Block.sramPut_pout (a : Nat) (l : List Byte) : (s.sramPut a l).pout = s.pout := rfl
@[simp] theorem Block.sramPut_disp (a : Nat) (l : List Byte) : (s.sramPut a l).disp = s.disp := rfl
@[simp] theorem Block.sramPut_tamp (a : Nat) (l : List Byte) : (s.sramPut a l).tamp = s.tamp := rfl
@[simp] theorem Block.sramPut_faults (a : Nat) (l : List Byte) : (s.sramPut a l).faults = s.faults := rfl
@[simp] theorem Block.sramPut_join (a : Nat) (l : List Byte) : (s.sramPut a l).join = s.join := rfl
@[simp] theorem Block.sramPut_mc (a : Nat) (l : List Byte) : (s.sramPut a l).mc = s.mc := rfl
@[simp] theorem Block.sramPut_host (a : Nat) (l : List Byte) : (s.sramPut a l).host = s.host := rfl

@[simp] theorem Block.feramPut_freeCnt (a : Nat) (l : List Byte) : (s.feramPut a l).freeCnt = s.freeCnt := rfl
@[simp] theorem Block.feramPut_regs (a : Nat) (l : List Byte) : (s.feramPut a l).regs = s.regs := rfl
@[simp] theorem Block.feramPut_shadow (a : Nat) (l : List Byte) : (s.feramPut a l).shadow = s.shadow := rfl
@[simp] theorem Block.feramPut_frozen (a : Nat) (l : List Byte) : (s.feramPut a l).frozen = s.frozen := rfl
@[simp] theorem Block.feramPut_freezeEnd (a : Nat) (l : List Byte) : (s.feramPut a l).freezeEnd = s.freezeEnd := rfl
@[simp] theorem Block.feramPut_hiCap (a : Nat) (l : List Byte) : (s.feramPut a l).hiCap = s.hiCap := rfl
@[simp] theorem Block.feramPut_episodes (a : Nat) (l : List Byte) : (s.feramPut a l).episodes = s.episodes := rfl
@[simp] theorem Block.feramPut_sram (a : Nat) (l : List Byte) : (s.feramPut a l).sram = s.sram := rfl
@[simp] theorem Block.feramPut_time (a : Nat) (l : List Byte) : (s.feramPut a l).time = s.time := rfl
@[simp] theorem Block.feramPut_warp (a : Nat) (l : List Byte) : (s.feramPut a l).warp = s.warp := rfl
@[simp] theorem Block.feramPut_mods (a : Nat) (l : List Byte) : (s.feramPut a l).mods = s.mods := rfl
@[simp] theorem Block.feramPut_slots (a : Nat) (l : List Byte) : (s.feramPut a l).slots = s.slots := rfl
@[simp] theorem Block.feramPut_hist (a : Nat) (l : List Byte) : (s.feramPut a l).hist = s.hist := rfl
@[simp] theorem Block.feramPut_rings (a : Nat) (l : List Byte) : (s.feramPut a l).rings = s.rings := rfl
@[simp] theorem Block.feramPut_spare (a : Nat) (l : List Byte) : (s.feramPut a l).spare = s.spare := rfl
@[simp] theorem Block.feramPut_flt (a : Nat) (l : List Byte) : (s.feramPut a l).flt = s.flt := rfl
@[simp] theorem Block.feramPut_wb (a : Nat) (l : List Byte) : (s.feramPut a l).wb = s.wb := rfl
@[simp] theorem Block.feramPut_pwr (a : Nat) (l : List Byte) : (s.feramPut a l).pwr = s.pwr := rfl
@[simp] theorem Block.feramPut_arb (a : Nat) (l : List Byte) : (s.feramPut a l).arb = s.arb := rfl
@[simp] theorem Block.feramPut_recs (a : Nat) (l : List Byte) : (s.feramPut a l).recs = s.recs := rfl
@[simp] theorem Block.feramPut_engines (a : Nat) (l : List Byte) : (s.feramPut a l).engines = s.engines := rfl
@[simp] theorem Block.feramPut_eng (a : Nat) (l : List Byte) : (s.feramPut a l).eng = s.eng := rfl
@[simp] theorem Block.feramPut_aux (a : Nat) (l : List Byte) : (s.feramPut a l).aux = s.aux := rfl
@[simp] theorem Block.feramPut_feed (a : Nat) (l : List Byte) : (s.feramPut a l).feed = s.feed := rfl
@[simp] theorem Block.feramPut_posts (a : Nat) (l : List Byte) : (s.feramPut a l).posts = s.posts := rfl
@[simp] theorem Block.feramPut_therm (a : Nat) (l : List Byte) : (s.feramPut a l).therm = s.therm := rfl
@[simp] theorem Block.feramPut_stor (a : Nat) (l : List Byte) : (s.feramPut a l).stor = s.stor := rfl
@[simp] theorem Block.feramPut_husk (a : Nat) (l : List Byte) : (s.feramPut a l).husk = s.husk := rfl
@[simp] theorem Block.feramPut_tar (a : Nat) (l : List Byte) : (s.feramPut a l).tar = s.tar := rfl
@[simp] theorem Block.feramPut_dem (a : Nat) (l : List Byte) : (s.feramPut a l).dem = s.dem := rfl
@[simp] theorem Block.feramPut_led (a : Nat) (l : List Byte) : (s.feramPut a l).led = s.led := rfl
@[simp] theorem Block.feramPut_pq (a : Nat) (l : List Byte) : (s.feramPut a l).pq = s.pq := rfl
@[simp] theorem Block.feramPut_pout (a : Nat) (l : List Byte) : (s.feramPut a l).pout = s.pout := rfl
@[simp] theorem Block.feramPut_disp (a : Nat) (l : List Byte) : (s.feramPut a l).disp = s.disp := rfl
@[simp] theorem Block.feramPut_tamp (a : Nat) (l : List Byte) : (s.feramPut a l).tamp = s.tamp := rfl
@[simp] theorem Block.feramPut_faults (a : Nat) (l : List Byte) : (s.feramPut a l).faults = s.faults := rfl
@[simp] theorem Block.feramPut_join (a : Nat) (l : List Byte) : (s.feramPut a l).join = s.join := rfl
@[simp] theorem Block.feramPut_mc (a : Nat) (l : List Byte) : (s.feramPut a l).mc = s.mc := rfl
@[simp] theorem Block.feramPut_host (a : Nat) (l : List Byte) : (s.feramPut a l).host = s.host := rfl

@[simp] theorem Block.arrive_regs : (s.arrive).regs = s.regs := rfl
@[simp] theorem Block.arrive_shadow : (s.arrive).shadow = s.shadow := rfl
@[simp] theorem Block.arrive_frozen : (s.arrive).frozen = s.frozen := rfl
@[simp] theorem Block.arrive_freezeEnd : (s.arrive).freezeEnd = s.freezeEnd := rfl
@[simp] theorem Block.arrive_hiCap : (s.arrive).hiCap = s.hiCap := rfl
@[simp] theorem Block.arrive_episodes : (s.arrive).episodes = s.episodes := rfl
@[simp] theorem Block.arrive_sram : (s.arrive).sram = s.sram := rfl
@[simp] theorem Block.arrive_feram : (s.arrive).feram = s.feram := rfl
@[simp] theorem Block.arrive_warp : (s.arrive).warp = s.warp := rfl
@[simp] theorem Block.arrive_mods : (s.arrive).mods = s.mods := rfl
@[simp] theorem Block.arrive_slots : (s.arrive).slots = s.slots := rfl
@[simp] theorem Block.arrive_hist : (s.arrive).hist = s.hist := rfl
@[simp] theorem Block.arrive_rings : (s.arrive).rings = s.rings := rfl
@[simp] theorem Block.arrive_spare : (s.arrive).spare = s.spare := rfl
@[simp] theorem Block.arrive_flt : (s.arrive).flt = s.flt := rfl
@[simp] theorem Block.arrive_wb : (s.arrive).wb = s.wb := rfl
@[simp] theorem Block.arrive_pwr : (s.arrive).pwr = s.pwr := rfl
@[simp] theorem Block.arrive_arb : (s.arrive).arb = s.arb := rfl
@[simp] theorem Block.arrive_recs : (s.arrive).recs = s.recs := rfl
@[simp] theorem Block.arrive_engines : (s.arrive).engines = s.engines := rfl
@[simp] theorem Block.arrive_eng : (s.arrive).eng = s.eng := rfl
@[simp] theorem Block.arrive_aux : (s.arrive).aux = s.aux := rfl
@[simp] theorem Block.arrive_feed : (s.arrive).feed = s.feed := rfl
@[simp] theorem Block.arrive_posts : (s.arrive).posts = s.posts := rfl
@[simp] theorem Block.arrive_therm : (s.arrive).therm = s.therm := rfl
@[simp] theorem Block.arrive_stor : (s.arrive).stor = s.stor := rfl
@[simp] theorem Block.arrive_husk : (s.arrive).husk = s.husk := rfl
@[simp] theorem Block.arrive_tar : (s.arrive).tar = s.tar := rfl
@[simp] theorem Block.arrive_dem : (s.arrive).dem = s.dem := rfl
@[simp] theorem Block.arrive_led : (s.arrive).led = s.led := rfl
@[simp] theorem Block.arrive_pq : (s.arrive).pq = s.pq := rfl
@[simp] theorem Block.arrive_pout : (s.arrive).pout = s.pout := rfl
@[simp] theorem Block.arrive_disp : (s.arrive).disp = s.disp := rfl
@[simp] theorem Block.arrive_tamp : (s.arrive).tamp = s.tamp := rfl
@[simp] theorem Block.arrive_faults : (s.arrive).faults = s.faults := rfl
@[simp] theorem Block.arrive_join : (s.arrive).join = s.join := rfl
@[simp] theorem Block.arrive_mc : (s.arrive).mc = s.mc := rfl
@[simp] theorem Block.arrive_host : (s.arrive).host = s.host := rfl

@[simp] theorem Block.endEpisode_freeCnt (k : Nat) : (s.endEpisode k).freeCnt = s.freeCnt := rfl
@[simp] theorem Block.endEpisode_regs (k : Nat) : (s.endEpisode k).regs = s.regs := rfl
@[simp] theorem Block.endEpisode_shadow (k : Nat) : (s.endEpisode k).shadow = s.shadow := rfl
@[simp] theorem Block.endEpisode_frozen (k : Nat) : (s.endEpisode k).frozen = s.frozen := rfl
@[simp] theorem Block.endEpisode_freezeEnd (k : Nat) : (s.endEpisode k).freezeEnd = s.freezeEnd := rfl
@[simp] theorem Block.endEpisode_hiCap (k : Nat) : (s.endEpisode k).hiCap = s.hiCap := rfl
@[simp] theorem Block.endEpisode_sram (k : Nat) : (s.endEpisode k).sram = s.sram := rfl
@[simp] theorem Block.endEpisode_feram (k : Nat) : (s.endEpisode k).feram = s.feram := rfl
@[simp] theorem Block.endEpisode_time (k : Nat) : (s.endEpisode k).time = s.time := rfl
@[simp] theorem Block.endEpisode_warp (k : Nat) : (s.endEpisode k).warp = s.warp := rfl
@[simp] theorem Block.endEpisode_mods (k : Nat) : (s.endEpisode k).mods = s.mods := rfl
@[simp] theorem Block.endEpisode_slots (k : Nat) : (s.endEpisode k).slots = s.slots := rfl
@[simp] theorem Block.endEpisode_hist (k : Nat) : (s.endEpisode k).hist = s.hist := rfl
@[simp] theorem Block.endEpisode_rings (k : Nat) : (s.endEpisode k).rings = s.rings := rfl
@[simp] theorem Block.endEpisode_spare (k : Nat) : (s.endEpisode k).spare = s.spare := rfl
@[simp] theorem Block.endEpisode_flt (k : Nat) : (s.endEpisode k).flt = s.flt := rfl
@[simp] theorem Block.endEpisode_wb (k : Nat) : (s.endEpisode k).wb = s.wb := rfl
@[simp] theorem Block.endEpisode_pwr (k : Nat) : (s.endEpisode k).pwr = s.pwr := rfl
@[simp] theorem Block.endEpisode_arb (k : Nat) : (s.endEpisode k).arb = s.arb := rfl
@[simp] theorem Block.endEpisode_recs (k : Nat) : (s.endEpisode k).recs = s.recs := rfl
@[simp] theorem Block.endEpisode_engines (k : Nat) : (s.endEpisode k).engines = s.engines := rfl
@[simp] theorem Block.endEpisode_eng (k : Nat) : (s.endEpisode k).eng = s.eng := rfl
@[simp] theorem Block.endEpisode_aux (k : Nat) : (s.endEpisode k).aux = s.aux := rfl
@[simp] theorem Block.endEpisode_feed (k : Nat) : (s.endEpisode k).feed = s.feed := rfl
@[simp] theorem Block.endEpisode_posts (k : Nat) : (s.endEpisode k).posts = s.posts := rfl
@[simp] theorem Block.endEpisode_therm (k : Nat) : (s.endEpisode k).therm = s.therm := rfl
@[simp] theorem Block.endEpisode_stor (k : Nat) : (s.endEpisode k).stor = s.stor := rfl
@[simp] theorem Block.endEpisode_husk (k : Nat) : (s.endEpisode k).husk = s.husk := rfl
@[simp] theorem Block.endEpisode_tar (k : Nat) : (s.endEpisode k).tar = s.tar := rfl
@[simp] theorem Block.endEpisode_dem (k : Nat) : (s.endEpisode k).dem = s.dem := rfl
@[simp] theorem Block.endEpisode_led (k : Nat) : (s.endEpisode k).led = s.led := rfl
@[simp] theorem Block.endEpisode_pq (k : Nat) : (s.endEpisode k).pq = s.pq := rfl
@[simp] theorem Block.endEpisode_pout (k : Nat) : (s.endEpisode k).pout = s.pout := rfl
@[simp] theorem Block.endEpisode_disp (k : Nat) : (s.endEpisode k).disp = s.disp := rfl
@[simp] theorem Block.endEpisode_tamp (k : Nat) : (s.endEpisode k).tamp = s.tamp := rfl
@[simp] theorem Block.endEpisode_faults (k : Nat) : (s.endEpisode k).faults = s.faults := rfl
@[simp] theorem Block.endEpisode_join (k : Nat) : (s.endEpisode k).join = s.join := rfl
@[simp] theorem Block.endEpisode_mc (k : Nat) : (s.endEpisode k).mc = s.mc := rfl
@[simp] theorem Block.endEpisode_host (k : Nat) : (s.endEpisode k).host = s.host := rfl

@[simp] theorem Block.modRing_freeCnt (n : Nat) (f : RingMeta → RingMeta) : (s.modRing n f).freeCnt = s.freeCnt := rfl
@[simp] theorem Block.modRing_regs (n : Nat) (f : RingMeta → RingMeta) : (s.modRing n f).regs = s.regs := rfl
@[simp] theorem Block.modRing_shadow (n : Nat) (f : RingMeta → RingMeta) : (s.modRing n f).shadow = s.shadow := rfl
@[simp] theorem Block.modRing_frozen (n : Nat) (f : RingMeta → RingMeta) : (s.modRing n f).frozen = s.frozen := rfl
@[simp] theorem Block.modRing_freezeEnd (n : Nat) (f : RingMeta → RingMeta) : (s.modRing n f).freezeEnd = s.freezeEnd := rfl
@[simp] theorem Block.modRing_hiCap (n : Nat) (f : RingMeta → RingMeta) : (s.modRing n f).hiCap = s.hiCap := rfl
@[simp] theorem Block.modRing_episodes (n : Nat) (f : RingMeta → RingMeta) : (s.modRing n f).episodes = s.episodes := rfl
@[simp] theorem Block.modRing_sram (n : Nat) (f : RingMeta → RingMeta) : (s.modRing n f).sram = s.sram := rfl
@[simp] theorem Block.modRing_feram (n : Nat) (f : RingMeta → RingMeta) : (s.modRing n f).feram = s.feram := rfl
@[simp] theorem Block.modRing_time (n : Nat) (f : RingMeta → RingMeta) : (s.modRing n f).time = s.time := rfl
@[simp] theorem Block.modRing_warp (n : Nat) (f : RingMeta → RingMeta) : (s.modRing n f).warp = s.warp := rfl
@[simp] theorem Block.modRing_mods (n : Nat) (f : RingMeta → RingMeta) : (s.modRing n f).mods = s.mods := rfl
@[simp] theorem Block.modRing_slots (n : Nat) (f : RingMeta → RingMeta) : (s.modRing n f).slots = s.slots := rfl
@[simp] theorem Block.modRing_hist (n : Nat) (f : RingMeta → RingMeta) : (s.modRing n f).hist = s.hist := rfl
@[simp] theorem Block.modRing_rings (n : Nat) (f : RingMeta → RingMeta) : (s.modRing n f).rings = modNth s.rings n f := rfl
@[simp] theorem Block.modRing_spare (n : Nat) (f : RingMeta → RingMeta) : (s.modRing n f).spare = s.spare := rfl
@[simp] theorem Block.modRing_flt (n : Nat) (f : RingMeta → RingMeta) : (s.modRing n f).flt = s.flt := rfl
@[simp] theorem Block.modRing_wb (n : Nat) (f : RingMeta → RingMeta) : (s.modRing n f).wb = s.wb := rfl
@[simp] theorem Block.modRing_pwr (n : Nat) (f : RingMeta → RingMeta) : (s.modRing n f).pwr = s.pwr := rfl
@[simp] theorem Block.modRing_arb (n : Nat) (f : RingMeta → RingMeta) : (s.modRing n f).arb = s.arb := rfl
@[simp] theorem Block.modRing_recs (n : Nat) (f : RingMeta → RingMeta) : (s.modRing n f).recs = s.recs := rfl
@[simp] theorem Block.modRing_engines (n : Nat) (f : RingMeta → RingMeta) : (s.modRing n f).engines = s.engines := rfl
@[simp] theorem Block.modRing_eng (n : Nat) (f : RingMeta → RingMeta) : (s.modRing n f).eng = s.eng := rfl
@[simp] theorem Block.modRing_aux (n : Nat) (f : RingMeta → RingMeta) : (s.modRing n f).aux = s.aux := rfl
@[simp] theorem Block.modRing_feed (n : Nat) (f : RingMeta → RingMeta) : (s.modRing n f).feed = s.feed := rfl
@[simp] theorem Block.modRing_posts (n : Nat) (f : RingMeta → RingMeta) : (s.modRing n f).posts = s.posts := rfl
@[simp] theorem Block.modRing_therm (n : Nat) (f : RingMeta → RingMeta) : (s.modRing n f).therm = s.therm := rfl
@[simp] theorem Block.modRing_stor (n : Nat) (f : RingMeta → RingMeta) : (s.modRing n f).stor = s.stor := rfl
@[simp] theorem Block.modRing_husk (n : Nat) (f : RingMeta → RingMeta) : (s.modRing n f).husk = s.husk := rfl
@[simp] theorem Block.modRing_tar (n : Nat) (f : RingMeta → RingMeta) : (s.modRing n f).tar = s.tar := rfl
@[simp] theorem Block.modRing_dem (n : Nat) (f : RingMeta → RingMeta) : (s.modRing n f).dem = s.dem := rfl
@[simp] theorem Block.modRing_led (n : Nat) (f : RingMeta → RingMeta) : (s.modRing n f).led = s.led := rfl
@[simp] theorem Block.modRing_pq (n : Nat) (f : RingMeta → RingMeta) : (s.modRing n f).pq = s.pq := rfl
@[simp] theorem Block.modRing_pout (n : Nat) (f : RingMeta → RingMeta) : (s.modRing n f).pout = s.pout := rfl
@[simp] theorem Block.modRing_disp (n : Nat) (f : RingMeta → RingMeta) : (s.modRing n f).disp = s.disp := rfl
@[simp] theorem Block.modRing_tamp (n : Nat) (f : RingMeta → RingMeta) : (s.modRing n f).tamp = s.tamp := rfl
@[simp] theorem Block.modRing_faults (n : Nat) (f : RingMeta → RingMeta) : (s.modRing n f).faults = s.faults := rfl
@[simp] theorem Block.modRing_join (n : Nat) (f : RingMeta → RingMeta) : (s.modRing n f).join = s.join := rfl
@[simp] theorem Block.modRing_mc (n : Nat) (f : RingMeta → RingMeta) : (s.modRing n f).mc = s.mc := rfl
@[simp] theorem Block.modRing_host (n : Nat) (f : RingMeta → RingMeta) : (s.modRing n f).host = s.host := rfl

@[simp] theorem Block.modWarp_freeCnt (f : Warp → Warp) : (s.modWarp f).freeCnt = s.freeCnt := rfl
@[simp] theorem Block.modWarp_regs (f : Warp → Warp) : (s.modWarp f).regs = s.regs := rfl
@[simp] theorem Block.modWarp_shadow (f : Warp → Warp) : (s.modWarp f).shadow = s.shadow := rfl
@[simp] theorem Block.modWarp_frozen (f : Warp → Warp) : (s.modWarp f).frozen = s.frozen := rfl
@[simp] theorem Block.modWarp_freezeEnd (f : Warp → Warp) : (s.modWarp f).freezeEnd = s.freezeEnd := rfl
@[simp] theorem Block.modWarp_hiCap (f : Warp → Warp) : (s.modWarp f).hiCap = s.hiCap := rfl
@[simp] theorem Block.modWarp_episodes (f : Warp → Warp) : (s.modWarp f).episodes = s.episodes := rfl
@[simp] theorem Block.modWarp_sram (f : Warp → Warp) : (s.modWarp f).sram = s.sram := rfl
@[simp] theorem Block.modWarp_feram (f : Warp → Warp) : (s.modWarp f).feram = s.feram := rfl
@[simp] theorem Block.modWarp_time (f : Warp → Warp) : (s.modWarp f).time = s.time := rfl
@[simp] theorem Block.modWarp_warp (f : Warp → Warp) : (s.modWarp f).warp = f s.warp := rfl
@[simp] theorem Block.modWarp_mods (f : Warp → Warp) : (s.modWarp f).mods = s.mods := rfl
@[simp] theorem Block.modWarp_slots (f : Warp → Warp) : (s.modWarp f).slots = s.slots := rfl
@[simp] theorem Block.modWarp_hist (f : Warp → Warp) : (s.modWarp f).hist = s.hist := rfl
@[simp] theorem Block.modWarp_rings (f : Warp → Warp) : (s.modWarp f).rings = s.rings := rfl
@[simp] theorem Block.modWarp_spare (f : Warp → Warp) : (s.modWarp f).spare = s.spare := rfl
@[simp] theorem Block.modWarp_flt (f : Warp → Warp) : (s.modWarp f).flt = s.flt := rfl
@[simp] theorem Block.modWarp_wb (f : Warp → Warp) : (s.modWarp f).wb = s.wb := rfl
@[simp] theorem Block.modWarp_pwr (f : Warp → Warp) : (s.modWarp f).pwr = s.pwr := rfl
@[simp] theorem Block.modWarp_arb (f : Warp → Warp) : (s.modWarp f).arb = s.arb := rfl
@[simp] theorem Block.modWarp_recs (f : Warp → Warp) : (s.modWarp f).recs = s.recs := rfl
@[simp] theorem Block.modWarp_engines (f : Warp → Warp) : (s.modWarp f).engines = s.engines := rfl
@[simp] theorem Block.modWarp_eng (f : Warp → Warp) : (s.modWarp f).eng = s.eng := rfl
@[simp] theorem Block.modWarp_aux (f : Warp → Warp) : (s.modWarp f).aux = s.aux := rfl
@[simp] theorem Block.modWarp_feed (f : Warp → Warp) : (s.modWarp f).feed = s.feed := rfl
@[simp] theorem Block.modWarp_posts (f : Warp → Warp) : (s.modWarp f).posts = s.posts := rfl
@[simp] theorem Block.modWarp_therm (f : Warp → Warp) : (s.modWarp f).therm = s.therm := rfl
@[simp] theorem Block.modWarp_stor (f : Warp → Warp) : (s.modWarp f).stor = s.stor := rfl
@[simp] theorem Block.modWarp_husk (f : Warp → Warp) : (s.modWarp f).husk = s.husk := rfl
@[simp] theorem Block.modWarp_tar (f : Warp → Warp) : (s.modWarp f).tar = s.tar := rfl
@[simp] theorem Block.modWarp_dem (f : Warp → Warp) : (s.modWarp f).dem = s.dem := rfl
@[simp] theorem Block.modWarp_led (f : Warp → Warp) : (s.modWarp f).led = s.led := rfl
@[simp] theorem Block.modWarp_pq (f : Warp → Warp) : (s.modWarp f).pq = s.pq := rfl
@[simp] theorem Block.modWarp_pout (f : Warp → Warp) : (s.modWarp f).pout = s.pout := rfl
@[simp] theorem Block.modWarp_disp (f : Warp → Warp) : (s.modWarp f).disp = s.disp := rfl
@[simp] theorem Block.modWarp_tamp (f : Warp → Warp) : (s.modWarp f).tamp = s.tamp := rfl
@[simp] theorem Block.modWarp_faults (f : Warp → Warp) : (s.modWarp f).faults = s.faults := rfl
@[simp] theorem Block.modWarp_join (f : Warp → Warp) : (s.modWarp f).join = s.join := rfl
@[simp] theorem Block.modWarp_mc (f : Warp → Warp) : (s.modWarp f).mc = s.mc := rfl
@[simp] theorem Block.modWarp_host (f : Warp → Warp) : (s.modWarp f).host = s.host := rfl

@[simp] theorem Block.modMod_freeCnt (m : Nat) (f : Modulator → Modulator) : (s.modMod m f).freeCnt = s.freeCnt := rfl
@[simp] theorem Block.modMod_regs (m : Nat) (f : Modulator → Modulator) : (s.modMod m f).regs = s.regs := rfl
@[simp] theorem Block.modMod_shadow (m : Nat) (f : Modulator → Modulator) : (s.modMod m f).shadow = s.shadow := rfl
@[simp] theorem Block.modMod_frozen (m : Nat) (f : Modulator → Modulator) : (s.modMod m f).frozen = s.frozen := rfl
@[simp] theorem Block.modMod_freezeEnd (m : Nat) (f : Modulator → Modulator) : (s.modMod m f).freezeEnd = s.freezeEnd := rfl
@[simp] theorem Block.modMod_hiCap (m : Nat) (f : Modulator → Modulator) : (s.modMod m f).hiCap = s.hiCap := rfl
@[simp] theorem Block.modMod_episodes (m : Nat) (f : Modulator → Modulator) : (s.modMod m f).episodes = s.episodes := rfl
@[simp] theorem Block.modMod_sram (m : Nat) (f : Modulator → Modulator) : (s.modMod m f).sram = s.sram := rfl
@[simp] theorem Block.modMod_feram (m : Nat) (f : Modulator → Modulator) : (s.modMod m f).feram = s.feram := rfl
@[simp] theorem Block.modMod_time (m : Nat) (f : Modulator → Modulator) : (s.modMod m f).time = s.time := rfl
@[simp] theorem Block.modMod_warp (m : Nat) (f : Modulator → Modulator) : (s.modMod m f).warp = s.warp := rfl
@[simp] theorem Block.modMod_mods (m : Nat) (f : Modulator → Modulator) : (s.modMod m f).mods = modNth s.mods m f := rfl
@[simp] theorem Block.modMod_slots (m : Nat) (f : Modulator → Modulator) : (s.modMod m f).slots = s.slots := rfl
@[simp] theorem Block.modMod_hist (m : Nat) (f : Modulator → Modulator) : (s.modMod m f).hist = s.hist := rfl
@[simp] theorem Block.modMod_rings (m : Nat) (f : Modulator → Modulator) : (s.modMod m f).rings = s.rings := rfl
@[simp] theorem Block.modMod_spare (m : Nat) (f : Modulator → Modulator) : (s.modMod m f).spare = s.spare := rfl
@[simp] theorem Block.modMod_flt (m : Nat) (f : Modulator → Modulator) : (s.modMod m f).flt = s.flt := rfl
@[simp] theorem Block.modMod_wb (m : Nat) (f : Modulator → Modulator) : (s.modMod m f).wb = s.wb := rfl
@[simp] theorem Block.modMod_pwr (m : Nat) (f : Modulator → Modulator) : (s.modMod m f).pwr = s.pwr := rfl
@[simp] theorem Block.modMod_arb (m : Nat) (f : Modulator → Modulator) : (s.modMod m f).arb = s.arb := rfl
@[simp] theorem Block.modMod_recs (m : Nat) (f : Modulator → Modulator) : (s.modMod m f).recs = s.recs := rfl
@[simp] theorem Block.modMod_engines (m : Nat) (f : Modulator → Modulator) : (s.modMod m f).engines = s.engines := rfl
@[simp] theorem Block.modMod_eng (m : Nat) (f : Modulator → Modulator) : (s.modMod m f).eng = s.eng := rfl
@[simp] theorem Block.modMod_aux (m : Nat) (f : Modulator → Modulator) : (s.modMod m f).aux = s.aux := rfl
@[simp] theorem Block.modMod_feed (m : Nat) (f : Modulator → Modulator) : (s.modMod m f).feed = s.feed := rfl
@[simp] theorem Block.modMod_posts (m : Nat) (f : Modulator → Modulator) : (s.modMod m f).posts = s.posts := rfl
@[simp] theorem Block.modMod_therm (m : Nat) (f : Modulator → Modulator) : (s.modMod m f).therm = s.therm := rfl
@[simp] theorem Block.modMod_stor (m : Nat) (f : Modulator → Modulator) : (s.modMod m f).stor = s.stor := rfl
@[simp] theorem Block.modMod_husk (m : Nat) (f : Modulator → Modulator) : (s.modMod m f).husk = s.husk := rfl
@[simp] theorem Block.modMod_tar (m : Nat) (f : Modulator → Modulator) : (s.modMod m f).tar = s.tar := rfl
@[simp] theorem Block.modMod_dem (m : Nat) (f : Modulator → Modulator) : (s.modMod m f).dem = s.dem := rfl
@[simp] theorem Block.modMod_led (m : Nat) (f : Modulator → Modulator) : (s.modMod m f).led = s.led := rfl
@[simp] theorem Block.modMod_pq (m : Nat) (f : Modulator → Modulator) : (s.modMod m f).pq = s.pq := rfl
@[simp] theorem Block.modMod_pout (m : Nat) (f : Modulator → Modulator) : (s.modMod m f).pout = s.pout := rfl
@[simp] theorem Block.modMod_disp (m : Nat) (f : Modulator → Modulator) : (s.modMod m f).disp = s.disp := rfl
@[simp] theorem Block.modMod_tamp (m : Nat) (f : Modulator → Modulator) : (s.modMod m f).tamp = s.tamp := rfl
@[simp] theorem Block.modMod_faults (m : Nat) (f : Modulator → Modulator) : (s.modMod m f).faults = s.faults := rfl
@[simp] theorem Block.modMod_join (m : Nat) (f : Modulator → Modulator) : (s.modMod m f).join = s.join := rfl
@[simp] theorem Block.modMod_mc (m : Nat) (f : Modulator → Modulator) : (s.modMod m f).mc = s.mc := rfl
@[simp] theorem Block.modMod_host (m : Nat) (f : Modulator → Modulator) : (s.modMod m f).host = s.host := rfl

@[simp] theorem Block.modAll_freeCnt (f : Modulator → Modulator) : (s.modAll f).freeCnt = s.freeCnt := rfl
@[simp] theorem Block.modAll_regs (f : Modulator → Modulator) : (s.modAll f).regs = s.regs := rfl
@[simp] theorem Block.modAll_shadow (f : Modulator → Modulator) : (s.modAll f).shadow = s.shadow := rfl
@[simp] theorem Block.modAll_frozen (f : Modulator → Modulator) : (s.modAll f).frozen = s.frozen := rfl
@[simp] theorem Block.modAll_freezeEnd (f : Modulator → Modulator) : (s.modAll f).freezeEnd = s.freezeEnd := rfl
@[simp] theorem Block.modAll_hiCap (f : Modulator → Modulator) : (s.modAll f).hiCap = s.hiCap := rfl
@[simp] theorem Block.modAll_episodes (f : Modulator → Modulator) : (s.modAll f).episodes = s.episodes := rfl
@[simp] theorem Block.modAll_sram (f : Modulator → Modulator) : (s.modAll f).sram = s.sram := rfl
@[simp] theorem Block.modAll_feram (f : Modulator → Modulator) : (s.modAll f).feram = s.feram := rfl
@[simp] theorem Block.modAll_time (f : Modulator → Modulator) : (s.modAll f).time = s.time := rfl
@[simp] theorem Block.modAll_warp (f : Modulator → Modulator) : (s.modAll f).warp = s.warp := rfl
@[simp] theorem Block.modAll_mods (f : Modulator → Modulator) : (s.modAll f).mods = s.mods.map f := rfl
@[simp] theorem Block.modAll_slots (f : Modulator → Modulator) : (s.modAll f).slots = s.slots := rfl
@[simp] theorem Block.modAll_hist (f : Modulator → Modulator) : (s.modAll f).hist = s.hist := rfl
@[simp] theorem Block.modAll_rings (f : Modulator → Modulator) : (s.modAll f).rings = s.rings := rfl
@[simp] theorem Block.modAll_spare (f : Modulator → Modulator) : (s.modAll f).spare = s.spare := rfl
@[simp] theorem Block.modAll_flt (f : Modulator → Modulator) : (s.modAll f).flt = s.flt := rfl
@[simp] theorem Block.modAll_wb (f : Modulator → Modulator) : (s.modAll f).wb = s.wb := rfl
@[simp] theorem Block.modAll_pwr (f : Modulator → Modulator) : (s.modAll f).pwr = s.pwr := rfl
@[simp] theorem Block.modAll_arb (f : Modulator → Modulator) : (s.modAll f).arb = s.arb := rfl
@[simp] theorem Block.modAll_recs (f : Modulator → Modulator) : (s.modAll f).recs = s.recs := rfl
@[simp] theorem Block.modAll_engines (f : Modulator → Modulator) : (s.modAll f).engines = s.engines := rfl
@[simp] theorem Block.modAll_eng (f : Modulator → Modulator) : (s.modAll f).eng = s.eng := rfl
@[simp] theorem Block.modAll_aux (f : Modulator → Modulator) : (s.modAll f).aux = s.aux := rfl
@[simp] theorem Block.modAll_feed (f : Modulator → Modulator) : (s.modAll f).feed = s.feed := rfl
@[simp] theorem Block.modAll_posts (f : Modulator → Modulator) : (s.modAll f).posts = s.posts := rfl
@[simp] theorem Block.modAll_therm (f : Modulator → Modulator) : (s.modAll f).therm = s.therm := rfl
@[simp] theorem Block.modAll_stor (f : Modulator → Modulator) : (s.modAll f).stor = s.stor := rfl
@[simp] theorem Block.modAll_husk (f : Modulator → Modulator) : (s.modAll f).husk = s.husk := rfl
@[simp] theorem Block.modAll_tar (f : Modulator → Modulator) : (s.modAll f).tar = s.tar := rfl
@[simp] theorem Block.modAll_dem (f : Modulator → Modulator) : (s.modAll f).dem = s.dem := rfl
@[simp] theorem Block.modAll_led (f : Modulator → Modulator) : (s.modAll f).led = s.led := rfl
@[simp] theorem Block.modAll_pq (f : Modulator → Modulator) : (s.modAll f).pq = s.pq := rfl
@[simp] theorem Block.modAll_pout (f : Modulator → Modulator) : (s.modAll f).pout = s.pout := rfl
@[simp] theorem Block.modAll_disp (f : Modulator → Modulator) : (s.modAll f).disp = s.disp := rfl
@[simp] theorem Block.modAll_tamp (f : Modulator → Modulator) : (s.modAll f).tamp = s.tamp := rfl
@[simp] theorem Block.modAll_faults (f : Modulator → Modulator) : (s.modAll f).faults = s.faults := rfl
@[simp] theorem Block.modAll_join (f : Modulator → Modulator) : (s.modAll f).join = s.join := rfl
@[simp] theorem Block.modAll_mc (f : Modulator → Modulator) : (s.modAll f).mc = s.mc := rfl
@[simp] theorem Block.modAll_host (f : Modulator → Modulator) : (s.modAll f).host = s.host := rfl

@[simp] theorem Block.modSpare_freeCnt (f : Spare → Spare) : (s.modSpare f).freeCnt = s.freeCnt := rfl
@[simp] theorem Block.modSpare_regs (f : Spare → Spare) : (s.modSpare f).regs = s.regs := rfl
@[simp] theorem Block.modSpare_shadow (f : Spare → Spare) : (s.modSpare f).shadow = s.shadow := rfl
@[simp] theorem Block.modSpare_frozen (f : Spare → Spare) : (s.modSpare f).frozen = s.frozen := rfl
@[simp] theorem Block.modSpare_freezeEnd (f : Spare → Spare) : (s.modSpare f).freezeEnd = s.freezeEnd := rfl
@[simp] theorem Block.modSpare_hiCap (f : Spare → Spare) : (s.modSpare f).hiCap = s.hiCap := rfl
@[simp] theorem Block.modSpare_episodes (f : Spare → Spare) : (s.modSpare f).episodes = s.episodes := rfl
@[simp] theorem Block.modSpare_sram (f : Spare → Spare) : (s.modSpare f).sram = s.sram := rfl
@[simp] theorem Block.modSpare_feram (f : Spare → Spare) : (s.modSpare f).feram = s.feram := rfl
@[simp] theorem Block.modSpare_time (f : Spare → Spare) : (s.modSpare f).time = s.time := rfl
@[simp] theorem Block.modSpare_warp (f : Spare → Spare) : (s.modSpare f).warp = s.warp := rfl
@[simp] theorem Block.modSpare_mods (f : Spare → Spare) : (s.modSpare f).mods = s.mods := rfl
@[simp] theorem Block.modSpare_slots (f : Spare → Spare) : (s.modSpare f).slots = s.slots := rfl
@[simp] theorem Block.modSpare_hist (f : Spare → Spare) : (s.modSpare f).hist = s.hist := rfl
@[simp] theorem Block.modSpare_rings (f : Spare → Spare) : (s.modSpare f).rings = s.rings := rfl
@[simp] theorem Block.modSpare_spare (f : Spare → Spare) : (s.modSpare f).spare = f s.spare := rfl
@[simp] theorem Block.modSpare_flt (f : Spare → Spare) : (s.modSpare f).flt = s.flt := rfl
@[simp] theorem Block.modSpare_wb (f : Spare → Spare) : (s.modSpare f).wb = s.wb := rfl
@[simp] theorem Block.modSpare_pwr (f : Spare → Spare) : (s.modSpare f).pwr = s.pwr := rfl
@[simp] theorem Block.modSpare_arb (f : Spare → Spare) : (s.modSpare f).arb = s.arb := rfl
@[simp] theorem Block.modSpare_recs (f : Spare → Spare) : (s.modSpare f).recs = s.recs := rfl
@[simp] theorem Block.modSpare_engines (f : Spare → Spare) : (s.modSpare f).engines = s.engines := rfl
@[simp] theorem Block.modSpare_eng (f : Spare → Spare) : (s.modSpare f).eng = s.eng := rfl
@[simp] theorem Block.modSpare_aux (f : Spare → Spare) : (s.modSpare f).aux = s.aux := rfl
@[simp] theorem Block.modSpare_feed (f : Spare → Spare) : (s.modSpare f).feed = s.feed := rfl
@[simp] theorem Block.modSpare_posts (f : Spare → Spare) : (s.modSpare f).posts = s.posts := rfl
@[simp] theorem Block.modSpare_therm (f : Spare → Spare) : (s.modSpare f).therm = s.therm := rfl
@[simp] theorem Block.modSpare_stor (f : Spare → Spare) : (s.modSpare f).stor = s.stor := rfl
@[simp] theorem Block.modSpare_husk (f : Spare → Spare) : (s.modSpare f).husk = s.husk := rfl
@[simp] theorem Block.modSpare_tar (f : Spare → Spare) : (s.modSpare f).tar = s.tar := rfl
@[simp] theorem Block.modSpare_dem (f : Spare → Spare) : (s.modSpare f).dem = s.dem := rfl
@[simp] theorem Block.modSpare_led (f : Spare → Spare) : (s.modSpare f).led = s.led := rfl
@[simp] theorem Block.modSpare_pq (f : Spare → Spare) : (s.modSpare f).pq = s.pq := rfl
@[simp] theorem Block.modSpare_pout (f : Spare → Spare) : (s.modSpare f).pout = s.pout := rfl
@[simp] theorem Block.modSpare_disp (f : Spare → Spare) : (s.modSpare f).disp = s.disp := rfl
@[simp] theorem Block.modSpare_tamp (f : Spare → Spare) : (s.modSpare f).tamp = s.tamp := rfl
@[simp] theorem Block.modSpare_faults (f : Spare → Spare) : (s.modSpare f).faults = s.faults := rfl
@[simp] theorem Block.modSpare_join (f : Spare → Spare) : (s.modSpare f).join = s.join := rfl
@[simp] theorem Block.modSpare_mc (f : Spare → Spare) : (s.modSpare f).mc = s.mc := rfl
@[simp] theorem Block.modSpare_host (f : Spare → Spare) : (s.modSpare f).host = s.host := rfl

@[simp] theorem Block.modFlt_freeCnt (f : Filter → Filter) : (s.modFlt f).freeCnt = s.freeCnt := rfl
@[simp] theorem Block.modFlt_regs (f : Filter → Filter) : (s.modFlt f).regs = s.regs := rfl
@[simp] theorem Block.modFlt_shadow (f : Filter → Filter) : (s.modFlt f).shadow = s.shadow := rfl
@[simp] theorem Block.modFlt_frozen (f : Filter → Filter) : (s.modFlt f).frozen = s.frozen := rfl
@[simp] theorem Block.modFlt_freezeEnd (f : Filter → Filter) : (s.modFlt f).freezeEnd = s.freezeEnd := rfl
@[simp] theorem Block.modFlt_hiCap (f : Filter → Filter) : (s.modFlt f).hiCap = s.hiCap := rfl
@[simp] theorem Block.modFlt_episodes (f : Filter → Filter) : (s.modFlt f).episodes = s.episodes := rfl
@[simp] theorem Block.modFlt_sram (f : Filter → Filter) : (s.modFlt f).sram = s.sram := rfl
@[simp] theorem Block.modFlt_feram (f : Filter → Filter) : (s.modFlt f).feram = s.feram := rfl
@[simp] theorem Block.modFlt_time (f : Filter → Filter) : (s.modFlt f).time = s.time := rfl
@[simp] theorem Block.modFlt_warp (f : Filter → Filter) : (s.modFlt f).warp = s.warp := rfl
@[simp] theorem Block.modFlt_mods (f : Filter → Filter) : (s.modFlt f).mods = s.mods := rfl
@[simp] theorem Block.modFlt_slots (f : Filter → Filter) : (s.modFlt f).slots = s.slots := rfl
@[simp] theorem Block.modFlt_hist (f : Filter → Filter) : (s.modFlt f).hist = s.hist := rfl
@[simp] theorem Block.modFlt_rings (f : Filter → Filter) : (s.modFlt f).rings = s.rings := rfl
@[simp] theorem Block.modFlt_spare (f : Filter → Filter) : (s.modFlt f).spare = s.spare := rfl
@[simp] theorem Block.modFlt_flt (f : Filter → Filter) : (s.modFlt f).flt = f s.flt := rfl
@[simp] theorem Block.modFlt_wb (f : Filter → Filter) : (s.modFlt f).wb = s.wb := rfl
@[simp] theorem Block.modFlt_pwr (f : Filter → Filter) : (s.modFlt f).pwr = s.pwr := rfl
@[simp] theorem Block.modFlt_arb (f : Filter → Filter) : (s.modFlt f).arb = s.arb := rfl
@[simp] theorem Block.modFlt_recs (f : Filter → Filter) : (s.modFlt f).recs = s.recs := rfl
@[simp] theorem Block.modFlt_engines (f : Filter → Filter) : (s.modFlt f).engines = s.engines := rfl
@[simp] theorem Block.modFlt_eng (f : Filter → Filter) : (s.modFlt f).eng = s.eng := rfl
@[simp] theorem Block.modFlt_aux (f : Filter → Filter) : (s.modFlt f).aux = s.aux := rfl
@[simp] theorem Block.modFlt_feed (f : Filter → Filter) : (s.modFlt f).feed = s.feed := rfl
@[simp] theorem Block.modFlt_posts (f : Filter → Filter) : (s.modFlt f).posts = s.posts := rfl
@[simp] theorem Block.modFlt_therm (f : Filter → Filter) : (s.modFlt f).therm = s.therm := rfl
@[simp] theorem Block.modFlt_stor (f : Filter → Filter) : (s.modFlt f).stor = s.stor := rfl
@[simp] theorem Block.modFlt_husk (f : Filter → Filter) : (s.modFlt f).husk = s.husk := rfl
@[simp] theorem Block.modFlt_tar (f : Filter → Filter) : (s.modFlt f).tar = s.tar := rfl
@[simp] theorem Block.modFlt_dem (f : Filter → Filter) : (s.modFlt f).dem = s.dem := rfl
@[simp] theorem Block.modFlt_led (f : Filter → Filter) : (s.modFlt f).led = s.led := rfl
@[simp] theorem Block.modFlt_pq (f : Filter → Filter) : (s.modFlt f).pq = s.pq := rfl
@[simp] theorem Block.modFlt_pout (f : Filter → Filter) : (s.modFlt f).pout = s.pout := rfl
@[simp] theorem Block.modFlt_disp (f : Filter → Filter) : (s.modFlt f).disp = s.disp := rfl
@[simp] theorem Block.modFlt_tamp (f : Filter → Filter) : (s.modFlt f).tamp = s.tamp := rfl
@[simp] theorem Block.modFlt_faults (f : Filter → Filter) : (s.modFlt f).faults = s.faults := rfl
@[simp] theorem Block.modFlt_join (f : Filter → Filter) : (s.modFlt f).join = s.join := rfl
@[simp] theorem Block.modFlt_mc (f : Filter → Filter) : (s.modFlt f).mc = s.mc := rfl
@[simp] theorem Block.modFlt_host (f : Filter → Filter) : (s.modFlt f).host = s.host := rfl

@[simp] theorem Block.modWb_freeCnt (k : Nat) (f : WbStream → WbStream) : (s.modWb k f).freeCnt = s.freeCnt := rfl
@[simp] theorem Block.modWb_regs (k : Nat) (f : WbStream → WbStream) : (s.modWb k f).regs = s.regs := rfl
@[simp] theorem Block.modWb_shadow (k : Nat) (f : WbStream → WbStream) : (s.modWb k f).shadow = s.shadow := rfl
@[simp] theorem Block.modWb_frozen (k : Nat) (f : WbStream → WbStream) : (s.modWb k f).frozen = s.frozen := rfl
@[simp] theorem Block.modWb_freezeEnd (k : Nat) (f : WbStream → WbStream) : (s.modWb k f).freezeEnd = s.freezeEnd := rfl
@[simp] theorem Block.modWb_hiCap (k : Nat) (f : WbStream → WbStream) : (s.modWb k f).hiCap = s.hiCap := rfl
@[simp] theorem Block.modWb_episodes (k : Nat) (f : WbStream → WbStream) : (s.modWb k f).episodes = s.episodes := rfl
@[simp] theorem Block.modWb_sram (k : Nat) (f : WbStream → WbStream) : (s.modWb k f).sram = s.sram := rfl
@[simp] theorem Block.modWb_feram (k : Nat) (f : WbStream → WbStream) : (s.modWb k f).feram = s.feram := rfl
@[simp] theorem Block.modWb_time (k : Nat) (f : WbStream → WbStream) : (s.modWb k f).time = s.time := rfl
@[simp] theorem Block.modWb_warp (k : Nat) (f : WbStream → WbStream) : (s.modWb k f).warp = s.warp := rfl
@[simp] theorem Block.modWb_mods (k : Nat) (f : WbStream → WbStream) : (s.modWb k f).mods = s.mods := rfl
@[simp] theorem Block.modWb_slots (k : Nat) (f : WbStream → WbStream) : (s.modWb k f).slots = s.slots := rfl
@[simp] theorem Block.modWb_hist (k : Nat) (f : WbStream → WbStream) : (s.modWb k f).hist = s.hist := rfl
@[simp] theorem Block.modWb_rings (k : Nat) (f : WbStream → WbStream) : (s.modWb k f).rings = s.rings := rfl
@[simp] theorem Block.modWb_spare (k : Nat) (f : WbStream → WbStream) : (s.modWb k f).spare = s.spare := rfl
@[simp] theorem Block.modWb_flt (k : Nat) (f : WbStream → WbStream) : (s.modWb k f).flt = s.flt := rfl
@[simp] theorem Block.modWb_wb (k : Nat) (f : WbStream → WbStream) : (s.modWb k f).wb = modNth s.wb k f := rfl
@[simp] theorem Block.modWb_pwr (k : Nat) (f : WbStream → WbStream) : (s.modWb k f).pwr = s.pwr := rfl
@[simp] theorem Block.modWb_arb (k : Nat) (f : WbStream → WbStream) : (s.modWb k f).arb = s.arb := rfl
@[simp] theorem Block.modWb_recs (k : Nat) (f : WbStream → WbStream) : (s.modWb k f).recs = s.recs := rfl
@[simp] theorem Block.modWb_engines (k : Nat) (f : WbStream → WbStream) : (s.modWb k f).engines = s.engines := rfl
@[simp] theorem Block.modWb_eng (k : Nat) (f : WbStream → WbStream) : (s.modWb k f).eng = s.eng := rfl
@[simp] theorem Block.modWb_aux (k : Nat) (f : WbStream → WbStream) : (s.modWb k f).aux = s.aux := rfl
@[simp] theorem Block.modWb_feed (k : Nat) (f : WbStream → WbStream) : (s.modWb k f).feed = s.feed := rfl
@[simp] theorem Block.modWb_posts (k : Nat) (f : WbStream → WbStream) : (s.modWb k f).posts = s.posts := rfl
@[simp] theorem Block.modWb_therm (k : Nat) (f : WbStream → WbStream) : (s.modWb k f).therm = s.therm := rfl
@[simp] theorem Block.modWb_stor (k : Nat) (f : WbStream → WbStream) : (s.modWb k f).stor = s.stor := rfl
@[simp] theorem Block.modWb_husk (k : Nat) (f : WbStream → WbStream) : (s.modWb k f).husk = s.husk := rfl
@[simp] theorem Block.modWb_tar (k : Nat) (f : WbStream → WbStream) : (s.modWb k f).tar = s.tar := rfl
@[simp] theorem Block.modWb_dem (k : Nat) (f : WbStream → WbStream) : (s.modWb k f).dem = s.dem := rfl
@[simp] theorem Block.modWb_led (k : Nat) (f : WbStream → WbStream) : (s.modWb k f).led = s.led := rfl
@[simp] theorem Block.modWb_pq (k : Nat) (f : WbStream → WbStream) : (s.modWb k f).pq = s.pq := rfl
@[simp] theorem Block.modWb_pout (k : Nat) (f : WbStream → WbStream) : (s.modWb k f).pout = s.pout := rfl
@[simp] theorem Block.modWb_disp (k : Nat) (f : WbStream → WbStream) : (s.modWb k f).disp = s.disp := rfl
@[simp] theorem Block.modWb_tamp (k : Nat) (f : WbStream → WbStream) : (s.modWb k f).tamp = s.tamp := rfl
@[simp] theorem Block.modWb_faults (k : Nat) (f : WbStream → WbStream) : (s.modWb k f).faults = s.faults := rfl
@[simp] theorem Block.modWb_join (k : Nat) (f : WbStream → WbStream) : (s.modWb k f).join = s.join := rfl
@[simp] theorem Block.modWb_mc (k : Nat) (f : WbStream → WbStream) : (s.modWb k f).mc = s.mc := rfl
@[simp] theorem Block.modWb_host (k : Nat) (f : WbStream → WbStream) : (s.modWb k f).host = s.host := rfl

@[simp] theorem Block.modPwr_freeCnt (f : Power → Power) : (s.modPwr f).freeCnt = s.freeCnt := rfl
@[simp] theorem Block.modPwr_regs (f : Power → Power) : (s.modPwr f).regs = s.regs := rfl
@[simp] theorem Block.modPwr_shadow (f : Power → Power) : (s.modPwr f).shadow = s.shadow := rfl
@[simp] theorem Block.modPwr_frozen (f : Power → Power) : (s.modPwr f).frozen = s.frozen := rfl
@[simp] theorem Block.modPwr_freezeEnd (f : Power → Power) : (s.modPwr f).freezeEnd = s.freezeEnd := rfl
@[simp] theorem Block.modPwr_hiCap (f : Power → Power) : (s.modPwr f).hiCap = s.hiCap := rfl
@[simp] theorem Block.modPwr_episodes (f : Power → Power) : (s.modPwr f).episodes = s.episodes := rfl
@[simp] theorem Block.modPwr_sram (f : Power → Power) : (s.modPwr f).sram = s.sram := rfl
@[simp] theorem Block.modPwr_feram (f : Power → Power) : (s.modPwr f).feram = s.feram := rfl
@[simp] theorem Block.modPwr_time (f : Power → Power) : (s.modPwr f).time = s.time := rfl
@[simp] theorem Block.modPwr_warp (f : Power → Power) : (s.modPwr f).warp = s.warp := rfl
@[simp] theorem Block.modPwr_mods (f : Power → Power) : (s.modPwr f).mods = s.mods := rfl
@[simp] theorem Block.modPwr_slots (f : Power → Power) : (s.modPwr f).slots = s.slots := rfl
@[simp] theorem Block.modPwr_hist (f : Power → Power) : (s.modPwr f).hist = s.hist := rfl
@[simp] theorem Block.modPwr_rings (f : Power → Power) : (s.modPwr f).rings = s.rings := rfl
@[simp] theorem Block.modPwr_spare (f : Power → Power) : (s.modPwr f).spare = s.spare := rfl
@[simp] theorem Block.modPwr_flt (f : Power → Power) : (s.modPwr f).flt = s.flt := rfl
@[simp] theorem Block.modPwr_wb (f : Power → Power) : (s.modPwr f).wb = s.wb := rfl
@[simp] theorem Block.modPwr_pwr (f : Power → Power) : (s.modPwr f).pwr = f s.pwr := rfl
@[simp] theorem Block.modPwr_arb (f : Power → Power) : (s.modPwr f).arb = s.arb := rfl
@[simp] theorem Block.modPwr_recs (f : Power → Power) : (s.modPwr f).recs = s.recs := rfl
@[simp] theorem Block.modPwr_engines (f : Power → Power) : (s.modPwr f).engines = s.engines := rfl
@[simp] theorem Block.modPwr_eng (f : Power → Power) : (s.modPwr f).eng = s.eng := rfl
@[simp] theorem Block.modPwr_aux (f : Power → Power) : (s.modPwr f).aux = s.aux := rfl
@[simp] theorem Block.modPwr_feed (f : Power → Power) : (s.modPwr f).feed = s.feed := rfl
@[simp] theorem Block.modPwr_posts (f : Power → Power) : (s.modPwr f).posts = s.posts := rfl
@[simp] theorem Block.modPwr_therm (f : Power → Power) : (s.modPwr f).therm = s.therm := rfl
@[simp] theorem Block.modPwr_stor (f : Power → Power) : (s.modPwr f).stor = s.stor := rfl
@[simp] theorem Block.modPwr_husk (f : Power → Power) : (s.modPwr f).husk = s.husk := rfl
@[simp] theorem Block.modPwr_tar (f : Power → Power) : (s.modPwr f).tar = s.tar := rfl
@[simp] theorem Block.modPwr_dem (f : Power → Power) : (s.modPwr f).dem = s.dem := rfl
@[simp] theorem Block.modPwr_led (f : Power → Power) : (s.modPwr f).led = s.led := rfl
@[simp] theorem Block.modPwr_pq (f : Power → Power) : (s.modPwr f).pq = s.pq := rfl
@[simp] theorem Block.modPwr_pout (f : Power → Power) : (s.modPwr f).pout = s.pout := rfl
@[simp] theorem Block.modPwr_disp (f : Power → Power) : (s.modPwr f).disp = s.disp := rfl
@[simp] theorem Block.modPwr_tamp (f : Power → Power) : (s.modPwr f).tamp = s.tamp := rfl
@[simp] theorem Block.modPwr_faults (f : Power → Power) : (s.modPwr f).faults = s.faults := rfl
@[simp] theorem Block.modPwr_join (f : Power → Power) : (s.modPwr f).join = s.join := rfl
@[simp] theorem Block.modPwr_mc (f : Power → Power) : (s.modPwr f).mc = s.mc := rfl
@[simp] theorem Block.modPwr_host (f : Power → Power) : (s.modPwr f).host = s.host := rfl

@[simp] theorem Block.modArb_freeCnt (f : Arbiter → Arbiter) : (s.modArb f).freeCnt = s.freeCnt := rfl
@[simp] theorem Block.modArb_regs (f : Arbiter → Arbiter) : (s.modArb f).regs = s.regs := rfl
@[simp] theorem Block.modArb_shadow (f : Arbiter → Arbiter) : (s.modArb f).shadow = s.shadow := rfl
@[simp] theorem Block.modArb_frozen (f : Arbiter → Arbiter) : (s.modArb f).frozen = s.frozen := rfl
@[simp] theorem Block.modArb_freezeEnd (f : Arbiter → Arbiter) : (s.modArb f).freezeEnd = s.freezeEnd := rfl
@[simp] theorem Block.modArb_hiCap (f : Arbiter → Arbiter) : (s.modArb f).hiCap = s.hiCap := rfl
@[simp] theorem Block.modArb_episodes (f : Arbiter → Arbiter) : (s.modArb f).episodes = s.episodes := rfl
@[simp] theorem Block.modArb_sram (f : Arbiter → Arbiter) : (s.modArb f).sram = s.sram := rfl
@[simp] theorem Block.modArb_feram (f : Arbiter → Arbiter) : (s.modArb f).feram = s.feram := rfl
@[simp] theorem Block.modArb_time (f : Arbiter → Arbiter) : (s.modArb f).time = s.time := rfl
@[simp] theorem Block.modArb_warp (f : Arbiter → Arbiter) : (s.modArb f).warp = s.warp := rfl
@[simp] theorem Block.modArb_mods (f : Arbiter → Arbiter) : (s.modArb f).mods = s.mods := rfl
@[simp] theorem Block.modArb_slots (f : Arbiter → Arbiter) : (s.modArb f).slots = s.slots := rfl
@[simp] theorem Block.modArb_hist (f : Arbiter → Arbiter) : (s.modArb f).hist = s.hist := rfl
@[simp] theorem Block.modArb_rings (f : Arbiter → Arbiter) : (s.modArb f).rings = s.rings := rfl
@[simp] theorem Block.modArb_spare (f : Arbiter → Arbiter) : (s.modArb f).spare = s.spare := rfl
@[simp] theorem Block.modArb_flt (f : Arbiter → Arbiter) : (s.modArb f).flt = s.flt := rfl
@[simp] theorem Block.modArb_wb (f : Arbiter → Arbiter) : (s.modArb f).wb = s.wb := rfl
@[simp] theorem Block.modArb_pwr (f : Arbiter → Arbiter) : (s.modArb f).pwr = s.pwr := rfl
@[simp] theorem Block.modArb_arb (f : Arbiter → Arbiter) : (s.modArb f).arb = f s.arb := rfl
@[simp] theorem Block.modArb_recs (f : Arbiter → Arbiter) : (s.modArb f).recs = s.recs := rfl
@[simp] theorem Block.modArb_engines (f : Arbiter → Arbiter) : (s.modArb f).engines = s.engines := rfl
@[simp] theorem Block.modArb_eng (f : Arbiter → Arbiter) : (s.modArb f).eng = s.eng := rfl
@[simp] theorem Block.modArb_aux (f : Arbiter → Arbiter) : (s.modArb f).aux = s.aux := rfl
@[simp] theorem Block.modArb_feed (f : Arbiter → Arbiter) : (s.modArb f).feed = s.feed := rfl
@[simp] theorem Block.modArb_posts (f : Arbiter → Arbiter) : (s.modArb f).posts = s.posts := rfl
@[simp] theorem Block.modArb_therm (f : Arbiter → Arbiter) : (s.modArb f).therm = s.therm := rfl
@[simp] theorem Block.modArb_stor (f : Arbiter → Arbiter) : (s.modArb f).stor = s.stor := rfl
@[simp] theorem Block.modArb_husk (f : Arbiter → Arbiter) : (s.modArb f).husk = s.husk := rfl
@[simp] theorem Block.modArb_tar (f : Arbiter → Arbiter) : (s.modArb f).tar = s.tar := rfl
@[simp] theorem Block.modArb_dem (f : Arbiter → Arbiter) : (s.modArb f).dem = s.dem := rfl
@[simp] theorem Block.modArb_led (f : Arbiter → Arbiter) : (s.modArb f).led = s.led := rfl
@[simp] theorem Block.modArb_pq (f : Arbiter → Arbiter) : (s.modArb f).pq = s.pq := rfl
@[simp] theorem Block.modArb_pout (f : Arbiter → Arbiter) : (s.modArb f).pout = s.pout := rfl
@[simp] theorem Block.modArb_disp (f : Arbiter → Arbiter) : (s.modArb f).disp = s.disp := rfl
@[simp] theorem Block.modArb_tamp (f : Arbiter → Arbiter) : (s.modArb f).tamp = s.tamp := rfl
@[simp] theorem Block.modArb_faults (f : Arbiter → Arbiter) : (s.modArb f).faults = s.faults := rfl
@[simp] theorem Block.modArb_join (f : Arbiter → Arbiter) : (s.modArb f).join = s.join := rfl
@[simp] theorem Block.modArb_mc (f : Arbiter → Arbiter) : (s.modArb f).mc = s.mc := rfl
@[simp] theorem Block.modArb_host (f : Arbiter → Arbiter) : (s.modArb f).host = s.host := rfl

@[simp] theorem Block.modRec_freeCnt (f : RecStore → RecStore) : (s.modRec f).freeCnt = s.freeCnt := rfl
@[simp] theorem Block.modRec_regs (f : RecStore → RecStore) : (s.modRec f).regs = s.regs := rfl
@[simp] theorem Block.modRec_shadow (f : RecStore → RecStore) : (s.modRec f).shadow = s.shadow := rfl
@[simp] theorem Block.modRec_frozen (f : RecStore → RecStore) : (s.modRec f).frozen = s.frozen := rfl
@[simp] theorem Block.modRec_freezeEnd (f : RecStore → RecStore) : (s.modRec f).freezeEnd = s.freezeEnd := rfl
@[simp] theorem Block.modRec_hiCap (f : RecStore → RecStore) : (s.modRec f).hiCap = s.hiCap := rfl
@[simp] theorem Block.modRec_episodes (f : RecStore → RecStore) : (s.modRec f).episodes = s.episodes := rfl
@[simp] theorem Block.modRec_sram (f : RecStore → RecStore) : (s.modRec f).sram = s.sram := rfl
@[simp] theorem Block.modRec_feram (f : RecStore → RecStore) : (s.modRec f).feram = s.feram := rfl
@[simp] theorem Block.modRec_time (f : RecStore → RecStore) : (s.modRec f).time = s.time := rfl
@[simp] theorem Block.modRec_warp (f : RecStore → RecStore) : (s.modRec f).warp = s.warp := rfl
@[simp] theorem Block.modRec_mods (f : RecStore → RecStore) : (s.modRec f).mods = s.mods := rfl
@[simp] theorem Block.modRec_slots (f : RecStore → RecStore) : (s.modRec f).slots = s.slots := rfl
@[simp] theorem Block.modRec_hist (f : RecStore → RecStore) : (s.modRec f).hist = s.hist := rfl
@[simp] theorem Block.modRec_rings (f : RecStore → RecStore) : (s.modRec f).rings = s.rings := rfl
@[simp] theorem Block.modRec_spare (f : RecStore → RecStore) : (s.modRec f).spare = s.spare := rfl
@[simp] theorem Block.modRec_flt (f : RecStore → RecStore) : (s.modRec f).flt = s.flt := rfl
@[simp] theorem Block.modRec_wb (f : RecStore → RecStore) : (s.modRec f).wb = s.wb := rfl
@[simp] theorem Block.modRec_pwr (f : RecStore → RecStore) : (s.modRec f).pwr = s.pwr := rfl
@[simp] theorem Block.modRec_arb (f : RecStore → RecStore) : (s.modRec f).arb = s.arb := rfl
@[simp] theorem Block.modRec_recs (f : RecStore → RecStore) : (s.modRec f).recs = f s.recs := rfl
@[simp] theorem Block.modRec_engines (f : RecStore → RecStore) : (s.modRec f).engines = s.engines := rfl
@[simp] theorem Block.modRec_eng (f : RecStore → RecStore) : (s.modRec f).eng = s.eng := rfl
@[simp] theorem Block.modRec_aux (f : RecStore → RecStore) : (s.modRec f).aux = s.aux := rfl
@[simp] theorem Block.modRec_feed (f : RecStore → RecStore) : (s.modRec f).feed = s.feed := rfl
@[simp] theorem Block.modRec_posts (f : RecStore → RecStore) : (s.modRec f).posts = s.posts := rfl
@[simp] theorem Block.modRec_therm (f : RecStore → RecStore) : (s.modRec f).therm = s.therm := rfl
@[simp] theorem Block.modRec_stor (f : RecStore → RecStore) : (s.modRec f).stor = s.stor := rfl
@[simp] theorem Block.modRec_husk (f : RecStore → RecStore) : (s.modRec f).husk = s.husk := rfl
@[simp] theorem Block.modRec_tar (f : RecStore → RecStore) : (s.modRec f).tar = s.tar := rfl
@[simp] theorem Block.modRec_dem (f : RecStore → RecStore) : (s.modRec f).dem = s.dem := rfl
@[simp] theorem Block.modRec_led (f : RecStore → RecStore) : (s.modRec f).led = s.led := rfl
@[simp] theorem Block.modRec_pq (f : RecStore → RecStore) : (s.modRec f).pq = s.pq := rfl
@[simp] theorem Block.modRec_pout (f : RecStore → RecStore) : (s.modRec f).pout = s.pout := rfl
@[simp] theorem Block.modRec_disp (f : RecStore → RecStore) : (s.modRec f).disp = s.disp := rfl
@[simp] theorem Block.modRec_tamp (f : RecStore → RecStore) : (s.modRec f).tamp = s.tamp := rfl
@[simp] theorem Block.modRec_faults (f : RecStore → RecStore) : (s.modRec f).faults = s.faults := rfl
@[simp] theorem Block.modRec_join (f : RecStore → RecStore) : (s.modRec f).join = s.join := rfl
@[simp] theorem Block.modRec_mc (f : RecStore → RecStore) : (s.modRec f).mc = s.mc := rfl
@[simp] theorem Block.modRec_host (f : RecStore → RecStore) : (s.modRec f).host = s.host := rfl

@[simp] theorem Block.modEngine_freeCnt (e : Nat) (f : Engine → Engine) : (s.modEngine e f).freeCnt = s.freeCnt := rfl
@[simp] theorem Block.modEngine_regs (e : Nat) (f : Engine → Engine) : (s.modEngine e f).regs = s.regs := rfl
@[simp] theorem Block.modEngine_shadow (e : Nat) (f : Engine → Engine) : (s.modEngine e f).shadow = s.shadow := rfl
@[simp] theorem Block.modEngine_frozen (e : Nat) (f : Engine → Engine) : (s.modEngine e f).frozen = s.frozen := rfl
@[simp] theorem Block.modEngine_freezeEnd (e : Nat) (f : Engine → Engine) : (s.modEngine e f).freezeEnd = s.freezeEnd := rfl
@[simp] theorem Block.modEngine_hiCap (e : Nat) (f : Engine → Engine) : (s.modEngine e f).hiCap = s.hiCap := rfl
@[simp] theorem Block.modEngine_episodes (e : Nat) (f : Engine → Engine) : (s.modEngine e f).episodes = s.episodes := rfl
@[simp] theorem Block.modEngine_sram (e : Nat) (f : Engine → Engine) : (s.modEngine e f).sram = s.sram := rfl
@[simp] theorem Block.modEngine_feram (e : Nat) (f : Engine → Engine) : (s.modEngine e f).feram = s.feram := rfl
@[simp] theorem Block.modEngine_time (e : Nat) (f : Engine → Engine) : (s.modEngine e f).time = s.time := rfl
@[simp] theorem Block.modEngine_warp (e : Nat) (f : Engine → Engine) : (s.modEngine e f).warp = s.warp := rfl
@[simp] theorem Block.modEngine_mods (e : Nat) (f : Engine → Engine) : (s.modEngine e f).mods = s.mods := rfl
@[simp] theorem Block.modEngine_slots (e : Nat) (f : Engine → Engine) : (s.modEngine e f).slots = s.slots := rfl
@[simp] theorem Block.modEngine_hist (e : Nat) (f : Engine → Engine) : (s.modEngine e f).hist = s.hist := rfl
@[simp] theorem Block.modEngine_rings (e : Nat) (f : Engine → Engine) : (s.modEngine e f).rings = s.rings := rfl
@[simp] theorem Block.modEngine_spare (e : Nat) (f : Engine → Engine) : (s.modEngine e f).spare = s.spare := rfl
@[simp] theorem Block.modEngine_flt (e : Nat) (f : Engine → Engine) : (s.modEngine e f).flt = s.flt := rfl
@[simp] theorem Block.modEngine_wb (e : Nat) (f : Engine → Engine) : (s.modEngine e f).wb = s.wb := rfl
@[simp] theorem Block.modEngine_pwr (e : Nat) (f : Engine → Engine) : (s.modEngine e f).pwr = s.pwr := rfl
@[simp] theorem Block.modEngine_arb (e : Nat) (f : Engine → Engine) : (s.modEngine e f).arb = s.arb := rfl
@[simp] theorem Block.modEngine_recs (e : Nat) (f : Engine → Engine) : (s.modEngine e f).recs = s.recs := rfl
@[simp] theorem Block.modEngine_engines (e : Nat) (f : Engine → Engine) : (s.modEngine e f).engines = modNth s.engines e f := rfl
@[simp] theorem Block.modEngine_eng (e : Nat) (f : Engine → Engine) : (s.modEngine e f).eng = s.eng := rfl
@[simp] theorem Block.modEngine_aux (e : Nat) (f : Engine → Engine) : (s.modEngine e f).aux = s.aux := rfl
@[simp] theorem Block.modEngine_feed (e : Nat) (f : Engine → Engine) : (s.modEngine e f).feed = s.feed := rfl
@[simp] theorem Block.modEngine_posts (e : Nat) (f : Engine → Engine) : (s.modEngine e f).posts = s.posts := rfl
@[simp] theorem Block.modEngine_therm (e : Nat) (f : Engine → Engine) : (s.modEngine e f).therm = s.therm := rfl
@[simp] theorem Block.modEngine_stor (e : Nat) (f : Engine → Engine) : (s.modEngine e f).stor = s.stor := rfl
@[simp] theorem Block.modEngine_husk (e : Nat) (f : Engine → Engine) : (s.modEngine e f).husk = s.husk := rfl
@[simp] theorem Block.modEngine_tar (e : Nat) (f : Engine → Engine) : (s.modEngine e f).tar = s.tar := rfl
@[simp] theorem Block.modEngine_dem (e : Nat) (f : Engine → Engine) : (s.modEngine e f).dem = s.dem := rfl
@[simp] theorem Block.modEngine_led (e : Nat) (f : Engine → Engine) : (s.modEngine e f).led = s.led := rfl
@[simp] theorem Block.modEngine_pq (e : Nat) (f : Engine → Engine) : (s.modEngine e f).pq = s.pq := rfl
@[simp] theorem Block.modEngine_pout (e : Nat) (f : Engine → Engine) : (s.modEngine e f).pout = s.pout := rfl
@[simp] theorem Block.modEngine_disp (e : Nat) (f : Engine → Engine) : (s.modEngine e f).disp = s.disp := rfl
@[simp] theorem Block.modEngine_tamp (e : Nat) (f : Engine → Engine) : (s.modEngine e f).tamp = s.tamp := rfl
@[simp] theorem Block.modEngine_faults (e : Nat) (f : Engine → Engine) : (s.modEngine e f).faults = s.faults := rfl
@[simp] theorem Block.modEngine_join (e : Nat) (f : Engine → Engine) : (s.modEngine e f).join = s.join := rfl
@[simp] theorem Block.modEngine_mc (e : Nat) (f : Engine → Engine) : (s.modEngine e f).mc = s.mc := rfl
@[simp] theorem Block.modEngine_host (e : Nat) (f : Engine → Engine) : (s.modEngine e f).host = s.host := rfl

@[simp] theorem Block.modEng_freeCnt (f : EngBlock → EngBlock) : (s.modEng f).freeCnt = s.freeCnt := rfl
@[simp] theorem Block.modEng_regs (f : EngBlock → EngBlock) : (s.modEng f).regs = s.regs := rfl
@[simp] theorem Block.modEng_shadow (f : EngBlock → EngBlock) : (s.modEng f).shadow = s.shadow := rfl
@[simp] theorem Block.modEng_frozen (f : EngBlock → EngBlock) : (s.modEng f).frozen = s.frozen := rfl
@[simp] theorem Block.modEng_freezeEnd (f : EngBlock → EngBlock) : (s.modEng f).freezeEnd = s.freezeEnd := rfl
@[simp] theorem Block.modEng_hiCap (f : EngBlock → EngBlock) : (s.modEng f).hiCap = s.hiCap := rfl
@[simp] theorem Block.modEng_episodes (f : EngBlock → EngBlock) : (s.modEng f).episodes = s.episodes := rfl
@[simp] theorem Block.modEng_sram (f : EngBlock → EngBlock) : (s.modEng f).sram = s.sram := rfl
@[simp] theorem Block.modEng_feram (f : EngBlock → EngBlock) : (s.modEng f).feram = s.feram := rfl
@[simp] theorem Block.modEng_time (f : EngBlock → EngBlock) : (s.modEng f).time = s.time := rfl
@[simp] theorem Block.modEng_warp (f : EngBlock → EngBlock) : (s.modEng f).warp = s.warp := rfl
@[simp] theorem Block.modEng_mods (f : EngBlock → EngBlock) : (s.modEng f).mods = s.mods := rfl
@[simp] theorem Block.modEng_slots (f : EngBlock → EngBlock) : (s.modEng f).slots = s.slots := rfl
@[simp] theorem Block.modEng_hist (f : EngBlock → EngBlock) : (s.modEng f).hist = s.hist := rfl
@[simp] theorem Block.modEng_rings (f : EngBlock → EngBlock) : (s.modEng f).rings = s.rings := rfl
@[simp] theorem Block.modEng_spare (f : EngBlock → EngBlock) : (s.modEng f).spare = s.spare := rfl
@[simp] theorem Block.modEng_flt (f : EngBlock → EngBlock) : (s.modEng f).flt = s.flt := rfl
@[simp] theorem Block.modEng_wb (f : EngBlock → EngBlock) : (s.modEng f).wb = s.wb := rfl
@[simp] theorem Block.modEng_pwr (f : EngBlock → EngBlock) : (s.modEng f).pwr = s.pwr := rfl
@[simp] theorem Block.modEng_arb (f : EngBlock → EngBlock) : (s.modEng f).arb = s.arb := rfl
@[simp] theorem Block.modEng_recs (f : EngBlock → EngBlock) : (s.modEng f).recs = s.recs := rfl
@[simp] theorem Block.modEng_engines (f : EngBlock → EngBlock) : (s.modEng f).engines = s.engines := rfl
@[simp] theorem Block.modEng_eng (f : EngBlock → EngBlock) : (s.modEng f).eng = f s.eng := rfl
@[simp] theorem Block.modEng_aux (f : EngBlock → EngBlock) : (s.modEng f).aux = s.aux := rfl
@[simp] theorem Block.modEng_feed (f : EngBlock → EngBlock) : (s.modEng f).feed = s.feed := rfl
@[simp] theorem Block.modEng_posts (f : EngBlock → EngBlock) : (s.modEng f).posts = s.posts := rfl
@[simp] theorem Block.modEng_therm (f : EngBlock → EngBlock) : (s.modEng f).therm = s.therm := rfl
@[simp] theorem Block.modEng_stor (f : EngBlock → EngBlock) : (s.modEng f).stor = s.stor := rfl
@[simp] theorem Block.modEng_husk (f : EngBlock → EngBlock) : (s.modEng f).husk = s.husk := rfl
@[simp] theorem Block.modEng_tar (f : EngBlock → EngBlock) : (s.modEng f).tar = s.tar := rfl
@[simp] theorem Block.modEng_dem (f : EngBlock → EngBlock) : (s.modEng f).dem = s.dem := rfl
@[simp] theorem Block.modEng_led (f : EngBlock → EngBlock) : (s.modEng f).led = s.led := rfl
@[simp] theorem Block.modEng_pq (f : EngBlock → EngBlock) : (s.modEng f).pq = s.pq := rfl
@[simp] theorem Block.modEng_pout (f : EngBlock → EngBlock) : (s.modEng f).pout = s.pout := rfl
@[simp] theorem Block.modEng_disp (f : EngBlock → EngBlock) : (s.modEng f).disp = s.disp := rfl
@[simp] theorem Block.modEng_tamp (f : EngBlock → EngBlock) : (s.modEng f).tamp = s.tamp := rfl
@[simp] theorem Block.modEng_faults (f : EngBlock → EngBlock) : (s.modEng f).faults = s.faults := rfl
@[simp] theorem Block.modEng_join (f : EngBlock → EngBlock) : (s.modEng f).join = s.join := rfl
@[simp] theorem Block.modEng_mc (f : EngBlock → EngBlock) : (s.modEng f).mc = s.mc := rfl
@[simp] theorem Block.modEng_host (f : EngBlock → EngBlock) : (s.modEng f).host = s.host := rfl

@[simp] theorem Block.modAux_freeCnt (f : Aux → Aux) : (s.modAux f).freeCnt = s.freeCnt := rfl
@[simp] theorem Block.modAux_regs (f : Aux → Aux) : (s.modAux f).regs = s.regs := rfl
@[simp] theorem Block.modAux_shadow (f : Aux → Aux) : (s.modAux f).shadow = s.shadow := rfl
@[simp] theorem Block.modAux_frozen (f : Aux → Aux) : (s.modAux f).frozen = s.frozen := rfl
@[simp] theorem Block.modAux_freezeEnd (f : Aux → Aux) : (s.modAux f).freezeEnd = s.freezeEnd := rfl
@[simp] theorem Block.modAux_hiCap (f : Aux → Aux) : (s.modAux f).hiCap = s.hiCap := rfl
@[simp] theorem Block.modAux_episodes (f : Aux → Aux) : (s.modAux f).episodes = s.episodes := rfl
@[simp] theorem Block.modAux_sram (f : Aux → Aux) : (s.modAux f).sram = s.sram := rfl
@[simp] theorem Block.modAux_feram (f : Aux → Aux) : (s.modAux f).feram = s.feram := rfl
@[simp] theorem Block.modAux_time (f : Aux → Aux) : (s.modAux f).time = s.time := rfl
@[simp] theorem Block.modAux_warp (f : Aux → Aux) : (s.modAux f).warp = s.warp := rfl
@[simp] theorem Block.modAux_mods (f : Aux → Aux) : (s.modAux f).mods = s.mods := rfl
@[simp] theorem Block.modAux_slots (f : Aux → Aux) : (s.modAux f).slots = s.slots := rfl
@[simp] theorem Block.modAux_hist (f : Aux → Aux) : (s.modAux f).hist = s.hist := rfl
@[simp] theorem Block.modAux_rings (f : Aux → Aux) : (s.modAux f).rings = s.rings := rfl
@[simp] theorem Block.modAux_spare (f : Aux → Aux) : (s.modAux f).spare = s.spare := rfl
@[simp] theorem Block.modAux_flt (f : Aux → Aux) : (s.modAux f).flt = s.flt := rfl
@[simp] theorem Block.modAux_wb (f : Aux → Aux) : (s.modAux f).wb = s.wb := rfl
@[simp] theorem Block.modAux_pwr (f : Aux → Aux) : (s.modAux f).pwr = s.pwr := rfl
@[simp] theorem Block.modAux_arb (f : Aux → Aux) : (s.modAux f).arb = s.arb := rfl
@[simp] theorem Block.modAux_recs (f : Aux → Aux) : (s.modAux f).recs = s.recs := rfl
@[simp] theorem Block.modAux_engines (f : Aux → Aux) : (s.modAux f).engines = s.engines := rfl
@[simp] theorem Block.modAux_eng (f : Aux → Aux) : (s.modAux f).eng = s.eng := rfl
@[simp] theorem Block.modAux_aux (f : Aux → Aux) : (s.modAux f).aux = f s.aux := rfl
@[simp] theorem Block.modAux_feed (f : Aux → Aux) : (s.modAux f).feed = s.feed := rfl
@[simp] theorem Block.modAux_posts (f : Aux → Aux) : (s.modAux f).posts = s.posts := rfl
@[simp] theorem Block.modAux_therm (f : Aux → Aux) : (s.modAux f).therm = s.therm := rfl
@[simp] theorem Block.modAux_stor (f : Aux → Aux) : (s.modAux f).stor = s.stor := rfl
@[simp] theorem Block.modAux_husk (f : Aux → Aux) : (s.modAux f).husk = s.husk := rfl
@[simp] theorem Block.modAux_tar (f : Aux → Aux) : (s.modAux f).tar = s.tar := rfl
@[simp] theorem Block.modAux_dem (f : Aux → Aux) : (s.modAux f).dem = s.dem := rfl
@[simp] theorem Block.modAux_led (f : Aux → Aux) : (s.modAux f).led = s.led := rfl
@[simp] theorem Block.modAux_pq (f : Aux → Aux) : (s.modAux f).pq = s.pq := rfl
@[simp] theorem Block.modAux_pout (f : Aux → Aux) : (s.modAux f).pout = s.pout := rfl
@[simp] theorem Block.modAux_disp (f : Aux → Aux) : (s.modAux f).disp = s.disp := rfl
@[simp] theorem Block.modAux_tamp (f : Aux → Aux) : (s.modAux f).tamp = s.tamp := rfl
@[simp] theorem Block.modAux_faults (f : Aux → Aux) : (s.modAux f).faults = s.faults := rfl
@[simp] theorem Block.modAux_join (f : Aux → Aux) : (s.modAux f).join = s.join := rfl
@[simp] theorem Block.modAux_mc (f : Aux → Aux) : (s.modAux f).mc = s.mc := rfl
@[simp] theorem Block.modAux_host (f : Aux → Aux) : (s.modAux f).host = s.host := rfl

@[simp] theorem Block.modFeed_freeCnt (f : FeedState → FeedState) : (s.modFeed f).freeCnt = s.freeCnt := rfl
@[simp] theorem Block.modFeed_regs (f : FeedState → FeedState) : (s.modFeed f).regs = s.regs := rfl
@[simp] theorem Block.modFeed_shadow (f : FeedState → FeedState) : (s.modFeed f).shadow = s.shadow := rfl
@[simp] theorem Block.modFeed_frozen (f : FeedState → FeedState) : (s.modFeed f).frozen = s.frozen := rfl
@[simp] theorem Block.modFeed_freezeEnd (f : FeedState → FeedState) : (s.modFeed f).freezeEnd = s.freezeEnd := rfl
@[simp] theorem Block.modFeed_hiCap (f : FeedState → FeedState) : (s.modFeed f).hiCap = s.hiCap := rfl
@[simp] theorem Block.modFeed_episodes (f : FeedState → FeedState) : (s.modFeed f).episodes = s.episodes := rfl
@[simp] theorem Block.modFeed_sram (f : FeedState → FeedState) : (s.modFeed f).sram = s.sram := rfl
@[simp] theorem Block.modFeed_feram (f : FeedState → FeedState) : (s.modFeed f).feram = s.feram := rfl
@[simp] theorem Block.modFeed_time (f : FeedState → FeedState) : (s.modFeed f).time = s.time := rfl
@[simp] theorem Block.modFeed_warp (f : FeedState → FeedState) : (s.modFeed f).warp = s.warp := rfl
@[simp] theorem Block.modFeed_mods (f : FeedState → FeedState) : (s.modFeed f).mods = s.mods := rfl
@[simp] theorem Block.modFeed_slots (f : FeedState → FeedState) : (s.modFeed f).slots = s.slots := rfl
@[simp] theorem Block.modFeed_hist (f : FeedState → FeedState) : (s.modFeed f).hist = s.hist := rfl
@[simp] theorem Block.modFeed_rings (f : FeedState → FeedState) : (s.modFeed f).rings = s.rings := rfl
@[simp] theorem Block.modFeed_spare (f : FeedState → FeedState) : (s.modFeed f).spare = s.spare := rfl
@[simp] theorem Block.modFeed_flt (f : FeedState → FeedState) : (s.modFeed f).flt = s.flt := rfl
@[simp] theorem Block.modFeed_wb (f : FeedState → FeedState) : (s.modFeed f).wb = s.wb := rfl
@[simp] theorem Block.modFeed_pwr (f : FeedState → FeedState) : (s.modFeed f).pwr = s.pwr := rfl
@[simp] theorem Block.modFeed_arb (f : FeedState → FeedState) : (s.modFeed f).arb = s.arb := rfl
@[simp] theorem Block.modFeed_recs (f : FeedState → FeedState) : (s.modFeed f).recs = s.recs := rfl
@[simp] theorem Block.modFeed_engines (f : FeedState → FeedState) : (s.modFeed f).engines = s.engines := rfl
@[simp] theorem Block.modFeed_eng (f : FeedState → FeedState) : (s.modFeed f).eng = s.eng := rfl
@[simp] theorem Block.modFeed_aux (f : FeedState → FeedState) : (s.modFeed f).aux = s.aux := rfl
@[simp] theorem Block.modFeed_feed (f : FeedState → FeedState) : (s.modFeed f).feed = f s.feed := rfl
@[simp] theorem Block.modFeed_posts (f : FeedState → FeedState) : (s.modFeed f).posts = s.posts := rfl
@[simp] theorem Block.modFeed_therm (f : FeedState → FeedState) : (s.modFeed f).therm = s.therm := rfl
@[simp] theorem Block.modFeed_stor (f : FeedState → FeedState) : (s.modFeed f).stor = s.stor := rfl
@[simp] theorem Block.modFeed_husk (f : FeedState → FeedState) : (s.modFeed f).husk = s.husk := rfl
@[simp] theorem Block.modFeed_tar (f : FeedState → FeedState) : (s.modFeed f).tar = s.tar := rfl
@[simp] theorem Block.modFeed_dem (f : FeedState → FeedState) : (s.modFeed f).dem = s.dem := rfl
@[simp] theorem Block.modFeed_led (f : FeedState → FeedState) : (s.modFeed f).led = s.led := rfl
@[simp] theorem Block.modFeed_pq (f : FeedState → FeedState) : (s.modFeed f).pq = s.pq := rfl
@[simp] theorem Block.modFeed_pout (f : FeedState → FeedState) : (s.modFeed f).pout = s.pout := rfl
@[simp] theorem Block.modFeed_disp (f : FeedState → FeedState) : (s.modFeed f).disp = s.disp := rfl
@[simp] theorem Block.modFeed_tamp (f : FeedState → FeedState) : (s.modFeed f).tamp = s.tamp := rfl
@[simp] theorem Block.modFeed_faults (f : FeedState → FeedState) : (s.modFeed f).faults = s.faults := rfl
@[simp] theorem Block.modFeed_join (f : FeedState → FeedState) : (s.modFeed f).join = s.join := rfl
@[simp] theorem Block.modFeed_mc (f : FeedState → FeedState) : (s.modFeed f).mc = s.mc := rfl
@[simp] theorem Block.modFeed_host (f : FeedState → FeedState) : (s.modFeed f).host = s.host := rfl

@[simp] theorem Block.modTherm_freeCnt (f : Therm → Therm) : (s.modTherm f).freeCnt = s.freeCnt := rfl
@[simp] theorem Block.modTherm_regs (f : Therm → Therm) : (s.modTherm f).regs = s.regs := rfl
@[simp] theorem Block.modTherm_shadow (f : Therm → Therm) : (s.modTherm f).shadow = s.shadow := rfl
@[simp] theorem Block.modTherm_frozen (f : Therm → Therm) : (s.modTherm f).frozen = s.frozen := rfl
@[simp] theorem Block.modTherm_freezeEnd (f : Therm → Therm) : (s.modTherm f).freezeEnd = s.freezeEnd := rfl
@[simp] theorem Block.modTherm_hiCap (f : Therm → Therm) : (s.modTherm f).hiCap = s.hiCap := rfl
@[simp] theorem Block.modTherm_episodes (f : Therm → Therm) : (s.modTherm f).episodes = s.episodes := rfl
@[simp] theorem Block.modTherm_sram (f : Therm → Therm) : (s.modTherm f).sram = s.sram := rfl
@[simp] theorem Block.modTherm_feram (f : Therm → Therm) : (s.modTherm f).feram = s.feram := rfl
@[simp] theorem Block.modTherm_time (f : Therm → Therm) : (s.modTherm f).time = s.time := rfl
@[simp] theorem Block.modTherm_warp (f : Therm → Therm) : (s.modTherm f).warp = s.warp := rfl
@[simp] theorem Block.modTherm_mods (f : Therm → Therm) : (s.modTherm f).mods = s.mods := rfl
@[simp] theorem Block.modTherm_slots (f : Therm → Therm) : (s.modTherm f).slots = s.slots := rfl
@[simp] theorem Block.modTherm_hist (f : Therm → Therm) : (s.modTherm f).hist = s.hist := rfl
@[simp] theorem Block.modTherm_rings (f : Therm → Therm) : (s.modTherm f).rings = s.rings := rfl
@[simp] theorem Block.modTherm_spare (f : Therm → Therm) : (s.modTherm f).spare = s.spare := rfl
@[simp] theorem Block.modTherm_flt (f : Therm → Therm) : (s.modTherm f).flt = s.flt := rfl
@[simp] theorem Block.modTherm_wb (f : Therm → Therm) : (s.modTherm f).wb = s.wb := rfl
@[simp] theorem Block.modTherm_pwr (f : Therm → Therm) : (s.modTherm f).pwr = s.pwr := rfl
@[simp] theorem Block.modTherm_arb (f : Therm → Therm) : (s.modTherm f).arb = s.arb := rfl
@[simp] theorem Block.modTherm_recs (f : Therm → Therm) : (s.modTherm f).recs = s.recs := rfl
@[simp] theorem Block.modTherm_engines (f : Therm → Therm) : (s.modTherm f).engines = s.engines := rfl
@[simp] theorem Block.modTherm_eng (f : Therm → Therm) : (s.modTherm f).eng = s.eng := rfl
@[simp] theorem Block.modTherm_aux (f : Therm → Therm) : (s.modTherm f).aux = s.aux := rfl
@[simp] theorem Block.modTherm_feed (f : Therm → Therm) : (s.modTherm f).feed = s.feed := rfl
@[simp] theorem Block.modTherm_posts (f : Therm → Therm) : (s.modTherm f).posts = s.posts := rfl
@[simp] theorem Block.modTherm_therm (f : Therm → Therm) : (s.modTherm f).therm = f s.therm := rfl
@[simp] theorem Block.modTherm_stor (f : Therm → Therm) : (s.modTherm f).stor = s.stor := rfl
@[simp] theorem Block.modTherm_husk (f : Therm → Therm) : (s.modTherm f).husk = s.husk := rfl
@[simp] theorem Block.modTherm_tar (f : Therm → Therm) : (s.modTherm f).tar = s.tar := rfl
@[simp] theorem Block.modTherm_dem (f : Therm → Therm) : (s.modTherm f).dem = s.dem := rfl
@[simp] theorem Block.modTherm_led (f : Therm → Therm) : (s.modTherm f).led = s.led := rfl
@[simp] theorem Block.modTherm_pq (f : Therm → Therm) : (s.modTherm f).pq = s.pq := rfl
@[simp] theorem Block.modTherm_pout (f : Therm → Therm) : (s.modTherm f).pout = s.pout := rfl
@[simp] theorem Block.modTherm_disp (f : Therm → Therm) : (s.modTherm f).disp = s.disp := rfl
@[simp] theorem Block.modTherm_tamp (f : Therm → Therm) : (s.modTherm f).tamp = s.tamp := rfl
@[simp] theorem Block.modTherm_faults (f : Therm → Therm) : (s.modTherm f).faults = s.faults := rfl
@[simp] theorem Block.modTherm_join (f : Therm → Therm) : (s.modTherm f).join = s.join := rfl
@[simp] theorem Block.modTherm_mc (f : Therm → Therm) : (s.modTherm f).mc = s.mc := rfl
@[simp] theorem Block.modTherm_host (f : Therm → Therm) : (s.modTherm f).host = s.host := rfl

@[simp] theorem Block.modStor_freeCnt (f : Store → Store) : (s.modStor f).freeCnt = s.freeCnt := rfl
@[simp] theorem Block.modStor_regs (f : Store → Store) : (s.modStor f).regs = s.regs := rfl
@[simp] theorem Block.modStor_shadow (f : Store → Store) : (s.modStor f).shadow = s.shadow := rfl
@[simp] theorem Block.modStor_frozen (f : Store → Store) : (s.modStor f).frozen = s.frozen := rfl
@[simp] theorem Block.modStor_freezeEnd (f : Store → Store) : (s.modStor f).freezeEnd = s.freezeEnd := rfl
@[simp] theorem Block.modStor_hiCap (f : Store → Store) : (s.modStor f).hiCap = s.hiCap := rfl
@[simp] theorem Block.modStor_episodes (f : Store → Store) : (s.modStor f).episodes = s.episodes := rfl
@[simp] theorem Block.modStor_sram (f : Store → Store) : (s.modStor f).sram = s.sram := rfl
@[simp] theorem Block.modStor_feram (f : Store → Store) : (s.modStor f).feram = s.feram := rfl
@[simp] theorem Block.modStor_time (f : Store → Store) : (s.modStor f).time = s.time := rfl
@[simp] theorem Block.modStor_warp (f : Store → Store) : (s.modStor f).warp = s.warp := rfl
@[simp] theorem Block.modStor_mods (f : Store → Store) : (s.modStor f).mods = s.mods := rfl
@[simp] theorem Block.modStor_slots (f : Store → Store) : (s.modStor f).slots = s.slots := rfl
@[simp] theorem Block.modStor_hist (f : Store → Store) : (s.modStor f).hist = s.hist := rfl
@[simp] theorem Block.modStor_rings (f : Store → Store) : (s.modStor f).rings = s.rings := rfl
@[simp] theorem Block.modStor_spare (f : Store → Store) : (s.modStor f).spare = s.spare := rfl
@[simp] theorem Block.modStor_flt (f : Store → Store) : (s.modStor f).flt = s.flt := rfl
@[simp] theorem Block.modStor_wb (f : Store → Store) : (s.modStor f).wb = s.wb := rfl
@[simp] theorem Block.modStor_pwr (f : Store → Store) : (s.modStor f).pwr = s.pwr := rfl
@[simp] theorem Block.modStor_arb (f : Store → Store) : (s.modStor f).arb = s.arb := rfl
@[simp] theorem Block.modStor_recs (f : Store → Store) : (s.modStor f).recs = s.recs := rfl
@[simp] theorem Block.modStor_engines (f : Store → Store) : (s.modStor f).engines = s.engines := rfl
@[simp] theorem Block.modStor_eng (f : Store → Store) : (s.modStor f).eng = s.eng := rfl
@[simp] theorem Block.modStor_aux (f : Store → Store) : (s.modStor f).aux = s.aux := rfl
@[simp] theorem Block.modStor_feed (f : Store → Store) : (s.modStor f).feed = s.feed := rfl
@[simp] theorem Block.modStor_posts (f : Store → Store) : (s.modStor f).posts = s.posts := rfl
@[simp] theorem Block.modStor_therm (f : Store → Store) : (s.modStor f).therm = s.therm := rfl
@[simp] theorem Block.modStor_stor (f : Store → Store) : (s.modStor f).stor = f s.stor := rfl
@[simp] theorem Block.modStor_husk (f : Store → Store) : (s.modStor f).husk = s.husk := rfl
@[simp] theorem Block.modStor_tar (f : Store → Store) : (s.modStor f).tar = s.tar := rfl
@[simp] theorem Block.modStor_dem (f : Store → Store) : (s.modStor f).dem = s.dem := rfl
@[simp] theorem Block.modStor_led (f : Store → Store) : (s.modStor f).led = s.led := rfl
@[simp] theorem Block.modStor_pq (f : Store → Store) : (s.modStor f).pq = s.pq := rfl
@[simp] theorem Block.modStor_pout (f : Store → Store) : (s.modStor f).pout = s.pout := rfl
@[simp] theorem Block.modStor_disp (f : Store → Store) : (s.modStor f).disp = s.disp := rfl
@[simp] theorem Block.modStor_tamp (f : Store → Store) : (s.modStor f).tamp = s.tamp := rfl
@[simp] theorem Block.modStor_faults (f : Store → Store) : (s.modStor f).faults = s.faults := rfl
@[simp] theorem Block.modStor_join (f : Store → Store) : (s.modStor f).join = s.join := rfl
@[simp] theorem Block.modStor_mc (f : Store → Store) : (s.modStor f).mc = s.mc := rfl
@[simp] theorem Block.modStor_host (f : Store → Store) : (s.modStor f).host = s.host := rfl

@[simp] theorem Block.modHusk_freeCnt (f : Husk → Husk) : (s.modHusk f).freeCnt = s.freeCnt := rfl
@[simp] theorem Block.modHusk_regs (f : Husk → Husk) : (s.modHusk f).regs = s.regs := rfl
@[simp] theorem Block.modHusk_shadow (f : Husk → Husk) : (s.modHusk f).shadow = s.shadow := rfl
@[simp] theorem Block.modHusk_frozen (f : Husk → Husk) : (s.modHusk f).frozen = s.frozen := rfl
@[simp] theorem Block.modHusk_freezeEnd (f : Husk → Husk) : (s.modHusk f).freezeEnd = s.freezeEnd := rfl
@[simp] theorem Block.modHusk_hiCap (f : Husk → Husk) : (s.modHusk f).hiCap = s.hiCap := rfl
@[simp] theorem Block.modHusk_episodes (f : Husk → Husk) : (s.modHusk f).episodes = s.episodes := rfl
@[simp] theorem Block.modHusk_sram (f : Husk → Husk) : (s.modHusk f).sram = s.sram := rfl
@[simp] theorem Block.modHusk_feram (f : Husk → Husk) : (s.modHusk f).feram = s.feram := rfl
@[simp] theorem Block.modHusk_time (f : Husk → Husk) : (s.modHusk f).time = s.time := rfl
@[simp] theorem Block.modHusk_warp (f : Husk → Husk) : (s.modHusk f).warp = s.warp := rfl
@[simp] theorem Block.modHusk_mods (f : Husk → Husk) : (s.modHusk f).mods = s.mods := rfl
@[simp] theorem Block.modHusk_slots (f : Husk → Husk) : (s.modHusk f).slots = s.slots := rfl
@[simp] theorem Block.modHusk_hist (f : Husk → Husk) : (s.modHusk f).hist = s.hist := rfl
@[simp] theorem Block.modHusk_rings (f : Husk → Husk) : (s.modHusk f).rings = s.rings := rfl
@[simp] theorem Block.modHusk_spare (f : Husk → Husk) : (s.modHusk f).spare = s.spare := rfl
@[simp] theorem Block.modHusk_flt (f : Husk → Husk) : (s.modHusk f).flt = s.flt := rfl
@[simp] theorem Block.modHusk_wb (f : Husk → Husk) : (s.modHusk f).wb = s.wb := rfl
@[simp] theorem Block.modHusk_pwr (f : Husk → Husk) : (s.modHusk f).pwr = s.pwr := rfl
@[simp] theorem Block.modHusk_arb (f : Husk → Husk) : (s.modHusk f).arb = s.arb := rfl
@[simp] theorem Block.modHusk_recs (f : Husk → Husk) : (s.modHusk f).recs = s.recs := rfl
@[simp] theorem Block.modHusk_engines (f : Husk → Husk) : (s.modHusk f).engines = s.engines := rfl
@[simp] theorem Block.modHusk_eng (f : Husk → Husk) : (s.modHusk f).eng = s.eng := rfl
@[simp] theorem Block.modHusk_aux (f : Husk → Husk) : (s.modHusk f).aux = s.aux := rfl
@[simp] theorem Block.modHusk_feed (f : Husk → Husk) : (s.modHusk f).feed = s.feed := rfl
@[simp] theorem Block.modHusk_posts (f : Husk → Husk) : (s.modHusk f).posts = s.posts := rfl
@[simp] theorem Block.modHusk_therm (f : Husk → Husk) : (s.modHusk f).therm = s.therm := rfl
@[simp] theorem Block.modHusk_stor (f : Husk → Husk) : (s.modHusk f).stor = s.stor := rfl
@[simp] theorem Block.modHusk_husk (f : Husk → Husk) : (s.modHusk f).husk = f s.husk := rfl
@[simp] theorem Block.modHusk_tar (f : Husk → Husk) : (s.modHusk f).tar = s.tar := rfl
@[simp] theorem Block.modHusk_dem (f : Husk → Husk) : (s.modHusk f).dem = s.dem := rfl
@[simp] theorem Block.modHusk_led (f : Husk → Husk) : (s.modHusk f).led = s.led := rfl
@[simp] theorem Block.modHusk_pq (f : Husk → Husk) : (s.modHusk f).pq = s.pq := rfl
@[simp] theorem Block.modHusk_pout (f : Husk → Husk) : (s.modHusk f).pout = s.pout := rfl
@[simp] theorem Block.modHusk_disp (f : Husk → Husk) : (s.modHusk f).disp = s.disp := rfl
@[simp] theorem Block.modHusk_tamp (f : Husk → Husk) : (s.modHusk f).tamp = s.tamp := rfl
@[simp] theorem Block.modHusk_faults (f : Husk → Husk) : (s.modHusk f).faults = s.faults := rfl
@[simp] theorem Block.modHusk_join (f : Husk → Husk) : (s.modHusk f).join = s.join := rfl
@[simp] theorem Block.modHusk_mc (f : Husk → Husk) : (s.modHusk f).mc = s.mc := rfl
@[simp] theorem Block.modHusk_host (f : Husk → Husk) : (s.modHusk f).host = s.host := rfl

@[simp] theorem Block.modTar_freeCnt (f : Tariff → Tariff) : (s.modTar f).freeCnt = s.freeCnt := rfl
@[simp] theorem Block.modTar_regs (f : Tariff → Tariff) : (s.modTar f).regs = s.regs := rfl
@[simp] theorem Block.modTar_shadow (f : Tariff → Tariff) : (s.modTar f).shadow = s.shadow := rfl
@[simp] theorem Block.modTar_frozen (f : Tariff → Tariff) : (s.modTar f).frozen = s.frozen := rfl
@[simp] theorem Block.modTar_freezeEnd (f : Tariff → Tariff) : (s.modTar f).freezeEnd = s.freezeEnd := rfl
@[simp] theorem Block.modTar_hiCap (f : Tariff → Tariff) : (s.modTar f).hiCap = s.hiCap := rfl
@[simp] theorem Block.modTar_episodes (f : Tariff → Tariff) : (s.modTar f).episodes = s.episodes := rfl
@[simp] theorem Block.modTar_sram (f : Tariff → Tariff) : (s.modTar f).sram = s.sram := rfl
@[simp] theorem Block.modTar_feram (f : Tariff → Tariff) : (s.modTar f).feram = s.feram := rfl
@[simp] theorem Block.modTar_time (f : Tariff → Tariff) : (s.modTar f).time = s.time := rfl
@[simp] theorem Block.modTar_warp (f : Tariff → Tariff) : (s.modTar f).warp = s.warp := rfl
@[simp] theorem Block.modTar_mods (f : Tariff → Tariff) : (s.modTar f).mods = s.mods := rfl
@[simp] theorem Block.modTar_slots (f : Tariff → Tariff) : (s.modTar f).slots = s.slots := rfl
@[simp] theorem Block.modTar_hist (f : Tariff → Tariff) : (s.modTar f).hist = s.hist := rfl
@[simp] theorem Block.modTar_rings (f : Tariff → Tariff) : (s.modTar f).rings = s.rings := rfl
@[simp] theorem Block.modTar_spare (f : Tariff → Tariff) : (s.modTar f).spare = s.spare := rfl
@[simp] theorem Block.modTar_flt (f : Tariff → Tariff) : (s.modTar f).flt = s.flt := rfl
@[simp] theorem Block.modTar_wb (f : Tariff → Tariff) : (s.modTar f).wb = s.wb := rfl
@[simp] theorem Block.modTar_pwr (f : Tariff → Tariff) : (s.modTar f).pwr = s.pwr := rfl
@[simp] theorem Block.modTar_arb (f : Tariff → Tariff) : (s.modTar f).arb = s.arb := rfl
@[simp] theorem Block.modTar_recs (f : Tariff → Tariff) : (s.modTar f).recs = s.recs := rfl
@[simp] theorem Block.modTar_engines (f : Tariff → Tariff) : (s.modTar f).engines = s.engines := rfl
@[simp] theorem Block.modTar_eng (f : Tariff → Tariff) : (s.modTar f).eng = s.eng := rfl
@[simp] theorem Block.modTar_aux (f : Tariff → Tariff) : (s.modTar f).aux = s.aux := rfl
@[simp] theorem Block.modTar_feed (f : Tariff → Tariff) : (s.modTar f).feed = s.feed := rfl
@[simp] theorem Block.modTar_posts (f : Tariff → Tariff) : (s.modTar f).posts = s.posts := rfl
@[simp] theorem Block.modTar_therm (f : Tariff → Tariff) : (s.modTar f).therm = s.therm := rfl
@[simp] theorem Block.modTar_stor (f : Tariff → Tariff) : (s.modTar f).stor = s.stor := rfl
@[simp] theorem Block.modTar_husk (f : Tariff → Tariff) : (s.modTar f).husk = s.husk := rfl
@[simp] theorem Block.modTar_tar (f : Tariff → Tariff) : (s.modTar f).tar = f s.tar := rfl
@[simp] theorem Block.modTar_dem (f : Tariff → Tariff) : (s.modTar f).dem = s.dem := rfl
@[simp] theorem Block.modTar_led (f : Tariff → Tariff) : (s.modTar f).led = s.led := rfl
@[simp] theorem Block.modTar_pq (f : Tariff → Tariff) : (s.modTar f).pq = s.pq := rfl
@[simp] theorem Block.modTar_pout (f : Tariff → Tariff) : (s.modTar f).pout = s.pout := rfl
@[simp] theorem Block.modTar_disp (f : Tariff → Tariff) : (s.modTar f).disp = s.disp := rfl
@[simp] theorem Block.modTar_tamp (f : Tariff → Tariff) : (s.modTar f).tamp = s.tamp := rfl
@[simp] theorem Block.modTar_faults (f : Tariff → Tariff) : (s.modTar f).faults = s.faults := rfl
@[simp] theorem Block.modTar_join (f : Tariff → Tariff) : (s.modTar f).join = s.join := rfl
@[simp] theorem Block.modTar_mc (f : Tariff → Tariff) : (s.modTar f).mc = s.mc := rfl
@[simp] theorem Block.modTar_host (f : Tariff → Tariff) : (s.modTar f).host = s.host := rfl

@[simp] theorem Block.modDem_freeCnt (d : Nat) (f : DemCh → DemCh) : (s.modDem d f).freeCnt = s.freeCnt := rfl
@[simp] theorem Block.modDem_regs (d : Nat) (f : DemCh → DemCh) : (s.modDem d f).regs = s.regs := rfl
@[simp] theorem Block.modDem_shadow (d : Nat) (f : DemCh → DemCh) : (s.modDem d f).shadow = s.shadow := rfl
@[simp] theorem Block.modDem_frozen (d : Nat) (f : DemCh → DemCh) : (s.modDem d f).frozen = s.frozen := rfl
@[simp] theorem Block.modDem_freezeEnd (d : Nat) (f : DemCh → DemCh) : (s.modDem d f).freezeEnd = s.freezeEnd := rfl
@[simp] theorem Block.modDem_hiCap (d : Nat) (f : DemCh → DemCh) : (s.modDem d f).hiCap = s.hiCap := rfl
@[simp] theorem Block.modDem_episodes (d : Nat) (f : DemCh → DemCh) : (s.modDem d f).episodes = s.episodes := rfl
@[simp] theorem Block.modDem_sram (d : Nat) (f : DemCh → DemCh) : (s.modDem d f).sram = s.sram := rfl
@[simp] theorem Block.modDem_feram (d : Nat) (f : DemCh → DemCh) : (s.modDem d f).feram = s.feram := rfl
@[simp] theorem Block.modDem_time (d : Nat) (f : DemCh → DemCh) : (s.modDem d f).time = s.time := rfl
@[simp] theorem Block.modDem_warp (d : Nat) (f : DemCh → DemCh) : (s.modDem d f).warp = s.warp := rfl
@[simp] theorem Block.modDem_mods (d : Nat) (f : DemCh → DemCh) : (s.modDem d f).mods = s.mods := rfl
@[simp] theorem Block.modDem_slots (d : Nat) (f : DemCh → DemCh) : (s.modDem d f).slots = s.slots := rfl
@[simp] theorem Block.modDem_hist (d : Nat) (f : DemCh → DemCh) : (s.modDem d f).hist = s.hist := rfl
@[simp] theorem Block.modDem_rings (d : Nat) (f : DemCh → DemCh) : (s.modDem d f).rings = s.rings := rfl
@[simp] theorem Block.modDem_spare (d : Nat) (f : DemCh → DemCh) : (s.modDem d f).spare = s.spare := rfl
@[simp] theorem Block.modDem_flt (d : Nat) (f : DemCh → DemCh) : (s.modDem d f).flt = s.flt := rfl
@[simp] theorem Block.modDem_wb (d : Nat) (f : DemCh → DemCh) : (s.modDem d f).wb = s.wb := rfl
@[simp] theorem Block.modDem_pwr (d : Nat) (f : DemCh → DemCh) : (s.modDem d f).pwr = s.pwr := rfl
@[simp] theorem Block.modDem_arb (d : Nat) (f : DemCh → DemCh) : (s.modDem d f).arb = s.arb := rfl
@[simp] theorem Block.modDem_recs (d : Nat) (f : DemCh → DemCh) : (s.modDem d f).recs = s.recs := rfl
@[simp] theorem Block.modDem_engines (d : Nat) (f : DemCh → DemCh) : (s.modDem d f).engines = s.engines := rfl
@[simp] theorem Block.modDem_eng (d : Nat) (f : DemCh → DemCh) : (s.modDem d f).eng = s.eng := rfl
@[simp] theorem Block.modDem_aux (d : Nat) (f : DemCh → DemCh) : (s.modDem d f).aux = s.aux := rfl
@[simp] theorem Block.modDem_feed (d : Nat) (f : DemCh → DemCh) : (s.modDem d f).feed = s.feed := rfl
@[simp] theorem Block.modDem_posts (d : Nat) (f : DemCh → DemCh) : (s.modDem d f).posts = s.posts := rfl
@[simp] theorem Block.modDem_therm (d : Nat) (f : DemCh → DemCh) : (s.modDem d f).therm = s.therm := rfl
@[simp] theorem Block.modDem_stor (d : Nat) (f : DemCh → DemCh) : (s.modDem d f).stor = s.stor := rfl
@[simp] theorem Block.modDem_husk (d : Nat) (f : DemCh → DemCh) : (s.modDem d f).husk = s.husk := rfl
@[simp] theorem Block.modDem_tar (d : Nat) (f : DemCh → DemCh) : (s.modDem d f).tar = s.tar := rfl
@[simp] theorem Block.modDem_dem (d : Nat) (f : DemCh → DemCh) : (s.modDem d f).dem = modNth s.dem d f := rfl
@[simp] theorem Block.modDem_led (d : Nat) (f : DemCh → DemCh) : (s.modDem d f).led = s.led := rfl
@[simp] theorem Block.modDem_pq (d : Nat) (f : DemCh → DemCh) : (s.modDem d f).pq = s.pq := rfl
@[simp] theorem Block.modDem_pout (d : Nat) (f : DemCh → DemCh) : (s.modDem d f).pout = s.pout := rfl
@[simp] theorem Block.modDem_disp (d : Nat) (f : DemCh → DemCh) : (s.modDem d f).disp = s.disp := rfl
@[simp] theorem Block.modDem_tamp (d : Nat) (f : DemCh → DemCh) : (s.modDem d f).tamp = s.tamp := rfl
@[simp] theorem Block.modDem_faults (d : Nat) (f : DemCh → DemCh) : (s.modDem d f).faults = s.faults := rfl
@[simp] theorem Block.modDem_join (d : Nat) (f : DemCh → DemCh) : (s.modDem d f).join = s.join := rfl
@[simp] theorem Block.modDem_mc (d : Nat) (f : DemCh → DemCh) : (s.modDem d f).mc = s.mc := rfl
@[simp] theorem Block.modDem_host (d : Nat) (f : DemCh → DemCh) : (s.modDem d f).host = s.host := rfl

@[simp] theorem Block.modLed_freeCnt (f : Ledger → Ledger) : (s.modLed f).freeCnt = s.freeCnt := rfl
@[simp] theorem Block.modLed_regs (f : Ledger → Ledger) : (s.modLed f).regs = s.regs := rfl
@[simp] theorem Block.modLed_shadow (f : Ledger → Ledger) : (s.modLed f).shadow = s.shadow := rfl
@[simp] theorem Block.modLed_frozen (f : Ledger → Ledger) : (s.modLed f).frozen = s.frozen := rfl
@[simp] theorem Block.modLed_freezeEnd (f : Ledger → Ledger) : (s.modLed f).freezeEnd = s.freezeEnd := rfl
@[simp] theorem Block.modLed_hiCap (f : Ledger → Ledger) : (s.modLed f).hiCap = s.hiCap := rfl
@[simp] theorem Block.modLed_episodes (f : Ledger → Ledger) : (s.modLed f).episodes = s.episodes := rfl
@[simp] theorem Block.modLed_sram (f : Ledger → Ledger) : (s.modLed f).sram = s.sram := rfl
@[simp] theorem Block.modLed_feram (f : Ledger → Ledger) : (s.modLed f).feram = s.feram := rfl
@[simp] theorem Block.modLed_time (f : Ledger → Ledger) : (s.modLed f).time = s.time := rfl
@[simp] theorem Block.modLed_warp (f : Ledger → Ledger) : (s.modLed f).warp = s.warp := rfl
@[simp] theorem Block.modLed_mods (f : Ledger → Ledger) : (s.modLed f).mods = s.mods := rfl
@[simp] theorem Block.modLed_slots (f : Ledger → Ledger) : (s.modLed f).slots = s.slots := rfl
@[simp] theorem Block.modLed_hist (f : Ledger → Ledger) : (s.modLed f).hist = s.hist := rfl
@[simp] theorem Block.modLed_rings (f : Ledger → Ledger) : (s.modLed f).rings = s.rings := rfl
@[simp] theorem Block.modLed_spare (f : Ledger → Ledger) : (s.modLed f).spare = s.spare := rfl
@[simp] theorem Block.modLed_flt (f : Ledger → Ledger) : (s.modLed f).flt = s.flt := rfl
@[simp] theorem Block.modLed_wb (f : Ledger → Ledger) : (s.modLed f).wb = s.wb := rfl
@[simp] theorem Block.modLed_pwr (f : Ledger → Ledger) : (s.modLed f).pwr = s.pwr := rfl
@[simp] theorem Block.modLed_arb (f : Ledger → Ledger) : (s.modLed f).arb = s.arb := rfl
@[simp] theorem Block.modLed_recs (f : Ledger → Ledger) : (s.modLed f).recs = s.recs := rfl
@[simp] theorem Block.modLed_engines (f : Ledger → Ledger) : (s.modLed f).engines = s.engines := rfl
@[simp] theorem Block.modLed_eng (f : Ledger → Ledger) : (s.modLed f).eng = s.eng := rfl
@[simp] theorem Block.modLed_aux (f : Ledger → Ledger) : (s.modLed f).aux = s.aux := rfl
@[simp] theorem Block.modLed_feed (f : Ledger → Ledger) : (s.modLed f).feed = s.feed := rfl
@[simp] theorem Block.modLed_posts (f : Ledger → Ledger) : (s.modLed f).posts = s.posts := rfl
@[simp] theorem Block.modLed_therm (f : Ledger → Ledger) : (s.modLed f).therm = s.therm := rfl
@[simp] theorem Block.modLed_stor (f : Ledger → Ledger) : (s.modLed f).stor = s.stor := rfl
@[simp] theorem Block.modLed_husk (f : Ledger → Ledger) : (s.modLed f).husk = s.husk := rfl
@[simp] theorem Block.modLed_tar (f : Ledger → Ledger) : (s.modLed f).tar = s.tar := rfl
@[simp] theorem Block.modLed_dem (f : Ledger → Ledger) : (s.modLed f).dem = s.dem := rfl
@[simp] theorem Block.modLed_led (f : Ledger → Ledger) : (s.modLed f).led = f s.led := rfl
@[simp] theorem Block.modLed_pq (f : Ledger → Ledger) : (s.modLed f).pq = s.pq := rfl
@[simp] theorem Block.modLed_pout (f : Ledger → Ledger) : (s.modLed f).pout = s.pout := rfl
@[simp] theorem Block.modLed_disp (f : Ledger → Ledger) : (s.modLed f).disp = s.disp := rfl
@[simp] theorem Block.modLed_tamp (f : Ledger → Ledger) : (s.modLed f).tamp = s.tamp := rfl
@[simp] theorem Block.modLed_faults (f : Ledger → Ledger) : (s.modLed f).faults = s.faults := rfl
@[simp] theorem Block.modLed_join (f : Ledger → Ledger) : (s.modLed f).join = s.join := rfl
@[simp] theorem Block.modLed_mc (f : Ledger → Ledger) : (s.modLed f).mc = s.mc := rfl
@[simp] theorem Block.modLed_host (f : Ledger → Ledger) : (s.modLed f).host = s.host := rfl

@[simp] theorem Block.modPq_freeCnt (f : Pq → Pq) : (s.modPq f).freeCnt = s.freeCnt := rfl
@[simp] theorem Block.modPq_regs (f : Pq → Pq) : (s.modPq f).regs = s.regs := rfl
@[simp] theorem Block.modPq_shadow (f : Pq → Pq) : (s.modPq f).shadow = s.shadow := rfl
@[simp] theorem Block.modPq_frozen (f : Pq → Pq) : (s.modPq f).frozen = s.frozen := rfl
@[simp] theorem Block.modPq_freezeEnd (f : Pq → Pq) : (s.modPq f).freezeEnd = s.freezeEnd := rfl
@[simp] theorem Block.modPq_hiCap (f : Pq → Pq) : (s.modPq f).hiCap = s.hiCap := rfl
@[simp] theorem Block.modPq_episodes (f : Pq → Pq) : (s.modPq f).episodes = s.episodes := rfl
@[simp] theorem Block.modPq_sram (f : Pq → Pq) : (s.modPq f).sram = s.sram := rfl
@[simp] theorem Block.modPq_feram (f : Pq → Pq) : (s.modPq f).feram = s.feram := rfl
@[simp] theorem Block.modPq_time (f : Pq → Pq) : (s.modPq f).time = s.time := rfl
@[simp] theorem Block.modPq_warp (f : Pq → Pq) : (s.modPq f).warp = s.warp := rfl
@[simp] theorem Block.modPq_mods (f : Pq → Pq) : (s.modPq f).mods = s.mods := rfl
@[simp] theorem Block.modPq_slots (f : Pq → Pq) : (s.modPq f).slots = s.slots := rfl
@[simp] theorem Block.modPq_hist (f : Pq → Pq) : (s.modPq f).hist = s.hist := rfl
@[simp] theorem Block.modPq_rings (f : Pq → Pq) : (s.modPq f).rings = s.rings := rfl
@[simp] theorem Block.modPq_spare (f : Pq → Pq) : (s.modPq f).spare = s.spare := rfl
@[simp] theorem Block.modPq_flt (f : Pq → Pq) : (s.modPq f).flt = s.flt := rfl
@[simp] theorem Block.modPq_wb (f : Pq → Pq) : (s.modPq f).wb = s.wb := rfl
@[simp] theorem Block.modPq_pwr (f : Pq → Pq) : (s.modPq f).pwr = s.pwr := rfl
@[simp] theorem Block.modPq_arb (f : Pq → Pq) : (s.modPq f).arb = s.arb := rfl
@[simp] theorem Block.modPq_recs (f : Pq → Pq) : (s.modPq f).recs = s.recs := rfl
@[simp] theorem Block.modPq_engines (f : Pq → Pq) : (s.modPq f).engines = s.engines := rfl
@[simp] theorem Block.modPq_eng (f : Pq → Pq) : (s.modPq f).eng = s.eng := rfl
@[simp] theorem Block.modPq_aux (f : Pq → Pq) : (s.modPq f).aux = s.aux := rfl
@[simp] theorem Block.modPq_feed (f : Pq → Pq) : (s.modPq f).feed = s.feed := rfl
@[simp] theorem Block.modPq_posts (f : Pq → Pq) : (s.modPq f).posts = s.posts := rfl
@[simp] theorem Block.modPq_therm (f : Pq → Pq) : (s.modPq f).therm = s.therm := rfl
@[simp] theorem Block.modPq_stor (f : Pq → Pq) : (s.modPq f).stor = s.stor := rfl
@[simp] theorem Block.modPq_husk (f : Pq → Pq) : (s.modPq f).husk = s.husk := rfl
@[simp] theorem Block.modPq_tar (f : Pq → Pq) : (s.modPq f).tar = s.tar := rfl
@[simp] theorem Block.modPq_dem (f : Pq → Pq) : (s.modPq f).dem = s.dem := rfl
@[simp] theorem Block.modPq_led (f : Pq → Pq) : (s.modPq f).led = s.led := rfl
@[simp] theorem Block.modPq_pq (f : Pq → Pq) : (s.modPq f).pq = f s.pq := rfl
@[simp] theorem Block.modPq_pout (f : Pq → Pq) : (s.modPq f).pout = s.pout := rfl
@[simp] theorem Block.modPq_disp (f : Pq → Pq) : (s.modPq f).disp = s.disp := rfl
@[simp] theorem Block.modPq_tamp (f : Pq → Pq) : (s.modPq f).tamp = s.tamp := rfl
@[simp] theorem Block.modPq_faults (f : Pq → Pq) : (s.modPq f).faults = s.faults := rfl
@[simp] theorem Block.modPq_join (f : Pq → Pq) : (s.modPq f).join = s.join := rfl
@[simp] theorem Block.modPq_mc (f : Pq → Pq) : (s.modPq f).mc = s.mc := rfl
@[simp] theorem Block.modPq_host (f : Pq → Pq) : (s.modPq f).host = s.host := rfl

@[simp] theorem Block.modPulse_freeCnt (k : Nat) (f : PulseOut → PulseOut) : (s.modPulse k f).freeCnt = s.freeCnt := rfl
@[simp] theorem Block.modPulse_regs (k : Nat) (f : PulseOut → PulseOut) : (s.modPulse k f).regs = s.regs := rfl
@[simp] theorem Block.modPulse_shadow (k : Nat) (f : PulseOut → PulseOut) : (s.modPulse k f).shadow = s.shadow := rfl
@[simp] theorem Block.modPulse_frozen (k : Nat) (f : PulseOut → PulseOut) : (s.modPulse k f).frozen = s.frozen := rfl
@[simp] theorem Block.modPulse_freezeEnd (k : Nat) (f : PulseOut → PulseOut) : (s.modPulse k f).freezeEnd = s.freezeEnd := rfl
@[simp] theorem Block.modPulse_hiCap (k : Nat) (f : PulseOut → PulseOut) : (s.modPulse k f).hiCap = s.hiCap := rfl
@[simp] theorem Block.modPulse_episodes (k : Nat) (f : PulseOut → PulseOut) : (s.modPulse k f).episodes = s.episodes := rfl
@[simp] theorem Block.modPulse_sram (k : Nat) (f : PulseOut → PulseOut) : (s.modPulse k f).sram = s.sram := rfl
@[simp] theorem Block.modPulse_feram (k : Nat) (f : PulseOut → PulseOut) : (s.modPulse k f).feram = s.feram := rfl
@[simp] theorem Block.modPulse_time (k : Nat) (f : PulseOut → PulseOut) : (s.modPulse k f).time = s.time := rfl
@[simp] theorem Block.modPulse_warp (k : Nat) (f : PulseOut → PulseOut) : (s.modPulse k f).warp = s.warp := rfl
@[simp] theorem Block.modPulse_mods (k : Nat) (f : PulseOut → PulseOut) : (s.modPulse k f).mods = s.mods := rfl
@[simp] theorem Block.modPulse_slots (k : Nat) (f : PulseOut → PulseOut) : (s.modPulse k f).slots = s.slots := rfl
@[simp] theorem Block.modPulse_hist (k : Nat) (f : PulseOut → PulseOut) : (s.modPulse k f).hist = s.hist := rfl
@[simp] theorem Block.modPulse_rings (k : Nat) (f : PulseOut → PulseOut) : (s.modPulse k f).rings = s.rings := rfl
@[simp] theorem Block.modPulse_spare (k : Nat) (f : PulseOut → PulseOut) : (s.modPulse k f).spare = s.spare := rfl
@[simp] theorem Block.modPulse_flt (k : Nat) (f : PulseOut → PulseOut) : (s.modPulse k f).flt = s.flt := rfl
@[simp] theorem Block.modPulse_wb (k : Nat) (f : PulseOut → PulseOut) : (s.modPulse k f).wb = s.wb := rfl
@[simp] theorem Block.modPulse_pwr (k : Nat) (f : PulseOut → PulseOut) : (s.modPulse k f).pwr = s.pwr := rfl
@[simp] theorem Block.modPulse_arb (k : Nat) (f : PulseOut → PulseOut) : (s.modPulse k f).arb = s.arb := rfl
@[simp] theorem Block.modPulse_recs (k : Nat) (f : PulseOut → PulseOut) : (s.modPulse k f).recs = s.recs := rfl
@[simp] theorem Block.modPulse_engines (k : Nat) (f : PulseOut → PulseOut) : (s.modPulse k f).engines = s.engines := rfl
@[simp] theorem Block.modPulse_eng (k : Nat) (f : PulseOut → PulseOut) : (s.modPulse k f).eng = s.eng := rfl
@[simp] theorem Block.modPulse_aux (k : Nat) (f : PulseOut → PulseOut) : (s.modPulse k f).aux = s.aux := rfl
@[simp] theorem Block.modPulse_feed (k : Nat) (f : PulseOut → PulseOut) : (s.modPulse k f).feed = s.feed := rfl
@[simp] theorem Block.modPulse_posts (k : Nat) (f : PulseOut → PulseOut) : (s.modPulse k f).posts = s.posts := rfl
@[simp] theorem Block.modPulse_therm (k : Nat) (f : PulseOut → PulseOut) : (s.modPulse k f).therm = s.therm := rfl
@[simp] theorem Block.modPulse_stor (k : Nat) (f : PulseOut → PulseOut) : (s.modPulse k f).stor = s.stor := rfl
@[simp] theorem Block.modPulse_husk (k : Nat) (f : PulseOut → PulseOut) : (s.modPulse k f).husk = s.husk := rfl
@[simp] theorem Block.modPulse_tar (k : Nat) (f : PulseOut → PulseOut) : (s.modPulse k f).tar = s.tar := rfl
@[simp] theorem Block.modPulse_dem (k : Nat) (f : PulseOut → PulseOut) : (s.modPulse k f).dem = s.dem := rfl
@[simp] theorem Block.modPulse_led (k : Nat) (f : PulseOut → PulseOut) : (s.modPulse k f).led = s.led := rfl
@[simp] theorem Block.modPulse_pq (k : Nat) (f : PulseOut → PulseOut) : (s.modPulse k f).pq = s.pq := rfl
@[simp] theorem Block.modPulse_pout (k : Nat) (f : PulseOut → PulseOut) : (s.modPulse k f).pout = modNth s.pout k f := rfl
@[simp] theorem Block.modPulse_disp (k : Nat) (f : PulseOut → PulseOut) : (s.modPulse k f).disp = s.disp := rfl
@[simp] theorem Block.modPulse_tamp (k : Nat) (f : PulseOut → PulseOut) : (s.modPulse k f).tamp = s.tamp := rfl
@[simp] theorem Block.modPulse_faults (k : Nat) (f : PulseOut → PulseOut) : (s.modPulse k f).faults = s.faults := rfl
@[simp] theorem Block.modPulse_join (k : Nat) (f : PulseOut → PulseOut) : (s.modPulse k f).join = s.join := rfl
@[simp] theorem Block.modPulse_mc (k : Nat) (f : PulseOut → PulseOut) : (s.modPulse k f).mc = s.mc := rfl
@[simp] theorem Block.modPulse_host (k : Nat) (f : PulseOut → PulseOut) : (s.modPulse k f).host = s.host := rfl

@[simp] theorem Block.modDisp_freeCnt (f : Disp → Disp) : (s.modDisp f).freeCnt = s.freeCnt := rfl
@[simp] theorem Block.modDisp_regs (f : Disp → Disp) : (s.modDisp f).regs = s.regs := rfl
@[simp] theorem Block.modDisp_shadow (f : Disp → Disp) : (s.modDisp f).shadow = s.shadow := rfl
@[simp] theorem Block.modDisp_frozen (f : Disp → Disp) : (s.modDisp f).frozen = s.frozen := rfl
@[simp] theorem Block.modDisp_freezeEnd (f : Disp → Disp) : (s.modDisp f).freezeEnd = s.freezeEnd := rfl
@[simp] theorem Block.modDisp_hiCap (f : Disp → Disp) : (s.modDisp f).hiCap = s.hiCap := rfl
@[simp] theorem Block.modDisp_episodes (f : Disp → Disp) : (s.modDisp f).episodes = s.episodes := rfl
@[simp] theorem Block.modDisp_sram (f : Disp → Disp) : (s.modDisp f).sram = s.sram := rfl
@[simp] theorem Block.modDisp_feram (f : Disp → Disp) : (s.modDisp f).feram = s.feram := rfl
@[simp] theorem Block.modDisp_time (f : Disp → Disp) : (s.modDisp f).time = s.time := rfl
@[simp] theorem Block.modDisp_warp (f : Disp → Disp) : (s.modDisp f).warp = s.warp := rfl
@[simp] theorem Block.modDisp_mods (f : Disp → Disp) : (s.modDisp f).mods = s.mods := rfl
@[simp] theorem Block.modDisp_slots (f : Disp → Disp) : (s.modDisp f).slots = s.slots := rfl
@[simp] theorem Block.modDisp_hist (f : Disp → Disp) : (s.modDisp f).hist = s.hist := rfl
@[simp] theorem Block.modDisp_rings (f : Disp → Disp) : (s.modDisp f).rings = s.rings := rfl
@[simp] theorem Block.modDisp_spare (f : Disp → Disp) : (s.modDisp f).spare = s.spare := rfl
@[simp] theorem Block.modDisp_flt (f : Disp → Disp) : (s.modDisp f).flt = s.flt := rfl
@[simp] theorem Block.modDisp_wb (f : Disp → Disp) : (s.modDisp f).wb = s.wb := rfl
@[simp] theorem Block.modDisp_pwr (f : Disp → Disp) : (s.modDisp f).pwr = s.pwr := rfl
@[simp] theorem Block.modDisp_arb (f : Disp → Disp) : (s.modDisp f).arb = s.arb := rfl
@[simp] theorem Block.modDisp_recs (f : Disp → Disp) : (s.modDisp f).recs = s.recs := rfl
@[simp] theorem Block.modDisp_engines (f : Disp → Disp) : (s.modDisp f).engines = s.engines := rfl
@[simp] theorem Block.modDisp_eng (f : Disp → Disp) : (s.modDisp f).eng = s.eng := rfl
@[simp] theorem Block.modDisp_aux (f : Disp → Disp) : (s.modDisp f).aux = s.aux := rfl
@[simp] theorem Block.modDisp_feed (f : Disp → Disp) : (s.modDisp f).feed = s.feed := rfl
@[simp] theorem Block.modDisp_posts (f : Disp → Disp) : (s.modDisp f).posts = s.posts := rfl
@[simp] theorem Block.modDisp_therm (f : Disp → Disp) : (s.modDisp f).therm = s.therm := rfl
@[simp] theorem Block.modDisp_stor (f : Disp → Disp) : (s.modDisp f).stor = s.stor := rfl
@[simp] theorem Block.modDisp_husk (f : Disp → Disp) : (s.modDisp f).husk = s.husk := rfl
@[simp] theorem Block.modDisp_tar (f : Disp → Disp) : (s.modDisp f).tar = s.tar := rfl
@[simp] theorem Block.modDisp_dem (f : Disp → Disp) : (s.modDisp f).dem = s.dem := rfl
@[simp] theorem Block.modDisp_led (f : Disp → Disp) : (s.modDisp f).led = s.led := rfl
@[simp] theorem Block.modDisp_pq (f : Disp → Disp) : (s.modDisp f).pq = s.pq := rfl
@[simp] theorem Block.modDisp_pout (f : Disp → Disp) : (s.modDisp f).pout = s.pout := rfl
@[simp] theorem Block.modDisp_disp (f : Disp → Disp) : (s.modDisp f).disp = f s.disp := rfl
@[simp] theorem Block.modDisp_tamp (f : Disp → Disp) : (s.modDisp f).tamp = s.tamp := rfl
@[simp] theorem Block.modDisp_faults (f : Disp → Disp) : (s.modDisp f).faults = s.faults := rfl
@[simp] theorem Block.modDisp_join (f : Disp → Disp) : (s.modDisp f).join = s.join := rfl
@[simp] theorem Block.modDisp_mc (f : Disp → Disp) : (s.modDisp f).mc = s.mc := rfl
@[simp] theorem Block.modDisp_host (f : Disp → Disp) : (s.modDisp f).host = s.host := rfl

@[simp] theorem Block.modTamp_freeCnt (f : Tamp → Tamp) : (s.modTamp f).freeCnt = s.freeCnt := rfl
@[simp] theorem Block.modTamp_regs (f : Tamp → Tamp) : (s.modTamp f).regs = s.regs := rfl
@[simp] theorem Block.modTamp_shadow (f : Tamp → Tamp) : (s.modTamp f).shadow = s.shadow := rfl
@[simp] theorem Block.modTamp_frozen (f : Tamp → Tamp) : (s.modTamp f).frozen = s.frozen := rfl
@[simp] theorem Block.modTamp_freezeEnd (f : Tamp → Tamp) : (s.modTamp f).freezeEnd = s.freezeEnd := rfl
@[simp] theorem Block.modTamp_hiCap (f : Tamp → Tamp) : (s.modTamp f).hiCap = s.hiCap := rfl
@[simp] theorem Block.modTamp_episodes (f : Tamp → Tamp) : (s.modTamp f).episodes = s.episodes := rfl
@[simp] theorem Block.modTamp_sram (f : Tamp → Tamp) : (s.modTamp f).sram = s.sram := rfl
@[simp] theorem Block.modTamp_feram (f : Tamp → Tamp) : (s.modTamp f).feram = s.feram := rfl
@[simp] theorem Block.modTamp_time (f : Tamp → Tamp) : (s.modTamp f).time = s.time := rfl
@[simp] theorem Block.modTamp_warp (f : Tamp → Tamp) : (s.modTamp f).warp = s.warp := rfl
@[simp] theorem Block.modTamp_mods (f : Tamp → Tamp) : (s.modTamp f).mods = s.mods := rfl
@[simp] theorem Block.modTamp_slots (f : Tamp → Tamp) : (s.modTamp f).slots = s.slots := rfl
@[simp] theorem Block.modTamp_hist (f : Tamp → Tamp) : (s.modTamp f).hist = s.hist := rfl
@[simp] theorem Block.modTamp_rings (f : Tamp → Tamp) : (s.modTamp f).rings = s.rings := rfl
@[simp] theorem Block.modTamp_spare (f : Tamp → Tamp) : (s.modTamp f).spare = s.spare := rfl
@[simp] theorem Block.modTamp_flt (f : Tamp → Tamp) : (s.modTamp f).flt = s.flt := rfl
@[simp] theorem Block.modTamp_wb (f : Tamp → Tamp) : (s.modTamp f).wb = s.wb := rfl
@[simp] theorem Block.modTamp_pwr (f : Tamp → Tamp) : (s.modTamp f).pwr = s.pwr := rfl
@[simp] theorem Block.modTamp_arb (f : Tamp → Tamp) : (s.modTamp f).arb = s.arb := rfl
@[simp] theorem Block.modTamp_recs (f : Tamp → Tamp) : (s.modTamp f).recs = s.recs := rfl
@[simp] theorem Block.modTamp_engines (f : Tamp → Tamp) : (s.modTamp f).engines = s.engines := rfl
@[simp] theorem Block.modTamp_eng (f : Tamp → Tamp) : (s.modTamp f).eng = s.eng := rfl
@[simp] theorem Block.modTamp_aux (f : Tamp → Tamp) : (s.modTamp f).aux = s.aux := rfl
@[simp] theorem Block.modTamp_feed (f : Tamp → Tamp) : (s.modTamp f).feed = s.feed := rfl
@[simp] theorem Block.modTamp_posts (f : Tamp → Tamp) : (s.modTamp f).posts = s.posts := rfl
@[simp] theorem Block.modTamp_therm (f : Tamp → Tamp) : (s.modTamp f).therm = s.therm := rfl
@[simp] theorem Block.modTamp_stor (f : Tamp → Tamp) : (s.modTamp f).stor = s.stor := rfl
@[simp] theorem Block.modTamp_husk (f : Tamp → Tamp) : (s.modTamp f).husk = s.husk := rfl
@[simp] theorem Block.modTamp_tar (f : Tamp → Tamp) : (s.modTamp f).tar = s.tar := rfl
@[simp] theorem Block.modTamp_dem (f : Tamp → Tamp) : (s.modTamp f).dem = s.dem := rfl
@[simp] theorem Block.modTamp_led (f : Tamp → Tamp) : (s.modTamp f).led = s.led := rfl
@[simp] theorem Block.modTamp_pq (f : Tamp → Tamp) : (s.modTamp f).pq = s.pq := rfl
@[simp] theorem Block.modTamp_pout (f : Tamp → Tamp) : (s.modTamp f).pout = s.pout := rfl
@[simp] theorem Block.modTamp_disp (f : Tamp → Tamp) : (s.modTamp f).disp = s.disp := rfl
@[simp] theorem Block.modTamp_tamp (f : Tamp → Tamp) : (s.modTamp f).tamp = f s.tamp := rfl
@[simp] theorem Block.modTamp_faults (f : Tamp → Tamp) : (s.modTamp f).faults = s.faults := rfl
@[simp] theorem Block.modTamp_join (f : Tamp → Tamp) : (s.modTamp f).join = s.join := rfl
@[simp] theorem Block.modTamp_mc (f : Tamp → Tamp) : (s.modTamp f).mc = s.mc := rfl
@[simp] theorem Block.modTamp_host (f : Tamp → Tamp) : (s.modTamp f).host = s.host := rfl

@[simp] theorem Block.modFaults_freeCnt (f : Faults → Faults) : (s.modFaults f).freeCnt = s.freeCnt := rfl
@[simp] theorem Block.modFaults_regs (f : Faults → Faults) : (s.modFaults f).regs = s.regs := rfl
@[simp] theorem Block.modFaults_shadow (f : Faults → Faults) : (s.modFaults f).shadow = s.shadow := rfl
@[simp] theorem Block.modFaults_frozen (f : Faults → Faults) : (s.modFaults f).frozen = s.frozen := rfl
@[simp] theorem Block.modFaults_freezeEnd (f : Faults → Faults) : (s.modFaults f).freezeEnd = s.freezeEnd := rfl
@[simp] theorem Block.modFaults_hiCap (f : Faults → Faults) : (s.modFaults f).hiCap = s.hiCap := rfl
@[simp] theorem Block.modFaults_episodes (f : Faults → Faults) : (s.modFaults f).episodes = s.episodes := rfl
@[simp] theorem Block.modFaults_sram (f : Faults → Faults) : (s.modFaults f).sram = s.sram := rfl
@[simp] theorem Block.modFaults_feram (f : Faults → Faults) : (s.modFaults f).feram = s.feram := rfl
@[simp] theorem Block.modFaults_time (f : Faults → Faults) : (s.modFaults f).time = s.time := rfl
@[simp] theorem Block.modFaults_warp (f : Faults → Faults) : (s.modFaults f).warp = s.warp := rfl
@[simp] theorem Block.modFaults_mods (f : Faults → Faults) : (s.modFaults f).mods = s.mods := rfl
@[simp] theorem Block.modFaults_slots (f : Faults → Faults) : (s.modFaults f).slots = s.slots := rfl
@[simp] theorem Block.modFaults_hist (f : Faults → Faults) : (s.modFaults f).hist = s.hist := rfl
@[simp] theorem Block.modFaults_rings (f : Faults → Faults) : (s.modFaults f).rings = s.rings := rfl
@[simp] theorem Block.modFaults_spare (f : Faults → Faults) : (s.modFaults f).spare = s.spare := rfl
@[simp] theorem Block.modFaults_flt (f : Faults → Faults) : (s.modFaults f).flt = s.flt := rfl
@[simp] theorem Block.modFaults_wb (f : Faults → Faults) : (s.modFaults f).wb = s.wb := rfl
@[simp] theorem Block.modFaults_pwr (f : Faults → Faults) : (s.modFaults f).pwr = s.pwr := rfl
@[simp] theorem Block.modFaults_arb (f : Faults → Faults) : (s.modFaults f).arb = s.arb := rfl
@[simp] theorem Block.modFaults_recs (f : Faults → Faults) : (s.modFaults f).recs = s.recs := rfl
@[simp] theorem Block.modFaults_engines (f : Faults → Faults) : (s.modFaults f).engines = s.engines := rfl
@[simp] theorem Block.modFaults_eng (f : Faults → Faults) : (s.modFaults f).eng = s.eng := rfl
@[simp] theorem Block.modFaults_aux (f : Faults → Faults) : (s.modFaults f).aux = s.aux := rfl
@[simp] theorem Block.modFaults_feed (f : Faults → Faults) : (s.modFaults f).feed = s.feed := rfl
@[simp] theorem Block.modFaults_posts (f : Faults → Faults) : (s.modFaults f).posts = s.posts := rfl
@[simp] theorem Block.modFaults_therm (f : Faults → Faults) : (s.modFaults f).therm = s.therm := rfl
@[simp] theorem Block.modFaults_stor (f : Faults → Faults) : (s.modFaults f).stor = s.stor := rfl
@[simp] theorem Block.modFaults_husk (f : Faults → Faults) : (s.modFaults f).husk = s.husk := rfl
@[simp] theorem Block.modFaults_tar (f : Faults → Faults) : (s.modFaults f).tar = s.tar := rfl
@[simp] theorem Block.modFaults_dem (f : Faults → Faults) : (s.modFaults f).dem = s.dem := rfl
@[simp] theorem Block.modFaults_led (f : Faults → Faults) : (s.modFaults f).led = s.led := rfl
@[simp] theorem Block.modFaults_pq (f : Faults → Faults) : (s.modFaults f).pq = s.pq := rfl
@[simp] theorem Block.modFaults_pout (f : Faults → Faults) : (s.modFaults f).pout = s.pout := rfl
@[simp] theorem Block.modFaults_disp (f : Faults → Faults) : (s.modFaults f).disp = s.disp := rfl
@[simp] theorem Block.modFaults_tamp (f : Faults → Faults) : (s.modFaults f).tamp = s.tamp := rfl
@[simp] theorem Block.modFaults_faults (f : Faults → Faults) : (s.modFaults f).faults = f s.faults := rfl
@[simp] theorem Block.modFaults_join (f : Faults → Faults) : (s.modFaults f).join = s.join := rfl
@[simp] theorem Block.modFaults_mc (f : Faults → Faults) : (s.modFaults f).mc = s.mc := rfl
@[simp] theorem Block.modFaults_host (f : Faults → Faults) : (s.modFaults f).host = s.host := rfl

@[simp] theorem Block.modJoin_freeCnt (f : Join → Join) : (s.modJoin f).freeCnt = s.freeCnt := rfl
@[simp] theorem Block.modJoin_regs (f : Join → Join) : (s.modJoin f).regs = s.regs := rfl
@[simp] theorem Block.modJoin_shadow (f : Join → Join) : (s.modJoin f).shadow = s.shadow := rfl
@[simp] theorem Block.modJoin_frozen (f : Join → Join) : (s.modJoin f).frozen = s.frozen := rfl
@[simp] theorem Block.modJoin_freezeEnd (f : Join → Join) : (s.modJoin f).freezeEnd = s.freezeEnd := rfl
@[simp] theorem Block.modJoin_hiCap (f : Join → Join) : (s.modJoin f).hiCap = s.hiCap := rfl
@[simp] theorem Block.modJoin_episodes (f : Join → Join) : (s.modJoin f).episodes = s.episodes := rfl
@[simp] theorem Block.modJoin_sram (f : Join → Join) : (s.modJoin f).sram = s.sram := rfl
@[simp] theorem Block.modJoin_feram (f : Join → Join) : (s.modJoin f).feram = s.feram := rfl
@[simp] theorem Block.modJoin_time (f : Join → Join) : (s.modJoin f).time = s.time := rfl
@[simp] theorem Block.modJoin_warp (f : Join → Join) : (s.modJoin f).warp = s.warp := rfl
@[simp] theorem Block.modJoin_mods (f : Join → Join) : (s.modJoin f).mods = s.mods := rfl
@[simp] theorem Block.modJoin_slots (f : Join → Join) : (s.modJoin f).slots = s.slots := rfl
@[simp] theorem Block.modJoin_hist (f : Join → Join) : (s.modJoin f).hist = s.hist := rfl
@[simp] theorem Block.modJoin_rings (f : Join → Join) : (s.modJoin f).rings = s.rings := rfl
@[simp] theorem Block.modJoin_spare (f : Join → Join) : (s.modJoin f).spare = s.spare := rfl
@[simp] theorem Block.modJoin_flt (f : Join → Join) : (s.modJoin f).flt = s.flt := rfl
@[simp] theorem Block.modJoin_wb (f : Join → Join) : (s.modJoin f).wb = s.wb := rfl
@[simp] theorem Block.modJoin_pwr (f : Join → Join) : (s.modJoin f).pwr = s.pwr := rfl
@[simp] theorem Block.modJoin_arb (f : Join → Join) : (s.modJoin f).arb = s.arb := rfl
@[simp] theorem Block.modJoin_recs (f : Join → Join) : (s.modJoin f).recs = s.recs := rfl
@[simp] theorem Block.modJoin_engines (f : Join → Join) : (s.modJoin f).engines = s.engines := rfl
@[simp] theorem Block.modJoin_eng (f : Join → Join) : (s.modJoin f).eng = s.eng := rfl
@[simp] theorem Block.modJoin_aux (f : Join → Join) : (s.modJoin f).aux = s.aux := rfl
@[simp] theorem Block.modJoin_feed (f : Join → Join) : (s.modJoin f).feed = s.feed := rfl
@[simp] theorem Block.modJoin_posts (f : Join → Join) : (s.modJoin f).posts = s.posts := rfl
@[simp] theorem Block.modJoin_therm (f : Join → Join) : (s.modJoin f).therm = s.therm := rfl
@[simp] theorem Block.modJoin_stor (f : Join → Join) : (s.modJoin f).stor = s.stor := rfl
@[simp] theorem Block.modJoin_husk (f : Join → Join) : (s.modJoin f).husk = s.husk := rfl
@[simp] theorem Block.modJoin_tar (f : Join → Join) : (s.modJoin f).tar = s.tar := rfl
@[simp] theorem Block.modJoin_dem (f : Join → Join) : (s.modJoin f).dem = s.dem := rfl
@[simp] theorem Block.modJoin_led (f : Join → Join) : (s.modJoin f).led = s.led := rfl
@[simp] theorem Block.modJoin_pq (f : Join → Join) : (s.modJoin f).pq = s.pq := rfl
@[simp] theorem Block.modJoin_pout (f : Join → Join) : (s.modJoin f).pout = s.pout := rfl
@[simp] theorem Block.modJoin_disp (f : Join → Join) : (s.modJoin f).disp = s.disp := rfl
@[simp] theorem Block.modJoin_tamp (f : Join → Join) : (s.modJoin f).tamp = s.tamp := rfl
@[simp] theorem Block.modJoin_faults (f : Join → Join) : (s.modJoin f).faults = s.faults := rfl
@[simp] theorem Block.modJoin_join (f : Join → Join) : (s.modJoin f).join = f s.join := rfl
@[simp] theorem Block.modJoin_mc (f : Join → Join) : (s.modJoin f).mc = s.mc := rfl
@[simp] theorem Block.modJoin_host (f : Join → Join) : (s.modJoin f).host = s.host := rfl

@[simp] theorem Block.modMc_freeCnt (f : Micro → Micro) : (s.modMc f).freeCnt = s.freeCnt := rfl
@[simp] theorem Block.modMc_regs (f : Micro → Micro) : (s.modMc f).regs = s.regs := rfl
@[simp] theorem Block.modMc_shadow (f : Micro → Micro) : (s.modMc f).shadow = s.shadow := rfl
@[simp] theorem Block.modMc_frozen (f : Micro → Micro) : (s.modMc f).frozen = s.frozen := rfl
@[simp] theorem Block.modMc_freezeEnd (f : Micro → Micro) : (s.modMc f).freezeEnd = s.freezeEnd := rfl
@[simp] theorem Block.modMc_hiCap (f : Micro → Micro) : (s.modMc f).hiCap = s.hiCap := rfl
@[simp] theorem Block.modMc_episodes (f : Micro → Micro) : (s.modMc f).episodes = s.episodes := rfl
@[simp] theorem Block.modMc_sram (f : Micro → Micro) : (s.modMc f).sram = s.sram := rfl
@[simp] theorem Block.modMc_feram (f : Micro → Micro) : (s.modMc f).feram = s.feram := rfl
@[simp] theorem Block.modMc_time (f : Micro → Micro) : (s.modMc f).time = s.time := rfl
@[simp] theorem Block.modMc_warp (f : Micro → Micro) : (s.modMc f).warp = s.warp := rfl
@[simp] theorem Block.modMc_mods (f : Micro → Micro) : (s.modMc f).mods = s.mods := rfl
@[simp] theorem Block.modMc_slots (f : Micro → Micro) : (s.modMc f).slots = s.slots := rfl
@[simp] theorem Block.modMc_hist (f : Micro → Micro) : (s.modMc f).hist = s.hist := rfl
@[simp] theorem Block.modMc_rings (f : Micro → Micro) : (s.modMc f).rings = s.rings := rfl
@[simp] theorem Block.modMc_spare (f : Micro → Micro) : (s.modMc f).spare = s.spare := rfl
@[simp] theorem Block.modMc_flt (f : Micro → Micro) : (s.modMc f).flt = s.flt := rfl
@[simp] theorem Block.modMc_wb (f : Micro → Micro) : (s.modMc f).wb = s.wb := rfl
@[simp] theorem Block.modMc_pwr (f : Micro → Micro) : (s.modMc f).pwr = s.pwr := rfl
@[simp] theorem Block.modMc_arb (f : Micro → Micro) : (s.modMc f).arb = s.arb := rfl
@[simp] theorem Block.modMc_recs (f : Micro → Micro) : (s.modMc f).recs = s.recs := rfl
@[simp] theorem Block.modMc_engines (f : Micro → Micro) : (s.modMc f).engines = s.engines := rfl
@[simp] theorem Block.modMc_eng (f : Micro → Micro) : (s.modMc f).eng = s.eng := rfl
@[simp] theorem Block.modMc_aux (f : Micro → Micro) : (s.modMc f).aux = s.aux := rfl
@[simp] theorem Block.modMc_feed (f : Micro → Micro) : (s.modMc f).feed = s.feed := rfl
@[simp] theorem Block.modMc_posts (f : Micro → Micro) : (s.modMc f).posts = s.posts := rfl
@[simp] theorem Block.modMc_therm (f : Micro → Micro) : (s.modMc f).therm = s.therm := rfl
@[simp] theorem Block.modMc_stor (f : Micro → Micro) : (s.modMc f).stor = s.stor := rfl
@[simp] theorem Block.modMc_husk (f : Micro → Micro) : (s.modMc f).husk = s.husk := rfl
@[simp] theorem Block.modMc_tar (f : Micro → Micro) : (s.modMc f).tar = s.tar := rfl
@[simp] theorem Block.modMc_dem (f : Micro → Micro) : (s.modMc f).dem = s.dem := rfl
@[simp] theorem Block.modMc_led (f : Micro → Micro) : (s.modMc f).led = s.led := rfl
@[simp] theorem Block.modMc_pq (f : Micro → Micro) : (s.modMc f).pq = s.pq := rfl
@[simp] theorem Block.modMc_pout (f : Micro → Micro) : (s.modMc f).pout = s.pout := rfl
@[simp] theorem Block.modMc_disp (f : Micro → Micro) : (s.modMc f).disp = s.disp := rfl
@[simp] theorem Block.modMc_tamp (f : Micro → Micro) : (s.modMc f).tamp = s.tamp := rfl
@[simp] theorem Block.modMc_faults (f : Micro → Micro) : (s.modMc f).faults = s.faults := rfl
@[simp] theorem Block.modMc_join (f : Micro → Micro) : (s.modMc f).join = s.join := rfl
@[simp] theorem Block.modMc_mc (f : Micro → Micro) : (s.modMc f).mc = f s.mc := rfl
@[simp] theorem Block.modMc_host (f : Micro → Micro) : (s.modMc f).host = s.host := rfl

@[simp] theorem Block.modSlot_freeCnt (n : Nat) (f : KeySlot → KeySlot) : (s.modSlot n f).freeCnt = s.freeCnt := rfl
@[simp] theorem Block.modSlot_regs (n : Nat) (f : KeySlot → KeySlot) : (s.modSlot n f).regs = s.regs := rfl
@[simp] theorem Block.modSlot_shadow (n : Nat) (f : KeySlot → KeySlot) : (s.modSlot n f).shadow = s.shadow := rfl
@[simp] theorem Block.modSlot_frozen (n : Nat) (f : KeySlot → KeySlot) : (s.modSlot n f).frozen = s.frozen := rfl
@[simp] theorem Block.modSlot_freezeEnd (n : Nat) (f : KeySlot → KeySlot) : (s.modSlot n f).freezeEnd = s.freezeEnd := rfl
@[simp] theorem Block.modSlot_hiCap (n : Nat) (f : KeySlot → KeySlot) : (s.modSlot n f).hiCap = s.hiCap := rfl
@[simp] theorem Block.modSlot_episodes (n : Nat) (f : KeySlot → KeySlot) : (s.modSlot n f).episodes = s.episodes := rfl
@[simp] theorem Block.modSlot_sram (n : Nat) (f : KeySlot → KeySlot) : (s.modSlot n f).sram = s.sram := rfl
@[simp] theorem Block.modSlot_feram (n : Nat) (f : KeySlot → KeySlot) : (s.modSlot n f).feram = s.feram := rfl
@[simp] theorem Block.modSlot_time (n : Nat) (f : KeySlot → KeySlot) : (s.modSlot n f).time = s.time := rfl
@[simp] theorem Block.modSlot_warp (n : Nat) (f : KeySlot → KeySlot) : (s.modSlot n f).warp = s.warp := rfl
@[simp] theorem Block.modSlot_mods (n : Nat) (f : KeySlot → KeySlot) : (s.modSlot n f).mods = s.mods := rfl
@[simp] theorem Block.modSlot_slots (n : Nat) (f : KeySlot → KeySlot) : (s.modSlot n f).slots = s.slots := rfl
@[simp] theorem Block.modSlot_hist (n : Nat) (f : KeySlot → KeySlot) : (s.modSlot n f).hist = s.hist := rfl
@[simp] theorem Block.modSlot_rings (n : Nat) (f : KeySlot → KeySlot) : (s.modSlot n f).rings = s.rings := rfl
@[simp] theorem Block.modSlot_spare (n : Nat) (f : KeySlot → KeySlot) : (s.modSlot n f).spare = s.spare := rfl
@[simp] theorem Block.modSlot_flt (n : Nat) (f : KeySlot → KeySlot) : (s.modSlot n f).flt = s.flt := rfl
@[simp] theorem Block.modSlot_wb (n : Nat) (f : KeySlot → KeySlot) : (s.modSlot n f).wb = s.wb := rfl
@[simp] theorem Block.modSlot_pwr (n : Nat) (f : KeySlot → KeySlot) : (s.modSlot n f).pwr = s.pwr := rfl
@[simp] theorem Block.modSlot_arb (n : Nat) (f : KeySlot → KeySlot) : (s.modSlot n f).arb = s.arb := rfl
@[simp] theorem Block.modSlot_recs (n : Nat) (f : KeySlot → KeySlot) : (s.modSlot n f).recs = s.recs := rfl
@[simp] theorem Block.modSlot_engines (n : Nat) (f : KeySlot → KeySlot) : (s.modSlot n f).engines = s.engines := rfl
@[simp] theorem Block.modSlot_eng (n : Nat) (f : KeySlot → KeySlot) : (s.modSlot n f).eng = s.eng := rfl
@[simp] theorem Block.modSlot_aux (n : Nat) (f : KeySlot → KeySlot) : (s.modSlot n f).aux = s.aux := rfl
@[simp] theorem Block.modSlot_feed (n : Nat) (f : KeySlot → KeySlot) : (s.modSlot n f).feed = s.feed := rfl
@[simp] theorem Block.modSlot_posts (n : Nat) (f : KeySlot → KeySlot) : (s.modSlot n f).posts = s.posts := rfl
@[simp] theorem Block.modSlot_therm (n : Nat) (f : KeySlot → KeySlot) : (s.modSlot n f).therm = s.therm := rfl
@[simp] theorem Block.modSlot_stor (n : Nat) (f : KeySlot → KeySlot) : (s.modSlot n f).stor = s.stor := rfl
@[simp] theorem Block.modSlot_husk (n : Nat) (f : KeySlot → KeySlot) : (s.modSlot n f).husk = { s.husk with slots := modNth s.husk.slots n f } := rfl
@[simp] theorem Block.modSlot_tar (n : Nat) (f : KeySlot → KeySlot) : (s.modSlot n f).tar = s.tar := rfl
@[simp] theorem Block.modSlot_dem (n : Nat) (f : KeySlot → KeySlot) : (s.modSlot n f).dem = s.dem := rfl
@[simp] theorem Block.modSlot_led (n : Nat) (f : KeySlot → KeySlot) : (s.modSlot n f).led = s.led := rfl
@[simp] theorem Block.modSlot_pq (n : Nat) (f : KeySlot → KeySlot) : (s.modSlot n f).pq = s.pq := rfl
@[simp] theorem Block.modSlot_pout (n : Nat) (f : KeySlot → KeySlot) : (s.modSlot n f).pout = s.pout := rfl
@[simp] theorem Block.modSlot_disp (n : Nat) (f : KeySlot → KeySlot) : (s.modSlot n f).disp = s.disp := rfl
@[simp] theorem Block.modSlot_tamp (n : Nat) (f : KeySlot → KeySlot) : (s.modSlot n f).tamp = s.tamp := rfl
@[simp] theorem Block.modSlot_faults (n : Nat) (f : KeySlot → KeySlot) : (s.modSlot n f).faults = s.faults := rfl
@[simp] theorem Block.modSlot_join (n : Nat) (f : KeySlot → KeySlot) : (s.modSlot n f).join = s.join := rfl
@[simp] theorem Block.modSlot_mc (n : Nat) (f : KeySlot → KeySlot) : (s.modSlot n f).mc = s.mc := rfl
@[simp] theorem Block.modSlot_host (n : Nat) (f : KeySlot → KeySlot) : (s.modSlot n f).host = s.host := rfl

@[simp] theorem Block.modStream_freeCnt (k : Nat) (f : LogStream → LogStream) : (s.modStream k f).freeCnt = s.freeCnt := rfl
@[simp] theorem Block.modStream_regs (k : Nat) (f : LogStream → LogStream) : (s.modStream k f).regs = s.regs := rfl
@[simp] theorem Block.modStream_shadow (k : Nat) (f : LogStream → LogStream) : (s.modStream k f).shadow = s.shadow := rfl
@[simp] theorem Block.modStream_frozen (k : Nat) (f : LogStream → LogStream) : (s.modStream k f).frozen = s.frozen := rfl
@[simp] theorem Block.modStream_freezeEnd (k : Nat) (f : LogStream → LogStream) : (s.modStream k f).freezeEnd = s.freezeEnd := rfl
@[simp] theorem Block.modStream_hiCap (k : Nat) (f : LogStream → LogStream) : (s.modStream k f).hiCap = s.hiCap := rfl
@[simp] theorem Block.modStream_episodes (k : Nat) (f : LogStream → LogStream) : (s.modStream k f).episodes = s.episodes := rfl
@[simp] theorem Block.modStream_sram (k : Nat) (f : LogStream → LogStream) : (s.modStream k f).sram = s.sram := rfl
@[simp] theorem Block.modStream_feram (k : Nat) (f : LogStream → LogStream) : (s.modStream k f).feram = s.feram := rfl
@[simp] theorem Block.modStream_time (k : Nat) (f : LogStream → LogStream) : (s.modStream k f).time = s.time := rfl
@[simp] theorem Block.modStream_warp (k : Nat) (f : LogStream → LogStream) : (s.modStream k f).warp = s.warp := rfl
@[simp] theorem Block.modStream_mods (k : Nat) (f : LogStream → LogStream) : (s.modStream k f).mods = s.mods := rfl
@[simp] theorem Block.modStream_slots (k : Nat) (f : LogStream → LogStream) : (s.modStream k f).slots = s.slots := rfl
@[simp] theorem Block.modStream_hist (k : Nat) (f : LogStream → LogStream) : (s.modStream k f).hist = s.hist := rfl
@[simp] theorem Block.modStream_rings (k : Nat) (f : LogStream → LogStream) : (s.modStream k f).rings = s.rings := rfl
@[simp] theorem Block.modStream_spare (k : Nat) (f : LogStream → LogStream) : (s.modStream k f).spare = s.spare := rfl
@[simp] theorem Block.modStream_flt (k : Nat) (f : LogStream → LogStream) : (s.modStream k f).flt = s.flt := rfl
@[simp] theorem Block.modStream_wb (k : Nat) (f : LogStream → LogStream) : (s.modStream k f).wb = s.wb := rfl
@[simp] theorem Block.modStream_pwr (k : Nat) (f : LogStream → LogStream) : (s.modStream k f).pwr = s.pwr := rfl
@[simp] theorem Block.modStream_arb (k : Nat) (f : LogStream → LogStream) : (s.modStream k f).arb = s.arb := rfl
@[simp] theorem Block.modStream_recs (k : Nat) (f : LogStream → LogStream) : (s.modStream k f).recs = s.recs := rfl
@[simp] theorem Block.modStream_engines (k : Nat) (f : LogStream → LogStream) : (s.modStream k f).engines = s.engines := rfl
@[simp] theorem Block.modStream_eng (k : Nat) (f : LogStream → LogStream) : (s.modStream k f).eng = s.eng := rfl
@[simp] theorem Block.modStream_aux (k : Nat) (f : LogStream → LogStream) : (s.modStream k f).aux = s.aux := rfl
@[simp] theorem Block.modStream_feed (k : Nat) (f : LogStream → LogStream) : (s.modStream k f).feed = s.feed := rfl
@[simp] theorem Block.modStream_posts (k : Nat) (f : LogStream → LogStream) : (s.modStream k f).posts = s.posts := rfl
@[simp] theorem Block.modStream_therm (k : Nat) (f : LogStream → LogStream) : (s.modStream k f).therm = s.therm := rfl
@[simp] theorem Block.modStream_stor (k : Nat) (f : LogStream → LogStream) : (s.modStream k f).stor = { s.stor with streams := modNth s.stor.streams k f } := rfl
@[simp] theorem Block.modStream_husk (k : Nat) (f : LogStream → LogStream) : (s.modStream k f).husk = s.husk := rfl
@[simp] theorem Block.modStream_tar (k : Nat) (f : LogStream → LogStream) : (s.modStream k f).tar = s.tar := rfl
@[simp] theorem Block.modStream_dem (k : Nat) (f : LogStream → LogStream) : (s.modStream k f).dem = s.dem := rfl
@[simp] theorem Block.modStream_led (k : Nat) (f : LogStream → LogStream) : (s.modStream k f).led = s.led := rfl
@[simp] theorem Block.modStream_pq (k : Nat) (f : LogStream → LogStream) : (s.modStream k f).pq = s.pq := rfl
@[simp] theorem Block.modStream_pout (k : Nat) (f : LogStream → LogStream) : (s.modStream k f).pout = s.pout := rfl
@[simp] theorem Block.modStream_disp (k : Nat) (f : LogStream → LogStream) : (s.modStream k f).disp = s.disp := rfl
@[simp] theorem Block.modStream_tamp (k : Nat) (f : LogStream → LogStream) : (s.modStream k f).tamp = s.tamp := rfl
@[simp] theorem Block.modStream_faults (k : Nat) (f : LogStream → LogStream) : (s.modStream k f).faults = s.faults := rfl
@[simp] theorem Block.modStream_join (k : Nat) (f : LogStream → LogStream) : (s.modStream k f).join = s.join := rfl
@[simp] theorem Block.modStream_mc (k : Nat) (f : LogStream → LogStream) : (s.modStream k f).mc = s.mc := rfl
@[simp] theorem Block.modStream_host (k : Nat) (f : LogStream → LogStream) : (s.modStream k f).host = s.host := rfl

@[simp] theorem Block.modCirc_freeCnt (c : Nat) (f : Circuit → Circuit) : (s.modCirc c f).freeCnt = s.freeCnt := rfl
@[simp] theorem Block.modCirc_regs (c : Nat) (f : Circuit → Circuit) : (s.modCirc c f).regs = s.regs := rfl
@[simp] theorem Block.modCirc_shadow (c : Nat) (f : Circuit → Circuit) : (s.modCirc c f).shadow = s.shadow := rfl
@[simp] theorem Block.modCirc_frozen (c : Nat) (f : Circuit → Circuit) : (s.modCirc c f).frozen = s.frozen := rfl
@[simp] theorem Block.modCirc_freezeEnd (c : Nat) (f : Circuit → Circuit) : (s.modCirc c f).freezeEnd = s.freezeEnd := rfl
@[simp] theorem Block.modCirc_hiCap (c : Nat) (f : Circuit → Circuit) : (s.modCirc c f).hiCap = s.hiCap := rfl
@[simp] theorem Block.modCirc_episodes (c : Nat) (f : Circuit → Circuit) : (s.modCirc c f).episodes = s.episodes := rfl
@[simp] theorem Block.modCirc_sram (c : Nat) (f : Circuit → Circuit) : (s.modCirc c f).sram = s.sram := rfl
@[simp] theorem Block.modCirc_feram (c : Nat) (f : Circuit → Circuit) : (s.modCirc c f).feram = s.feram := rfl
@[simp] theorem Block.modCirc_time (c : Nat) (f : Circuit → Circuit) : (s.modCirc c f).time = s.time := rfl
@[simp] theorem Block.modCirc_warp (c : Nat) (f : Circuit → Circuit) : (s.modCirc c f).warp = s.warp := rfl
@[simp] theorem Block.modCirc_mods (c : Nat) (f : Circuit → Circuit) : (s.modCirc c f).mods = s.mods := rfl
@[simp] theorem Block.modCirc_slots (c : Nat) (f : Circuit → Circuit) : (s.modCirc c f).slots = s.slots := rfl
@[simp] theorem Block.modCirc_hist (c : Nat) (f : Circuit → Circuit) : (s.modCirc c f).hist = s.hist := rfl
@[simp] theorem Block.modCirc_rings (c : Nat) (f : Circuit → Circuit) : (s.modCirc c f).rings = s.rings := rfl
@[simp] theorem Block.modCirc_spare (c : Nat) (f : Circuit → Circuit) : (s.modCirc c f).spare = s.spare := rfl
@[simp] theorem Block.modCirc_flt (c : Nat) (f : Circuit → Circuit) : (s.modCirc c f).flt = s.flt := rfl
@[simp] theorem Block.modCirc_wb (c : Nat) (f : Circuit → Circuit) : (s.modCirc c f).wb = s.wb := rfl
@[simp] theorem Block.modCirc_pwr (c : Nat) (f : Circuit → Circuit) : (s.modCirc c f).pwr = s.pwr := rfl
@[simp] theorem Block.modCirc_arb (c : Nat) (f : Circuit → Circuit) : (s.modCirc c f).arb = s.arb := rfl
@[simp] theorem Block.modCirc_recs (c : Nat) (f : Circuit → Circuit) : (s.modCirc c f).recs = s.recs := rfl
@[simp] theorem Block.modCirc_engines (c : Nat) (f : Circuit → Circuit) : (s.modCirc c f).engines = s.engines := rfl
@[simp] theorem Block.modCirc_eng (c : Nat) (f : Circuit → Circuit) : (s.modCirc c f).eng = s.eng := rfl
@[simp] theorem Block.modCirc_aux (c : Nat) (f : Circuit → Circuit) : (s.modCirc c f).aux = s.aux := rfl
@[simp] theorem Block.modCirc_feed (c : Nat) (f : Circuit → Circuit) : (s.modCirc c f).feed = s.feed := rfl
@[simp] theorem Block.modCirc_posts (c : Nat) (f : Circuit → Circuit) : (s.modCirc c f).posts = s.posts := rfl
@[simp] theorem Block.modCirc_therm (c : Nat) (f : Circuit → Circuit) : (s.modCirc c f).therm = { s.therm with circs := modNth s.therm.circs c f } := rfl
@[simp] theorem Block.modCirc_stor (c : Nat) (f : Circuit → Circuit) : (s.modCirc c f).stor = s.stor := rfl
@[simp] theorem Block.modCirc_husk (c : Nat) (f : Circuit → Circuit) : (s.modCirc c f).husk = s.husk := rfl
@[simp] theorem Block.modCirc_tar (c : Nat) (f : Circuit → Circuit) : (s.modCirc c f).tar = s.tar := rfl
@[simp] theorem Block.modCirc_dem (c : Nat) (f : Circuit → Circuit) : (s.modCirc c f).dem = s.dem := rfl
@[simp] theorem Block.modCirc_led (c : Nat) (f : Circuit → Circuit) : (s.modCirc c f).led = s.led := rfl
@[simp] theorem Block.modCirc_pq (c : Nat) (f : Circuit → Circuit) : (s.modCirc c f).pq = s.pq := rfl
@[simp] theorem Block.modCirc_pout (c : Nat) (f : Circuit → Circuit) : (s.modCirc c f).pout = s.pout := rfl
@[simp] theorem Block.modCirc_disp (c : Nat) (f : Circuit → Circuit) : (s.modCirc c f).disp = s.disp := rfl
@[simp] theorem Block.modCirc_tamp (c : Nat) (f : Circuit → Circuit) : (s.modCirc c f).tamp = s.tamp := rfl
@[simp] theorem Block.modCirc_faults (c : Nat) (f : Circuit → Circuit) : (s.modCirc c f).faults = s.faults := rfl
@[simp] theorem Block.modCirc_join (c : Nat) (f : Circuit → Circuit) : (s.modCirc c f).join = s.join := rfl
@[simp] theorem Block.modCirc_mc (c : Nat) (f : Circuit → Circuit) : (s.modCirc c f).mc = s.mc := rfl
@[simp] theorem Block.modCirc_host (c : Nat) (f : Circuit → Circuit) : (s.modCirc c f).host = s.host := rfl

@[simp] theorem Block.setPickLen_freeCnt : (s.setPickLen).freeCnt = s.freeCnt := rfl
@[simp] theorem Block.setPickLen_regs : (s.setPickLen).regs = s.regs := rfl
@[simp] theorem Block.setPickLen_shadow : (s.setPickLen).shadow = s.shadow := rfl
@[simp] theorem Block.setPickLen_frozen : (s.setPickLen).frozen = s.frozen := rfl
@[simp] theorem Block.setPickLen_freezeEnd : (s.setPickLen).freezeEnd = s.freezeEnd := rfl
@[simp] theorem Block.setPickLen_hiCap : (s.setPickLen).hiCap = s.hiCap := rfl
@[simp] theorem Block.setPickLen_episodes : (s.setPickLen).episodes = s.episodes := rfl
@[simp] theorem Block.setPickLen_sram : (s.setPickLen).sram = s.sram := rfl
@[simp] theorem Block.setPickLen_feram : (s.setPickLen).feram = s.feram := rfl
@[simp] theorem Block.setPickLen_warp : (s.setPickLen).warp = s.warp := rfl
@[simp] theorem Block.setPickLen_mods : (s.setPickLen).mods = s.mods := rfl
@[simp] theorem Block.setPickLen_slots : (s.setPickLen).slots = s.slots := rfl
@[simp] theorem Block.setPickLen_hist : (s.setPickLen).hist = s.hist := rfl
@[simp] theorem Block.setPickLen_rings : (s.setPickLen).rings = s.rings := rfl
@[simp] theorem Block.setPickLen_spare : (s.setPickLen).spare = s.spare := rfl
@[simp] theorem Block.setPickLen_flt : (s.setPickLen).flt = s.flt := rfl
@[simp] theorem Block.setPickLen_wb : (s.setPickLen).wb = s.wb := rfl
@[simp] theorem Block.setPickLen_pwr : (s.setPickLen).pwr = s.pwr := rfl
@[simp] theorem Block.setPickLen_arb : (s.setPickLen).arb = s.arb := rfl
@[simp] theorem Block.setPickLen_recs : (s.setPickLen).recs = s.recs := rfl
@[simp] theorem Block.setPickLen_engines : (s.setPickLen).engines = s.engines := rfl
@[simp] theorem Block.setPickLen_eng : (s.setPickLen).eng = s.eng := rfl
@[simp] theorem Block.setPickLen_aux : (s.setPickLen).aux = s.aux := rfl
@[simp] theorem Block.setPickLen_feed : (s.setPickLen).feed = s.feed := rfl
@[simp] theorem Block.setPickLen_posts : (s.setPickLen).posts = s.posts := rfl
@[simp] theorem Block.setPickLen_therm : (s.setPickLen).therm = s.therm := rfl
@[simp] theorem Block.setPickLen_stor : (s.setPickLen).stor = s.stor := rfl
@[simp] theorem Block.setPickLen_husk : (s.setPickLen).husk = s.husk := rfl
@[simp] theorem Block.setPickLen_tar : (s.setPickLen).tar = s.tar := rfl
@[simp] theorem Block.setPickLen_dem : (s.setPickLen).dem = s.dem := rfl
@[simp] theorem Block.setPickLen_led : (s.setPickLen).led = s.led := rfl
@[simp] theorem Block.setPickLen_pq : (s.setPickLen).pq = s.pq := rfl
@[simp] theorem Block.setPickLen_pout : (s.setPickLen).pout = s.pout := rfl
@[simp] theorem Block.setPickLen_disp : (s.setPickLen).disp = s.disp := rfl
@[simp] theorem Block.setPickLen_tamp : (s.setPickLen).tamp = s.tamp := rfl
@[simp] theorem Block.setPickLen_faults : (s.setPickLen).faults = s.faults := rfl
@[simp] theorem Block.setPickLen_join : (s.setPickLen).join = s.join := rfl
@[simp] theorem Block.setPickLen_mc : (s.setPickLen).mc = s.mc := rfl
@[simp] theorem Block.setPickLen_host : (s.setPickLen).host = s.host := rfl

@[simp] theorem Block.setRegion_freeCnt (e base len : Nat) : (s.setRegion e base len).freeCnt = s.freeCnt := rfl
@[simp] theorem Block.setRegion_shadow (e base len : Nat) : (s.setRegion e base len).shadow = s.shadow := rfl
@[simp] theorem Block.setRegion_frozen (e base len : Nat) : (s.setRegion e base len).frozen = s.frozen := rfl
@[simp] theorem Block.setRegion_freezeEnd (e base len : Nat) : (s.setRegion e base len).freezeEnd = s.freezeEnd := rfl
@[simp] theorem Block.setRegion_hiCap (e base len : Nat) : (s.setRegion e base len).hiCap = s.hiCap := rfl
@[simp] theorem Block.setRegion_episodes (e base len : Nat) : (s.setRegion e base len).episodes = s.episodes := rfl
@[simp] theorem Block.setRegion_sram (e base len : Nat) : (s.setRegion e base len).sram = s.sram := rfl
@[simp] theorem Block.setRegion_feram (e base len : Nat) : (s.setRegion e base len).feram = s.feram := rfl
@[simp] theorem Block.setRegion_time (e base len : Nat) : (s.setRegion e base len).time = s.time := rfl
@[simp] theorem Block.setRegion_warp (e base len : Nat) : (s.setRegion e base len).warp = s.warp := rfl
@[simp] theorem Block.setRegion_mods (e base len : Nat) : (s.setRegion e base len).mods = s.mods := rfl
@[simp] theorem Block.setRegion_slots (e base len : Nat) : (s.setRegion e base len).slots = s.slots := rfl
@[simp] theorem Block.setRegion_hist (e base len : Nat) : (s.setRegion e base len).hist = s.hist := rfl
@[simp] theorem Block.setRegion_rings (e base len : Nat) : (s.setRegion e base len).rings = s.rings := rfl
@[simp] theorem Block.setRegion_spare (e base len : Nat) : (s.setRegion e base len).spare = s.spare := rfl
@[simp] theorem Block.setRegion_flt (e base len : Nat) : (s.setRegion e base len).flt = s.flt := rfl
@[simp] theorem Block.setRegion_wb (e base len : Nat) : (s.setRegion e base len).wb = s.wb := rfl
@[simp] theorem Block.setRegion_pwr (e base len : Nat) : (s.setRegion e base len).pwr = s.pwr := rfl
@[simp] theorem Block.setRegion_arb (e base len : Nat) : (s.setRegion e base len).arb = s.arb := rfl
@[simp] theorem Block.setRegion_recs (e base len : Nat) : (s.setRegion e base len).recs = s.recs := rfl
@[simp] theorem Block.setRegion_engines (e base len : Nat) : (s.setRegion e base len).engines = s.engines := rfl
@[simp] theorem Block.setRegion_eng (e base len : Nat) : (s.setRegion e base len).eng = s.eng := rfl
@[simp] theorem Block.setRegion_aux (e base len : Nat) : (s.setRegion e base len).aux = s.aux := rfl
@[simp] theorem Block.setRegion_feed (e base len : Nat) : (s.setRegion e base len).feed = s.feed := rfl
@[simp] theorem Block.setRegion_posts (e base len : Nat) : (s.setRegion e base len).posts = s.posts := rfl
@[simp] theorem Block.setRegion_therm (e base len : Nat) : (s.setRegion e base len).therm = s.therm := rfl
@[simp] theorem Block.setRegion_stor (e base len : Nat) : (s.setRegion e base len).stor = s.stor := rfl
@[simp] theorem Block.setRegion_husk (e base len : Nat) : (s.setRegion e base len).husk = s.husk := rfl
@[simp] theorem Block.setRegion_tar (e base len : Nat) : (s.setRegion e base len).tar = s.tar := rfl
@[simp] theorem Block.setRegion_dem (e base len : Nat) : (s.setRegion e base len).dem = s.dem := rfl
@[simp] theorem Block.setRegion_led (e base len : Nat) : (s.setRegion e base len).led = s.led := rfl
@[simp] theorem Block.setRegion_pq (e base len : Nat) : (s.setRegion e base len).pq = s.pq := rfl
@[simp] theorem Block.setRegion_pout (e base len : Nat) : (s.setRegion e base len).pout = s.pout := rfl
@[simp] theorem Block.setRegion_disp (e base len : Nat) : (s.setRegion e base len).disp = s.disp := rfl
@[simp] theorem Block.setRegion_tamp (e base len : Nat) : (s.setRegion e base len).tamp = s.tamp := rfl
@[simp] theorem Block.setRegion_faults (e base len : Nat) : (s.setRegion e base len).faults = s.faults := rfl
@[simp] theorem Block.setRegion_join (e base len : Nat) : (s.setRegion e base len).join = s.join := rfl
@[simp] theorem Block.setRegion_mc (e base len : Nat) : (s.setRegion e base len).mc = s.mc := rfl
@[simp] theorem Block.setRegion_host (e base len : Nat) : (s.setRegion e base len).host = s.host := rfl

end Sys2Proof.Machine
end

