-- ==== Sys2Proof/Laws/Registers.lean ====
section
/-! SUPPORT. Laws of the register operations: what a write leaves in its own register, in its own bits, and in every other register. -/

namespace Sys2Proof

/-! ### Bits -/

theorem Word.bits_eq_of (w v : Word) (hi lo : Nat) (h : ∀ k, lo ≤ k → k ≤ hi → w.getLsbD k = v.getLsbD k) (hl : lo ≤ hi) :
    Word.bits w hi lo = Word.bits v hi lo := by
  apply Nat.eq_of_testBit_eq
  intro i
  simp only [Word.bits, Nat.testBit_mod_two_pow, Nat.testBit_shiftRight]
  by_cases hi' : i < hi + 1 - lo
  · have := h (lo + i) (by omega) (by omega)
    simp only [BitVec.getLsbD] at this
    simp [hi', this]
  · simp [hi']

theorem Word.mask_getLsbD (hi lo k : Nat) (h : k < 32) : (Word.mask hi lo).getLsbD k = decide (lo ≤ k ∧ k ≤ hi) := by
  unfold Word.mask
  rw [BitVec.getLsbD_ofNat]
  simp only [h, decide_true, Bool.true_and, Nat.testBit_shiftLeft, Nat.testBit_two_pow_sub_one]
  by_cases h1 : lo ≤ k
  · by_cases h2 : k ≤ hi
    · simp [h1, h2]; omega
    · simp [h1, h2]; omega
  · simp [h1]

theorem Word.withBits_getLsbD (w : Word) (hi lo v k : Nat) (h : k < 32) :
    (Word.withBits w hi lo v).getLsbD k = if lo ≤ k ∧ k ≤ hi then v.testBit (k - lo) else w.getLsbD k := by
  unfold Word.withBits
  rw [BitVec.getLsbD_or, BitVec.getLsbD_and, BitVec.getLsbD_not, Word.mask_getLsbD _ _ _ h, BitVec.getLsbD_ofNat]
  simp only [h, decide_true, Bool.true_and, Nat.testBit_shiftLeft, Nat.testBit_mod_two_pow]
  by_cases h1 : lo ≤ k
  · by_cases h2 : k ≤ hi
    · have : k - lo < hi + 1 - lo := by omega
      simp [h1, h2, this]
    · have : ¬ (k - lo < hi + 1 - lo) := by omega
      simp [h1, h2, this]
  · simp [h1]

/-- A field written reads as the value, modulo its width. -/
theorem Word.withBits_bits_same (w : Word) (hi lo v : Nat) (h1 : lo ≤ hi) (h2 : hi < 32) :
    Word.bits (Word.withBits w hi lo v) hi lo = v % 2 ^ (hi + 1 - lo) := by
  apply Nat.eq_of_testBit_eq
  intro i
  simp only [Word.bits, Nat.testBit_mod_two_pow, Nat.testBit_shiftRight]
  by_cases hi' : i < hi + 1 - lo
  · have := Word.withBits_getLsbD w hi lo v (lo + i) (by omega)
    simp only [BitVec.getLsbD] at this
    rw [this, if_pos (by omega)]
    simp [hi']
  · simp [hi']

/-- A field that shares no bit with the one written stays. -/
theorem Word.withBits_bits_ne (w : Word) (hi lo v hi' lo' : Nat) (h : hi' < lo ∨ hi < lo') (h1 : lo' ≤ hi') (h2 : hi' < 32) :
    Word.bits (Word.withBits w hi lo v) hi' lo' = Word.bits w hi' lo' := by
  apply Word.bits_eq_of _ _ _ _ _ h1
  intro k hk hk'
  rw [Word.withBits_getLsbD w hi lo v k (by omega), if_neg (by omega)]

/-- A bit outside the field written stays. -/
theorem Word.withBits_bit_out (w : Word) (hi lo v k : Nat) (h : k < lo ∨ hi < k) : Word.bit (Word.withBits w hi lo v) k = Word.bit w k := by
  unfold Word.bit
  by_cases h2 : k < 32
  · rw [Word.withBits_getLsbD w hi lo v k h2, if_neg (by omega)]
  · rw [BitVec.getLsbD_of_ge _ _ (by omega), BitVec.getLsbD_of_ge _ _ (by omega)]

/-- A bit written reads as written. -/
theorem Word.withBits_bit_same (w : Word) (k : Nat) (b : Bool) (h : k < 32) : Word.bit (Word.withBits w k k (b2n b)) k = b := by
  unfold Word.bit
  rw [Word.withBits_getLsbD w k k _ k h, if_pos (by omega)]
  cases b <;> simp [b2n]

namespace Machine

variable (s : Block)

@[simp] theorem Block.getR_setR_same (a : Nat) (v : Word) : (s.setR a v).getR a = v := by simp [Block.getR, Block.setR]

theorem Block.getR_setR_ne (v : Word) {a b : Nat} (h : b ≠ a) : (s.setR a v).getR b = s.getR b :=
  Sparse.get_set_ne _ _ v h s.regs

/-- Two blocks with the same register file hold the same words. -/
theorem Block.getR_congr {s t : Block} (h : s.regs = t.regs) (a : Nat) : s.getR a = t.getR a := by unfold Block.getR; rw [h]

theorem Block.getR_setF_ne {a b : Nat} (h : b ≠ a) (hi lo v : Nat) : (s.setF a hi lo v).getR b = s.getR b := s.getR_setR_ne _ h

@[simp] theorem Block.getR_setF_same (a hi lo v : Nat) : (s.setF a hi lo v).getR a = (s.getR a).withBits hi lo v :=
  s.getR_setR_same a _

theorem Block.getR_setB_ne {a b : Nat} (h : b ≠ a) (k : Nat) (v : Bool) : (s.setB a k v).getR b = s.getR b := s.getR_setR_ne _ h

@[simp] theorem Block.getR_setB_same (a k : Nat) (v : Bool) : (s.setB a k v).getR a = (s.getR a).withBits k k (b2n v) :=
  s.getR_setR_same a _

theorem Block.getR_setN_ne {a b : Nat} (h : b ≠ a) (v : Nat) : (s.setN a v).getR b = s.getR b := s.getR_setR_ne _ h

@[simp] theorem Block.getR_setN_same (a v : Nat) : (s.setN a v).getR a = BitVec.ofNat 32 v := s.getR_setR_same a _

theorem Block.getR_bump_ne {a b : Nat} (h : b ≠ a) (hi lo n : Nat) : (s.bump a hi lo n).getR b = s.getR b := s.getR_setR_ne _ h

theorem Block.getR_set64_ne {a b : Nat} (h : b ≠ a) (h' : b ≠ a + 4) (v : Nat) : (s.set64 a v).getR b = s.getR b := by
  unfold Block.set64; rw [Block.getR_setN_ne _ h', Block.getR_setN_ne _ h]

/-- The bit written reads as written; any other bit of the register stays. -/
theorem Block.rbit_setB_same (a k : Nat) (v : Bool) (h : k < 32) : (s.setB a k v).rbit a k = v := by
  unfold Block.rbit; rw [Block.getR_setB_same]; exact Word.withBits_bit_same _ _ _ h

theorem Block.rbit_setB_ne (a k j : Nat) (v : Bool) (h : j ≠ k) : (s.setB a k v).rbit a j = s.rbit a j := by
  unfold Block.rbit; rw [Block.getR_setB_same]; exact Word.withBits_bit_out _ _ _ _ _ (by omega)

theorem Block.fld_setF_same (a hi lo v : Nat) (h1 : lo ≤ hi) (h2 : hi < 32) : (s.setF a hi lo v).fld a hi lo = v % 2 ^ (hi + 1 - lo) := by
  unfold Block.fld; rw [Block.getR_setF_same]; exact Word.withBits_bits_same _ _ _ _ h1 h2

end Machine

end Sys2Proof
end

