-- ==== Sys2Proof/Laws/Raise.lean ====
section
/-! SUPPORT. What a detector raise and a ring entry can change (R409 to R411, R416, R543): registers, the shared SRAM and the rings'
state, and of the registers only those of the raise itself, of SYS.FIRST_CODE and of the RING page. -/

namespace Sys2Proof.Machine

/-- A block apart from what rings and raises change. -/
def Block.rest (s : Block) : Block := { s with regs := [], sram := [], rings := [] }

variable (s : Block)

@[simp] theorem Block.rest_setR (a : Nat) (v : Word) : (s.setR a v).rest = s.rest := rfl
@[simp] theorem Block.rest_setF (a hi lo v : Nat) : (s.setF a hi lo v).rest = s.rest := rfl
@[simp] theorem Block.rest_setB (a k : Nat) (v : Bool) : (s.setB a k v).rest = s.rest := rfl
@[simp] theorem Block.rest_setN (a v : Nat) : (s.setN a v).rest = s.rest := rfl
@[simp] theorem Block.rest_bump (a hi lo n : Nat) : (s.bump a hi lo n).rest = s.rest := rfl
@[simp] theorem Block.rest_set64 (a v : Nat) : (s.set64 a v).rest = s.rest := rfl
@[simp] theorem Block.rest_sramPut (a : Nat) (l : List Byte) : (s.sramPut a l).rest = s.rest := rfl
@[simp] theorem Block.rest_modRing (n : Nat) (f : RingMeta → RingMeta) : (s.modRing n f).rest = s.rest := rfl

@[simp] theorem Block.rest_ringWrite (n x : Nat) (l : List Byte) : (s.ringWrite n x l).rest = s.rest := by
  induction l generalizing s x with
  | nil => rfl
  | cons b t ih => simp only [Block.ringWrite, ih, Block.rest_sramPut]

@[simp] theorem Block.rest_ringStoreAll (n : Nat) (x : Nat × Nat) (l : List Entry) : (s.ringStoreAll n x l).1.rest = s.rest := by
  induction l generalizing s x with
  | nil => rfl
  | cons e t ih => simp only [Block.ringStoreAll, ih, Block.ringStore, Block.rest_ringWrite]

@[simp] theorem Block.rest_ringCommit (n : Nat) (l : List Entry) : (s.ringCommit n l).rest = s.rest := by
  simp only [Block.ringCommit, Block.rest_modRing, Block.rest_setN, Block.rest_ringStoreAll]

@[simp] theorem Block.rest_ringLose (n : Nat) (l : List Entry) (f : Bool) : (s.ringLose n l f).rest = s.rest := by
  unfold Block.ringLose
  split <;> simp

@[simp] theorem Block.rest_ringDiscard (n need fuel : Nat) : (s.ringDiscard n need fuel).rest = s.rest := by
  induction fuel generalizing s with
  | zero => rfl
  | succ k ih =>
    simp only [Block.ringDiscard]
    split
    · rfl
    · split
      · rfl
      · simp only [ih, Block.rest_modRing, Block.rest_bump, Block.rest_setN]

@[simp] theorem Block.rest_ringOffer (n : Nat) (l : List Entry) : (s.ringOffer n l).1.rest = s.rest := by
  simp only [Block.ringOffer]
  repeat' split
  all_goals simp

@[simp] theorem Block.rest_noteFault (p d x : Nat) : (s.noteFault p d x).rest = s.rest := by
  simp only [Block.noteFault]; split <;> simp

@[simp] theorem Block.rest_noteFirst (p d x : Nat) : (s.noteFirst p d x).rest = s.rest := by
  simp only [Block.noteFirst]
  repeat' split
  all_goals simp

@[simp] theorem Block.rest_noteEvent (p d x : Nat) : (s.noteEvent p d x).rest = s.rest := by simp [Block.noteEvent]

@[simp] theorem Block.rest_raiseRegs (p d : Nat) : (s.raiseRegs p d).rest = s.rest := by simp [Block.raiseRegs]

@[simp] theorem Block.rest_lossNews (b : Bool) : (s.lossNews b).rest = s.rest := by
  cases b <;> simp [Block.lossNews]
@[simp] theorem Block.rest_firstNews (b : Bool) : (s.firstNews b).rest = s.rest := by
  cases b <;> simp [Block.firstNews]
@[simp] theorem Block.rest_waterNews (b : Bool) : (s.waterNews b).rest = s.rest := by
  cases b <;> simp [Block.waterNews]
@[simp] theorem Block.rest_eventNews (n : RingNews) : (s.eventNews n).rest = s.rest := by simp [Block.eventNews]

@[simp] theorem Block.rest_eventOut (e : Entry) : (s.eventOut e).rest = s.rest := by simp [Block.eventOut]

@[simp] theorem Block.rest_raiseAt (p d a : Nat) (x i : Bool) (st : Nat) : (s.raiseAt p d a x i st).rest = s.rest := by
  simp [Block.raiseAt]

/-- A raise leaves everything but registers, the shared SRAM and the rings. -/
@[simp] theorem Block.rest_raiseX (p d a : Nat) (x i : Bool) : (s.raiseX p d a x i).rest = s.rest := by simp [Block.raiseX]

@[simp] theorem Block.rest_raise (p d a : Nat) : (s.raise p d a).rest = s.rest := by simp [Block.raise]

theorem Block.rest_forEach {α : Type} (f : α → Block → Block) (h : ∀ x t, (f x t).rest = t.rest) (l : List α) :
    (forEach l f s).rest = s.rest := by
  induction l generalizing s with
  | nil => rfl
  | cons x t ih => exact (ih (f x s)).trans (h x s)

/-- So does a group of entries put to a ring. -/
@[simp] theorem Block.rest_put (n : Nat) (l : List Entry) : (s.put n l).rest = s.rest := by
  simp only [Block.put]
  split
  · exact Block.rest_forEach s _ (fun e t => by simp) l
  · repeat' split
    all_goals simp

theorem Block.freeCnt_of_rest {s t : Block} (h : s.rest = t.rest) : s.freeCnt = t.freeCnt := by have k := congrArg Block.freeCnt h; exact k
theorem Block.shadow_of_rest {s t : Block} (h : s.rest = t.rest) : s.shadow = t.shadow := by have k := congrArg Block.shadow h; exact k
theorem Block.frozen_of_rest {s t : Block} (h : s.rest = t.rest) : s.frozen = t.frozen := by have k := congrArg Block.frozen h; exact k
theorem Block.freezeEnd_of_rest {s t : Block} (h : s.rest = t.rest) : s.freezeEnd = t.freezeEnd := by have k := congrArg Block.freezeEnd h; exact k
theorem Block.hiCap_of_rest {s t : Block} (h : s.rest = t.rest) : s.hiCap = t.hiCap := by have k := congrArg Block.hiCap h; exact k
theorem Block.episodes_of_rest {s t : Block} (h : s.rest = t.rest) : s.episodes = t.episodes := by have k := congrArg Block.episodes h; exact k
theorem Block.feram_of_rest {s t : Block} (h : s.rest = t.rest) : s.feram = t.feram := by have k := congrArg Block.feram h; exact k
theorem Block.time_of_rest {s t : Block} (h : s.rest = t.rest) : s.time = t.time := by have k := congrArg Block.time h; exact k
theorem Block.warp_of_rest {s t : Block} (h : s.rest = t.rest) : s.warp = t.warp := by have k := congrArg Block.warp h; exact k
theorem Block.mods_of_rest {s t : Block} (h : s.rest = t.rest) : s.mods = t.mods := by have k := congrArg Block.mods h; exact k
theorem Block.slots_of_rest {s t : Block} (h : s.rest = t.rest) : s.slots = t.slots := by have k := congrArg Block.slots h; exact k
theorem Block.hist_of_rest {s t : Block} (h : s.rest = t.rest) : s.hist = t.hist := by have k := congrArg Block.hist h; exact k
theorem Block.spare_of_rest {s t : Block} (h : s.rest = t.rest) : s.spare = t.spare := by have k := congrArg Block.spare h; exact k
theorem Block.flt_of_rest {s t : Block} (h : s.rest = t.rest) : s.flt = t.flt := by have k := congrArg Block.flt h; exact k
theorem Block.wb_of_rest {s t : Block} (h : s.rest = t.rest) : s.wb = t.wb := by have k := congrArg Block.wb h; exact k
theorem Block.pwr_of_rest {s t : Block} (h : s.rest = t.rest) : s.pwr = t.pwr := by have k := congrArg Block.pwr h; exact k
theorem Block.arb_of_rest {s t : Block} (h : s.rest = t.rest) : s.arb = t.arb := by have k := congrArg Block.arb h; exact k
theorem Block.recs_of_rest {s t : Block} (h : s.rest = t.rest) : s.recs = t.recs := by have k := congrArg Block.recs h; exact k
theorem Block.engines_of_rest {s t : Block} (h : s.rest = t.rest) : s.engines = t.engines := by have k := congrArg Block.engines h; exact k
theorem Block.eng_of_rest {s t : Block} (h : s.rest = t.rest) : s.eng = t.eng := by have k := congrArg Block.eng h; exact k
theorem Block.aux_of_rest {s t : Block} (h : s.rest = t.rest) : s.aux = t.aux := by have k := congrArg Block.aux h; exact k
theorem Block.feed_of_rest {s t : Block} (h : s.rest = t.rest) : s.feed = t.feed := by have k := congrArg Block.feed h; exact k
theorem Block.posts_of_rest {s t : Block} (h : s.rest = t.rest) : s.posts = t.posts := by have k := congrArg Block.posts h; exact k
theorem Block.therm_of_rest {s t : Block} (h : s.rest = t.rest) : s.therm = t.therm := by have k := congrArg Block.therm h; exact k
theorem Block.stor_of_rest {s t : Block} (h : s.rest = t.rest) : s.stor = t.stor := by have k := congrArg Block.stor h; exact k
theorem Block.husk_of_rest {s t : Block} (h : s.rest = t.rest) : s.husk = t.husk := by have k := congrArg Block.husk h; exact k
theorem Block.tar_of_rest {s t : Block} (h : s.rest = t.rest) : s.tar = t.tar := by have k := congrArg Block.tar h; exact k
theorem Block.dem_of_rest {s t : Block} (h : s.rest = t.rest) : s.dem = t.dem := by have k := congrArg Block.dem h; exact k
theorem Block.led_of_rest {s t : Block} (h : s.rest = t.rest) : s.led = t.led := by have k := congrArg Block.led h; exact k
theorem Block.pq_of_rest {s t : Block} (h : s.rest = t.rest) : s.pq = t.pq := by have k := congrArg Block.pq h; exact k
theorem Block.pout_of_rest {s t : Block} (h : s.rest = t.rest) : s.pout = t.pout := by have k := congrArg Block.pout h; exact k
theorem Block.disp_of_rest {s t : Block} (h : s.rest = t.rest) : s.disp = t.disp := by have k := congrArg Block.disp h; exact k
theorem Block.tamp_of_rest {s t : Block} (h : s.rest = t.rest) : s.tamp = t.tamp := by have k := congrArg Block.tamp h; exact k
theorem Block.faults_of_rest {s t : Block} (h : s.rest = t.rest) : s.faults = t.faults := by have k := congrArg Block.faults h; exact k
theorem Block.join_of_rest {s t : Block} (h : s.rest = t.rest) : s.join = t.join := by have k := congrArg Block.join h; exact k
theorem Block.mc_of_rest {s t : Block} (h : s.rest = t.rest) : s.mc = t.mc := by have k := congrArg Block.mc h; exact k
theorem Block.host_of_rest {s t : Block} (h : s.rest = t.rest) : s.host = t.host := by have k := congrArg Block.host h; exact k

@[simp] theorem Block.raise_freeCnt (p d a : Nat) : (s.raise p d a).freeCnt = s.freeCnt := Block.freeCnt_of_rest (s.rest_raise p d a)
@[simp] theorem Block.raise_shadow (p d a : Nat) : (s.raise p d a).shadow = s.shadow := Block.shadow_of_rest (s.rest_raise p d a)
@[simp] theorem Block.raise_frozen (p d a : Nat) : (s.raise p d a).frozen = s.frozen := Block.frozen_of_rest (s.rest_raise p d a)
@[simp] theorem Block.raise_freezeEnd (p d a : Nat) : (s.raise p d a).freezeEnd = s.freezeEnd := Block.freezeEnd_of_rest (s.rest_raise p d a)
@[simp] theorem Block.raise_hiCap (p d a : Nat) : (s.raise p d a).hiCap = s.hiCap := Block.hiCap_of_rest (s.rest_raise p d a)
@[simp] theorem Block.raise_episodes (p d a : Nat) : (s.raise p d a).episodes = s.episodes := Block.episodes_of_rest (s.rest_raise p d a)
@[simp] theorem Block.raise_feram (p d a : Nat) : (s.raise p d a).feram = s.feram := Block.feram_of_rest (s.rest_raise p d a)
@[simp] theorem Block.raise_time (p d a : Nat) : (s.raise p d a).time = s.time := Block.time_of_rest (s.rest_raise p d a)
@[simp] theorem Block.raise_warp (p d a : Nat) : (s.raise p d a).warp = s.warp := Block.warp_of_rest (s.rest_raise p d a)
@[simp] theorem Block.raise_mods (p d a : Nat) : (s.raise p d a).mods = s.mods := Block.mods_of_rest (s.rest_raise p d a)
@[simp] theorem Block.raise_slots (p d a : Nat) : (s.raise p d a).slots = s.slots := Block.slots_of_rest (s.rest_raise p d a)
@[simp] theorem Block.raise_hist (p d a : Nat) : (s.raise p d a).hist = s.hist := Block.hist_of_rest (s.rest_raise p d a)
@[simp] theorem Block.raise_spare (p d a : Nat) : (s.raise p d a).spare = s.spare := Block.spare_of_rest (s.rest_raise p d a)
@[simp] theorem Block.raise_flt (p d a : Nat) : (s.raise p d a).flt = s.flt := Block.flt_of_rest (s.rest_raise p d a)
@[simp] theorem Block.raise_wb (p d a : Nat) : (s.raise p d a).wb = s.wb := Block.wb_of_rest (s.rest_raise p d a)
@[simp] theorem Block.raise_pwr (p d a : Nat) : (s.raise p d a).pwr = s.pwr := Block.pwr_of_rest (s.rest_raise p d a)
@[simp] theorem Block.raise_arb (p d a : Nat) : (s.raise p d a).arb = s.arb := Block.arb_of_rest (s.rest_raise p d a)
@[simp] theorem Block.raise_recs (p d a : Nat) : (s.raise p d a).recs = s.recs := Block.recs_of_rest (s.rest_raise p d a)
@[simp] theorem Block.raise_engines (p d a : Nat) : (s.raise p d a).engines = s.engines := Block.engines_of_rest (s.rest_raise p d a)
@[simp] theorem Block.raise_eng (p d a : Nat) : (s.raise p d a).eng = s.eng := Block.eng_of_rest (s.rest_raise p d a)
@[simp] theorem Block.raise_aux (p d a : Nat) : (s.raise p d a).aux = s.aux := Block.aux_of_rest (s.rest_raise p d a)
@[simp] theorem Block.raise_feed (p d a : Nat) : (s.raise p d a).feed = s.feed := Block.feed_of_rest (s.rest_raise p d a)
@[simp] theorem Block.raise_posts (p d a : Nat) : (s.raise p d a).posts = s.posts := Block.posts_of_rest (s.rest_raise p d a)
@[simp] theorem Block.raise_therm (p d a : Nat) : (s.raise p d a).therm = s.therm := Block.therm_of_rest (s.rest_raise p d a)
@[simp] theorem Block.raise_stor (p d a : Nat) : (s.raise p d a).stor = s.stor := Block.stor_of_rest (s.rest_raise p d a)
@[simp] theorem Block.raise_husk (p d a : Nat) : (s.raise p d a).husk = s.husk := Block.husk_of_rest (s.rest_raise p d a)
@[simp] theorem Block.raise_tar (p d a : Nat) : (s.raise p d a).tar = s.tar := Block.tar_of_rest (s.rest_raise p d a)
@[simp] theorem Block.raise_dem (p d a : Nat) : (s.raise p d a).dem = s.dem := Block.dem_of_rest (s.rest_raise p d a)
@[simp] theorem Block.raise_led (p d a : Nat) : (s.raise p d a).led = s.led := Block.led_of_rest (s.rest_raise p d a)
@[simp] theorem Block.raise_pq (p d a : Nat) : (s.raise p d a).pq = s.pq := Block.pq_of_rest (s.rest_raise p d a)
@[simp] theorem Block.raise_pout (p d a : Nat) : (s.raise p d a).pout = s.pout := Block.pout_of_rest (s.rest_raise p d a)
@[simp] theorem Block.raise_disp (p d a : Nat) : (s.raise p d a).disp = s.disp := Block.disp_of_rest (s.rest_raise p d a)
@[simp] theorem Block.raise_tamp (p d a : Nat) : (s.raise p d a).tamp = s.tamp := Block.tamp_of_rest (s.rest_raise p d a)
@[simp] theorem Block.raise_faults (p d a : Nat) : (s.raise p d a).faults = s.faults := Block.faults_of_rest (s.rest_raise p d a)
@[simp] theorem Block.raise_join (p d a : Nat) : (s.raise p d a).join = s.join := Block.join_of_rest (s.rest_raise p d a)
@[simp] theorem Block.raise_mc (p d a : Nat) : (s.raise p d a).mc = s.mc := Block.mc_of_rest (s.rest_raise p d a)
@[simp] theorem Block.raise_host (p d a : Nat) : (s.raise p d a).host = s.host := Block.host_of_rest (s.rest_raise p d a)

@[simp] theorem Block.raiseX_freeCnt (p d a : Nat) (x i : Bool) : (s.raiseX p d a x i).freeCnt = s.freeCnt := Block.freeCnt_of_rest (s.rest_raiseX p d a x i)
@[simp] theorem Block.raiseX_shadow (p d a : Nat) (x i : Bool) : (s.raiseX p d a x i).shadow = s.shadow := Block.shadow_of_rest (s.rest_raiseX p d a x i)
@[simp] theorem Block.raiseX_frozen (p d a : Nat) (x i : Bool) : (s.raiseX p d a x i).frozen = s.frozen := Block.frozen_of_rest (s.rest_raiseX p d a x i)
@[simp] theorem Block.raiseX_freezeEnd (p d a : Nat) (x i : Bool) : (s.raiseX p d a x i).freezeEnd = s.freezeEnd := Block.freezeEnd_of_rest (s.rest_raiseX p d a x i)
@[simp] theorem Block.raiseX_hiCap (p d a : Nat) (x i : Bool) : (s.raiseX p d a x i).hiCap = s.hiCap := Block.hiCap_of_rest (s.rest_raiseX p d a x i)
@[simp] theorem Block.raiseX_episodes (p d a : Nat) (x i : Bool) : (s.raiseX p d a x i).episodes = s.episodes := Block.episodes_of_rest (s.rest_raiseX p d a x i)
@[simp] theorem Block.raiseX_feram (p d a : Nat) (x i : Bool) : (s.raiseX p d a x i).feram = s.feram := Block.feram_of_rest (s.rest_raiseX p d a x i)
@[simp] theorem Block.raiseX_time (p d a : Nat) (x i : Bool) : (s.raiseX p d a x i).time = s.time := Block.time_of_rest (s.rest_raiseX p d a x i)
@[simp] theorem Block.raiseX_warp (p d a : Nat) (x i : Bool) : (s.raiseX p d a x i).warp = s.warp := Block.warp_of_rest (s.rest_raiseX p d a x i)
@[simp] theorem Block.raiseX_mods (p d a : Nat) (x i : Bool) : (s.raiseX p d a x i).mods = s.mods := Block.mods_of_rest (s.rest_raiseX p d a x i)
@[simp] theorem Block.raiseX_slots (p d a : Nat) (x i : Bool) : (s.raiseX p d a x i).slots = s.slots := Block.slots_of_rest (s.rest_raiseX p d a x i)
@[simp] theorem Block.raiseX_hist (p d a : Nat) (x i : Bool) : (s.raiseX p d a x i).hist = s.hist := Block.hist_of_rest (s.rest_raiseX p d a x i)
@[simp] theorem Block.raiseX_spare (p d a : Nat) (x i : Bool) : (s.raiseX p d a x i).spare = s.spare := Block.spare_of_rest (s.rest_raiseX p d a x i)
@[simp] theorem Block.raiseX_flt (p d a : Nat) (x i : Bool) : (s.raiseX p d a x i).flt = s.flt := Block.flt_of_rest (s.rest_raiseX p d a x i)
@[simp] theorem Block.raiseX_wb (p d a : Nat) (x i : Bool) : (s.raiseX p d a x i).wb = s.wb := Block.wb_of_rest (s.rest_raiseX p d a x i)
@[simp] theorem Block.raiseX_pwr (p d a : Nat) (x i : Bool) : (s.raiseX p d a x i).pwr = s.pwr := Block.pwr_of_rest (s.rest_raiseX p d a x i)
@[simp] theorem Block.raiseX_arb (p d a : Nat) (x i : Bool) : (s.raiseX p d a x i).arb = s.arb := Block.arb_of_rest (s.rest_raiseX p d a x i)
@[simp] theorem Block.raiseX_recs (p d a : Nat) (x i : Bool) : (s.raiseX p d a x i).recs = s.recs := Block.recs_of_rest (s.rest_raiseX p d a x i)
@[simp] theorem Block.raiseX_engines (p d a : Nat) (x i : Bool) : (s.raiseX p d a x i).engines = s.engines := Block.engines_of_rest (s.rest_raiseX p d a x i)
@[simp] theorem Block.raiseX_eng (p d a : Nat) (x i : Bool) : (s.raiseX p d a x i).eng = s.eng := Block.eng_of_rest (s.rest_raiseX p d a x i)
@[simp] theorem Block.raiseX_aux (p d a : Nat) (x i : Bool) : (s.raiseX p d a x i).aux = s.aux := Block.aux_of_rest (s.rest_raiseX p d a x i)
@[simp] theorem Block.raiseX_feed (p d a : Nat) (x i : Bool) : (s.raiseX p d a x i).feed = s.feed := Block.feed_of_rest (s.rest_raiseX p d a x i)
@[simp] theorem Block.raiseX_posts (p d a : Nat) (x i : Bool) : (s.raiseX p d a x i).posts = s.posts := Block.posts_of_rest (s.rest_raiseX p d a x i)
@[simp] theorem Block.raiseX_therm (p d a : Nat) (x i : Bool) : (s.raiseX p d a x i).therm = s.therm := Block.therm_of_rest (s.rest_raiseX p d a x i)
@[simp] theorem Block.raiseX_stor (p d a : Nat) (x i : Bool) : (s.raiseX p d a x i).stor = s.stor := Block.stor_of_rest (s.rest_raiseX p d a x i)
@[simp] theorem Block.raiseX_husk (p d a : Nat) (x i : Bool) : (s.raiseX p d a x i).husk = s.husk := Block.husk_of_rest (s.rest_raiseX p d a x i)
@[simp] theorem Block.raiseX_tar (p d a : Nat) (x i : Bool) : (s.raiseX p d a x i).tar = s.tar := Block.tar_of_rest (s.rest_raiseX p d a x i)
@[simp] theorem Block.raiseX_dem (p d a : Nat) (x i : Bool) : (s.raiseX p d a x i).dem = s.dem := Block.dem_of_rest (s.rest_raiseX p d a x i)
@[simp] theorem Block.raiseX_led (p d a : Nat) (x i : Bool) : (s.raiseX p d a x i).led = s.led := Block.led_of_rest (s.rest_raiseX p d a x i)
@[simp] theorem Block.raiseX_pq (p d a : Nat) (x i : Bool) : (s.raiseX p d a x i).pq = s.pq := Block.pq_of_rest (s.rest_raiseX p d a x i)
@[simp] theorem Block.raiseX_pout (p d a : Nat) (x i : Bool) : (s.raiseX p d a x i).pout = s.pout := Block.pout_of_rest (s.rest_raiseX p d a x i)
@[simp] theorem Block.raiseX_disp (p d a : Nat) (x i : Bool) : (s.raiseX p d a x i).disp = s.disp := Block.disp_of_rest (s.rest_raiseX p d a x i)
@[simp] theorem Block.raiseX_tamp (p d a : Nat) (x i : Bool) : (s.raiseX p d a x i).tamp = s.tamp := Block.tamp_of_rest (s.rest_raiseX p d a x i)
@[simp] theorem Block.raiseX_faults (p d a : Nat) (x i : Bool) : (s.raiseX p d a x i).faults = s.faults := Block.faults_of_rest (s.rest_raiseX p d a x i)
@[simp] theorem Block.raiseX_join (p d a : Nat) (x i : Bool) : (s.raiseX p d a x i).join = s.join := Block.join_of_rest (s.rest_raiseX p d a x i)
@[simp] theorem Block.raiseX_mc (p d a : Nat) (x i : Bool) : (s.raiseX p d a x i).mc = s.mc := Block.mc_of_rest (s.rest_raiseX p d a x i)
@[simp] theorem Block.raiseX_host (p d a : Nat) (x i : Bool) : (s.raiseX p d a x i).host = s.host := Block.host_of_rest (s.rest_raiseX p d a x i)

@[simp] theorem Block.put_freeCnt (n : Nat) (l : List Entry) : (s.put n l).freeCnt = s.freeCnt := Block.freeCnt_of_rest (s.rest_put n l)
@[simp] theorem Block.put_shadow (n : Nat) (l : List Entry) : (s.put n l).shadow = s.shadow := Block.shadow_of_rest (s.rest_put n l)
@[simp] theorem Block.put_frozen (n : Nat) (l : List Entry) : (s.put n l).frozen = s.frozen := Block.frozen_of_rest (s.rest_put n l)
@[simp] theorem Block.put_freezeEnd (n : Nat) (l : List Entry) : (s.put n l).freezeEnd = s.freezeEnd := Block.freezeEnd_of_rest (s.rest_put n l)
@[simp] theorem Block.put_hiCap (n : Nat) (l : List Entry) : (s.put n l).hiCap = s.hiCap := Block.hiCap_of_rest (s.rest_put n l)
@[simp] theorem Block.put_episodes (n : Nat) (l : List Entry) : (s.put n l).episodes = s.episodes := Block.episodes_of_rest (s.rest_put n l)
@[simp] theorem Block.put_feram (n : Nat) (l : List Entry) : (s.put n l).feram = s.feram := Block.feram_of_rest (s.rest_put n l)
@[simp] theorem Block.put_time (n : Nat) (l : List Entry) : (s.put n l).time = s.time := Block.time_of_rest (s.rest_put n l)
@[simp] theorem Block.put_warp (n : Nat) (l : List Entry) : (s.put n l).warp = s.warp := Block.warp_of_rest (s.rest_put n l)
@[simp] theorem Block.put_mods (n : Nat) (l : List Entry) : (s.put n l).mods = s.mods := Block.mods_of_rest (s.rest_put n l)
@[simp] theorem Block.put_slots (n : Nat) (l : List Entry) : (s.put n l).slots = s.slots := Block.slots_of_rest (s.rest_put n l)
@[simp] theorem Block.put_hist (n : Nat) (l : List Entry) : (s.put n l).hist = s.hist := Block.hist_of_rest (s.rest_put n l)
@[simp] theorem Block.put_spare (n : Nat) (l : List Entry) : (s.put n l).spare = s.spare := Block.spare_of_rest (s.rest_put n l)
@[simp] theorem Block.put_flt (n : Nat) (l : List Entry) : (s.put n l).flt = s.flt := Block.flt_of_rest (s.rest_put n l)
@[simp] theorem Block.put_wb (n : Nat) (l : List Entry) : (s.put n l).wb = s.wb := Block.wb_of_rest (s.rest_put n l)
@[simp] theorem Block.put_pwr (n : Nat) (l : List Entry) : (s.put n l).pwr = s.pwr := Block.pwr_of_rest (s.rest_put n l)
@[simp] theorem Block.put_arb (n : Nat) (l : List Entry) : (s.put n l).arb = s.arb := Block.arb_of_rest (s.rest_put n l)
@[simp] theorem Block.put_recs (n : Nat) (l : List Entry) : (s.put n l).recs = s.recs := Block.recs_of_rest (s.rest_put n l)
@[simp] theorem Block.put_engines (n : Nat) (l : List Entry) : (s.put n l).engines = s.engines := Block.engines_of_rest (s.rest_put n l)
@[simp] theorem Block.put_eng (n : Nat) (l : List Entry) : (s.put n l).eng = s.eng := Block.eng_of_rest (s.rest_put n l)
@[simp] theorem Block.put_aux (n : Nat) (l : List Entry) : (s.put n l).aux = s.aux := Block.aux_of_rest (s.rest_put n l)
@[simp] theorem Block.put_feed (n : Nat) (l : List Entry) : (s.put n l).feed = s.feed := Block.feed_of_rest (s.rest_put n l)
@[simp] theorem Block.put_posts (n : Nat) (l : List Entry) : (s.put n l).posts = s.posts := Block.posts_of_rest (s.rest_put n l)
@[simp] theorem Block.put_therm (n : Nat) (l : List Entry) : (s.put n l).therm = s.therm := Block.therm_of_rest (s.rest_put n l)
@[simp] theorem Block.put_stor (n : Nat) (l : List Entry) : (s.put n l).stor = s.stor := Block.stor_of_rest (s.rest_put n l)
@[simp] theorem Block.put_husk (n : Nat) (l : List Entry) : (s.put n l).husk = s.husk := Block.husk_of_rest (s.rest_put n l)
@[simp] theorem Block.put_tar (n : Nat) (l : List Entry) : (s.put n l).tar = s.tar := Block.tar_of_rest (s.rest_put n l)
@[simp] theorem Block.put_dem (n : Nat) (l : List Entry) : (s.put n l).dem = s.dem := Block.dem_of_rest (s.rest_put n l)
@[simp] theorem Block.put_led (n : Nat) (l : List Entry) : (s.put n l).led = s.led := Block.led_of_rest (s.rest_put n l)
@[simp] theorem Block.put_pq (n : Nat) (l : List Entry) : (s.put n l).pq = s.pq := Block.pq_of_rest (s.rest_put n l)
@[simp] theorem Block.put_pout (n : Nat) (l : List Entry) : (s.put n l).pout = s.pout := Block.pout_of_rest (s.rest_put n l)
@[simp] theorem Block.put_disp (n : Nat) (l : List Entry) : (s.put n l).disp = s.disp := Block.disp_of_rest (s.rest_put n l)
@[simp] theorem Block.put_tamp (n : Nat) (l : List Entry) : (s.put n l).tamp = s.tamp := Block.tamp_of_rest (s.rest_put n l)
@[simp] theorem Block.put_faults (n : Nat) (l : List Entry) : (s.put n l).faults = s.faults := Block.faults_of_rest (s.rest_put n l)
@[simp] theorem Block.put_join (n : Nat) (l : List Entry) : (s.put n l).join = s.join := Block.join_of_rest (s.rest_put n l)
@[simp] theorem Block.put_mc (n : Nat) (l : List Entry) : (s.put n l).mc = s.mc := Block.mc_of_rest (s.rest_put n l)
@[simp] theorem Block.put_host (n : Nat) (l : List Entry) : (s.put n l).host = s.host := Block.host_of_rest (s.rest_put n l)

/-! ### Registers -/

/-- Registers that rings and raises never write: block registers of every page but SYS and RING. -/
def quietReg (a : Nat) : Prop := 0x40 ≤ a % 0x400 ∧ a / 0x400 ≠ 0 ∧ a / 0x400 ≠ 0x2D

/-- Registers outside the block registers of RING. -/
def offRing (a : Nat) : Prop := ∀ o, 0x40 ≤ o → o < 0x400 → a ≠ pg 0x2D o

theorem quiet_offRing {a : Nat} (h : quietReg a) : offRing a := by
  intro o ho ho' e; obtain ⟨_, _, h3⟩ := h; apply h3; rw [e]; unfold pg; omega

theorem header_offRing (p o : Nat) (h : o < 0x40) : offRing (pg p o) := by
  intro o' ho ho' e; unfold pg at e; omega

theorem quiet_ne_sys {a : Nat} (h : quietReg a) (o : Nat) (ho : o < 0x400) : a ≠ pg 0 o := by
  intro e; obtain ⟨_, h2, _⟩ := h; apply h2; rw [e]; unfold pg; omega

theorem quiet_ne_header {a : Nat} (h : quietReg a) (p o : Nat) (ho : o < 0x40) : a ≠ pg p o := by
  intro e; obtain ⟨h1, _, _⟩ := h; rw [e] at h1; unfold pg at h1; omega


theorem Block.ringWrite_regs (n x : Nat) (l : List Byte) : (s.ringWrite n x l).regs = s.regs := by
  induction l generalizing s x with
  | nil => rfl
  | cons b t ih => simp only [Block.ringWrite, ih, Block.sramPut_regs]

theorem Block.ringStoreAll_regs (n : Nat) (x : Nat × Nat) (l : List Entry) : (s.ringStoreAll n x l).1.regs = s.regs := by
  induction l generalizing s x with
  | nil => rfl
  | cons e t ih => simp only [Block.ringStoreAll, ih, Block.ringStore, Block.ringWrite_regs]

theorem offRing_ne_desc {a : Nat} (h : offRing a) (n : Nat) (hn : n < 16) : a ≠ dHead n ∧ a ≠ dTail n ∧ a ≠ dSeq n ∧ a ≠ dLost n :=
  ⟨h _ (by omega) (by omega), h _ (by omega) (by omega), h _ (by omega) (by omega), h _ (by omega) (by omega)⟩

theorem Block.getR_ringCommit {a : Nat} (h : offRing a) (n : Nat) (hn : n < 16) (l : List Entry) :
    (s.ringCommit n l).getR a = s.getR a := by
  simp only [Block.ringCommit]
  rw [Block.getR_congr (Block.modRing_regs ..)]
  obtain ⟨h1, _, h3, _⟩ := offRing_ne_desc h n hn
  rw [Block.getR_setN_ne _ h3, Block.getR_setN_ne _ h1]
  exact Block.getR_congr (Block.ringStoreAll_regs ..) a

theorem Block.getR_ringLose {a : Nat} (h : offRing a) (n : Nat) (hn : n < 16) (l : List Entry) (f : Bool) :
    (s.ringLose n l f).getR a = s.getR a := by
  unfold Block.ringLose
  split
  · rfl
  · rw [Block.getR_congr (Block.modRing_regs ..)]
    obtain ⟨_, _, h3, h4⟩ := offRing_ne_desc h n hn
    rw [Block.getR_bump_ne _ h4, Block.getR_setN_ne _ h3]

theorem Block.getR_ringDiscard {a : Nat} (h : offRing a) (n need : Nat) (hn : n < 16) (fuel : Nat) :
    (s.ringDiscard n need fuel).getR a = s.getR a := by
  induction fuel generalizing s with
  | zero => rfl
  | succ k ih =>
    simp only [Block.ringDiscard]
    split
    · rfl
    · split
      · rfl
      · rw [ih, Block.getR_congr (Block.modRing_regs ..)]
        obtain ⟨_, h2, _, h4⟩ := offRing_ne_desc h n hn
        rw [Block.getR_bump_ne _ h4, Block.getR_setN_ne _ h2]

theorem Block.getR_ringOffer {a : Nat} (h : offRing a) (n : Nat) (hn : n < 16) (l : List Entry) :
    (s.ringOffer n l).1.getR a = s.getR a := by
  have hs : a ≠ pg 0x2D 0x248 := h _ (by omega) (by omega)
  simp only [Block.ringOffer]
  repeat' split
  all_goals dsimp only
  all_goals first
    | rfl
    | rw [Block.getR_setF_ne _ hs, Block.getR_ringLose _ h _ hn]
    | rw [Block.getR_congr (Block.modRing_regs ..), Block.getR_ringCommit _ h _ hn]
    | rw [Block.getR_congr (Block.modRing_regs ..), Block.getR_setF_ne _ hs, Block.getR_ringCommit _ h _ hn,
        Block.getR_ringDiscard _ h _ _ hn]

theorem Block.getR_noteFault {a p d x : Nat} (h : a ≠ pg p 0x18) (h1 : a ≠ pg p 0x1C) (h2 : a ≠ pg p 0x20) :
    (s.noteFault p d x).getR a = s.getR a := by
  have h3 : a ≠ pg p 0x1C + 4 := h2
  simp only [Block.noteFault]
  split
  · rw [Block.getR_set64_ne _ h1 h3, Block.getR_setF_ne _ h, Block.getR_bump_ne _ h]
  · rw [Block.getR_bump_ne _ h]

theorem Block.getR_noteFirst {a p d x : Nat} (h : a ≠ pg 0 0x54) (h1 : a ≠ pg 0 0x58) (h2 : a ≠ pg 0 0x5C) :
    (s.noteFirst p d x).getR a = s.getR a := by
  have h3 : a ≠ pg 0 0x58 + 4 := h2
  simp only [Block.noteFirst]
  repeat' split
  · rfl
  · rw [Block.getR_set64_ne _ h1 h3, Block.getR_setF_ne _ h]
  · rw [Block.getR_bump_ne _ h]
  · rfl

theorem Block.getR_noteEvent {a : Nat} (h : quietReg a) (p d x : Nat) : (s.noteEvent p d x).getR a = s.getR a := by
  unfold Block.noteEvent
  rw [Block.getR_noteFirst _ (quiet_ne_sys h _ (by omega)) (quiet_ne_sys h _ (by omega)) (quiet_ne_sys h _ (by omega)),
    Block.getR_setB_ne _ (quiet_ne_header h _ _ (by omega))]

theorem Block.getR_noteFaultQ {a : Nat} (h : quietReg a) (p d x : Nat) : (s.noteFault p d x).getR a = s.getR a :=
  Block.getR_noteFault _ (quiet_ne_header h _ _ (by omega)) (quiet_ne_header h _ _ (by omega)) (quiet_ne_header h _ _ (by omega))

theorem Block.getR_raiseRegs {a : Nat} (h : quietReg a) (p d : Nat) : (s.raiseRegs p d).getR a = s.getR a := by
  rw [Block.raiseRegs, Block.getR_noteEvent _ h, Block.getR_noteFaultQ _ h]

theorem Block.getR_lossNews {a : Nat} (h : quietReg a) (b : Bool) : (s.lossNews b).getR a = s.getR a := by
  cases b
  · rfl
  · exact Block.getR_raiseRegs _ h _ _
theorem Block.getR_firstNews {a : Nat} (h : quietReg a) (b : Bool) : (s.firstNews b).getR a = s.getR a := by
  cases b
  · rfl
  · exact (Block.getR_setF_ne _ (quiet_offRing h _ (by omega) (by omega)) _ _ _).trans (Block.getR_raiseRegs _ h _ _)
theorem Block.getR_waterNews {a : Nat} (h : quietReg a) (b : Bool) : (s.waterNews b).getR a = s.getR a := by
  cases b
  · rfl
  · exact (Block.getR_lossNews _ h _).trans ((Block.getR_noteEvent _ h _ _ _).trans
      ((Block.getR_ringOffer _ (quiet_offRing h) 2 (by omega) _).trans (Block.getR_noteFaultQ _ h _ _ _)))
theorem Block.getR_eventNews {a : Nat} (h : quietReg a) (n : RingNews) : (s.eventNews n).getR a = s.getR a := by
  rw [Block.eventNews, Block.getR_waterNews _ h, Block.getR_firstNews _ h, Block.getR_lossNews _ h]

theorem Block.getR_raiseAt {a : Nat} (h : quietReg a) (p d x : Nat) (e i : Bool) (st : Nat) :
    (s.raiseAt p d x e i st).getR a = s.getR a := by
  rw [Block.raiseAt, Block.getR_eventNews _ h, Block.getR_noteEvent _ h, Block.getR_ringOffer _ (quiet_offRing h) 2 (by omega), Block.getR_noteFaultQ _ h]

/-- A raise leaves every block register of a page other than SYS and RING. -/
theorem Block.getR_raiseX {a : Nat} (h : quietReg a) (p d x : Nat) (e i : Bool) : (s.raiseX p d x e i).getR a = s.getR a :=
  Block.getR_raiseAt s h p d x e i _

theorem Block.getR_raise {a : Nat} (h : quietReg a) (p d x : Nat) : (s.raise p d x).getR a = s.getR a := Block.getR_raiseX s h p d x _ _

/-! ### EVT_RAW (R403, R543 step 5) -/

theorem pg_0C_ne_sys (p o : Nat) (ho : 0x40 ≤ o) (ho' : o < 0x400) : pg p 0x0C ≠ pg 0 o := by unfold pg; omega

theorem Block.rbit_noteFirst (p d x q k : Nat) : (s.noteFirst p d x).rbit (pg q 0x0C) k = s.rbit (pg q 0x0C) k := by
  unfold Block.rbit
  rw [Block.getR_noteFirst _ (pg_0C_ne_sys q _ (by omega) (by omega)) (pg_0C_ne_sys q _ (by omega) (by omega))
    (pg_0C_ne_sys q _ (by omega) (by omega))]

theorem Block.rbit_noteFault (p d x q k : Nat) : (s.noteFault p d x).rbit (pg q 0x0C) k = s.rbit (pg q 0x0C) k := by
  unfold Block.rbit
  rw [Block.getR_noteFault _ (by unfold pg; omega) (by unfold pg; omega) (by unfold pg; omega)]

/-- A bit of EVT_RAW once set stays set through another raise. -/
theorem Block.rbit_noteEvent (p d x q k : Nat) (h : s.rbit (pg q 0x0C) k = true) : (s.noteEvent p d x).rbit (pg q 0x0C) k = true := by
  rw [Block.noteEvent, Block.rbit_noteFirst]
  by_cases hp : p = q
  · subst hp
    by_cases hk : d = k
    · subst hk
      by_cases hd : d < 32
      · exact Block.rbit_setB_same _ _ _ _ hd
      · rw [Block.rbit, Word.bit, BitVec.getLsbD_of_ge _ _ (by omega)] at h; cases h
    · rw [Block.rbit_setB_ne _ _ _ _ _ (Ne.symm hk)]; exact h
  · rw [Block.rbit, Block.getR_setB_ne _ (by unfold pg; omega)]; exact h

theorem Block.rbit_noteEvent_same (p d x : Nat) (hd : d < 32) : (s.noteEvent p d x).rbit (pg p 0x0C) d = true := by
  rw [Block.noteEvent, Block.rbit_noteFirst]
  exact Block.rbit_setB_same _ _ _ _ hd

theorem Block.rbit_raiseRegs (p d q k : Nat) (h : s.rbit (pg q 0x0C) k = true) : (s.raiseRegs p d).rbit (pg q 0x0C) k = true := by
  rw [Block.raiseRegs]
  exact Block.rbit_noteEvent _ _ _ _ _ _ (by rw [Block.rbit_noteFault]; exact h)

theorem Block.rbit_ringOffer (n : Nat) (hn : n < 16) (l : List Entry) (q k : Nat) :
    (s.ringOffer n l).1.rbit (pg q 0x0C) k = s.rbit (pg q 0x0C) k := by
  unfold Block.rbit; rw [Block.getR_ringOffer _ (header_offRing q _ (by omega)) n hn]

theorem Block.rbit_lossNews (b : Bool) (q k : Nat) (h : s.rbit (pg q 0x0C) k = true) : (s.lossNews b).rbit (pg q 0x0C) k = true := by
  cases b
  · exact h
  · exact Block.rbit_raiseRegs _ _ _ _ _ h
theorem Block.rbit_firstNews (b : Bool) (q k : Nat) (h : s.rbit (pg q 0x0C) k = true) : (s.firstNews b).rbit (pg q 0x0C) k = true := by
  cases b
  · exact h
  · have hs : pg q 0x0C ≠ pg 0x2D 0x240 := header_offRing q 0x0C (by omega) _ (by omega) (by omega)
    have e : (s.firstNews true) = (s.raiseRegs 0x2D 1).setF (pg 0x2D 0x240) 2 2 1 := rfl
    rw [e, Block.rbit, Block.getR_setF_ne _ hs]
    exact Block.rbit_raiseRegs _ _ _ _ _ h
theorem Block.rbit_waterNews (b : Bool) (q k : Nat) (h : s.rbit (pg q 0x0C) k = true) : (s.waterNews b).rbit (pg q 0x0C) k = true := by
  cases b
  · exact h
  · exact Block.rbit_lossNews _ _ _ _ (Block.rbit_noteEvent _ _ _ _ _ _
      (by rw [Block.rbit_ringOffer _ 2 (by omega), Block.rbit_noteFault]; exact h))
theorem Block.rbit_eventNews (n : RingNews) (q k : Nat) (h : s.rbit (pg q 0x0C) k = true) :
    (s.eventNews n).rbit (pg q 0x0C) k = true :=
  Block.rbit_waterNews _ _ _ _ (Block.rbit_firstNews _ _ _ _ (Block.rbit_lossNews _ _ _ _ h))

/-- After a raise the detector's bit of EVT_RAW is set (R543 step 5). -/
theorem Block.raiseX_event (p d x : Nat) (e i : Bool) (hd : d < 32) : (s.raiseX p d x e i).rbit (pg p 0x0C) d = true :=
  Block.rbit_eventNews _ _ _ _ (Block.rbit_noteEvent_same _ _ _ _ hd)

theorem Block.raise_event (p d x : Nat) (hd : d < 32) : (s.raise p d x).rbit (pg p 0x0C) d = true :=
  Block.raiseX_event _ p d x _ _ hd

end Sys2Proof.Machine
end

