-- ==== Sys2Proof/Laws/Rows.lean ====
section
/-! SUPPORT. What the forms of a row come to where the block takes them: an event where the core is powered, a host's write where the
port answers and the power state is not HOLD. -/

namespace Sys2Proof.Machine

variable (s : Block)

@[simp] theorem Block.nextFrame_pwr : s.nextFrame.pwr = s.pwr := rfl
@[simp] theorem Block.nextFrame_regs : s.nextFrame.regs = s.regs := rfl

theorem Block.powered_of_ready {s : Block} (h : s.hostReady = true) : s.powered = true := by
  simp only [Block.hostReady, Block.portUp, Bool.and_eq_true] at h; exact h.1.1

theorem Block.act_of (f : Block → Block) (h : s.powered = true) : s.act f = f s.arrive := by
  unfold Block.act; rw [if_pos h]

theorem Block.onPick_of (f : Block → Block) (h : s.powered = true) : s.onPick f = f s := by
  unfold Block.onPick; rw [if_pos h]

theorem Block.within_of (ok : Bool) (f : Block → Block) (h : s.powered = true) (k : ok = true) : s.within ok f = f s := by
  unfold Block.within Block.onPick; rw [if_pos h]; exact if_pos k

theorem Block.actIf_of (ok : Bool) (f : Block → Block) (h : s.powered = true) (k : ok = true) : s.actIf ok f = f s.arrive := by
  unfold Block.actIf; rw [Block.act_of _ _ h]; exact if_pos k

theorem Block.powered_of_up {s : Block} (h : s.unitsUp = true) : s.powered = true := by
  have k := h
  unfold Block.unitsUp at k
  rw [Bool.and_eq_true] at k; exact k.1

theorem Block.notHold_of_up {s : Block} (h : s.unitsUp = true) : (s.pwr.st == .hold) = false := by
  have k := h
  unfold Block.unitsUp at k
  rw [Bool.and_eq_true] at k
  simpa [bne] using k.2

theorem Block.actUp_of (f : Block → Block) (h : s.unitsUp = true) : s.actUp f = f s.arrive := by
  unfold Block.actUp
  rw [Block.act_of _ _ (Block.powered_of_up h), Block.arrive_pwr, Block.notHold_of_up h]; rfl

theorem Block.pickUp_of (f : Block → Block) (h : s.unitsUp = true) : s.pickUp f = f s := by
  unfold Block.pickUp
  rw [Block.onPick_of _ _ (Block.powered_of_up h), Block.notHold_of_up h]; rfl

theorem Block.actIfUp_of (ok : Bool) (f : Block → Block) (h : s.unitsUp = true) (k : ok = true) : s.actIfUp ok f = f s.arrive := by
  unfold Block.actIfUp
  rw [Block.actIf_of _ _ _ (Block.powered_of_up h) k, Block.arrive_pwr, Block.notHold_of_up h]; rfl

theorem Block.withinUp_of (ok : Bool) (f : Block → Block) (h : s.unitsUp = true) (k : ok = true) : s.withinUp ok f = f s := by
  unfold Block.withinUp
  rw [Block.within_of _ _ _ (Block.powered_of_up h) k, Block.notHold_of_up h]; rfl

theorem Block.hostDo_of (ok : Bool) (f : Block → Block) (h : s.hostReady = true) (k : ok = true) : s.hostDo ok f = f s.arrive := by
  have h' := h
  simp only [Block.hostReady, Bool.and_eq_true] at h'
  unfold Block.hostDo
  rw [Block.act_of _ _ (Block.powered_of_ready h)]
  have : s.arrive.portUp = true := h'.1
  have : (s.arrive.pwr.st != .hold) = true := h'.2
  simp [*]

/-- A word a host row writes to a register that no access rule shuts reaches that register. -/
theorem Block.rowWrite_of (p o : Nat) (v : Word) (h : s.hostReady = true) (hp : p < 64) (ho : o < 0x400) (h4 : o % 4 = 0)
    (hi : o ≠ 0x14) : s.rowWrite (pg p o) v = s.nextFrame.regWriteTo p o v := by
  have h' := h
  simp only [Block.hostReady, Bool.and_eq_true] at h'
  have hu : s.portUp = true := h'.1
  have hh : (s.pwr.st == .hold) = false := by simpa [bne] using h'.2
  have e : pg p o = 1024 * p + o := by unfold pg; omega
  have e1 : pg p o / 0x400 = p := by rw [e]; omega
  have e2 : pg p o % 0x400 = o := by rw [e]; omega
  have hst : s.writeStatus (pg p o) v = 0 := by
    unfold Block.writeStatus
    rw [if_neg (by rw [e]; omega), if_pos (by rw [e]; omega), if_neg]
    simp [e2, hi]
  unfold Block.rowWrite
  rw [hu, hh, hst]
  simp only [Bool.not_true, Bool.or_self, Bool.false_eq_true, if_false]
  unfold Block.hostWrite
  rw [if_pos (by rw [e]; omega), e1, e2]

theorem Block.toReg_of (p o : Nat) (v : Word) (h : s.hostReady = true) (hp : p < 64) (ho : o < 0x400) (h4 : o % 4 = 0)
    (hi : o ≠ 0x14) : s.toReg p o v = s.arrive.nextFrame.regWriteTo p o v := by
  unfold Block.toReg
  rw [Block.hostDo_of _ _ _ h rfl]
  exact Block.rowWrite_of _ _ _ _ h hp ho h4 hi

theorem Block.toRegIf_of (ok : Bool) (p o : Nat) (v : Word) (h : s.hostReady = true) (k : ok = true) (hp : p < 64) (ho : o < 0x400)
    (h4 : o % 4 = 0) (hi : o ≠ 0x14) : s.toRegIf ok p o v = s.arrive.nextFrame.regWriteTo p o v := by
  unfold Block.toRegIf
  rw [Block.hostDo_of _ _ _ h k]
  exact Block.rowWrite_of _ _ _ _ h hp ho h4 hi

/-- A word that a command register takes is that command. -/
theorem Block.regWriteTo_cmd (p o : Nat) (v : Word) (t : Block) (ho : 0x40 ≤ o) (h : s.cmdWrite p o v = some t) :
    s.regWriteTo p o v = t := by
  unfold Block.regWriteTo
  rw [if_neg (by omega), h]

/-- A field of a coded command word. -/
theorem cmdWord_bits (c a b hi lo : Nat) (hc : c < 16) (ha : a < 256) (hb : b < 65536) :
    (cmdWord c a b).bits hi lo = (c + 256 * a + 65536 * b) / 2 ^ lo % 2 ^ (hi + 1 - lo) := by
  unfold cmdWord Word.bits
  rw [BitVec.toNat_ofNat, Nat.mod_eq_of_lt (a := c + 256 * a + 65536 * b) (by omega), Nat.shiftRight_eq_div_pow]

/-- The command itself. -/
theorem cmdWord_cmd (c a b : Nat) (hc : c < 16) (ha : a < 256) (hb : b < 65536) : (cmdWord c a b).bits 3 0 = c := by
  rw [cmdWord_bits _ _ _ _ _ hc ha hb]; omega

/-- A command whose meaning turns the block into t answers the state with the block t. -/
theorem next_of {c : Instr} {s : State} {f : Block → Block} {t : Block} (h : exec c s = .next (s.onBlock f)) (e : f s.block = t) :
    exec c s = .next { s with block := t } := by rw [h, ← e]; rfl

/-- Such a command completes with what holds of t. -/
theorem leads_of {c : Instr} {s : State} {f : Block → Block} {t : Block} {P : Block → Prop} (h : exec c s = .next (s.onBlock f))
    (e : f s.block = t) (k : P t) : c.leads s P := ⟨_, next_of h e, rfl, k⟩

/-! ### Where the core is unpowered, no form acts -/

section
variable {s} (h : s.powered = false)
include h

theorem Block.act_off (f : Block → Block) : s.act f = s := by unfold Block.act; rw [h]; rfl
theorem Block.onPick_off (f : Block → Block) : s.onPick f = s := by unfold Block.onPick; rw [h]; rfl
theorem Block.actIf_off (ok : Bool) (f : Block → Block) : s.actIf ok f = s := Block.act_off h _
theorem Block.actUp_off (f : Block → Block) : s.actUp f = s := Block.act_off h _
theorem Block.actIfUp_off (ok : Bool) (f : Block → Block) : s.actIfUp ok f = s := Block.act_off h _
theorem Block.within_off (ok : Bool) (f : Block → Block) : s.within ok f = s := Block.onPick_off h _
theorem Block.pickUp_off (f : Block → Block) : s.pickUp f = s := Block.onPick_off h _
theorem Block.withinUp_off (ok : Bool) (f : Block → Block) : s.withinUp ok f = s := Block.onPick_off h _
theorem Block.hostDo_off (ok : Bool) (f : Block → Block) : s.hostDo ok f = s := Block.act_off h _
theorem Block.toReg_off (p o : Nat) (v : Word) : s.toReg p o v = s := Block.hostDo_off h _ _
theorem Block.toRegIf_off (ok : Bool) (p o : Nat) (v : Word) : s.toRegIf ok p o v = s := Block.hostDo_off h _ _
theorem Block.fromReg_off (p o : Nat) : s.fromReg p o = s := Block.hostDo_off h _ _
theorem Block.access_off (p o : Nat) (w : Option Word) : s.access p o w = s := by
  cases w
  · exact Block.fromReg_off h _ _
  · exact Block.toReg_off h _ _ _

end

/-! ### In HOLD the host's words are answered HOLD and change no register (R522) -/

section
variable {s} (h : s.pwr.st = .hold)
include h

theorem Block.powered_of_hold : s.powered = true := by simp [Block.powered, h]

theorem Block.hostDo_hold (ok : Bool) (f : Block → Block) : s.hostDo ok f = s.arrive := by
  unfold Block.hostDo
  rw [Block.act_of _ _ (Block.powered_of_hold h)]
  have : (s.arrive.pwr.st != .hold) = false := by simp [h]
  simp only [this, Bool.and_false, Bool.false_eq_true, if_false]

theorem Block.toReg_hold (p o : Nat) (v : Word) : s.toReg p o v = s.arrive := Block.hostDo_hold h _ _
theorem Block.toRegIf_hold (ok : Bool) (p o : Nat) (v : Word) : s.toRegIf ok p o v = s.arrive := Block.hostDo_hold h _ _
theorem Block.fromReg_hold (p o : Nat) : s.fromReg p o = s.arrive := Block.hostDo_hold h _ _
theorem Block.access_hold (p o : Nat) (w : Option Word) : s.access p o w = s.arrive := by
  cases w
  · exact Block.fromReg_hold h _ _
  · exact Block.toReg_hold h _ _ _
theorem Block.actUp_hold (f : Block → Block) : s.actUp f = s.arrive := by
  unfold Block.actUp; rw [Block.act_of _ _ (Block.powered_of_hold h)]; simp [h]
theorem Block.pickUp_hold (f : Block → Block) : s.pickUp f = s := by
  unfold Block.pickUp; rw [Block.onPick_of _ _ (Block.powered_of_hold h)]; simp [h]

end

end Sys2Proof.Machine
end

