-- ==== Sys2Proof/Laws/Frames.lean ====
section
/-! SUPPORT. Frames of raises and of ring entries in the terms of Safety: which registers they leave. -/

namespace Sys2Proof.Machine

variable (s : Block)

theorem reported_ne {ps : List Nat} {a : Nat} (h : reported ps a = false) :
    (∀ p ∈ 0x2D :: ps, a ≠ pg p 0x0C ∧ a ≠ pg p 0x18 ∧ a ≠ pg p 0x1C ∧ a ≠ pg p 0x20)
      ∧ (a ≠ pg 0 0x54 ∧ a ≠ pg 0 0x58 ∧ a ≠ pg 0 0x5C) ∧ offRing a := by
  unfold reported at h
  rw [Bool.or_eq_false_iff, Bool.or_eq_false_iff] at h
  obtain ⟨⟨h1, h2⟩, h3⟩ := h
  refine ⟨?_, ?_, ?_⟩
  · intro p hp
    have := List.any_eq_false.1 h1 p hp
    simpa using this
  · simpa using h2
  · intro o ho ho' e
    rw [e] at h3
    have e1 : pg 0x2D o / 0x400 = 0x2D := by unfold pg; omega
    have e2 : pg 0x2D o % 0x400 = o := by unfold pg; omega
    rw [e1, e2] at h3
    simp [ho] at h3

theorem reported_mono {ps qs : List Nat} {a : Nat} (h : reported qs a = false) (k : ∀ p ∈ ps, p ∈ qs) : reported ps a = false := by
  unfold reported at h ⊢
  rw [Bool.or_eq_false_iff, Bool.or_eq_false_iff] at h ⊢
  refine ⟨⟨?_, h.1.2⟩, h.2⟩
  rw [List.any_eq_false] at *
  intro p hp
  apply h.1.1 p
  rcases List.mem_cons.1 hp with e | e
  · rw [e]; exact List.mem_cons_self
  · exact List.mem_cons_of_mem _ (k p e)

section
variable {a : Nat} {ps : List Nat} (h : reported ps a = false)
include h

theorem Block.getR_noteFault_out (p d x : Nat) (hp : p ∈ 0x2D :: ps) : (s.noteFault p d x).getR a = s.getR a :=
  have k := (reported_ne h).1 p hp
  s.getR_noteFault k.2.1 k.2.2.1 k.2.2.2

theorem Block.getR_noteEvent_out (p d x : Nat) (hp : p ∈ 0x2D :: ps) : (s.noteEvent p d x).getR a = s.getR a := by
  have k := (reported_ne h).1 p hp
  have m := (reported_ne h).2.1
  rw [Block.noteEvent, Block.getR_noteFirst _ m.1 m.2.1 m.2.2, Block.getR_setB_ne _ k.1]

theorem Block.getR_ringOffer_out (n : Nat) (hn : n < 16) (l : List Entry) : (s.ringOffer n l).1.getR a = s.getR a :=
  s.getR_ringOffer (reported_ne h).2.2 n hn l

theorem Block.getR_raiseRegs_out (d : Nat) : (s.raiseRegs 0x2D d).getR a = s.getR a := by
  rw [Block.raiseRegs, Block.getR_noteEvent_out _ h _ _ _ List.mem_cons_self, Block.getR_noteFault_out _ h _ _ _ List.mem_cons_self]

theorem Block.getR_lossNews_out (b : Bool) : (s.lossNews b).getR a = s.getR a := by
  cases b
  · rfl
  · exact s.getR_raiseRegs_out h _

theorem Block.getR_firstNews_out (b : Bool) : (s.firstNews b).getR a = s.getR a := by
  cases b
  · rfl
  · have e : s.firstNews true = (s.raiseRegs 0x2D 1).setF (pg 0x2D 0x240) 2 2 1 := rfl
    rw [e, Block.getR_setF_ne _ ((reported_ne h).2.2 _ (by omega) (by omega)), s.getR_raiseRegs_out h]

theorem Block.getR_waterNews_out (b : Bool) : (s.waterNews b).getR a = s.getR a := by
  cases b
  · rfl
  · show (Block.lossNews _ _).getR a = _
    rw [Block.getR_lossNews_out _ h, Block.getR_noteEvent_out _ h _ _ _ List.mem_cons_self, Block.getR_ringOffer_out _ h _ (by omega),
      Block.getR_noteFault_out _ h _ _ _ List.mem_cons_self]

theorem Block.getR_eventNews_out (n : RingNews) : (s.eventNews n).getR a = s.getR a := by
  rw [Block.eventNews, Block.getR_waterNews_out _ h, Block.getR_firstNews_out _ h, Block.getR_lossNews_out _ h]

/-- A raise of a page leaves every register that a report of the page does not write. -/
theorem Block.getR_raiseX_out (p d x : Nat) (e i : Bool) (hp : p ∈ 0x2D :: ps) : (s.raiseX p d x e i).getR a = s.getR a := by
  show (Block.eventNews _ _).getR a = _
  rw [Block.getR_eventNews_out _ h, Block.getR_noteEvent_out _ h _ _ _ hp, Block.getR_ringOffer_out _ h _ (by omega),
    Block.getR_noteFault_out _ h _ _ _ hp]

theorem Block.getR_raise_out (p d x : Nat) (hp : p ∈ 0x2D :: ps) : (s.raise p d x).getR a = s.getR a := s.getR_raiseX_out h p d x _ _ hp

end

/-- Two blocks that agree but for registers, ring memory and ring state. -/
theorem Block.eq_of_rest {s t : Block} (h : t.rest = s.rest) : t = { s with regs := t.regs, sram := t.sram, rings := t.rings } := by
  have e := congrArg (fun b : Block => { b with regs := t.regs, sram := t.sram, rings := t.rings }) h
  exact e

theorem Block.onlyRaised_raise (p d x : Nat) : s.onlyRaised (s.raise p d x) [p] [] :=
  ⟨Block.eq_of_rest (s.rest_raise p d x), fun _ _ h => s.getR_raise_out h p d x (by simp)⟩

theorem Block.onlyRaised_raiseX (p d x : Nat) (e i : Bool) : s.onlyRaised (s.raiseX p d x e i) [p] [] :=
  ⟨Block.eq_of_rest (s.rest_raiseX p d x e i), fun _ _ h => s.getR_raiseX_out h p d x e i (by simp)⟩

theorem Block.onlyRaised.trans {s t u : Block} {ps as : List Nat} (h : s.onlyRaised t ps as) (k : t.onlyRaised u ps as) :
    s.onlyRaised u ps as := by
  refine ⟨?_, fun a ha hr => (k.2 a ha hr).trans (h.2 a ha hr)⟩
  have e := k.1
  rw [h.1] at e
  exact e

theorem Block.onlyRaised.mono {s t : Block} {ps as qs bs : List Nat} (h : s.onlyRaised t ps as) (k : ∀ p ∈ ps, p ∈ qs)
    (l : ∀ a ∈ as, a ∈ bs) : s.onlyRaised t qs bs :=
  ⟨h.1, fun a ha hr => h.2 a (fun m => ha (l a m)) (reported_mono hr k)⟩

theorem Block.onlyRaised_setR (a : Nat) (v : Word) (ps : List Nat) : s.onlyRaised (s.setR a v) ps [a] :=
  ⟨rfl, fun _ hb _ => s.getR_setR_ne v (by simpa using hb)⟩

theorem Block.onlyRegs_setR (a : Nat) (v : Word) : s.onlyRegs (s.setR a v) [a] :=
  ⟨rfl, fun _ hb => s.getR_setR_ne v (by simpa using hb)⟩

theorem Block.onlyRegs.trans {s t u : Block} {as : List Nat} (h : s.onlyRegs t as) (k : t.onlyRegs u as) : s.onlyRegs u as := by
  refine ⟨?_, fun a ha => (k.2 a ha).trans (h.2 a ha)⟩
  have e := k.1
  rw [h.1] at e
  exact e

theorem Block.onlyRegs.mono {s t : Block} {as bs : List Nat} (h : s.onlyRegs t as) (l : ∀ a ∈ as, a ∈ bs) : s.onlyRegs t bs :=
  ⟨h.1, fun a ha => h.2 a (fun m => ha (l a m))⟩

end Sys2Proof.Machine
end

