-- ==== Sys2Proof/Tests/Slice0.lean ====
section
/-! SUPPORT. Tests: the checks of WellFormed refuse what they should, each statement's premises are met by a concrete state and
operands, and single commands give what the spec's rules and tables say. -/

namespace Sys2Proof.Tests

open Machine

/- One theorem after the other: kernel evaluations side by side would each take a thread and its memory. -/
set_option Elab.async false

/-! ### WellFormed refuses -/

/-- One past the last value of each kind of operand is refused, the last one is not. -/
theorem test_wf_numbers :
    [Instr.softReset 64, .registerWrite 0x1000000 0, .shadowCommitSelect 3 4, .crossbarRequest 0 8 0, .overloadEntry 17 true,
      .peakClrWrite 16, .wbBlockComplete 8 false, .anchor 32, .engOpen 16 0, .engOpen 0 2, .capRelease 4, .calComplete 65536 0,
      .hostTWrite 2 0, .clearOne 1024, .dispShow false 64, .descWrite 16 false 0, .resolve 65536 0, .resolve 0 2, .mount 2,
      .storRead 0 4096, .flashEraseComplete 5 true, .lcStep 65536, .testBist 256, .joinImport 64, .mcOpen 16].any Instr.wf = false
      ∧ [Instr.softReset 63, .registerWrite 0xFFFFFF 0, .shadowCommitSelect 3 3, .crossbarRequest 63 7 63, .overloadEntry 16 true,
        .peakClrWrite 15, .wbBlockComplete 7 false, .anchor 31, .engOpen 15 1, .capRelease 3, .calComplete 65535 0, .hostTWrite 1 0,
        .clearOne 1023, .dispShow false 63, .descWrite 15 false 0, .resolve 65535 1, .mount 1, .storRead 0 4095,
        .flashEraseComplete 4 true, .lcStep 65535, .testBist 255, .joinImport 63, .mcOpen 15].all Instr.wf = true := by decide +kernel

/-- A strobe without bits for all seventeen modulators, a reader, an outcome, an answer or a payload out of range is refused. -/
theorem test_wf_structures :
    [Instr.pickStrobe ⟨List.replicate 16 [], []⟩, .eccUncorrectable (.engine 16 true) 0, .eccUncorrectable (.ringUnit 16) 0,
      .eccUncorrectable (.logStore 5) 0, .eccUncorrectable (.other 17) 0, .eccUncorrectable (.other 0) 0x1000000,
      .mountComplete 0 (.failed 16), .mountComplete 0 (.streams [(5, ⟨0, 0, [], 0, 0, 0, [], [], [], 0⟩)]),
      .pollAnswer 65536 0 .empty, .pollAnswer 0 0 (.lreply 65536 []), .pollAnswer 0 0 (.data 0 65536 []),
      .data 0 0 0 (List.replicate 1025 0), .lreply 0 (List.replicate 1025 0), .lreadFrame 0 0 0 65536 0].any Instr.wf = false
      ∧ [Instr.pickStrobe ⟨List.replicate 17 [], []⟩, .eccUncorrectable (.other 16) 0xFFFFFF, .mountComplete 1 (.streams []),
        .pollAnswer 65535 0 .empty, .data 0 0 0 (List.replicate 1024 0)].all Instr.wf = true := by decide +kernel

/-! ### States to test on -/

/-- The reset block in RUN after READY. -/
def run : Block := { Block.reset with pwr := { Block.reset.pwr with st := .run, startStep := 0, ready := true, totalsLoaded := true } }
/-- The same in another power state. -/
def inPwr (p : PwrState) (b : Block) : Block := { b with pwr := { b.pwr with st := p } }
/-- The same at a step of a start. -/
def startsAt (k : Nat) (b : Block) : Block := { b with pwr := { b.pwr with st := .starting, startStep := k, ready := false } }
/-- A page in RUN. -/
def pageUp (p : Nat) (b : Block) : Block := b.setPageState p psRun
/-- A page whose request the arbiter has granted. -/
def grants (p : Nat) (b : Block) : Block := { b with arb := { b.arb with reqs := ⟨p, 2, 5, true, 1, 1, 0, 5, 0⟩ :: b.arb.reqs } }
/-- Steps of the life cycle taken (R482). -/
def steps (n : Nat) (b : Block) : Block :=
  let c := { b with husk := { b.husk with fuses := [(12, BitVec.ofNat 32 (2 ^ n - 1))] } }
  c.setF (pg 0x3B 0x44) 31 28 c.lcState
/-- Every modulator changed the same way. -/
def allMods (f : Modulator → Modulator) (b : Block) : Block := { b with mods := b.mods.map f }
/-- The spare unit changed. -/
def spare (f : Spare → Spare) (b : Block) : Block := { b with spare := f b.spare }
/-- The cycle count moved on. -/
def atCycle (c : Nat) (b : Block) : Block := { b with time := { b.time with cycle := c } }
/-- Clock periods passed since the Warp started, and on the RTC. -/
def atClk (c : Nat) (b : Block) : Block := { b with time := { b.time with mono := c, rtcClk := c } }
/-- An engine with its ROM image and one slot, running. -/
def engRuns (e : Nat) (b : Block) : Block :=
  let c := (((pageUp (mePage e) b).setF (pg (mePage e) 4) 0 0 1).setR (slotReg e 0) 0x80000001)
  grants (mePage e) { c with engines := modNth c.engines e (fun g => { g with bankA := some (romImage e), startAt := 0 }) }
/-- A ring at an address, of 2^size bytes, with its flags in bits 31:28. -/
def ring (n base size flags : Nat) (b : Block) : Block :=
  (b.setR (dBase n) (BitVec.ofNat 32 base)).setR (dCfg n) (BitVec.ofNat 32 (flags * 2 ^ 28 + size * 65536))
/-- No ring enabled. -/
def noRings (b : Block) : Block := (List.range 16).foldl (fun b n => b.setB (dCfg n) 31 false) b
/-- An entry of a ring: header, body, padding. -/
def entry (seq type : Nat) (body : List Byte) : List Byte :=
  let n := (16 + body.length + 15) / 16
  leBytes 4 seq ++ List.replicate 8 0 ++ leBytes 2 type ++ [BitVec.ofNat 8 n, 0] ++ body ++ List.replicate (n * 16 - 16 - body.length) 0
/-- Entries held by a ring whose counters stand at 0. -/
def holds (n : Nat) (bs : List Byte) (b : Block) : Block :=
  (b.sramPut (b.getN (dBase n)) bs).setR (dHead n) (BitVec.ofNat 32 bs.length)
/-- A state with nothing waiting. -/
def alone (b : Block) : State := ⟨[], b⟩
/-- What a command makes of a block. -/
def after (c : Instr) (b : Block) : Block := match exec c (alone b) with
  | .next t => t.block
  | _ => b

/-! ### Premises met -/

/-- QueueSound, UnpoweredCoreKeepsStores, HoldAnswersHostRows. -/
theorem witness_queue : State.queueOk ⟨[.softReset 63], run⟩ ∧ (inPwr .off run).powered = false ∧ (inPwr .vault run).powered = false
    ∧ (Instr.softReset 3).hostRegister = true ∧ (inPwr .hold run).pwr.st = .hold := by
  refine ⟨?_, by decide +kernel⟩
  intro c h
  cases h with
  | head => rfl
  | tail _ h => cases h

/-- EventAndFaultClear: both sides of 0xFFFF. -/
theorem witness_EventAndFaultClear : run.hostReady = true ∧ (0x1FFFF : Word).bits 15 0 = 0xFFFF ∧ (0xFFFE : Word).bits 15 0 ≠ 0xFFFF := by
  decide +kernel

/-- ShadowRows: the points 0 and 2, pages that commit at the latch and pages that do not. -/
theorem witness_ShadowRows : run.hostReady = true ∧ commitsAtLatch 63 = false ∧ (List.range 64).any commitsAtLatch = true := by decide +kernel

/-- FreezeRows: a freeze that stands and one whose time is out. -/
def frozenBlock : Block := { (run.setB (pg 5 4) 8 true) with freezeEnd := [(5, 0)], frozen := [(pg 5 0x40, 9)] }
theorem witness_FreezeRows : frozenBlock.hostReady = true ∧ frozenBlock.rbit (pg 5 0x04) 8 = true ∧ frozenBlock.powered = true
    ∧ (5, 0) ∈ frozenBlock.freezeEnd ∧ 0 ≤ frozenBlock.absPick
    ∧ (RegTable.ofPage 5).any (fun r => r.acc == .ro && decide (0 < r.count) && decide (r.off < 0x400)) = true := by decide +kernel

/-- ResetAndDrainRows: a page that takes a new generation, a page that drains with nothing in flight. -/
theorem witness_ResetAndDrainRows : run.hostReady = true ∧ run.powered = true ∧ (pageUp 6 run).pageState 6 ≠ psOff
    ∧ (pageUp 6 run).pageState 6 ≠ psDraining ∧ (run.setPageState 5 psDraining).pageState 5 = psDraining
    ∧ (run.setPageState 5 psDraining).inFlight 5 = false ∧ 5 ∉ [0x17, 0x35, 0x3D] ∧ ¬ (0x1D ≤ 5 ∧ 5 ≤ 0x2C) := by decide +kernel

/-- InjectionRows: a metrology page in FIELD with and without a TEST session, another page, words without a detector, a page that is OFF. -/
theorem witness_InjectionRows : (steps 3 run).hostReady = true ∧ (steps 3 run).lifeState = 3 ∧ (steps 3 run).testOpen = false
    ∧ ((steps 3 run).setF (pg 0x3B 0x44) 19 19 1).testOpen = true ∧ metrology 7 = true ∧ metrology 0x3E = false
    ∧ (∃ d < 32, hasDetector 7 d = true ∧ (2 : Word).bit d = true) ∧ (∀ d < 32, hasDetector 7 d = true → (0 : Word).bit d = false)
    ∧ (run.setPageState 5 psOff).powered = true ∧ (run.setPageState 5 psOff).pageState 5 = psOff := by decide +kernel

/-- RegisterWriteByAccess: a register of each access code, an address with none, words that fit and one that does not. -/
theorem witness_RegisterWriteByAccess : run.hostReady = true ∧ run.pwr.resetWait = none
    ∧ [Acc.ro, .w1c, .rws, .rw, .rwl].all (fun a => (List.range 64).any (fun p => (RegTable.ofPage p).any (fun r => r.acc == a && decide (0x40 ≤ r.off)))) = true
    ∧ RegTable.row 5 0x3FC = none ∧ (steps 1 run).lifeState < 3 ∧ 3 ≤ (steps 3 run).lifeState := by decide +kernel

/-- HostAddresses: the ends of each range, a byte of a host-produced ring and one outside any. -/
theorem witness_HostAddresses : run.hostReady = true ∧ run.pwr.resetWait = none ∧ (0x11FFF % 4 ≠ 0 ∧ 0x12000 % 4 = 0)
    ∧ run.hostRing (run.getN (dBase 0)) = true ∧ 0x100000 ≤ run.getN (dBase 0) ∧ run.getN (dBase 0) % 4 = 0 ∧ run.getN (dBase 0) < 0x180000
    ∧ (noRings run).hostRing 0x100000 = false := by decide +kernel

/-- StrobeAdvancesTime: the Warp runs in RUN and not before it has started. -/
theorem witness_StrobeAdvancesTime : run.warpRuns = true ∧ Block.reset.warpRuns = false := by decide +kernel

/-- ClockRows: crystal and PLL good and lost, each state of the Warp loop, detector selections. -/
def clockGood : Block := run.setF (pg 3 0x40) 1 0 3
def clockLost : Block := run.setF (pg 3 0x40) 1 0 0
theorem witness_ClockRows : clockGood.powered = true ∧ clockGood.rbit (pg 3 0x40) 0 = true ∧ clockGood.rbit (pg 3 0x40) 1 = true
    ∧ clockLost.rbit (pg 3 0x40) 0 = false ∧ clockLost.rbit (pg 3 0x40) 1 = false ∧ clockLost.powered = true
    ∧ run.warp.state = .acquiring ∧ (run.setR (pg 6 0x48) 3).fld (pg 6 0x48) 1 0 = 3 ∧ (run.setR (pg 6 0x48) 1).fld (pg 6 0x48) 1 0 ≠ 3 := by
  decide +kernel

/-- CrossbarRows: allowed and refused targets, a request held for 64 picks, one whose reply is stale. -/
def xbarBlock : Block := { atCycle 1 run with faults := { run.faults with
  xbar := [⟨6, 5, 0x31, 0, 0, 960, false, false⟩, ⟨0x3E, 1, 0x31, 0, 1, 0, true, false⟩] } }
theorem witness_CrossbarRows : xbarBlock.powered = true
    ∧ (List.range 64).any (fun t => rxAllowed 0x3E 0 t) = true ∧ (List.range 64).any (fun t => rxAllowed 6 2 t) = false ∧ ¬ (6 = 0x3E ∧ 2 = 2)
    ∧ xbarBlock.faults.xbar.find? (fun r => !r.accepted && !r.returned && decide (r.since + 64 ≤ xbarBlock.absPick))
      = some ⟨6, 5, 0x31, 0, 0, 960, false, false⟩
    ∧ (rxNext xbarBlock.faults.xbar 0x31).any (fun r => decide (r.gen ≠ xbarBlock.gen r.init)) = true
    ∧ (rxNext (xbarBlock.faults.xbar.map (fun r => { r with gen := xbarBlock.gen r.init })) 0x31).any (fun r => decide (r.gen = xbarBlock.gen r.init)) = true := by
  decide +kernel

/-- A node on reference 5 whose link runs, that follows its lead. -/
def followsNow : Block := { (run.setB (pg 0x3D 0x50) 0 true) with warp := { run.warp with srcActive := 5 } }

/-- LatchCommand: both words, alone and following. -/
theorem witness_LatchCommand : run.hostReady = true ∧ (0xFFFFFFFF : Word).bit 0 = true ∧ (0xFFFFFFFE : Word).bit 0 = false
    ∧ run.following = false ∧ followsNow.following = true := by decide +kernel

/-- TimeSetRows: the last second that can be set and the first that cannot, a set that waits. -/
theorem witness_TimeSetRows : run.hostReady = true ∧ run.mc.set = none ∧ run.powered = true
    ∧ ((run.setR (pg 4 0x48) 0xFFFFFFFF).setR (pg 4 0x4C) 0xFFFF).get64 (pg 4 0x48) / 65536 = 0xFFFFFFFF
    ∧ 0xFFFFFFFF < (run.setR (pg 4 0x4C) 0x10000).get64 (pg 4 0x48) / 65536 ∧ run.time.clk = 0 := by decide +kernel

/-- MicrocodeRows: no load, a load of both units' images, an idle bank with a ROM image, a switch that waits. -/
def microTwo (u : Nat) : Block := { run with mc := { run.mc with
  banks := List.replicate 4 (some ⟨1, 0, [], true, []⟩), pend := some (u, some 255, true) } }
theorem witness_MicrocodeRows : run.hostReady = true ∧ run.mc.load = none ∧ run.mcPending 0 = false ∧ run.mcPending 1 = false
    ∧ (microTwo 0).unitsUp = true ∧ (microTwo 1).unitsUp = true
    ∧ (∀ u < 2, (microTwo u).mcImage u (1 - (microTwo u).mcActive u) = some ⟨1, 0, [], true, []⟩)
    ∧ (microTwo 1).husk.ops.any (fun o => o.phase == 1) = false := by decide +kernel

/-- OverloadRows: the last modulator not held, held, and with its recovery count run out. -/
def overloaded : Block := allMods (fun d => { d with ovlHeld := some true }) run
def recovered : Block := allMods (fun d => { d with ovlEpisode := true }) run
theorem witness_OverloadRows : run.powered = true ∧ (run.mod 16).ovlHeld = none ∧ (overloaded.mod 16).ovlHeld ≠ none
    ∧ (recovered.mod 0).ovlEpisode = true ∧ (recovered.mod 16).ovlHeld = none ∧ (recovered.mod 16).ovlLeft = 0 := by decide +kernel

/-- NeighbourRows: under the rating and over it, marking on and off. -/
def over15 : Block := { run with mods := modNth run.mods 15 (fun d => { d with injOver := true }) }
theorem witness_NeighbourRows : run.powered = true ∧ (run.mod 0).injOver = false ∧ (over15.mod 15).injOver = true
    ∧ (run.setB (pg 6 0x40) 0 true).rbit (pg 6 0x40) 0 = true ∧ (run.setB (pg 6 0x40) 0 false).rbit (pg 6 0x40) 0 = false
    ∧ (∀ k ∈ neighbours 15, ∀ j ∈ neighbours k, j ≠ 15 → (over15.mod j).injOver = false) := by decide +kernel

/-- CommonModeAndSettlingRows: detection on, a fault that ends, an episode owed and no cause left. -/
def cmBlock : Block := run.setB (pg 6 0x40) 1 true
theorem witness_CommonModeAndSettlingRows : cmBlock.powered = true ∧ cmBlock.rbit (pg 6 0x40) 1 = true ∧ (cmBlock.mod 15).cmFault = false
    ∧ ((allMods (fun d => { d with cmFault := true }) run).mod 15).cmFault = true
    ∧ (let b := allMods (fun d => { d with settleOwed := true, settleLeft := 0, cmLeft := 0 }) run
       (b.mod 15).settleOwed = true ∧ (b.mod 15).settleLeft = 0 ∧ ∀ c ∈ b.causes 15, ¬ (2 ≤ c ∧ c ≤ 6)) := by decide +kernel

/-- ReferenceRows: both supplies good, either lost, with the PLL locked and not. -/
theorem witness_ReferenceRows : (run.setF (pg 6 0x5C) 1 0 3).powered = true
    ∧ (∀ w < 2, (run.setF (pg 6 0x5C) 1 0 3).rbit (pg 6 0x5C) w = true ∧ (run.setF (pg 6 0x5C) 1 0 0).rbit (pg 6 0x5C) w = false
      ∧ (run.setF (pg 6 0x5C) 1 0 (2 - w)).rbit (pg 6 0x5C) (1 - w) = true)
    ∧ clockGood.rbit (pg 3 0x40) 1 = true ∧ clockLost.rbit (pg 3 0x40) 1 = false := by decide +kernel

/-- FilterRows: the last index and the first past it, a bank that is busy and one that is free. -/
theorem witness_FilterRows : run.hostReady = true ∧ (95 : Word).bits 6 0 ≤ 95 ∧ 95 < (96 : Word).bits 6 0
    ∧ run.bankBusy 0 0 = true ∧ run.bankBusy 0 1 = false
    ∧ (run.setR (pg 0x18 0xD8) 0x80).coefAt.2.1 = 1 := by decide +kernel

/-- WidebandBlockRow: with and without a block, before READY, granted, not granted. -/
def wideBlock (b : Block) : Block := { b with wb := b.wb.map (fun w => { w with ready := some (WbBlock.empty 3 1) }) }
theorem witness_WidebandBlockRow : run.unitsUp = true ∧ (run.stream 7).ready = none ∧ ((wideBlock run).stream 7).ready ≠ none
    ∧ (wideBlock run).pwr.ready = true ∧ (wideBlock run).granted 0x19 = false ∧ (grants 0x19 (wideBlock run)).granted 0x19 = true
    ∧ ((wideBlock run).stream 7).dropEpisode = false ∧ (startsAt 8 run).pwr.ready = false ∧ (startsAt 8 run).unitsUp = true := by decide +kernel

/-- SpareStartCommands: ready and IDLE, HELD, in a rotation, and not ready. -/
def spReadyBlock : Block := pageUp 0x17 (engRuns 13 run)
theorem witness_SpareStartCommands : run.hostReady = true ∧ run.spReady = false ∧ spReadyBlock.hostReady = true ∧ spReadyBlock.spReady = true
    ∧ spReadyBlock.spare.state = 0 ∧ spReadyBlock.spare.start = none ∧ spReadyBlock.spare.rotActive = false
    ∧ (spare (fun p => { p with state := 5 }) spReadyBlock).spReady = true ∧ spReadyBlock.rbit (pg 0x17 0x4C) 14 = false
    ∧ (run.setF (pg 0x17 0x4C) 14 14 1).rbit (pg 0x17 0x4C) 14 = true := by decide +kernel

/-- SpareCalibrationData: a free bank and a busy one, words that pass and one that does not, the last modulator and 31. -/
theorem witness_SpareCalibrationData : run.hostReady = true ∧ run.calBusy 0 = true ∧ run.calBusy 1 = false
    ∧ (run.setR (pg 0x17 0x70) 0xFE).calAt = (1, 15, 6) ∧ calAccept 2 5 = some 5 ∧ calAccept 1 0x4001 = none
    ∧ (calAccept 1 0x4000).isSome = true ∧ (run.setR (pg 0x17 0x70) 0xFF).calAt.2.2 = 7 := by decide +kernel

/-- SpareStepEvents: each source of a calibration, its end, a window done under each mode, both timeouts. -/
def calBlock (src : Nat) (done : Bool) : Block := spare (fun p => { p with state := 1, calKept := 8, calSrc := src, calDone := done }) run
def winBlock (st mode : Nat) (low refs cyc : Bool) (a : Rat) : Block :=
  let all : List (Nat × RefResult) := (List.range 8).flatMap (fun g =>
    [(8 * 16 + g, ⟨1, 0, 0, 0, Match.one⟩), (g, ⟨1, 0, 0, 0, Match.one⟩)])
  spare (fun p => { p with
    state := st
    winCyc := if cyc then List.replicate 16 ⟨(a, 0), (1, 0), 0⟩ else []
    winElapsed := 256
    winLow16 := low
    refs := if refs then all else [] }) (run.setF (pg 0x17 0x44) 1 0 mode)
theorem witness_SpareStepEvents : run.unitsUp = true ∧ (∀ k < 3, (calBlock k false).spare.state = 1 ∧ (calBlock k false).spare.calSrc = k)
    ∧ 8 ≤ (calBlock 2 false).spare.calKept ∧ (calBlock 2 false).spare.ended = false
    ∧ (calBlock 2 true).spare.calDone = true ∧ (calBlock 2 true).time.pick = 0
    ∧ (let b := spare (fun p => { p with state := 3, calCycles := 64 }) run
       64 ≤ b.spare.calCycles ∧ b.spare.calKept < 8 ∧ b.spare.calDone = false ∧ b.spare.ended = false)
    ∧ (let b := winBlock 4 0 false false false 1
       b.spare.ended = false ∧ 256 ≤ b.spare.winElapsed ∧ b.windowDone = false ∧ b.spare.computed = none) := by decide +kernel
/-- SpareStepEvents, MATCH_COMPUTE: the window done under each mode, with and without the references' results, the ratio within the limits,
outside them and noisy, STEP_MAX kept and passed at a handback under CORRECT. -/
def refBlock (b : Block) : Block := (spare (fun p => { p with anchors := [(6 * 0 + 0, ⟨1, 0, Match.one⟩)] }) b).setB (pg 0x17 0x44) 4 true
theorem witness_MatchCompute :
    (winBlock 2 2 false false true 1).windowDone = true ∧ (winBlock 2 2 false false true 1).matchMode = 2
    ∧ (winBlock 2 2 false false true 1).refResult 16 (winBlock 2 2 false false true 1).stepGain = none
    ∧ (winBlock 2 1 true true true 1).windowDone = true ∧ (winBlock 2 1 true true true 1).matchMode = 1
    ∧ (winBlock 2 1 true true true 1).spare.winLow16 = true
    ∧ (winBlock 2 1 true true true 1).refResult 16 (winBlock 2 1 true true true 1).stepGain ≠ none
    ∧ (winBlock 2 1 true true true 1).refResult 0 (winBlock 2 1 true true true 1).stepGain ≠ none
    ∧ (winBlock 2 0 false false true 1).windowDone = true ∧ (winBlock 2 0 false false true 1).matchMode = 0
    ∧ (winBlock 2 0 false false true 1).spare.computed = none ∧ (winBlock 2 0 false false true 1).spare.noisy = false
    ∧ (spare (fun p => { p with winCyc := ⟨(2, 0), (1, 0), 0⟩ :: p.winCyc }) (winBlock 2 0 false false true 1)).spare.noisy = true := by decide +kernel
theorem witness_MatchLimits :
    (let b := winBlock 2 0 false false true 3
     f32 (b.getR (pg 0x17 0x58)) < ratAbs (cAbs b.spare.ratio - 1))
    ∧ (let b := winBlock 2 0 false false true 1
       ¬ (f32 (b.getR (pg 0x17 0x58)) < ratAbs (cAbs b.spare.ratio - 1))
       ∧ ¬ 4096 < (roundNear (argTurn b.spare.ratio.1 b.spare.ratio.2 * 4194304)).natAbs)
    ∧ (let b := refBlock (winBlock 4 2 false true true 3)
       b.spare.state = 4 ∧ b.rbit (pg 0x17 0x44) 4 = true ∧ b.refBased b.spare.ch ≠ none ∧ b.spare.winCyc ≠ []
       ∧ ((b.fld (pg 0x17 0x5C) 15 0 : Nat) / 1000000 : Rat) * ((b.fld (pg 0x17 0x5C) 15 0 : Nat) / 1000000 : Rat) < cNorm (cSub b.spare.ratio (1, 0)))
    ∧ (let b := refBlock (winBlock 4 0 false true true 1)
       ¬ ((b.fld (pg 0x17 0x5C) 15 0 : Nat) / 1000000 : Rat) * ((b.fld (pg 0x17 0x5C) 15 0 : Nat) / 1000000 : Rat) < cNorm (cSub b.spare.ratio (1, 0))) := by
  decide +kernel

/-- SpareHandover: a match computed in either overlap, a rotation at its next step, a MEAS with its cycles. -/
def rotBlock : Block := spare (fun p => { p with rotActive := true, rotWait := some 0, rotLeft := [15] }) (spReadyBlock.setB (pg (chPage 15) 0x04) 0 true)
def measBlock (k : Nat) : Block := spare (fun p => { p with measGood := k, measElapsed := 28 })
  ((run.setF (pg 0x17 0x4C) 14 14 1).setF (pg 0x17 0xA4) 15 0 7)
def matched (st : Nat) : Block := atCycle 1 (spare (fun p => { p with computed := some Match.one, compCycle := 0, state := st, ch := 15 }) run)
theorem witness_SpareHandover : (∀ k ∈ [2, 4], (matched k).unitsUp = true ∧ (matched k).spare.computed = some Match.one
      ∧ (matched k).spare.compCycle < (matched k).time.cycle ∧ (matched k).spare.state = k ∧ (matched k).spare.ended = false
      ∧ (matched k).time.pick = 0 ∧ (matched k).spare.ch < 16)
    ∧ rotBlock.unitsUp = true ∧ rotBlock.spare.rotWait = some 0 ∧ rotBlock.spReady = true ∧ rotBlock.spare.rotLeft = [15]
    ∧ rotBlock.spare.state = 0 ∧ rotBlock.time.pick = 0
    ∧ rotBlock.rbit (pg (chPage 15) 0x04) 0 = true ∧ (measBlock 7).rbit (pg 0x17 0x4C) 14 = true
    ∧ (measBlock 7).fld (pg 0x17 0xA4) 15 0 ≤ (measBlock 7).spare.measGood
    ∧ ¬ (measBlock 6).fld (pg 0x17 0xA4) 15 0 ≤ (measBlock 6).spare.measGood
    ∧ 4 * (measBlock 6).fld (pg 0x17 0xA4) 15 0 ≤ (measBlock 6).spare.measElapsed := by decide +kernel

/-- An image for both banks of every engine, and for ME15's second bank the image of engine e. -/
def image : Image := ⟨1, 2, 1, 1, 0, 64, 64, [], [1], true, []⟩
def imaged (b : Block) : Block := { b with engines := b.engines.map (fun g => { g with bankA := some image, bankB := some image }) }
def engState (f : EngBlock → EngBlock) (b : Block) : Block := { b with eng := f b.eng }

/-- EngineImageCommands: no load, a load under way, an image whose record is free, BUSY. -/
theorem witness_EngineImageCommands : run.hostReady = true ∧ run.engBusyCmd = false ∧ run.eng.load = none
    ∧ run.fld (pg (mePage 15) 0x40) 4 4 ≠ 1 ∧ (engState (fun x => { x with load := some ⟨15, 1, 0, []⟩ }) run).engBusyCmd = false
    ∧ (engState (fun x => { x with load := some ⟨15, 1, 0, []⟩ }) run).eng.load = some ⟨15, 1, 0, []⟩
    ∧ (imaged run).bankImage 15 1 = some image ∧ (imaged run).idleForActivate 15 = true ∧ image.rom = true
    ∧ (engState (fun x => { x with bist := some 2 }) run).engBusyCmd = true := by decide +kernel
/-- A region for an image can be found whatever place the chip would take first. -/
theorem witness_regionFor : ((imaged run).arrive.nextFrame.regionFor 15 image.workLen).isSome = true :=
  Block.regionFor_isSome _ _ _ (by decide) (by decide +kernel)

/-- EngineReserve: a takeover from a running page and from a FAULT page, with no image that fits, the quiet pick at its first and last
pick, none in time, the way back, a BIST asked for and granted. -/
def taking (c : Nat) (back : Bool) : Block := atCycle c (engState (fun x => { x with transfer := some ⟨14, true, 0, back⟩ }) (imaged run))
theorem witness_EngineReserve : (imaged run).hostReady = true ∧ (imaged run).engBusyCmd = false ∧ (imaged run).pageState (mePage 14) ≠ psFault
    ∧ (imaged run).meMode 15 = 0 ∧ (imaged run).meMode 14 = 0 ∧ (imaged run).activeImage 14 = some image ∧ (imaged run).reserveBank image = some 0
    ∧ (imaged run).reserveBank { image with prog0 := 3 } = none
    ∧ ((imaged run).setPageState (mePage 14) psFault).pageState (mePage 14) = psFault
    ∧ (taking 4 false).unitsUp = true ∧ 0 + 64 ≤ (taking 4 false).absPick ∧ (taking 4 false).absPick ≤ 0 + 4096 ∧ (taking 4 false).quiet 14 = true
    ∧ 0 + 4096 < (taking 5 false).absPick ∧ (taking 5 true).eng.transfer = some ⟨14, true, 0, true⟩
    ∧ (engState (fun x => { x with served := some 14 }) (imaged run)).eng.served = some 14 ∧ (imaged run).activeImage 15 = some image
    ∧ (run.meMode 14 = 0 ∧ run.hasTask 14 = false) ∧ ((run.arrive.nextFrame.arbAsk 0x1C 3 10).arbFind 0x1C).any (fun r => r.outcome != 3) = true
    ∧ (engState (fun x => { x with bist := some 14 }) (grants 0x1C run)).granted 0x1C = true
    ∧ (engState (fun x => { x with bist := some 14 }) (grants 0x1C run)).eng.bist = some 14 := by decide +kernel

/-- EngineInvocations: running in time, late and injected, one whose deadline is past. -/
def invoked (late inj : Bool) (due : Nat) : Block :=
  let v : Invocation := ⟨0, 0, 7, 5, 5, 0, due, 0, false, true, true, late, inj, 0, 0⟩
  atCycle 2 { run with engines := modNth run.engines 15 (fun g => { g with queue := [v] }) }
theorem witness_EngineInvocations : run.hostReady = true ∧ (invoked false false 4000).powered = true
    ∧ ((invoked true false 0).running 15).map (·.late) = some true
    ∧ ((invoked false false 4000).running 15).map (fun v => (v.late, v.inj)) = some (false, false)
    ∧ ((invoked false true 4000).running 15).map (fun v => (v.late, v.inj)) = some (false, true)
    ∧ ((((invoked false false 2048).engine 15).queue.find? (fun v => !v.late && decide (v.dueAbs ≤ (invoked false false 2048).absPick))).isSome = true) := by
  decide +kernel

/-- EccAndPosts: every kind of reader, no post, posts of this generation and another, before and after a closing latch. -/
def posted (gen stamp : Nat) (closed : Bool) : Block := { run with
  posts := [⟨0, false, 0, 0, 0, 5, 0, 0, false, false, stamp, gen⟩]
  led := { run.led with closed := if closed then some ⟨LatchSet.fresh 2 1 0, 8, 7, 1, 10, 10240, 0, 5, [], [], none, none, false, 0⟩ else none } }
theorem witness_EccAndPosts : run.powered = true ∧ run.posts = [] ∧ run.gen (mePage 0) = 0 ∧ (posted 1 5 false).gen (mePage 0) ≠ 1
    ∧ (posted 0 1 false).led.lastClose < 1 ∧ ¬ (posted 0 0 false).led.lastClose < 0
    ∧ ((posted 0 9 true).led.closed.map (fun c => (c.set.opened, c.close))) = some (2, 8) := by decide +kernel

/-- CaptureRows: a slot armed, one that fills, none free, one complete, slots in range and past it, copies with and without AUTOREL. -/
def pqSet (f : Pq → Pq) (b : Block) : Block := { pageUp 0x33 b with pq := f b.pq }
def capture : Capture := ⟨3, 0, 7, 5, 5, 5, 0, false, 1, 0, 1, 1, 0, 0, 0, true, 2, [], false⟩
theorem witness_CaptureRows : (pageUp 0x33 run).hostReady = true ∧ (pageUp 0x33 run).pqOn = true ∧ run.pq.cap = none
    ∧ (pqSet (fun p => { p with armed := some (0, 0) }) run).pq.armed = some (0, 0)
    ∧ (pqSet (fun p => { p with held := [(0, 1), (1, 1), (2, 1), (3, 1)] }) run).freeSlots = [] ∧ run.pq.armed = none
    ∧ (pqSet (fun p => { p with cap := some capture }) run).pq.cap.map (·.slot) = some 0 ∧ capture.complete = true ∧ capture.started = true
    ∧ slotsOf ((run.setR (pg 0x33 0x5C) 0x10).getR (pg 0x33 0x5C)) = 2 ∧ slotsOf ((run.setR (pg 0x33 0x5C) 0x20).getR (pg 0x33 0x5C)) = 4
    ∧ (run.setB (pg 0x33 0x5C) 2 true).rbit (pg 0x33 0x5C) 2 = true ∧ (run.setB (pg 0x33 0x5C) 2 false).rbit (pg 0x33 0x5C) 2 = false
    ∧ (pqSet (fun p => { p with copied := [3] }) run).unitsUp = true := by decide +kernel

/-- AuxCommands and AuxResults: idle, in a sequence at an entry and past the last, urgent, calibrating; words that fit and do not. -/
def auxSet (f : Aux → Aux) (b : Block) : Block := { pageUp 0x1A b with aux := f b.aux }
def auxSeq (cur last : Nat) (c : Bool) : AuxSeq := ⟨List.replicate 16 4, last, c, cur, 5, false, List.replicate 16 0, false⟩
theorem witness_AuxCommands : (pageUp 0x1A run).hostReady = true ∧ (pageUp 0x1A run).auxUp = true ∧ run.auxUp = false
    ∧ run.aux.calRuns = false ∧ run.aux.seq = none ∧ run.aux.urg = none
    ∧ (auxSet (fun a => { a with seq := some (auxSeq 1 3 true) }) run).aux.seq ≠ none
    ∧ (auxSet (fun a => { a with calRuns := true }) run).aux.calRuns = true
    ∧ (run.setF (pg 0x1A 0x44) 1 0 2).fld (pg 0x1A 0x44) 1 0 = 2 ∧ (run.setF (pg 0x1A 0x44) 1 0 1).fld (pg 0x1A 0x44) 1 0 = 1
    ∧ auxSrcOk ((0x09000100 : Word).bits 11 8) ((0x09000100 : Word).bits 16 16) = true ∧ 9 ≤ (0x09400100 : Word).bits 31 24
    ∧ (0x09400100 : Word).bits 22 20 ≤ 4 ∧ ¬ (0x09500100 : Word).bits 22 20 ≤ 4 ∧ ¬ 9 ≤ (0x08000100 : Word).bits 31 24
    ∧ (auxSeq 3 3 true).cur ≤ (auxSeq 3 3 true).last := by decide +kernel
theorem witness_AuxResults : (auxSet (fun a => { a with seq := some (auxSeq 15 15 true) }) run).unitsUp = true
    ∧ (auxSet (fun a => { a with seq := some (auxSeq 15 15 true) }) run).aux.seq.any (fun q => decide (q.cur ≤ q.last)) = true
    ∧ (auxSet (fun a => { a with seq := some (auxSeq 16 15 true) }) run).aux.seq.any (fun q => decide (q.last < q.cur) && decide (q.last < 16)) = true
    ∧ (auxSet (fun a => { a with urg := some (5, 6, true) }) run).aux.urg = some (5, 6, true)
    ∧ (auxSet (fun a => { a with calRuns := true }) run).aux.calWaits = false ∧ (15565 ≤ 15565 ∧ ¬ 17204 ≤ 17203) := by decide +kernel

/-- PulseInputRows: each mode of an input, a break and none, temperatures at both ends and past them, a written one grown old. -/
def pinSet (w st : Word) (b : Block) : Block := (b.setR (pinCfg 2) w).setR (pg 0x36 0x80) st
theorem witness_PulseInputRows : run.pulsesRun = true ∧ run.hostReady = true
    ∧ (let b := pinSet 1 0 run; b.rbit (pinCfg 2) 0 = true ∧ b.rbit (pg 0x36 0x80) 10 = false ∧ b.isPhaseB 2 = false ∧ b.fld (pinCfg 2) 9 8 = 0)
    ∧ (let b := pinSet 0x101 8 run; b.fld (pinCfg 2) 9 8 = 1 ∧ b.rbit (pg 0x36 0x80) 3 = true ∧ b.isPhaseB 2 = false ∧ b.therm.quadEp = false)
    ∧ (pinSet 0x101 0 run).rbit (pg 0x36 0x80) 3 = false
    ∧ (let b := pinSet 0x20001 0 run; b.fld (pinCfg 2) 17 16 = 2 ∧ b.rbit (pg 0x36 0x80) 10 = false)
    ∧ (pinSet 1 0x400 run).rbit (pg 0x36 0x80) 10 = true
    ∧ f32within (-60) 260 (0xC2700000 : Word).toNat = true ∧ f32within (-60) 260 (0x43820000 : Word).toNat = true
    ∧ f32within (-60) 260 (0x43820001 : Word).toNat = false
    ∧ (let b := atClk (sysHz * 255) { run with therm := { run.therm with hostAt := [none, some 0] } }
       b.therm.hostAt[1]? = some (some 0) ∧ nth false b.therm.hostStaleEp 1 = false
         ∧ 0 + b.fld (pg 0x34 0x48) 23 16 * sysHz ≤ b.time.mono + b.time.pickLen) := by decide +kernel

/-- PulseOutputRows: a backlog, an edge on time, an edge before its time, a pulse that ends. -/
def oneRun : PulseRun := ⟨0, 2 ^ 64, 0, 1, 1⟩
def pulsing (backlog : Nat) (runs : List PulseRun) (last stop : Option Nat) : Block := atCycle 1 (atClk 3000000 { run with
  pout := run.pout.map (fun p => { p with running := true, backlog := backlog, runs := runs, lastEdge := last, pulseEnd := stop }) })
theorem witness_PulseOutputRows : (pulsing 1 [] none none).unitsUp = true ∧ ((pulsing 1 [] none none).pout[3]?).isSome = true
    ∧ 0 < (pulsing 1 [] none none).time.mono + (pulsing 1 [] none none).time.pickLen
    ∧ (pulsing 0 [oneRun] none none).edge oneRun < (pulsing 0 [oneRun] none none).time.mono + (pulsing 0 [oneRun] none none).time.pickLen
    ∧ (pulsing 0 [oneRun] none none).edge oneRun < 2999999 + (pulsing 0 [oneRun] none none).pulseSpace 3
    ∧ 2999999 < (pulsing 0 [] (some 5) (some 2999999)).time.mono := by decide +kernel

/-- DisplayRows: on and off, keys and their episodes, dwell and timeout passed, items used and not. -/
def dispBlock : Block := pageUp 0x37 (atClk (sysHz * 100) run)
theorem witness_DisplayRows : dispBlock.unitsUp = true ∧ dispBlock.hostReady = true ∧ dispBlock.dispOn = true ∧ run.dispOn = false
    ∧ dispBlock.disp.ignA = false ∧ dispBlock.disp.manual = false ∧ (run.setR (pg 0x37 0x100) 0x10000000).itemUsed false 0 = true
    ∧ run.itemUsed true 63 = false := by decide +kernel

/-- TamperRows: two inputs, room for fifteen of sixteen events, a move that fits at 255 entries, an ACK in VENDOR and in FIELD. -/
def tampered (n tseq : Nat) (b : Block) : Block :=
  { b with tamp := { b.tamp with vbuf := List.replicate n ⟨1, 2, 0, 1, 0, 0, 1⟩, tseq := tseq } }
def permitted (b : Block) : Block := b.setB (pg 1 0x50) 16 true
theorem witness_TamperRows : run.pwr.st ≠ .off ∧ run.tamp.inputs = [TampInput.reset, TampInput.reset]
    ∧ (tampered 14 0 run).tamp.vbuf.length + 2 ≤ 16 ∧ (permitted (tampered 16 239 run)).permit = true
    ∧ (tampered 16 239 run).tamp.vbuf.length ≤ 16 ∧ tampHeld (tampered 16 239 run).tamp + 16 < 256
    ∧ (tampered 16 239 run).tamp.freed ≤ 239 ∧ run.hostReady = true ∧ (steps 1 run).lcState < 3 ∧ 3 ≤ (steps 3 run).lcState := by decide +kernel

/-- LatchApplyRows: a closed latch that is due, a signature that waits, a Sheaf due, BILLING on and off. -/
def closedLatch : ClosedLatch := ⟨LatchSet.fresh 2 1 0, 800, 7, 1, 10, 10240, 0, 0, [(0, 0x80000000)], [], none, some (1, 0), false, 0⟩
def sheafDue (formed : Bool) : SheafDue :=
  ⟨1, 0, 0, 5, 6, [], [], 1, 0, [], 0, if formed then some [] else none, 0, 0, 0, none, false, [], false⟩
def ledSet (f : Ledger → Ledger) (b : Block) : Block := { b with led := f b.led }
theorem witness_LatchApplyRows :
    (let b := ledSet (fun l => { l with closed := some closedLatch, loaded := true, clears := [1023] }) run
     b.powered = true ∧ b.led.closed.any (fun c => decide (c.applyAt ≤ b.absPick)) = true ∧ b.led.loaded = true ∧ 1023 ∈ b.led.clears
       ∧ (Sparse.get 0 (2 * 0) closedLatch.defs).bit 31 = true ∧ (Sparse.get 0 (2 * 1022) closedLatch.defs).bit 31 = false
       ∧ b.join.imp = none ∧ b.recs.resolve = [])
    ∧ (let b := grants 0x3C (ledSet (fun l => { l with out4 := [.sheaf (sheafDue true)] }) run)
       b.powered = true ∧ b.pwr.st ≠ .hold ∧ b.husk.ops = [] ∧ b.husk.trans = none ∧ b.granted 0x3C = true ∧ 0 < b.sigWaiting)
    ∧ (ledSet (fun l => { l with out4 := [.sheaf (sheafDue false)] }) run).sheafNext = some (sheafDue false)
    ∧ run.hostReady = true ∧ run.following = false ∧ (run.setB (pg 0x32 0x40) 25 true).rbit (pg 0x32 0x40) 25 = true
    ∧ (run.setB (pg 0x32 0x40) 25 false).rbit (pg 0x32 0x40) 25 = false ∧ run.led.cmdSheaf = false
    ∧ followsNow.following = true ∧ followsNow.join.req.any (fun q => q.1) = false
    ∧ ({ followsNow with join := { followsNow.join with req := some (true, none) } } : Block).join.req.any (fun q => q.1) = true := by decide +kernel

/-- LedgerCommands: MAKER and FIELD, both values of a mark's word. -/
theorem witness_LedgerCommands : (steps 2 run).hostReady = true ∧ (steps 1 run).lcState = 1 ∧ (steps 2 run).lcState = 2
    ∧ ¬ ((steps 3 run).lcState = 1 ∨ (steps 3 run).lcState = 2) ∧ (3 : Word).bit 0 = true ∧ (2 : Word).bit 0 = false := by decide +kernel

/-- TariffRows: each PASSIVE state, reading selected and not, a calendar that passes and one that fails, DST in step and not. -/
theorem witness_TariffRows : run.hostReady = true ∧ (∀ k < 8, (run.setPassive k).passive = k) ∧ run.rbit (pg 0x30 0x50) 8 = false
    ∧ (run.setB (pg 0x30 0x50) 8 true).rbit (pg 0x30 0x50) 8 = true ∧ calendarBad flatCalendar = none
    ∧ (calendarBad (List.replicate 245 0xFFFFFFFF)).isSome = true ∧ run.unitsUp = true
    ∧ run.rtcValid = false ∧ run.rbit (pg 0x30 0x68) 27 = false ∧ (run.setB (pg 0x30 0x68) 27 true).rbit (pg 0x30 0x68) 27 = true := by
  decide +kernel

/-- WriteFrames and ReadFrames: frames that pass, with a wrong CRC, a wrong length, past the address space, at a denied address; HOLD. -/
def sent (cmd addr count : Nat) (ws : List Word) (write : Bool) : Frame :=
  let f : Frame := ⟨BitVec.ofNat 8 cmd, BitVec.ofNat 24 addr, BitVec.ofNat 16 count, ws, 0⟩
  { f with crc := crc16 (frameHeader f ++ (if write then (ws.map Word.toBytes).flatten else [])) }
theorem witness_WriteFrames : run.hostReady = true ∧ frameCrcOk (sent 2 (pg 2 0x40) 2 [5, 6] true) true = true
    ∧ frameCrcOk { sent 2 (pg 2 0x40) 1 [5] true with crc := 0 } true = false ∧ frameCrcOk (sent 6 (pg 2 0x40) 0 [] true) true = true
    ∧ (run.nextFrame.writeStatus (wordAddr (sent 2 (pg 2 0x40) 2 [5, 6] true) false 1) 6 = 0)
    ∧ run.nextFrame.writeStatus (wordAddr (sent 2 0x11FFC 2 [5, 6] true) false 1) 6 = 4
    ∧ run.nextFrame.writeStatus (wordAddr (sent 6 0x20000 1 [5] true) true 0) 5 = 5 := by decide +kernel
theorem witness_ReadFrames : frameCrcOk (sent 3 (pg 2 0x40) 2 [] false) false = true ∧ frameCrcOk { sent 7 (pg 2 0x40) 1 [] false with crc := 0 } false = false
    ∧ run.readStatus (wordAddr (sent 3 (pg 2 0x40) 2 [] false) false 1) = 0 ∧ run.readStatus (wordAddr (sent 3 0x11FFC 2 [] false) false 1) = 4
    ∧ (inPwr .hold run).pwr.st = .hold ∧ (inPwr .hold run).readStatus (wordAddr (sent 7 (pg 2 0x40) 9 [] false) true 8) = 0
    ∧ frameCrcOk (sent 2 (pg 2 0x40) 1 [5] true) true = true ∧ (inPwr .hold run).nextFrame.writeStatus (pg 2 0x40) 5 = 0 := by decide +kernel

/-- RingRows: a place below the capture buffer, one inside it and one taken; an entry to land on; a command of RING0. -/
def pairs : List Byte := leBytes 4 (pg 2 0x40) ++ leBytes 4 5 ++ leBytes 4 0xFFFFFFFF ++ leBytes 4 0
def ringed : Block := holds 0 (entry 0 1 pairs) (ring 1 0x101000 8 8 (ring 0 0x100000 8 12 (noRings run)))
theorem witness_RingRows : ringed.hostReady = true ∧ (ring 15 0 16 0 (noRings run)).placeOk 15 0x130000 65536 = true
    ∧ (ring 15 0 16 0 (noRings run)).placeOk 15 0x140000 65536 = false ∧ ringed.placeOk 15 0x100000 256 = false
    ∧ (noRings run).ringOn 15 = false ∧ ringed.ringOn 0 = true ∧ ringed.ringHost 0 = true ∧ ringed.ringHost 1 = false
    ∧ ringed.lands 0 0 32 true 4097 = true ∧ ringed.lands 0 0 16 true 4097 = false ∧ 32 ≤ ringed.ringUsed 0
    ∧ (holds 3 (entry 0 5 []) (ring 3 0x100000 8 8 (noRings run))).lands 3 0 16 false 4097 = true
    ∧ ringed.next0.map (fun e => (e.type, e.len)) = some (1, 32) ∧ ringed.next0.any (fun e => ringed.room1 (respBytes e)) = true
    ∧ ringed.next0.any (fun e => (pairsOf e).all (fun x => ringed.writeStatus x.2.1 x.2.2 == 0)) = true := by decide +kernel

/-- RecordStoreRows: nothing queued, a commit with and without a permit, one under way, in conflict, positional; the scan's step. -/
def commitOf (k : CommitKind) (id : Nat) (started : Bool) : Commit := ⟨k, id, 0, none, 0, [[7]], started, false⟩
def recsSet (f : RecStore → RecStore) (b : Block) : Block := { b with recs := f b.recs }
theorem witness_RecordStoreRows : run.powered = true ∧ run.nextCommit = none ∧ run.activeCommit = none ∧ run.pwr.resetWait = none
    ∧ (let b := recsSet (fun r => { r with queue := [commitOf .set 0x21 false] }) run
       b.nextCommit = some (commitOf .set 0x21 false) ∧ b.permit = false ∧ (permitted b).permit = true ∧ b.recs.permitEpisode = false)
    ∧ (recsSet (fun r => { r with queue := [commitOf .set 0x21 true] }) run).activeCommit = some (commitOf .set 0x21 true)
    ∧ (recDef 0x21).isSome = true ∧ (recDef 0x3F).isNone = true
    ∧ (recsSet (fun r => { r with queue := [commitOf (.at 0x29C00) 0x120 true] }) run).activeCommit = some (commitOf (.at 0x29C00) 0x120 true)
    ∧ (startsAt 5 run).pwr.startStep = 5 ∧ run.hostReady = true ∧ (recsSet (fun r => { r with conflicts := [0x30] }) run).recs.conflicts.contains 0x30 = true
    ∧ ((recsSet (fun r => { r with conflicts := [0x30], resolve := [(0x30, 0)] }) run).liveContent 0x30).isSome = true
    ∧ run.recState 0x30 ≠ 2 ∧ run.recState 0x30 ≠ 3 ∧ (recsSet (fun r => { r with states := [(0x30, 2)] }) run).recState 0x30 = 2 := by decide +kernel

/-- LogStoreCommands and LogStoreEvents: devices described and not, each state of a chip select, each command under way, a fragment in hand. -/
def devices (b : Block) : Block := (b.setR (devCfg 0) (BitVec.ofNat 32 0x100861)).setR (devCfg 1) (BitVec.ofNat 32 0x100861)
def storSet (f : Store → Store) (b : Block) : Block := { b with stor := f b.stor }
def programming : Block := grants 0x3A ((storSet (fun x => { x with
  streams := x.streams.map (fun l => { l with st := 2, staged := [⟨1, 0, 5, [1, 2, 3], .plain⟩], units := [⟨5, 1, 1, 1⟩], off := 512, nextRseq := 9 }) })
  (devices run)).setCs 0 csMounted)
theorem witness_LogStoreCommands : run.hostReady = true ∧ run.stor.cmd = none ∧ (devices run).devOk 1 = true ∧ run.devOk 1 = false
    ∧ (devices run).regionsOk 1 = true ∧ (∀ v < 7, (run.setCs 1 v).csState 1 = v) ∧ (steps 1 run).lifeState = 1 ∧ (steps 3 run).lifeState = 3
    ∧ (storSet (fun x => { x with cmd := some (1, 1, 0) }) run).stor.cmd.isSome = true
    ∧ nth 0 (storSet (fun x => { x with super := [1, 1] }) run).stor.super 1 = 1
    ∧ (run.streamsOf 1).all run.streamDry = true ∧ (512 % 4 = 0 ∧ 4 ≤ 512 ∧ 512 < 513) := by decide +kernel
theorem witness_LogStoreEvents : run.unitsUp = true
    ∧ (∀ k < 5, (storSet (fun x => { x with cmd := some (k, 1, 512) }) run).stor.cmd = some (k, 1, 512)) ∧ run.stor.cmd = none
    ∧ programming.mayProgram 0 = true ∧ programming.unitsUp = true ∧ (programming.logStream 0).off ≠ 0
    ∧ (programming.logStream 0).units.getLast? = some ⟨5, 1, 1, 1⟩
    ∧ ((storSet (fun x => { x with streams := x.streams.map (fun l => { l with erasing := some 6 }) }) run).logStream 4).erasing = some 6
    ∧ (run.logStream 4).erasing = none := by decide +kernel

/-- CryptoRequests and HuskRows: a request at RING11's tail and room for its answer, keys that may be used, what waits and what does not. -/
def request (op slot : Nat) (iv dat : List Byte) : List Byte :=
  leBytes 2 op ++ leBytes 1 slot ++ leBytes 1 0 ++ leBytes 2 0 ++ leBytes 2 0 ++ leBytes 2 dat.length ++ leBytes 2 0 ++ leBytes 4 0 ++ iv ++ dat
def keyed (b : Block) : Block := { b with husk := { b.husk with
  slots := b.husk.slots.set 63 { KeySlot.empty with ktype := 1, usage := 1, attr := 7, key := List.replicate 16 7 } } }
def asking (op : Nat) : Block :=
  holds 11 (entry 0 0x0B01 (request op 63 (List.replicate 16 0) (List.replicate 16 9)))
    (ring 12 0x110000 12 8 (ring 11 0x100000 8 12 (noRings (grants 0x3C (pageUp 0x3C (keyed run))))))
theorem witness_CryptoRequests : (asking 1).unitsUp = true ∧ (asking 1).cryptTakes = true ∧ (asking 1).husk.ops = []
    ∧ (asking 15).cryptNext.map (·.2) = some 15 ∧ (asking 1).cryptNext.any (fun x => (cryptReq x.1.bytes).lenOk) = true
    ∧ (asking 1).respRoom 64 = true ∧ (asking 1).granted 0x3C = true ∧ (asking 1).fld (pg 0x3C 0x48) 31 24 = 0
    ∧ (asking 1).cryptNext.any (fun x => (asking 1).ringUsed 11 == x.1.len) = true ∧ 11 < (asking 1).rings.length
    ∧ (asking 1).keyBad 63 [1, 2] 1 true = 0 ∧ (asking 1).keyBad 63 [4] 5 true ≠ 0 := by decide +kernel
def huskSet (f : Husk → Husk) (b : Block) : Block := { b with husk := f b.husk }
theorem witness_HuskRows : run.unitsUp = true ∧ run.hostReady = true ∧ run.husk.ops = [] ∧ run.husk.trans = none ∧ run.tailEntry 11 = none
    ∧ (huskSet (fun h => { h with ops := [⟨7, 9, [], 1, 0, [], .child 63 KeySlot.empty, false⟩] }) run).husk.ops.any (fun o => o.phase == 1) = true
    ∧ run.husk.stage = none ∧ (permitted run).permit = true ∧ (permitted run).recs.queue = []
    ∧ (huskSet (fun h => { h with chal := some [1], chalUntil := 600 }) (atClk (sysHz * 600) run)).rtcSec = 600
    ∧ (run.setB (pg 0x3B 0x44) 19 true).testOpen = true ∧ run.testOpen = false ∧ 0 + 65536 ≤ (atCycle 64 run).absPick
    ∧ (huskSet (fun h => { h with unlockAt := some 0 }) (steps 2 run)).unlocked = true ∧ (steps 2 run).lcState = 2 ∧ (steps 2 run).lcSteps < 9
    ∧ (steps 3 run).lcState ≠ 1 ∧ (steps 3 run).lcState ≠ 2 ∧ run.drbgFail = false ∧ (run.setF (pg 0x3C 0x48) 7 6 2).drbgFail = true
    ∧ 0 ≠ run.nextFrame.host.frameNo ∧ run.absPick ≤ 0 + 1024 := by decide +kernel

/-- PowerRows and StartRows: every power state, every step of a start, a save that is over and one that is not, commits started and not. -/
def held (b : Block) : Block := inPwr .hold (atCycle 1 b)
def saving (b : Block) : Block := { held b with pwr := { (held b).pwr with saving := true } }
theorem witness_PowerRows : run.pwr.failed = none ∧ run.powered = true ∧ run.hostReady = true
    ∧ (startsAt 5 { run with pwr := { run.pwr with totalsLoaded := false } }).pwr.totalsLoaded = false
    ∧ ({ run with pwr := { run.pwr with failed := some 1 } } : Block).pwr.failed = some 1 ∧ (held run).pwr.st = .hold ∧ (held run).pwr.saving = false
    ∧ (held run).pwr.holdAbs + (held run).fld (pg 1 0x40) 23 16 ≤ (held run).absPick ∧ (saving run).pwr.saving = true ∧ (saving run).recs.queue = []
    ∧ (inPwr .vault run).pwr.st = .vault ∧ (inPwr .off run).pwr.st = .off ∧ run.pwr.vbakLow = false ∧ run.pwr.vregOver = false
    ∧ run.pwr.charging = false ∧ (run.setB (pg 1 0x48) 31 true).rbit (pg 1 0x48) 31 = true ∧ run.arbFind 1 = none ∧ run.pwr.ready = true
    ∧ (let b := atClk (sysHz * 600) { run with pwr := { run.pwr with charging := true } }
       600 ≤ b.chargeTime ∧ b.pwr.chargeLate = false ∧ (b.setB (pg 1 0x50) 16 false).rbit (pg 1 0x50) 16 = false)
    ∧ (run.pwr.st == .lean) ≠ true ∧ (inPwr .lean run).pwr.pendLean = none := by decide +kernel
theorem witness_StartRows : run.powered = true ∧ (held run).powered = true ∧ run.recs.queue.any (fun c => c.started) = false
    ∧ (recsSet (fun r => { r with queue := [commitOf .set 0x21 true] }) run).recs.queue.any (fun c => c.started) = true
    ∧ Block.reset.pwr.st = .starting ∧ Block.reset.pwr.startStep = 1 ∧ (∀ k < 10, (startsAt k run).pwr.startStep = k ∧ (startsAt k run).pwr.st = .starting)
    ∧ (startsAt 8 run).pwr.failed = none := by decide +kernel

/-- SystemAndTestRows: passes and tests under way and not, grants and a refusal, production test, blown regions. -/
def production : Block := (steps 0 run).setB (pg 0x3F 0x44) 8 true
def faultSet (f : Faults → Faults) (b : Block) : Block := { b with faults := f b.faults }
theorem witness_SystemAndTestRows : run.hostReady = true ∧ run.unitsUp = true ∧ run.pwr.resetWait = none ∧ run.scrubRuns = true ∧ run.faults.scrub = none
    ∧ run.testBusy = false ∧ (faultSet (fun f => { f with test := some 3 }) run).testBusy = true ∧ (0xFFFF : Word).bits 15 0 = 0xFFFF
    ∧ (run.setPageState 0x3C psFault).pageState 0x3C = psFault ∧ run.pageState 0x3C ≠ psFault
    ∧ (run.setB (pg 0x39 0x44) 0 true).rbit (pg 0x39 0x44) 0 = true ∧ (run.setB (pg 0x39 0x44) 0 false).rbit (pg 0x39 0x44) 0 = false
    ∧ ((run.arrive.nextFrame.arbAsk 0x3F 3 10).arbFind 0x3F).any (fun r => r.outcome != 3) = true
    ∧ ((run.setF (pg 2 0x48) 23 16 0).arbDecide 100 false ⟨0x3F, 3, 10, false, 0, 0, 0, 0, 0⟩).outcome = 3
    ∧ production.prodTest = true ∧ run.prodTest = false ∧ production.rbit (pg 0x3F 0x60) 3 = false
    ∧ (production.setF (pg 0x3F 0x60) 3 0 15).fld (pg 0x3F 0x60) 3 0 = 15 ∧ production.faults.blowFail = [] ∧ production.husk.trans = none
    ∧ (run.setF (pg 0 0x68) 16 0 0x10001).rbit (pg 0 0x68) 16 = true ∧ 0 + (run.setF (pg 0 0x68) 16 0 0x10001).fld (pg 0 0x68) 7 0 ≤ 1
    ∧ (grants 0x3F run).arbFind 0x3F = some ⟨0x3F, 2, 5, true, 1, 1, 0, 5, 0⟩ := by decide +kernel

/-- RaiseKeepsFirstCode and HighWordCapture: no code held and one held, a pair of words, frames that read each. -/
theorem witness_RaiseKeepsFirstCode : run.fld (pg 63 0x18) 15 0 = 0 ∧ (run.setR (pg 63 0x18) 0x3F01).fld (pg 63 0x18) 15 0 ≠ 0 ∧ run.hostReady = true
    ∧ (0xFFFF : Word).bits 15 0 = 0xFFFF ∧ (0x1FFFE : Word).bits 15 0 ≠ 0xFFFF ∧ run.frozen = [] := by decide +kernel
theorem witness_HighWordCapture : run.hostReady = true ∧ isLo 63 0x1C = true ∧ isLo 63 (0x1C - 4) = false
    ∧ (let f := sent 3 (pg 63 0x1C) 1 [] false
       f.cmd = 3 ∧ f.count = 1 ∧ frameCrcOk f false = true ∧ f.addr.toNat = pg 63 0x1C)
    ∧ (let f := sent 3 (pg 63 0x20) 1 [] false
       frameCrcOk f false = true ∧ f.addr.toNat = pg 63 0x20) := by decide +kernel

/-- JoinLinkRows: linked as lead and as follower and not linked, a poll out and none, what waits, what is owed, what is out of time. -/
def linked (b : Block) : Block := grants 0x3D (((pageUp 0x3D b).setB (pg 0x3D 0x50) 0 true).setB (pg 0x3D 0x40) 31 true)
def leads (b : Block) : Block := (linked b).setB (pg 0x3D 0x50) 1 true
def follows (b : Block) : Block := (linked b).setF (pg 0x3D 0x40) 9 0 1023
def joinSet (f : Join → Join) (b : Block) : Block := { b with join := f b.join }
theorem witness_JoinLinkRows : (leads run).unitsUp = true ∧ (leads run).joinStat 0 = true ∧ (leads run).leading = true ∧ (leads run).joinSends = true
    ∧ (follows run).leading = false ∧ (follows run).joinStat 0 = true ∧ (follows run).nodeId = 1023 ∧ run.joinStat 0 = false ∧ run.leading = false
    ∧ (leads run).join.owed = [] ∧ (leads run).nextOut = none ∧ (leads run).pageState 0x3D = psRun ∧ (leads run).arrive.join.polled = none
    ∧ (leads run).pollOrder.find? (fun n => !((leads run).joinNode n).absent) = some 1
    ∧ (follows run).rbit (pg 0x3D 0x40) 31 = true ∧ (follows run).granted 0x3D = true ∧ (follows run).join.req = none
    ∧ ((follows run).setR (pg 0x3D 0x54) 160).getN (pg 0x3D 0x54) ≠ 0xFFFFFFFF ∧ (follows run).forMe 1023 = true ∧ (follows run).forMe 1022 = false
    ∧ (joinSet (fun j => { j with nodes := [⟨4, 3, true, false, 0, []⟩] }) (leads run)).join.nodes.find? (fun x => decide (3 ≤ x.misses) && !x.absent)
      = some ⟨4, 3, true, false, 0, []⟩
    ∧ (joinSet (fun j => { j with reads := [(5, 0)] }) (atCycle 4 (follows run))).join.reads.find? (fun r => decide (r.2 + 4096 ≤ 4096)) = some (5, 0)
    ∧ (joinSet (fun j => { j with loose := 64 }) (follows run)).join.loose = 64 ∧ (follows run).joinStat 5 = false
    ∧ ((follows run).setB (pg 0x3D 0x50) 5 true).joinStat 5 = true := by decide +kernel
/-- The exchange of a poll fits while the pick is young. -/
theorem witness_pollFits : (leads run).joinSends = true ∧ ({ leads run with time := { (leads run).time with pick := 5 } } : Block).pollFits = true := by
  decide +kernel

/-- JoinHostRows: an entry at RING15's tail, the page running and not, an import's bytes there and not. -/
def offering : Block := holds 15 (entry 0 0x0F01 (leBytes 2 5 ++ leBytes 2 0 ++ leBytes 2 8 ++ List.replicate 10 0 ++ List.replicate 8 7))
  (ring 14 0x110000 12 8 (ring 15 0x100000 8 12 (noRings (leads run))))
theorem witness_JoinHostRows : offering.unitsUp = true ∧ offering.joinTakes = true ∧ (offering.tailEntry 15).any (fun e => e.len != 0 && !e.bytes.isEmpty) = true
    ∧ offering.ringAborts 15 = false ∧ (offering.tailEntry 15).any (fun e => e.seq == (offering.ringMeta 15).expect && e.type == 0x0F01) = true
    ∧ offering.join.out = [] ∧ (offering.tailEntry 15).any (fun e => offering.ringUsed 15 == e.len) = true
    ∧ (leads run).hostReady = true ∧ (leads run).pageState 0x3D = psRun ∧ run.pageState 0x3D ≠ psRun ∧ (leads run).importBytes = none
    ∧ (joinSet (fun j => { j with chunks := [(0, [1, 2])], total := 2 }) (leads run)).importBytes = some [1, 2] := by decide +kernel

/-! ### Premises with a signature: an import, a token, and an update that needs none -/

/-- The public key of the private key 7 on P-256. -/
def publicKey7 : List Byte :=
  beBytes 64 7454171674282902517676912758867188612868323551704149317177155871159240399651995853827801794118799793851745637079723419394161118937262331163252737761870004
def importText : List Byte := [0x4C#8, 0x59#8, 0x58#8, 0x50#8, 1, 0] ++ leBytes 2 1 ++ leBytes 6 77 ++ leBytes 2 0 ++ List.replicate 64 9
  ++ leBytes 2 5 ++ [0, 0] ++ leBytes 4 0x80000000 ++ leBytes 4 0x80000000 ++ leBytes 4 0 ++ leBytes 8 12345
def importRecord : List Byte := importText
  ++ beBytes 32 50590878811682293939210189392546020488320673511076156534114239620730247757950
  ++ beBytes 32 72492946801106987385083494410060167302801263047657144496858246700895674224639
def importing : Block := ledSet (fun l => { l with defs := [(10, 0x80000000), (11, 0x80000000)] })
  (joinSet (fun j => { j with chunks := [(0, importRecord)], total := 168 }) (huskSet (fun h => { h with
    slots := h.slots.set 63 { KeySlot.empty with ktype := 5, usage := 7, attr := 1, key := publicKey7 } }) (steps 2 (leads run))))

/-- JoinHostRows, its last clause: a record that a node with fresh registers of the same definitions takes. -/
theorem witness_joinImport : importing.hostReady = true ∧ importing.importBytes = some importRecord ∧ importRecord.length = 80 + 24 * 1 + 64
    ∧ importRecord.take 4 = [0x4C#8, 0x59#8, 0x58#8, 0x50#8] ∧ leNat ((importRecord.drop 4).take 1) = 1 ∧ leNat ((importRecord.drop 6).take 2) = 1
    ∧ importing.lcState = 2 ∧ importing.keyBad 63 [5] 7 false = 0 ∧ (importing.slot 63).key = publicKey7
    ∧ (importRecord.drop 16).take 16 ≠ importing.deviceId ∧ leNat ((importRecord.drop 14).take 2) = importing.nodeId
    ∧ (importing.defW 5 0).bit 31 = true ∧ importing.defW 5 0 = 0x80000000 ∧ importing.defW 5 1 = 0x80000000
    ∧ (∀ i ∈ importing.ledOn, importing.total i = 0) ∧ importing.joinStat 7 = false := by decide +kernel
theorem witness_joinImport_signature : ecdsaVerify publicKey7 (sha256 (importRecord.take 104)) (importRecord.drop 104) = true := by
  decide +kernel

/-- CryptoRequests: an update message that deletes a key in MAKER under UNLOCK (R487, R488). -/
def updating : Block := huskSet (fun h => { h with
  fuses := [(8, 0x03030303), (9, 0x03030303), (10, 0x03030303), (11, 0x03030303), (12, 3)]
  unlockAt := some 0 }) run
def updateMessage : List Byte := leBytes 4 0x554B594C ++ [1, 2, 3, 0, 0, 0, 63, 0, 0, 2, 0, 0] ++ List.replicate 16 3 ++ leBytes 8 1 ++ List.replicate 8 0
theorem witness_keyUpdate : (updating.updateCheck updateMessage).1 = 0 := by decide +kernel

/-- CryptoRequests: a TEST token that answers the open challenge in FIELD (R503). -/
def tokening : Block := huskSet (fun h => { h with
  fuses := [(8, 0x03030303), (9, 0x03030303), (10, 0x03030303), (11, 0x03030303), (12, 7)]
  chal := some (List.replicate 16 5)
  slots := h.slots.set 0 { KeySlot.empty with ktype := 5, usage := 7, attr := 1, key := publicKey7 } }) run
def tokenText : List Byte := leBytes 4 0x4B54594C ++ [1, 1, 2, 0] ++ List.replicate 16 3 ++ [3, 0, 0, 0] ++ leBytes 4 60 ++ List.replicate 16 5
  ++ List.replicate 16 0
theorem witness_token : (tokening.tokenCheck (tokenText
    ++ beBytes 32 67637070468960187009258397926702013391017876937791393581529376391821023495147
    ++ beBytes 32 93182255088096989185950803379272508566280962291910905015991000731777896455674)).1 = 0 := by decide +kernel

/-! ### Worked examples of the spec, and published vectors of the standards it names -/

/-- R400's example: CH4 reads 0x0704_0100 and WARP reads 0x0500_0100. -/
theorem test_pageId : regReset (pg 0x0B 0) = 0x07040100 ∧ regReset (pg 5 0) = 0x05000100 := by decide +kernel

/-- The example of the host interface chapter: the frame that reads WARP.FREQ, its reply and a write's reply carry these CRCs. -/
theorem test_frameCrc : crc16 [0x03, 0x5C, 0x14, 0x00, 0x01, 0x00] = 0xBC8E ∧ crc16 [0x00, 0x20, 0xA1, 0x07, 0x00] = 0x3579
    ∧ crc16 [0x00] = 0xE1F0 ∧ pg 5 0x5C = 0x145C := by decide +kernel

/-- The check value of CRC-32, and the SHA-256 digest of "abc" (FIPS 180-4). -/
theorem test_digests : crc32 [0x31, 0x32, 0x33, 0x34, 0x35, 0x36, 0x37, 0x38, 0x39] = 0xCBF43926
    ∧ beNat (sha256 [0x61, 0x62, 0x63]) = 0xBA7816BF8F01CFEA414140DE5DAE2223B00361A396177A9CB410FF61F20015AD := by decide +kernel

/-- FIPS 197, appendix C: AES-128 and AES-256 over the block 00112233…, and back. -/
theorem test_aes : beNat (aesEnc (beBytes 16 0x000102030405060708090A0B0C0D0E0F) (beBytes 16 0x00112233445566778899AABBCCDDEEFF))
      = 0x69C4E0D86A7B0430D8CDB78070B4C55A
    ∧ beNat (aesEnc (beBytes 32 0x000102030405060708090A0B0C0D0E0F101112131415161718191A1B1C1D1E1F)
        (beBytes 16 0x00112233445566778899AABBCCDDEEFF)) = 0x8EA2B7CA516745BFEAFC49904B496089
    ∧ beNat (aesDec (beBytes 16 0x000102030405060708090A0B0C0D0E0F) (beBytes 16 0x69C4E0D86A7B0430D8CDB78070B4C55A))
      = 0x00112233445566778899AABBCCDDEEFF := by decide +kernel

/-- RFC 3394, 4.1: a 128-bit key wrapped under a 128-bit key; RFC 4493: the CMAC of the empty message. -/
theorem test_wrapAndCmac : beNat (aesWrap (beBytes 16 0x000102030405060708090A0B0C0D0E0F) (beBytes 16 0x00112233445566778899AABBCCDDEEFF))
      = 0x1FA68B0A8112B447AEF34BD8FB5A7B829D3E862371D2CFE5
    ∧ beNat (aesCmac (beBytes 16 0x2B7E151628AED2A6ABF7158809CF4F3C) []) = 0xBB1D6929E95937287FA37D129B756746 := by decide +kernel

/-- RFC 6979, A.2.5: the signature of "sample" with SHA-256 on P-256. -/
theorem test_ecdsa : ecdsaSign 0xC9AFA9D845BA75166B5C215767B1D6934E50C3DB36E89B127B8A622B120F6721
      (sha256 [0x73, 0x61, 0x6D, 0x70, 0x6C, 0x65])
    = beBytes 32 0xEFD48B2AACB6A8FD1140DD9CD45E81D69D2C877B56AAF991C34D0EA84EAF3716
      ++ beBytes 32 0xF7CB1C942D657C41D436C7A1B6E29F65F3E900DBB9AFF4064DC4AB2F843ACDA8 := by decide +kernel

/-- A modulator whose chain uses its 96-tap profile at a line frequency, and the same with the S4 filter bypassed. -/
def chainAt (taps : Nat) (bypass : Bool) (f : Rat) : Block :=
  let b := ((run.setF (profCfg 0) 6 0 taps).setF (pg 0x18 0x84) 1 0 0).setB (pg 0x18 0x84) 2 bypass
  { b with warp := { b.warp with freq := f } }

/-- The table of the filter chapter's example: settling counts and latencies at 42.5, 50 and 60 Hz for H = 0, 24 and 48. -/
theorem test_settleAndLatency :
    [42.5, 50, 60].map (fun f => [chainAt 96 true f, chainAt 48 false f, chainAt 96 false f].map (fun b => (b.settleCount 0, b.latency 0)))
      = [[(13, 4), (21, 12), (29, 20)], [(13, 4), (23, 14), (33, 23)], [(14, 5), (26, 16), (37, 28)]] := by decide +kernel

/-- The example of the scope chapter: 200000.600, sub-pick 5, is the stamp 0x0000_0003_0D40_9605. -/
theorem test_stamp : mkStamp 200000 600 5 = 0x000000030D409605 := by decide +kernel

/-- R10's example: WARP detector 3 shows the code 0x0503, and FIRST_CODE holds it. -/
theorem test_faultCode : (run.raise 5 3 0).fld (pg 5 0x18) 15 0 = 0x0503 ∧ (run.raise 5 3 0).rbit (pg 5 0x0C) 3 = true := by decide +kernel

/-- R323, with EXP = 2 and DIGITS = 4: a TOTAL of 12,345,678 shows 3456, and has rolled over 12 times. -/
theorem test_view : (ledSet (fun l => { l with totals := [(96, 12345678)], viewDefs := [(193, 0x00400002)] }) run).view 96 = (3456, 12) := by
  decide +kernel

end Sys2Proof.Tests
end

section
/-! SUPPORT. The power state through the arbiter, and the device reset that waits through what follows a register write: the arbiter
decides on the power state and never writes it (R529 to R532), so only the charger's and the permit's own marks move (R517, R518). Where simp runs with
`-implicitDefEqProofs`, its rewrites stand in the proof as equations: else the kernel compares the blocks themselves, unfolded. -/

namespace Sys2Proof.Machine

variable (s : Block)

@[simp] theorem Block.showBudget_pwr (r : ArbReq) : (s.showBudget r).pwr = s.pwr := by
  rw [Block.showBudget, Block.setN_pwr]
@[simp] theorem Block.chargeCurrent_pwr : s.chargeCurrent.pwr = s.pwr := rfl

@[simp] theorem Block.arbWait_pwr (free : Nat) (r : ArbReq) : (s.arbWait free r).1.pwr = s.pwr := by
  simp only [Block.arbWait]
  split <;> rfl

@[simp] theorem Block.arbSettle_pwr (redo : Bool) (old new : ArbReq) : (s.arbSettle redo old new).pwr = s.pwr := by
  rw [Block.arbSettle]
  simp -implicitDefEqProofs only [apply_ite Block.pwr, Block.raise_pwr, Block.bump_pwr, Block.wrapAdd_pwr, Block.modArb_pwr,
    Block.showBudget_pwr, ite_self]

@[simp] theorem Block.arbRun_pwr (redo : Bool) (free : Nat) (blocked : Bool) (l : List ArbReq) :
    (s.arbRun redo free blocked l).pwr = s.pwr := by
  induction l generalizing s free blocked with
  | nil => rfl
  | cons r t ih =>
    simp only [Block.arbRun]
    rw [ih, Block.arbSettle_pwr]
    split
    · exact s.arbWait_pwr _ _
    · rfl

@[simp] theorem Block.arbC0_pwr : s.arbC0.pwr = s.pwr := by
  rw [Block.arbC0, Block.setN_pwr, Block.setN_pwr, Block.modArb_pwr]
  simp -implicitDefEqProofs only [apply_ite Block.pwr, Block.raise_pwr, Block.bump_pwr, ite_self]

@[simp] theorem Block.arbReeval_pwr : s.arbReeval.pwr = s.pwr := by
  rw [Block.arbReeval, Block.chargeCurrent_pwr, Block.arbC0_pwr, Block.arbRun_pwr]

@[simp] theorem Block.arbRequest_pwr (page cls mw : Nat) (standing : Bool) : (s.arbRequest page cls mw standing).pwr = s.pwr := by
  rw [Block.arbRequest]
  split
  · split
    · rfl
    · rw [Block.arbReeval_pwr, Block.modArb_pwr]
  · rw [Block.showBudget_pwr, Block.modArb_pwr]

@[simp] theorem Block.arbRelease_pwr (page : Nat) : (s.arbRelease page).pwr = s.pwr := by
  rw [Block.arbRelease]
  split
  · rfl
  · dsimp only
    split
    · rw [Block.modArb_pwr]
    · rw [Block.setN_pwr, Block.modArb_pwr]

theorem Block.showMatch_pwr : s.showMatch.pwr = s.pwr := by
  rw [Block.showMatch, Block.set64_pwr, Block.setR_pwr, Block.setR_pwr, Block.setR_pwr, Block.setN_pwr, Block.setN_pwr, Block.setR_pwr]

theorem Block.calShow_pwr : s.calShow.pwr = s.pwr := by
  rw [Block.calShow, Block.setN_pwr, Block.setR_pwr]

theorem Block.permitEvents_resetWait : s.permitEvents.pwr.resetWait = s.pwr.resetWait := by
  simp only [Block.permitEvents]
  repeat' split
  all_goals simp

theorem Block.showPwr_resetWait : s.showPwr.pwr.resetWait = s.pwr.resetWait := by
  simp only [Block.showPwr, Block.permitEvents_resetWait, Block.setB_pwr, Block.setF_pwr]

theorem Block.chargerUpdate_resetWait : s.chargerUpdate.pwr.resetWait = s.pwr.resetWait := by
  simp only [Block.chargerUpdate]
  repeat' split
  all_goals simp

/-- What follows a register write asks for no device reset. -/
theorem Block.regFollow_resetWait (p o : Nat) : (s.regFollow p o).pwr.resetWait = s.pwr.resetWait := by
  unfold Block.regFollow
  split
  case h_1 => rw [Block.chargerUpdate_resetWait, Block.showPwr_resetWait]
  case h_2 => rw [Block.showMatch_pwr]
  case h_3 => rw [Block.calShow_pwr]
  case h_4 => rfl

end Sys2Proof.Machine
end

section
/-! SUPPORT. What a word written to a block register does, one equation for each access code (R8, R9, R406). -/

namespace Sys2Proof.Machine

variable (s : Block)

/-- The masked bits of a row taken from the word written, the others from the word that stands or waits (R9). -/
def Block.mergedWord (s : Block) (p o : Nat) (r : RegRow) (v : Word) : Word :=
  (s.pendR (pg p o) &&& ~~~BitVec.ofNat 32 r.mask) ||| (v &&& BitVec.ofNat 32 r.mask)

/-- That word after the field checks of its page, with the detectors of the fields put back (R8). -/
def Block.checkedWord (s : Block) (p o : Nat) (r : RegRow) (v : Word) : Word × List Nat :=
  checkFields (pageRules p) o (s.pendR (pg p o)) (s.mergedWord p o r v)

/-- Detectors of one page raised in turn. -/
def Block.raiseEach (s : Block) (p : Nat) (ds : List Nat) : Block := forEach ds (fun d t => t.raise p d 0) s

@[simp] theorem Block.raiseEach_pwr (p : Nat) (ds : List Nat) : (s.raiseEach p ds).pwr = s.pwr :=
  Block.pwr_of_rest (Block.rest_forEach s _ (fun d t => t.rest_raise p d 0) ds)

@[simp] theorem Block.makePending_pwr (a : Nat) (v : Word) : (s.makePending a v).pwr = s.pwr := rfl

theorem Block.blockWrite_reserved {p o : Nat} (v : Word) (h : RegTable.row p o = none) : s.blockWrite p o v = s := by
  rw [Block.blockWrite, h]

section
variable {p o : Nat} {r : RegRow} (v : Word) (h : RegTable.row p o = some r)
include h

/-- The write as one choice by the access code. -/
theorem Block.blockWrite_row : s.blockWrite p o v = match r.acc with
    | .ro | .wo | .sp => s
    | .w1c => s.setR (pg p o) (s.getR (pg p o) &&& ~~~(v &&& BitVec.ofNat 32 r.mask))
    | .rwl => if 3 ≤ s.lifeState then (if p = 0x38 then s.raise 0x38 6 0 else s)
        else (s.setR (pg p o) (s.checkedWord p o r v).1).raiseEach p (s.checkedWord p o r v).2
    | .rw => match s.wordBad p o (s.mergedWord p o r v) with
      | some d => s.raise p d 0
      | none => (s.setR (pg p o) (s.checkedWord p o r v).1).raiseEach p (s.checkedWord p o r v).2
    | .rws => match s.wordBad p o (s.mergedWord p o r v) with
      | some d => s.raise p d 0
      | none => (s.makePending (pg p o) (s.checkedWord p o r v).1).raiseEach p (s.checkedWord p o r v).2 := by
  rw [Block.blockWrite, h]; rfl

theorem Block.blockWrite_unwritable (ha : r.acc = .ro ∨ r.acc = .wo ∨ r.acc = .sp) : s.blockWrite p o v = s := by
  rw [Block.blockWrite_row s v h]
  rcases ha with ha | ha | ha <;> rw [ha]

theorem Block.blockWrite_w1c (ha : r.acc = .w1c) :
    s.blockWrite p o v = s.setR (pg p o) (s.getR (pg p o) &&& ~~~(v &&& BitVec.ofNat 32 r.mask)) := by
  rw [Block.blockWrite_row s v h, ha]

theorem Block.blockWrite_refused (ha : r.acc = .rw ∨ r.acc = .rws) {d : Nat} (hd : s.wordBad p o (s.mergedWord p o r v) = some d) :
    s.blockWrite p o v = s.raise p d 0 := by
  rw [Block.blockWrite_row s v h]
  rcases ha with ha | ha <;> rw [ha, hd]

theorem Block.blockWrite_rw (ha : r.acc = .rw) (hd : s.wordBad p o (s.mergedWord p o r v) = none) :
    s.blockWrite p o v = (s.setR (pg p o) (s.checkedWord p o r v).1).raiseEach p (s.checkedWord p o r v).2 := by
  rw [Block.blockWrite_row s v h, ha, hd]

theorem Block.blockWrite_rws (ha : r.acc = .rws) (hd : s.wordBad p o (s.mergedWord p o r v) = none) :
    s.blockWrite p o v = (s.makePending (pg p o) (s.checkedWord p o r v).1).raiseEach p (s.checkedWord p o r v).2 := by
  rw [Block.blockWrite_row s v h, ha, hd]

theorem Block.blockWrite_rwl_open (ha : r.acc = .rwl) (hl : s.lifeState < 3) :
    s.blockWrite p o v = (s.setR (pg p o) (s.checkedWord p o r v).1).raiseEach p (s.checkedWord p o r v).2 := by
  rw [Block.blockWrite_row s v h, ha]
  exact if_neg (Nat.not_le.2 hl)

theorem Block.blockWrite_rwl_locked (ha : r.acc = .rwl) (hl : 3 ≤ s.lifeState) :
    s.blockWrite p o v = if p = 0x38 then s.raise 0x38 6 0 else s := by
  rw [Block.blockWrite_row s v h, ha]
  exact if_pos hl

end

/-- A register write of any access code leaves the power state. -/
theorem Block.blockWrite_pwr (p o : Nat) (v : Word) : (s.blockWrite p o v).pwr = s.pwr := by
  cases h : RegTable.row p o with
  | none => rw [Block.blockWrite_reserved s v h]
  | some r =>
    rw [Block.blockWrite_row s v h]
    repeat' split
    all_goals simp

theorem Block.resetDue_of_none (h : s.pwr.resetWait = none) : s.resetDue = s := by
  unfold Block.resetDue
  rw [h]

end Sys2Proof.Machine
end

section
/-! SUPPORT. REGISTER_WRITE to a block register. -/

namespace Sys2Proof.Machine

/-- REGISTER_WRITE to a block register that is no command: the word by its access code, then what follows on the page. -/
theorem exec_registerWrite_of {s : State} {p o : Nat} (v : Word) (hready : s.block.hostReady = true)
    (hwait : s.block.pwr.resetWait = none) (hp : p < 64) (ho : 0x40 ≤ o) (ho' : o < 0x400) (h4 : o % 4 = 0)
    (hcmd : s.block.arrive.nextFrame.cmdWrite p o v = none) {t : Block} (ht : s.block.arrive.nextFrame.blockWrite p o v = t) :
    exec (.registerWrite (pg p o) v) s = .next { s with block := t.regFollow p o } := by
  have hword : s.block.arrive.rowWrite (pg p o) v = t.regFollow p o := by
    rw [Block.rowWrite_of s.block.arrive _ _ _ hready hp ho' h4 (by omega), Block.regWriteTo, if_neg (by omega), hcmd, ht]
  have hnone : (t.regFollow p o).pwr.resetWait = none := by
    rw [Block.regFollow_resetWait, ← ht, Block.blockWrite_pwr]
    exact hwait
  refine next_of (f := fun b => b.hostDo true (fun b => (b.rowWrite (pg p o) v).resetDue)) rfl ?_
  rw [Block.hostDo_of _ _ _ hready rfl, hword, Block.resetDue_of_none _ hnone]

/-- Settles O14: the block's write by its access code, with no device reset to begin after it. -/
theorem registerWriteByAccess : Obligations.RegisterWriteByAccess := by
  unfold Obligations.RegisterWriteByAccess
  intro s p o v hready hwait hp ho ho' h4 hcmd b old gives
  have write {t : Block} (ht : b.blockWrite p o v = t) : gives t :=
    exec_registerWrite_of v hready hwait hp ho ho' h4 hcmd ht
  refine ⟨fun h => write (b.blockWrite_reserved v h), fun r h => ⟨?_, ?_, ?_, ?_, ?_⟩⟩
  · exact fun ha => write (b.blockWrite_unwritable v h ha)
  · exact fun ha => write (b.blockWrite_w1c v h ha)
  · exact fun ha => ⟨fun d hd => write (b.blockWrite_refused v h (.inr ha) hd), fun hd => write (b.blockWrite_rws v h ha hd)⟩
  · exact fun ha => ⟨fun d hd => write (b.blockWrite_refused v h (.inl ha) hd), fun hd => write (b.blockWrite_rw v h ha hd)⟩
  · exact fun ha => ⟨fun hl => write (b.blockWrite_rwl_open v h ha hl), fun hl => write (b.blockWrite_rwl_locked v h ha hl)⟩

end Sys2Proof.Machine
end

section
/-! SUPPORT. The unpowered core (R18, R519, R526): a command acts on the block alone; without a powered core none acts but those of the
vault domain and VIN_GOOD, and the vault domain's own reach registers of PWR, RTC and TAMP, the clock of the RTC, the power state and the
tamper inputs. -/

namespace Sys2Proof

open Machine

/-- What a command makes of the block. -/
def Instr.effect (c : Instr) (b : Block) : Block :=
  match exec c ⟨[], b⟩ with
  | .next t => t.block
  | _ => b

/-- The commands that act though the core is unpowered: VBAK's, TAMPER_SAMPLE and the start (R383, R519). -/
def Instr.vaultRow : Instr → Bool
  | .vinGood _ | .vbakLoss | .vbakRestored | .tamperSample _ _ _ _ => true
  | _ => false

namespace Machine

/-- Every command completes, on the block alone. -/
theorem exec_eq_effect (c : Instr) (s : State) : exec c s = .next (s.onBlock c.effect) := by
  cases c <;> rfl

variable (s : Block)

theorem Block.strobe_off (h : s.powered = false) (x : PickInput) : s.strobe x = s := by
  rw [Block.strobe, Block.warpRuns, h]; rfl

/-- Every other command's form begins with the question whether the core is powered. -/
theorem effect_unpowered (c : Instr) (h : s.powered = false) (hc : c.vaultRow = false) : c.effect s = s := by
  have off : ¬ s.powered = true := by simp [h]
  cases c
  case pickStrobe x => exact s.strobe_off h x
  case vinGood | vbakLoss | vbakRestored | tamperSample => cases hc
  case spareCalDataAccess w | defDataAccess w | tariffCalDataAccess w | ptDataAccess w => exact Block.access_off h _ _ w
  all_goals exact if_neg off

/-! ### The vault domain's reach -/

/-- Nothing differs but what the vault domain holds, and the core is powered as before. -/
def Block.onlyVault (s t : Block) : Prop :=
  t = { s with regs := t.regs, time := t.time, pwr := t.pwr, tamp := t.tamp } ∧ t.powered = s.powered
    ∧ ∀ a, a / 0x400 ∉ [0x01, 0x04, 0x38] → t.getR a = s.getR a

namespace Block.onlyVault

variable {s} {t u : Block}

theorem refl : s.onlyVault s := ⟨rfl, rfl, fun _ _ => rfl⟩

theorem trans (h : s.onlyVault t) (k : t.onlyVault u) : s.onlyVault u := by
  obtain ⟨e, p, r⟩ := h
  obtain ⟨e', p', r'⟩ := k
  refine ⟨?_, p'.trans p, fun a ha => (r' a ha).trans (r a ha)⟩
  rw [e] at e'
  exact e'

/-- One of two blocks, whichever a test takes. -/
theorem ite {p : Prop} [Decidable p] (h : s.onlyVault t) (k : s.onlyVault u) : s.onlyVault (if p then t else u) := by
  split
  · exact h
  · exact k

theorem setR (h : s.onlyVault t) {a : Nat} (v : Word) (ha : a / 0x400 ∈ [0x01, 0x04, 0x38]) : s.onlyVault (t.setR a v) :=
  h.trans ⟨rfl, rfl, fun _ hb => t.getR_setR_ne v (fun e => hb (e ▸ ha))⟩

theorem modPwr (h : s.onlyVault t) (f : Power → Power) (hf : (t.modPwr f).powered = t.powered) : s.onlyVault (t.modPwr f) :=
  h.trans ⟨rfl, hf, fun _ _ => rfl⟩

theorem withTime (h : s.onlyVault t) (x : Time) (y : Tamp) : s.onlyVault { t with tamp := y, time := x } :=
  h.trans ⟨rfl, rfl, fun _ _ => rfl⟩

theorem modTamp (h : s.onlyVault t) (f : Tamp → Tamp) : s.onlyVault (t.modTamp f) := h.trans ⟨rfl, rfl, fun _ _ => rfl⟩

/-- A list of steps, each within the reach. -/
theorem each {α : Type} (f : α → Block → Block) {l : List α} (hf : ∀ x ∈ l, ∀ b : Block, b.onlyVault (f x b))
    (h : s.onlyVault t) : s.onlyVault (forEach l f t) := by
  induction l generalizing t with
  | nil => exact h
  | cons x l ih =>
    exact ih (fun y hy => hf y (List.mem_cons_of_mem _ hy)) (h.trans (hf x List.mem_cons_self t))

theorem showTamp (h : s.onlyVault t) : s.onlyVault t.showTamp :=
  ((((h.setR _ (by decide)).setR _ (by decide)).setR _ (by decide)).setR _ (by decide)).setR _ (by decide)

variable {k : Nat} (hk : k < 2)
include hk

theorem tampEvent (h : s.onlyVault t) (kind : Nat) (inj : Bool) : s.onlyVault (t.tampEvent k kind inj) := by
  have page : (if kind = 1 then pg 0x38 (0x50 + 4 * k) else pg 0x38 0x58) / 0x400 ∈ [0x01, 0x04, 0x38] := by
    have : (if kind = 1 then pg 0x38 (0x50 + 4 * k) else pg 0x38 0x58) / 0x400 = 0x38 := by unfold pg; split <;> omega
    rw [this]; decide
  have counted : s.onlyVault (if (kind = 1 || kind = 3) && !inj
      then t.bump (if kind = 1 then pg 0x38 (0x50 + 4 * k) else pg 0x38 0x58) 15 0 1 else t) := .ite (h.setR _ page) h
  exact ((counted.modTamp _).showTamp).ite (counted.modTamp _)

theorem tampEvent_unless (h : s.onlyVault t) (kind : Nat) (inj : Bool) (p : Prop) [Decidable p] :
    s.onlyVault (if p then t else t.tampEvent k kind inj) := h.ite (h.tampEvent hk kind inj)

theorem tampSense (h : s.onlyVault t) (before end_ : Bool) : s.onlyVault (t.tampSense k before end_) :=
  have sensed j : s.onlyVault ((t.modTamp j).showTamp) := (h.modTamp j).showTamp
  h.ite (.ite (.showTamp (.modTamp (.tampEvent_unless hk (sensed _) _ _ _) _))
    (.tampEvent_unless hk (.showTamp (.modTamp (.tampEvent_unless hk (sensed _) _ _ _) _)) _ _ _))

end Block.onlyVault

theorem Block.onlyVault_tampSample (c0 c1 t0 t1 : Bool) : s.onlyVault (s.tampSample c0 c1 t0 t1) :=
  Block.onlyVault.ite .refl ((Block.onlyVault.refl.tampSense (by decide) c0 c1).tampSense (by decide) t0 t1)

theorem Block.onlyVault_vaultTick : s.onlyVault s.vaultTick := Block.onlyVault.ite ⟨rfl, rfl, fun _ _ => rfl⟩ .refl

theorem Block.sampled_off {s : Block} (h : s.powered = false) : s.sampled = s := by rw [Block.sampled, h]; rfl

/-- The registers of the vault domain lie in PWR, RTC and TAMP. -/
theorem vaultRegs_pages : ∀ a ∈ vaultRegs, a / 0x400 ∈ [0x01, 0x04, 0x38] := by decide

theorem Block.onlyVault.vaultLoss {s t : Block} (h : s.onlyVault t) : s.onlyVault t.vaultLoss :=
  have lost {b : Block} (hb : s.onlyVault b) : s.onlyVault (({ b with
      tamp := Tamp.reset, time := { b.time with rtcClk := 0, clk := 0 } } : Block).modPwr (fun p => { p with vaultLost := true })) :=
    (hb.withTime _ _).modPwr _ rfl
  have cleared : s.onlyVault (forEach vaultRegs (fun a b => b.setR a (if a = pg 0x38 0x40 then regReset a else 0)) t) :=
    .each _ (fun _ ha _ => Block.onlyVault.refl.setR _ (vaultRegs_pages _ ha)) h
  lost cleared

/-- VBAK lost: from VAULT to OFF (R519). -/
theorem Block.onlyVault_vbakLoss (h : s.powered = false) : s.onlyVault s.vbakLoss := by
  unfold Block.vbakLoss
  split
  case h_1 => exact ((Block.onlyVault.refl.setR _ (by decide)).modPwr _ (by exact h.symm)).vaultLoss
  case h_2 => exact .refl
  case h_3 => exact Block.onlyVault.refl.setR _ (by decide)

/-- VBAK back: from OFF to VAULT (R519). -/
theorem Block.onlyVault_vbakBack (h : s.powered = false) : s.onlyVault s.vbakBack := by
  unfold Block.vbakBack
  split
  case h_1 => exact (Block.onlyVault.refl.modPwr _ (by exact h.symm)).setR _ (by decide)
  case h_2 => exact Block.onlyVault.refl.setR _ (by decide)

/-- Unpowered, every command but the start keeps to the vault domain's reach. -/
theorem effect_onlyVault (c : Instr) (h : s.powered = false) (hc : ∀ e, c ≠ .vinGood e) : s.onlyVault (c.effect s) := by
  cases hv : c.vaultRow
  case false => rw [effect_unpowered s c h hv]; exact .refl
  case true =>
    cases c
    case vinGood e => exact absurd rfl (hc e)
    case vbakLoss => exact s.onlyVault_vbakLoss h
    case vbakRestored => exact s.onlyVault_vbakBack h
    case tamperSample c0 c1 t0 t1 =>
      have tick := s.onlyVault_vaultTick
      have e : s.vaultTick.sampled = s.vaultTick := Block.sampled_off (tick.2.1.trans h)
      exact tick.trans (e ▸ Block.onlyVault_tampSample _ c0 c1 t0 t1)
    all_goals cases hv

/-- So does every run without a start among the commands it takes. -/
theorem runs_onlyVault {k : Nat} {s t : State} (h : s.block.powered = false) (hk : ∀ e, Instr.vinGood e ∉ s.pending.take k)
    (hr : runs k s t) : s.block.onlyVault t.block := by
  induction k generalizing s with
  | zero => cases hr; exact .refl
  | succ k ih =>
    obtain ⟨u, hu, hr⟩ := hr
    obtain ⟨pending, b⟩ := s
    cases pending with
    | nil =>
      cases hu
      exact ih h (by simp) hr
    | cons c rest =>
      have hu : exec c ⟨rest, b⟩ = .next u := hu
      rw [exec_eq_effect] at hu
      cases hu
      have one : b.onlyVault (c.effect b) := effect_onlyVault b c h (fun e he => hk e (by simp [he]))
      exact one.trans (ih (one.2.1.trans h) (fun e he => hk e (List.mem_cons_of_mem _ he)) hr)

/-- Settles O7: the vault domain's reach, step by step. -/
theorem unpoweredCoreKeepsStores : Obligations.UnpoweredCoreKeepsStores := by
  unfold Obligations.UnpoweredCoreKeepsStores
  intro k s t h hk hr
  obtain ⟨same, power, regs⟩ := runs_onlyVault h hk hr
  rw [same]
  exact ⟨power.trans h, rfl, rfl, rfl, rfl, rfl, rfl, rfl, rfl, rfl, rfl, regs⟩

end Machine
end Sys2Proof
end

section
/-! SUPPORT. Marks formed again within a pick (R84), and settling started on every modulator (R85, R86): what either leaves as it was. -/

namespace Sys2Proof.Machine

variable (s : Block)

/-! ### Modulators -/

theorem Block.mod_eq_of_lt {m : Nat} (h : m < s.mods.length) : s.mod m = s.mods[m] := by
  simp [Block.mod, nth, h]

theorem Block.mod_modMod_same {m : Nat} (f : Modulator → Modulator) (h : m < s.mods.length) : (s.modMod m f).mod m = f (s.mod m) := by
  rw [Block.mod_eq_of_lt _ h, Block.mod_eq_of_lt _ (by simpa [modNth] using h)]
  simp [modNth]

theorem Block.mod_modMod_ne {j m : Nat} (f : Modulator → Modulator) (h : j ≠ m) : (s.modMod m f).mod j = s.mod j := by
  simp [Block.mod, nth, modNth, List.getD, Ne.symm h]

theorem Block.mod_noMarks {s t : Block} (h : t.mods.map Modulator.noMarks = s.mods.map Modulator.noMarks) (m : Nat) :
    (t.mod m).noMarks = (s.mod m).noMarks := by
  have key (u : Block) : (u.mod m).noMarks = nth Modulator.reset (u.mods.map Modulator.noMarks) m := by
    cases hu : u.mods[m]? <;> simp [Block.mod, nth, List.getD, hu, Modulator.noMarks, Modulator.reset]
  rw [key, key, h]

/-- A word of this pick stands in the chain of a modulator that exists. -/
theorem Block.lt_of_markNow {m : Nat} {k : WordMark} (h : s.markNow m = some k) : m < s.mods.length := by
  refine Nat.lt_of_not_le fun hm => ?_
  have : s.mod m = Modulator.reset := by simp [Block.mod, nth, List.getD, List.getElem?_eq_none hm]
  rw [Block.markNow, this] at h
  cases h

theorem Block.markNow_eq_some {m : Nat} {k : WordMark} :
    s.markNow m = some k ↔ (s.mod m).line.getLast? = some k ∧ k.pick = s.absPick := by
  simp [Block.markNow, Option.filter_eq_some_iff]

/-! ### The causes of a mark -/

theorem topCause_ne_zero {l : List Nat} (h : ∀ c ∈ l, c ≠ 0) (hl : l ≠ []) : topCause l ≠ 0 := by
  cases l with
  | nil => exact absurd rfl hl
  | cons c l =>
    rw [topCause, List.foldl_cons, if_pos (Or.inl rfl)]
    refine List.foldlRecOn (motive := (· ≠ 0)) l _ (h c List.mem_cons_self) (fun best hb x hx => ?_)
    split
    · exact h x (List.mem_cons_of_mem _ hx)
    · exact hb

theorem Block.causes_ne_zero (m : Nat) : ∀ c ∈ s.causes m, c ≠ 0 := by
  intro c hc
  simp only [Block.causes, List.mem_append, List.mem_ite_nil_right, List.mem_singleton] at hc
  omega

theorem Block.one_mem_causes {m : Nat} (h : (s.mod m).refFault = true) : 1 ∈ s.causes m := by
  simp [Block.causes, h]

/-- A mark that the reference fault of its modulator stands behind has a cause (R90). -/
theorem Block.topCause_of_refFault {m : Nat} (h : (s.mod m).refFault = true) : topCause (s.causes m) ≠ 0 :=
  topCause_ne_zero (s.causes_ne_zero m) (List.ne_nil_of_mem (s.one_mem_causes h))

/-! ### Marks formed again -/

/-- Nothing differs but marks of words in the chains, and NBR_STICKY that they set. -/
def Block.onlyMarks (s t : Block) : Prop :=
  t = { s with mods := t.mods, regs := t.regs } ∧ t.mods.map Modulator.noMarks = s.mods.map Modulator.noMarks
    ∧ ∀ a, a ≠ pg 6 0x54 → t.getR a = s.getR a

theorem Block.onlyMarks.refl : s.onlyMarks s := ⟨rfl, rfl, fun _ _ => rfl⟩

theorem Block.onlyMarks.trans {s t u : Block} (h : s.onlyMarks t) (k : t.onlyMarks u) : s.onlyMarks u := by
  obtain ⟨e, m, r⟩ := h
  obtain ⟨e', m', r'⟩ := k
  refine ⟨?_, m'.trans m, fun a ha => (r' a ha).trans (r a ha)⟩
  rw [e] at e'
  exact e'

/-- The causes of a word do not depend on marks. -/
theorem Block.onlyMarks.causes {s t : Block} (h : s.onlyMarks t) (m : Nat) : t.causes m = s.causes m := by
  obtain ⟨e, hm, -⟩ := h
  have mod (n : Nat) : t.mod n = { s.mod n with line := (t.mod n).line } :=
    congrArg (fun d : Modulator => { d with line := (t.mod n).line }) (Block.mod_noMarks hm n)
  have pins : t.pinsOf m = s.pinsOf m := by rw [e]; rfl
  have warp : t.cause7 = s.cause7 := by rw [e]; rfl
  rw [Block.causes, Block.causes, pins, warp, mod m]
  cases s.pinsOf m with
  | none => rfl
  | some n => rw [Option.map_some, Option.getD_some, mod n]; rfl

/-- The mark that the word of this pick gets when it is formed again. -/
def Block.newMark (s : Block) (m : Nat) : WordMark := { s.markOf m with cfg := { s.wordCfg m with load := (s.mod m).s6Load } }

theorem Block.remark_of_some {m : Nat} {k : WordMark} (h : s.markNow m = some k) :
    s.remark m = (s.modMod m (fun d => { d with line := d.line.dropLast ++ [s.newMark m] })).noteNbr m (s.newMark m) := by
  obtain ⟨last, pick⟩ := s.markNow_eq_some.1 h
  rw [Block.remark, last]
  exact if_pos pick

theorem Block.remark_of_none {m : Nat} (h : s.markNow m = none) : s.remark m = s := by
  unfold Block.remark
  split
  case h_1 w hw => exact if_neg (fun pick => by simp [s.markNow_eq_some.2 ⟨hw, pick⟩] at h)
  case h_2 => rfl

theorem Block.onlyMarks_noteNbr (m : Nat) (k : WordMark) : s.onlyMarks (s.noteNbr m k) := by
  unfold Block.noteNbr
  split
  · exact ⟨rfl, rfl, fun a ha => s.getR_setB_ne ha m true⟩
  · exact .refl s

theorem Block.onlyMarks_line (m : Nat) (f : Modulator → Modulator) (h : ∀ d, (f d).noMarks = d.noMarks) :
    s.onlyMarks (s.modMod m f) := by
  refine ⟨rfl, List.ext_getElem? (fun i => ?_), fun _ _ => rfl⟩
  by_cases hi : m = i <;> cases hd : s.mods[i]? <;> simp [modNth, hi, hd, h]

theorem Block.onlyMarks_remark (m : Nat) : s.onlyMarks (s.remark m) := by
  cases h : s.markNow m with
  | none => rw [s.remark_of_none h]; exact .refl s
  | some k =>
    rw [s.remark_of_some h]
    refine Block.onlyMarks.trans ?_ (Block.onlyMarks_noteNbr _ _ _)
    exact s.onlyMarks_line m _ (fun _ => rfl)

theorem Block.markNow_noteNbr (m j : Nat) (k : WordMark) : (s.noteNbr m k).markNow j = s.markNow j := by
  unfold Block.noteNbr; split <;> rfl

/-- The word of this pick carries the causes in force. -/
theorem Block.markNow_remark_same {m : Nat} {k : WordMark} (h : s.markNow m = some k) :
    ∃ w, (s.remark m).markNow m = some w ∧ w.cause = topCause (s.causes m) := by
  refine ⟨s.newMark m, ?_, rfl⟩
  rw [s.remark_of_some h, Block.markNow_noteNbr, Block.markNow_eq_some, Block.mod_modMod_same _ _ (s.lt_of_markNow h)]
  exact ⟨List.getLast?_concat, rfl⟩

theorem Block.markNow_remark_ne {j m : Nat} (h : j ≠ m) : (s.remark m).markNow j = s.markNow j := by
  cases hm : s.markNow m with
  | none => rw [s.remark_of_none hm]
  | some k =>
    rw [s.remark_of_some hm, Block.markNow_noteNbr, Block.markNow, Block.mod_modMod_ne _ _ h]
    rfl

/-- After marks were formed again on modulators in turn, the word of this pick of each of them carries the causes in force. -/
theorem Block.markNow_remarks (l : List Nat) {m : Nat} {k : WordMark} (h : s.markNow m = some k)
    (hl : m ∈ l ∨ k.cause = topCause (s.causes m)) :
    ∃ w, (forEach l (fun m s => s.remark m) s).markNow m = some w ∧ w.cause = topCause (s.causes m) := by
  induction l generalizing s k with
  | nil => exact ⟨k, h, by simpa using hl⟩
  | cons x l ih =>
    rw [← (s.onlyMarks_remark x).causes m]
    by_cases hx : m = x
    · subst hx
      obtain ⟨w, hw, hc⟩ := s.markNow_remark_same h
      exact ih _ hw (.inr (by rw [hc, (s.onlyMarks_remark m).causes m]))
    · refine ih _ ((s.markNow_remark_ne hx).trans h) ?_
      rw [(s.onlyMarks_remark x).causes m]
      simpa [hx] using hl

theorem Block.onlyMarks_remarkAll : s.onlyMarks s.remarkAll := by
  have loop (l : List Nat) (t : Block) (h : s.onlyMarks t) : s.onlyMarks (forEach l (fun m b => b.remark m) t) := by
    induction l generalizing t with
    | nil => exact h
    | cons m l ih => exact ih _ (h.trans (t.onlyMarks_remark m))
  exact loop _ s (.refl s)

theorem Block.markNow_remarkAll {m : Nat} (hm : m < 17) {k : WordMark} (h : s.markNow m = some k) :
    ∃ w, s.remarkAll.markNow m = some w ∧ w.cause = topCause (s.causes m) :=
  s.markNow_remarks _ h (.inl (List.mem_range.2 hm))

/-! ### Settling -/

/-- A settling count looks at the spare unit, the Warp's frequency and the registers from FLT's page on (R85). -/
theorem Block.settleCount_congr {s t : Block} (hs : t.spare = s.spare) (hw : t.warp.freq = s.warp.freq)
    (hr : ∀ a, 0x6000 ≤ a → t.getR a = s.getR a) (m : Nat) : t.settleCount m = s.settleCount m := by
  have reg (o : Nat) : t.getR (pg 0x18 o) = s.getR (pg 0x18 o) := hr _ (by unfold pg; omega)
  have chain : t.chainCfg m = s.chainCfg m := by rw [Block.chainCfg, Block.chanOf, hs, reg]; rfl
  have active (k : Nat) : t.profActive k = s.profActive k := by rw [Block.profActive, Block.fld, profCfg, reg]; rfl
  have taps (k bank : Nat) : t.taps k bank = s.taps k bank := by rw [Block.taps, Block.fld, Block.fld, profCfg, reg]; rfl
  rw [Block.settleCount, Block.halfLen, chain, active, taps, hw]; rfl

/-- A modulator whose settling starts with count n, the mark of the reference as f leaves it. -/
def Modulator.settling (f : Modulator → Modulator) (n : Nat) (d : Modulator) : Modulator :=
  { f d with settleLeft := n, settleOwed := true, settleWide := n }

/-- The settling episode of the metering chain, and the page that shows it if any. -/
theorem Block.startSettleChain_cases (m : Nat) :
    let t := s.modMod m (fun d => { d with settleLeft := s.settleCount m, settleOwed := true })
    s.startSettleChain m = t
      ∨ ∃ c, s.shownOn m = some c ∧ s.startSettleChain m = t.setF (pg (chPage c) 0x48) 15 0 (s.settleCount m) := by
  unfold Block.startSettleChain
  dsimp only
  split
  case h_1 c hc => exact .inr ⟨c, hc, rfl⟩
  case h_2 => exact .inl rfl

theorem Block.shownOn_own {m c : Nat} (hm : m < 16) (h : s.shownOn m = some c) : c = m := by
  rw [Block.shownOn, if_neg (by omega)] at h
  split at h
  · cases h
  · cases h; rfl

theorem Block.settleCount_modMod (m : Nat) (f : Modulator → Modulator) (j : Nat) : (s.modMod m f).settleCount j = s.settleCount j :=
  Block.settleCount_congr rfl rfl (fun _ _ => rfl) j

theorem Block.settleCount_setF {a : Nat} (ha : a < 0x6000) (hi lo v j : Nat) : (s.setF a hi lo v).settleCount j = s.settleCount j :=
  Block.settleCount_congr (s := s) (t := s.setF a hi lo v) rfl rfl (fun b hb => s.getR_setF_ne (a := a) (b := b) (by omega) hi lo v) j

theorem Block.startSettle_mods (m : Nat) (f : Modulator → Modulator) :
    ((s.modMod m f).startSettle m).mods = modNth s.mods m (Modulator.settling f (s.settleCount m)) := by
  have chain : ((s.modMod m f).startSettleChain m).mods
      = modNth (modNth s.mods m f) m (fun d => { d with settleLeft := s.settleCount m, settleOwed := true }) := by
    obtain h | ⟨c, -, h⟩ := (s.modMod m f).startSettleChain_cases m <;> rw [h, Block.settleCount_modMod] <;> rfl
  rw [Block.startSettle, Block.modMod_mods, chain, Block.settleCount_modMod]
  simp only [modNth, List.modify_modify_eq]
  rfl

/-- Settling of a channel's own modulator is shown on the channel's page, below FLT's: no other count moves. -/
theorem Block.settleCount_startSettle {m : Nat} (hm : m < 16) (j : Nat) : (s.startSettle m).settleCount j = s.settleCount j := by
  rw [Block.startSettle, Block.settleCount_modMod]
  obtain h | ⟨c, hc, h⟩ := s.startSettleChain_cases m
  · rw [h, Block.settleCount_modMod]
  · rw [h, s.shownOn_own hm hc]
    rw [Block.settleCount_setF _ (by unfold pg chPage; omega), Block.settleCount_modMod]

/-- Settling started on the first n modulators in turn, each changed by f before. -/
def Block.settleFirst (s : Block) (f : Modulator → Modulator) (n : Nat) : Block :=
  forEach (List.range n) (fun m b => (b.modMod m f).startSettle m) s

theorem Block.settleFirst_succ (f : Modulator → Modulator) (n : Nat) :
    s.settleFirst f (n + 1) = ((s.settleFirst f n).modMod n f).startSettle n := by
  simp [Block.settleFirst, forEach, List.range_succ]

theorem Block.settleCount_settleFirst (f : Modulator → Modulator) {n : Nat} (hn : n ≤ 16) (j : Nat) :
    (s.settleFirst f n).settleCount j = s.settleCount j := by
  induction n with
  | zero => rfl
  | succ n ih => rw [s.settleFirst_succ, Block.settleCount_startSettle _ (by omega), Block.settleCount_modMod, ih (by omega)]

/-- Each of them settles by the count that stood at the start. -/
theorem Block.settleFirst_mods (f : Modulator → Modulator) {n : Nat} (hn : n ≤ 17) (m : Nat) :
    (s.settleFirst f n).mods[m]? = if m < n then s.mods[m]?.map (Modulator.settling f (s.settleCount m)) else s.mods[m]? := by
  induction n with
  | zero => rfl
  | succ n ih =>
    rw [s.settleFirst_succ, Block.startSettle_mods, s.settleCount_settleFirst f (by omega), modNth, List.getElem?_modify, ih (by omega)]
    rcases Nat.lt_trichotomy m n with h | rfl | h
    · simp [h, Nat.ne_of_gt h, Nat.lt_succ_of_lt h]
    · simp
    · simp [Nat.ne_of_lt h, Nat.not_lt_of_gt h, Nat.not_lt.2 (Nat.succ_le_of_lt h)]

theorem Block.settleFirst_some (f : Modulator → Modulator) {m : Nat} (hm : m < 17) {d : Modulator} (hd : s.mods[m]? = some d) :
    (s.settleFirst f 17).mods[m]? = some (Modulator.settling f (s.settleCount m) d) := by
  rw [s.settleFirst_mods f (Nat.le_refl _), if_pos hm, hd]; rfl

end Sys2Proof.Machine
end

section
/-! SUPPORT. Registers through counters and raises, and frames of raises and writes put together step by step. -/

namespace Sys2Proof.Machine

variable (s : Block)

/-- A counter advanced reads as the sum, or its top. -/
theorem Block.fld_bump_same (a hi lo n : Nat) (h : lo ≤ hi) (h' : hi < 32) :
    (s.bump a hi lo n).fld a hi lo = min (2 ^ (hi + 1 - lo) - 1) (s.fld a hi lo + n) := by
  rw [Block.bump, Block.fld_setF_same _ _ _ _ _ h h', satAdd]
  exact Nat.mod_eq_of_lt (by have := Nat.two_pow_pos (hi + 1 - lo); omega)

/-- A 16-bit counter advanced by one. -/
theorem Block.fld_bump16 (a : Nat) : (s.bump a 15 0 1).fld a 15 0 = min 65535 (s.fld a 15 0 + 1) :=
  s.fld_bump_same a 15 0 1 (by decide) (by decide)

theorem Block.rbit_congr {s t : Block} {a : Nat} (h : t.getR a = s.getR a) (k : Nat) : t.rbit a k = s.rbit a k := by
  rw [Block.rbit, h]; rfl

theorem Block.fld_congr {s t : Block} {a : Nat} (h : t.getR a = s.getR a) (hi lo : Nat) : t.fld a hi lo = s.fld a hi lo := by
  rw [Block.fld, h]; rfl

/-- A raise leaves what EVT_RAW holds. -/
theorem Block.rbit_raiseX (p d x : Nat) (e i : Bool) {q k : Nat} (h : s.rbit (pg q 0x0C) k = true) :
    (s.raiseX p d x e i).rbit (pg q 0x0C) k = true := by
  refine Block.rbit_eventNews _ _ _ _ (Block.rbit_noteEvent _ _ _ _ _ _ ?_)
  rw [Block.rbit_ringOffer _ 2 (by omega), Block.rbit_noteFault]
  exact h

namespace Block.onlyRaised

variable {s} {t : Block} {ps as : List Nat}

theorem setR (h : s.onlyRaised t ps as) {a : Nat} (v : Word) (ha : a ∈ as) : s.onlyRaised (t.setR a v) ps as :=
  h.trans ((t.onlyRaised_setR a v ps).mono (fun _ k => k) (by simpa using ha))

theorem raise (h : s.onlyRaised t ps as) {p : Nat} (d x : Nat) (hp : p ∈ ps) : s.onlyRaised (t.raise p d x) ps as :=
  h.trans ((t.onlyRaised_raise p d x).mono (by simpa using hp) (by simp))

end Block.onlyRaised

theorem Block.onlyRaised_refl (ps as : List Nat) : s.onlyRaised s ps as := ⟨rfl, fun _ _ _ => rfl⟩

end Sys2Proof.Machine
end

section
/-! SUPPORT. The clock page (R14, R16, R17): crystal, PLL and the modulators' clock, lost and back. -/

namespace Sys2Proof.Machine

variable (s : Block)

/-! ### The reach of the Warp loop -/

/-- Nothing differs but the Warp's inner state, its block registers and what raises write, and no event is lost. -/
def Block.onlyWarp (s t : Block) : Prop :=
  t = { s with warp := t.warp, regs := t.regs, sram := t.sram, rings := t.rings }
    ∧ (∀ a, quietReg a → a / 0x400 ≠ 5 → t.getR a = s.getR a)
    ∧ ∀ q k, s.rbit (pg q 0x0C) k = true → t.rbit (pg q 0x0C) k = true

namespace Block.onlyWarp

variable {s} {t u : Block}

theorem refl : s.onlyWarp s := ⟨rfl, fun _ _ _ => rfl, fun _ _ h => h⟩

theorem trans (h : s.onlyWarp t) (k : t.onlyWarp u) : s.onlyWarp u := by
  obtain ⟨e, r, v⟩ := h
  obtain ⟨e', r', v'⟩ := k
  refine ⟨?_, fun a ha hp => (r' a ha hp).trans (r a ha hp), fun q k h => v' q k (v q k h)⟩
  rw [e] at e'
  exact e'

/-- One of two blocks, whichever a test takes. -/
theorem ite {p : Prop} [Decidable p] (h : s.onlyWarp t) (k : s.onlyWarp u) : s.onlyWarp (if p then t else u) := by
  split
  · exact h
  · exact k

theorem modWarp (h : s.onlyWarp t) (f : Warp → Warp) : s.onlyWarp (t.modWarp f) := h.trans ⟨rfl, fun _ _ _ => rfl, fun _ _ h => h⟩

theorem setR (h : s.onlyWarp t) {a : Nat} (v : Word) (ha : a / 0x400 = 5) (ho : 0x40 ≤ a % 0x400) : s.onlyWarp (t.setR a v) := by
  refine h.trans ⟨rfl, fun _ _ hb => t.getR_setR_ne v (fun e => hb (e ▸ ha)), fun q k hk => ?_⟩
  rwa [Block.rbit_congr (t.getR_setR_ne v (by unfold pg; omega))]

theorem raiseX (h : s.onlyWarp t) (p d x : Nat) (e i : Bool) : s.onlyWarp (t.raiseX p d x e i) :=
  h.trans ⟨by rw [t.raiseX_warp]; exact Block.eq_of_rest (t.rest_raiseX p d x e i),
    fun _ ha _ => t.getR_raiseX ha p d x e i, fun _ _ hk => t.rbit_raiseX p d x e i hk⟩

theorem showWarp (h : s.onlyWarp t) : s.onlyWarp t.showWarp :=
  ((h.setR _ (by decide) (by decide)).setR _ (by decide) (by decide)).setR _ (by decide) (by decide)

theorem formHold (h : s.onlyWarp t) : s.onlyWarp t.formHold := (h.modWarp _).setR _ (by decide) (by decide)

theorem enterHoldover (h : s.onlyWarp t) (inj : Bool) : s.onlyWarp (t.enterHoldover inj) := by
  have opened : s.onlyWarp (if t.warp.holdEpisode then t else (t.set64 (pg 5 0x74) t.stampNow).bump (pg 5 0x84) 15 0 1) :=
    .ite h (((h.setR _ (by decide) (by decide)).setR _ (by decide) (by decide)).setR _ (by decide) (by decide))
  exact ((opened.modWarp _).showWarp).raiseX 5 3 _ false inj

end Block.onlyWarp

@[simp] theorem Block.showWarp_warp : s.showWarp.warp = s.warp := rfl

theorem Block.enterHoldover_warp (inj : Bool) :
    (s.enterHoldover inj).warp.state = .holdover ∧ (s.enterHoldover inj).warp.pllLost = s.warp.pllLost := by
  rw [Block.enterHoldover, Block.raiseX_warp]
  refine ⟨rfl, ?_⟩
  cases h : s.warp.holdEpisode <;> simp [Block.showWarp_warp]

theorem Block.enterHoldover_event (inj : Bool) : (s.enterHoldover inj).rbit (pg 5 0x0C) 3 = true :=
  Block.raiseX_event _ 5 3 _ false inj (by decide)

/-! ### The rows of the clock page -/

theorem Block.crystalStop_of_stopped (h : s.rbit (pg 3 0x40) 0 = false) : s.crystalStop = s := by
  rw [Block.crystalStop, h]; rfl

/-- The crystal stops: shown, counted, the RTC invalid, both reported (R17). -/
theorem Block.crystalStop_of_running (h : s.rbit (pg 3 0x40) 0 = true) : s.crystalStop
    = (((((s.setB (pg 3 0x40) 0 false).bump (pg 3 0x4C) 15 0 1).setB (pg 4 0x54) 0 false).raise 3 1 0).raise 4 2 0) := by
  rw [Block.crystalStop, h]; rfl

/-- What the two reports of a stopped crystal leave. -/
theorem Block.getR_crystalRaises {a : Nat} (ha : quietReg a) : ((s.raise 3 1 0).raise 4 2 0).getR a = s.getR a := by
  rw [Block.getR_raise _ ha, Block.getR_raise _ ha]

theorem Block.crystalStop_row (h : s.rbit (pg 3 0x40) 0 = true) :
    s.crystalStop.rbit (pg 3 0x40) 0 = false ∧ s.crystalStop.rbit (pg 4 0x54) 0 = false
      ∧ s.crystalStop.fld (pg 3 0x4C) 15 0 = min 65535 (s.fld (pg 3 0x4C) 15 0 + 1)
      ∧ s.crystalStop.rbit (pg 3 0x0C) 1 = true ∧ s.crystalStop.rbit (pg 4 0x0C) 2 = true
      ∧ s.onlyRaised s.crystalStop [3, 4] [pg 3 0x40, pg 3 0x4C, pg 4 0x54] := by
  rw [s.crystalStop_of_running h]
  have quiet : quietReg (pg 3 0x40) ∧ quietReg (pg 4 0x54) ∧ quietReg (pg 3 0x4C) := by unfold quietReg; decide
  obtain ⟨stat, rtc, count⟩ := quiet
  refine ⟨?_, ?_, ?_, ?_, Block.raise_event _ 4 2 0 (by decide), ?_⟩
  · rw [Block.rbit_congr (Block.getR_crystalRaises _ stat), Block.rbit_congr (Block.getR_setB_ne _ (by decide) _ _),
      Block.rbit_congr (Block.getR_bump_ne _ (by decide) _ _ _)]
    exact Block.rbit_setB_same _ _ _ _ (by decide)
  · rw [Block.rbit_congr (Block.getR_crystalRaises _ rtc)]
    exact Block.rbit_setB_same _ _ _ _ (by decide)
  · rw [Block.fld_congr (Block.getR_crystalRaises _ count), Block.fld_congr (Block.getR_setB_ne _ (by decide) _ _),
      Block.fld_bump16, Block.fld_congr (Block.getR_setB_ne _ (by decide) _ _)]
  · exact Block.rbit_raiseX _ 4 2 0 false false (Block.raise_event _ 3 1 0 (by decide))
  · exact (((((s.onlyRaised_refl _ _).setR _ (by decide)).setR _ (by decide)).setR _ (by decide)).raise 1 0 (by decide)).raise 2 0
      (by decide)

/-- The PLL without lock, before it is reported: shown, counted, every modulator under the fault (R17). -/
def Block.pllMarked (s : Block) : Block :=
  ((s.setB (pg 3 0x40) 1 false).bump (pg 3 0x48) 15 0 1).modAll (fun d => { d with refFault := true })

theorem Block.pllMarked_lock : s.pllMarked.rbit (pg 3 0x40) 1 = false :=
  (Block.rbit_congr (Block.getR_bump_ne (a := pg 3 0x48) (b := pg 3 0x40) _ (by decide) 15 0 1) 1).trans
    (s.rbit_setB_same (pg 3 0x40) 1 false (by decide))

theorem Block.pllMarked_count : s.pllMarked.fld (pg 3 0x48) 15 0 = min 65535 (s.fld (pg 3 0x48) 15 0 + 1) := by
  have kept : (s.setB (pg 3 0x40) 1 false).fld (pg 3 0x48) 15 0 = s.fld (pg 3 0x48) 15 0 :=
    Block.fld_congr (s.getR_setB_ne (by decide) 1 false) 15 0
  rw [← kept]
  exact Block.fld_bump16 _ (pg 3 0x48)

/-- The loss told to the Warp and reported. -/
def Block.pllReported (s : Block) : Block := (s.pllMarked.modWarp (fun w => { w with pllLost := true })).raise 3 2 0

/-- The Warp in HOLDOVER, before the marks are formed again (R45). -/
def Block.pllHeld (s : Block) : Block :=
  if s.pllReported.warp.state == .holdover then s.pllReported.modWarp (fun w => { w with holdInj := false })
  else s.pllReported.formHold.enterHoldover false

theorem Block.pllUnlock_of_locked (h : s.rbit (pg 3 0x40) 1 = true) : s.pllUnlock = s.pllHeld.remarkAll := by
  rw [Block.pllUnlock, h]; rfl

theorem Block.onlyWarp_pllReported : s.pllMarked.onlyWarp s.pllReported := (Block.onlyWarp.refl.modWarp _).raiseX 3 2 0 false false

theorem Block.onlyWarp_pllHeld : s.pllReported.onlyWarp s.pllHeld :=
  (Block.onlyWarp.refl.modWarp _).ite (Block.onlyWarp.refl.formHold.enterHoldover false)

theorem Block.pllReported_warp : s.pllReported.warp = { s.warp with pllLost := true } := by
  rw [Block.pllReported, Block.raise_warp]; rfl

theorem Block.pllHeld_event : s.pllHeld.rbit (pg 3 0x0C) 2 = true := by
  obtain ⟨-, -, kept⟩ := s.onlyWarp_pllHeld
  exact kept 3 2 (Block.raise_event _ 3 2 0 (by decide))

theorem Block.pllHeld_warp : s.pllHeld.warp.state = .holdover ∧ s.pllHeld.warp.pllLost = true
    ∧ (s.warp.state ≠ .holdover → s.pllHeld.rbit (pg 5 0x0C) 3 = true) := by
  unfold Block.pllHeld
  split
  case isTrue h =>
    have held : s.warp.state = .holdover := by simpa [s.pllReported_warp] using h
    rw [Block.modWarp_warp, s.pllReported_warp]
    exact ⟨held, rfl, fun hs => absurd held hs⟩
  case isFalse h =>
    obtain ⟨held, lost⟩ := s.pllReported.formHold.enterHoldover_warp false
    have kept : s.pllReported.formHold.warp.pllLost = s.pllReported.warp.pllLost := rfl
    exact ⟨held, by rw [lost, kept, s.pllReported_warp], fun _ => Block.enterHoldover_event _ false⟩

/-- Every modulator as it was but for the fault, its words of this pick still there. -/
theorem Block.pllHeld_mods : s.pllHeld.mods = s.mods.map (fun d => { d with refFault := true }) := by
  rw [(s.onlyWarp_pllReported.trans s.onlyWarp_pllHeld).1]; rfl

theorem Block.pllHeld_mod {m : Nat} (hm : m < s.mods.length) : s.pllHeld.mod m = { s.mod m with refFault := true } := by
  have hm' : m < s.pllHeld.mods.length := by rw [s.pllHeld_mods]; simpa using hm
  rw [Block.mod_eq_of_lt _ hm', Block.mod_eq_of_lt _ hm]
  simp [s.pllHeld_mods]

theorem Block.pllHeld_absPick : s.pllHeld.absPick = s.absPick := by rw [(s.onlyWarp_pllReported.trans s.onlyWarp_pllHeld).1]; rfl

theorem Block.pllHeld_markNow {m : Nat} {k : WordMark} (h : s.markNow m = some k) : s.pllHeld.markNow m = some k := by
  rw [Block.markNow, s.pllHeld_mod (s.lt_of_markNow h), s.pllHeld_absPick]
  exact h

theorem Block.pllUnlock_row (h : s.rbit (pg 3 0x40) 1 = true) :
    s.pllUnlock.rbit (pg 3 0x40) 1 = false ∧ s.pllUnlock.fld (pg 3 0x48) 15 0 = min 65535 (s.fld (pg 3 0x48) 15 0 + 1)
      ∧ s.pllUnlock.rbit (pg 3 0x0C) 2 = true ∧ s.pllUnlock.warp.pllLost = true
      ∧ s.pllUnlock.mods.map Modulator.noMarks = s.mods.map (fun d => { d with refFault := true, line := [] })
      ∧ (∀ m < 17, ∀ k, s.markNow m = some k → ∃ w, s.pllUnlock.markNow m = some w ∧ w.cause ≠ 0)
      ∧ s.pllUnlock.warp.state = .holdover ∧ (s.warp.state ≠ .holdover → s.pllUnlock.rbit (pg 5 0x0C) 3 = true) := by
  rw [s.pllUnlock_of_locked h]
  obtain ⟨same, marks, regs⟩ := s.pllHeld.onlyMarks_remarkAll
  obtain ⟨-, quiet, -⟩ := s.onlyWarp_pllReported.trans s.onlyWarp_pllHeld
  obtain ⟨held, lost, event⟩ := s.pllHeld_warp
  have warp : s.pllHeld.remarkAll.warp = s.pllHeld.warp := by rw [same]
  have clk (o : Nat) (ho : quietReg (pg 3 o)) (hp : pg 3 o / 0x400 ≠ 5) (h6 : pg 3 o ≠ pg 6 0x54) :
      s.pllHeld.remarkAll.getR (pg 3 o) = s.pllMarked.getR (pg 3 o) := (regs _ h6).trans (quiet _ ho hp)
  refine ⟨?_, ?_, ?_, by rw [warp, lost], ?_, fun m hm k hk => ?_, by rw [warp, held], fun hs => ?_⟩
  · exact (Block.rbit_congr (clk 0x40 (by unfold quietReg; decide) (by decide) (by decide)) 1).trans s.pllMarked_lock
  · exact (Block.fld_congr (clk 0x48 (by unfold quietReg; decide) (by decide) (by decide)) 15 0).trans s.pllMarked_count
  · rw [Block.rbit_congr (regs _ (by decide))]; exact s.pllHeld_event
  · rw [marks, s.pllHeld_mods, List.map_map]; rfl
  · obtain ⟨w, hw, hc⟩ := s.pllHeld.markNow_remarkAll hm (s.pllHeld_markNow hk)
    refine ⟨w, hw, hc ▸ Block.topCause_of_refFault _ ?_⟩
    rw [s.pllHeld_mod (s.lt_of_markNow hk)]
  · rw [Block.rbit_congr (regs _ (by decide))]; exact event hs

/-- Settling moves modulators and the channels' pages alone. -/
def Block.onlySettle (s t : Block) : Prop := t = { s with mods := t.mods, regs := t.regs } ∧ ∀ a, a < 0x1C00 → t.getR a = s.getR a

namespace Block.onlySettle

variable {s} {t u : Block}

theorem refl : s.onlySettle s := ⟨rfl, fun _ _ => rfl⟩

theorem trans (h : s.onlySettle t) (k : t.onlySettle u) : s.onlySettle u := by
  obtain ⟨e, r⟩ := h
  obtain ⟨e', r'⟩ := k
  refine ⟨?_, fun a ha => (r' a ha).trans (r a ha)⟩
  rw [e] at e'
  exact e'

theorem modMod (h : s.onlySettle t) (m : Nat) (f : Modulator → Modulator) : s.onlySettle (t.modMod m f) :=
  h.trans ⟨rfl, fun _ _ => rfl⟩

theorem setF (h : s.onlySettle t) {a : Nat} (ha : 0x1C00 ≤ a) (hi lo v : Nat) : s.onlySettle (t.setF a hi lo v) :=
  h.trans ⟨rfl, fun b hb => t.getR_setF_ne (a := a) (b := b) (by omega) hi lo v⟩

theorem startSettle (h : s.onlySettle t) (m : Nat) : s.onlySettle (t.startSettle m) := by
  rw [Block.startSettle]
  obtain hc | ⟨c, -, hc⟩ := t.startSettleChain_cases m <;> rw [hc]
  · exact (h.modMod _ _).modMod _ _
  · exact ((h.modMod _ _).setF (by unfold pg chPage; omega) _ _ _).modMod _ _

end Block.onlySettle

theorem Block.onlySettle_settleFirst (f : Modulator → Modulator) (n : Nat) : s.onlySettle (s.settleFirst f n) := by
  induction n with
  | zero => exact .refl
  | succ n ih => rw [s.settleFirst_succ]; exact (ih.modMod n f).startSettle n

/-- The PLL locked again, the Warp told (R17). -/
def Block.pllBack (s : Block) : Block := (s.setB (pg 3 0x40) 1 true).modWarp (fun w => { w with pllLost := false })

theorem Block.pllBack_lock : s.pllBack.rbit (pg 3 0x40) 1 = true := s.rbit_setB_same (pg 3 0x40) 1 true (by decide)

theorem Block.pllBack_getR {a : Nat} (ha : a ≠ pg 3 0x40) : s.pllBack.getR a = s.getR a := s.getR_setB_ne ha 1 true

theorem Block.settleCount_pllBack (m : Nat) : s.pllBack.settleCount m = s.settleCount m :=
  Block.settleCount_congr (s := s) (t := s.pllBack) rfl rfl (fun a ha => s.pllBack_getR (a := a) (by unfold pg; omega)) m

/-- Where the reference is good each modulator settles (R17, R90). -/
theorem Block.pllRelock_of (h : s.rbit (pg 3 0x40) 1 = false) (hs : s.pwr.st ≠ .starting ∨ 5 ≤ s.pwr.startStep) :
    s.pllRelock = if s.fld (pg 6 0x5C) 1 0 = 3 then s.pllBack.settleFirst (fun d => { d with refFault := false }) 17 else s.pllBack := by
  have passed : (s.pwr.st == .starting && decide (s.pwr.startStep < 5)) = false := by
    rcases hs with hs | hs <;> simp [hs]
  have reference : s.pllBack.fld (pg 6 0x5C) 1 0 = s.fld (pg 6 0x5C) 1 0 := Block.fld_congr (s.pllBack_getR (by decide)) 1 0
  rw [Block.pllRelock, h, passed, ← reference]
  rfl

theorem Block.pllRelock_row (h : s.rbit (pg 3 0x40) 1 = false) (hs : s.pwr.st ≠ .starting ∨ 5 ≤ s.pwr.startStep) :
    s.pllRelock.rbit (pg 3 0x40) 1 = true ∧ s.pllRelock.warp.pllLost = false
      ∧ (s.fld (pg 6 0x5C) 1 0 = 3 → ∀ m < 17, ∀ d, s.mods[m]? = some d →
          ∃ e, s.pllRelock.mods[m]? = some e ∧ e.refFault = false ∧ e.settleLeft = s.settleCount m ∧ e.settleOwed = true)
      ∧ (s.fld (pg 6 0x5C) 1 0 ≠ 3 → s.pllRelock.mods = s.mods) := by
  rw [s.pllRelock_of h hs]
  split
  case isTrue hr =>
    obtain ⟨same, regs⟩ := s.pllBack.onlySettle_settleFirst (fun d => { d with refFault := false }) 17
    refine ⟨(Block.rbit_congr (regs _ (by decide)) 1).trans s.pllBack_lock, by rw [same]; rfl, fun _ m hm d hd => ?_,
      fun hn => absurd hr hn⟩
    exact ⟨_, s.pllBack.settleFirst_some _ hm hd, rfl, s.settleCount_pllBack m, rfl⟩
  case isFalse hr => exact ⟨s.pllBack_lock, rfl, fun hg => absurd hg hr, fun _ => rfl⟩

theorem Block.modClockGap_eq : s.modClockGap = ((s.settleFirst id 17).remarkAll).raise 3 3 0 := by
  have unchanged (t : Block) (m : Nat) : t.modMod m id = t := by rw [Block.modMod, modNth, List.modify_id]
  simp only [Block.modClockGap, Block.settleFirst, unchanged]

theorem Block.modClockGap_row : s.modClockGap.rbit (pg 3 0x0C) 3 = true ∧ ∀ m < 17, ∀ d, s.mods[m]? = some d →
    ∃ e, s.modClockGap.mods[m]? = some e ∧ e.settleLeft = s.settleCount m ∧ e.settleOwed = true := by
  rw [s.modClockGap_eq]
  refine ⟨Block.raise_event _ 3 3 0 (by decide), fun m hm d hd => ?_⟩
  rw [Block.raise_mods]
  obtain ⟨-, marks, -⟩ := (s.settleFirst id 17).onlyMarks_remarkAll
  have kept := congrArg (·[m]?) marks
  simp only [List.getElem?_map, s.settleFirst_some id hm hd, Option.map_some, Option.map_eq_some_iff] at kept
  obtain ⟨e, he, same⟩ := kept
  have left : e.noMarks.settleLeft = s.settleCount m := by rw [same]; rfl
  have owed : e.noMarks.settleOwed = true := by rw [same]; rfl
  exact ⟨e, he, left, owed⟩

/-- Settles O17: each row from the block that its rule leaves. -/
theorem clockRows : Obligations.ClockRows := by
  unfold Obligations.ClockRows
  intro s hp
  have at_ (f : Block → Block) : s.block.act f = f s.block.arrive := s.block.act_of f hp
  refine ⟨fun h => ?_, fun h => ?_, ?_, fun h => ?_, fun h hs => ?_, ?_⟩
  · exact leads_of rfl (at_ _) (s.block.arrive.crystalStop_row h)
  · exact next_of rfl ((at_ _).trans (s.block.arrive.crystalStop_of_stopped h))
  · exact leads_of rfl (at_ _) ⟨s.block.arrive.rbit_setB_same (pg 3 0x40) 0 true (by decide), s.block.arrive.onlyRegs_setR _ _⟩
  · exact leads_of rfl (at_ _) (s.block.arrive.pllUnlock_row h)
  · exact leads_of rfl (at_ _) (s.block.arrive.pllRelock_row h hs)
  · exact leads_of rfl (at_ _) s.block.arrive.modClockGap_row

end Sys2Proof.Machine
end

section
/-! SUPPORT. Read frames (R393 to R395, R427): the status of a frame from its words, and what its answer leaves. -/

namespace Sys2Proof.Machine

variable (s : Block) (f : Frame) (fifo stuck : Bool)

/-- No word brings a status but 0. -/
theorem contains_codes {n c : Nat} {code : Nat → Nat} (h : ∀ k < n, code k = 0) (hc : c ≠ 0) :
    ((List.range n).map code).contains c = false := by
  simpa using fun k hk => by rw [h k hk]; exact hc.symm

/-! ### What a frame brings by itself -/

/-- The status a read frame brings before any word is read (R393 to R395). -/
def Block.readCode (s : Block) (f : Frame) (fifo : Bool) : Nat :=
  let codes := (List.range f.count.toNat).map (fun k => s.readStatus (wordAddr f fifo k))
  if !frameCrcOk f false then 1
  else if f.count.toNat = 0 then 3
  else if codes.contains 4 then 4
  else if codes.contains 5 then 5
  else 0

/-- The status a write frame brings before any word is written. -/
def Block.writeCode (s : Block) (f : Frame) (fifo : Bool) : Nat :=
  let codes := (List.range f.count.toNat).map (fun k => s.writeStatus (wordAddr f fifo k) (nth 0 f.words k))
  if !frameCrcOk f true then 1
  else if f.count.toNat = 0 || 256 < f.count.toNat || f.words.length ≠ f.count.toNat then 3
  else if codes.contains 4 then 4
  else if codes.contains 5 then 5
  else 0

section
variable {s f fifo}

theorem Block.readCode_crc (h : frameCrcOk f false = false) : s.readCode f fifo = 1 := by rw [Block.readCode, h]; rfl

theorem Block.readCode_ok (h : frameCrcOk f false = true) (hn : 1 ≤ f.count.toNat)
    (hk : ∀ k < f.count.toNat, s.readStatus (wordAddr f fifo k) = 0) : s.readCode f fifo = 0 := by
  rw [Block.readCode, h, if_neg (by decide), if_neg (by omega)]
  simp only [contains_codes hk (c := 4) (by decide), contains_codes hk (c := 5) (by decide)]
  rfl

theorem Block.readCode_badAddr (h : frameCrcOk f false = true) (hn : 1 ≤ f.count.toNat)
    (hk : ∃ k < f.count.toNat, s.readStatus (wordAddr f fifo k) = 4) : s.readCode f fifo = 4 := by
  have bad : ((List.range f.count.toNat).map (fun k => s.readStatus (wordAddr f fifo k))).contains 4 = true := by simpa using hk
  rw [Block.readCode, h, if_neg (by decide), if_neg (by omega)]
  exact if_pos bad

theorem Block.writeCode_ok (h : frameCrcOk f true = true) (hn : 1 ≤ f.count.toNat) (hm : f.count.toNat ≤ 256)
    (hw : f.words.length = f.count.toNat)
    (hk : ∀ k < f.count.toNat, s.writeStatus (wordAddr f fifo k) (nth 0 f.words k) = 0) : s.writeCode f fifo = 0 := by
  have sized : ¬ (f.count.toNat = 0 || 256 < f.count.toNat || f.words.length ≠ f.count.toNat) = true := by
    simp only [Bool.or_eq_true, decide_eq_true_eq]; omega
  rw [Block.writeCode, h, if_neg (by decide), if_neg sized]
  simp only [contains_codes hk (c := 4) (by decide), contains_codes hk (c := 5) (by decide)]
  rfl

end

/-! ### The answer -/

/-- The answer to a frame whose words were read, BLOCK_RESET where a reset held one of them (R395, R550). -/
def readAnswer (r : Block × List Word × Option Nat) (f : Frame) : Block :=
  match r.2.2 with
  | none => r.1.frameDone f 0 0xFFFF r.2.1
  | some k => r.1.frameFail f 6 k f.count.toNat

theorem Block.frameRead_hold (h : s.pwr.st = .hold) :
    s.frameRead f fifo stuck = s.frameHold (if s.readCode f fifo = 0 then 7 else s.readCode f fifo) f.count.toNat := by
  rw [Block.frameRead, h]; rfl

theorem Block.frameWrite_hold (h : s.pwr.st = .hold) : s.frameWrite f fifo stuck
    = s.nextFrame.frameHold (if s.nextFrame.writeCode f fifo = 0 then 7 else s.nextFrame.writeCode f fifo) 0 := by
  rw [Block.frameWrite, s.nextFrame_pwr, h]; rfl

section
variable {s f fifo} (h : (s.pwr.st == .hold) = false)
include h

theorem Block.frameRead_ok (hc : s.readCode f fifo = 0) :
    s.frameRead f fifo stuck = readAnswer (s.readWords f fifo stuck 0 f.count.toNat) f := by
  simp only [Block.readCode] at hc
  simp only [Block.frameRead, h, hc]
  rfl

theorem Block.frameRead_crc (hc : s.readCode f fifo = 1) : s.frameRead f fifo stuck = s.frameFail f 1 0xFFFF f.count.toNat := by
  simp only [Block.readCode] at hc
  simp only [Block.frameRead, h, hc]
  rfl

theorem Block.frameRead_badAddr (hc : s.readCode f fifo = 4) : ∃ i, s.frameRead f fifo stuck = s.frameFail f 4 i f.count.toNat := by
  simp only [Block.readCode] at hc
  simp only [Block.frameRead, h, hc]
  exact ⟨_, rfl⟩

end

/-- One word that no reset holds: the answer holds it. -/
theorem readAnswer_one : (readAnswer (s.readWords f fifo false 0 1) f).host.reply = replyBytes 0 [(s.hostRead f.addr.toNat).1] := by
  have first : wordAddr f fifo 0 = f.addr.toNat := by cases fifo <;> rfl
  rw [← first]
  rfl

/-! ### A frame that is not executed -/

/-- The counter that a status moves (R426). -/
def statusCount (st : Nat) : Nat := if st = 1 then 0x50 else 0x54

/-- HOST_STAT, LAST_ADDR and the counter as a refused frame leaves them. -/
def Block.refusedRegs (s : Block) (f : Frame) (st i : Nat) : Block :=
  ((s.setN (pg 0x3E 0x44) (i % 65536 * 65536 + f.cmd.toNat * 256 + st)).setN (pg 0x3E 0x48) f.addr.toNat).bump
    (pg 0x3E (statusCount st)) 15 0 1

theorem statusCount_cases (st : Nat) : statusCount st = 0x50 ∨ statusCount st = 0x54 := by
  unfold statusCount
  split
  · exact .inl rfl
  · exact .inr rfl

theorem pg_ne_statusCount (st : Nat) {o : Nat} (ho : o < 0x50) : pg 0x3E o ≠ pg 0x3E (statusCount st) := by
  have := statusCount_cases st
  unfold pg
  omega

theorem quiet_statusCount (st : Nat) : quietReg (pg 0x3E (statusCount st)) := by
  unfold quietReg
  obtain h | h := statusCount_cases st <;> rw [h] <;> decide

theorem Block.refusedRegs_status {st : Nat} (h : st < 256) (i : Nat) : (s.refusedRegs f st i).fld (pg 0x3E 0x44) 7 0 = st := by
  rw [Block.refusedRegs, Block.fld, Block.getR_bump_ne _ (pg_ne_statusCount st (by decide)), Block.getR_setN_ne _ (by decide),
    Block.getR_setN_same, Word.bits, BitVec.toNat_ofNat]
  have := f.cmd.isLt
  simp only [Nat.shiftRight_zero]
  omega

theorem Block.refusedRegs_count (st i : Nat) : (s.refusedRegs f st i).fld (pg 0x3E (statusCount st)) 15 0
    = min 65535 (s.fld (pg 0x3E (statusCount st)) 15 0 + 1) := by
  rw [Block.refusedRegs, Block.fld_bump16,
    Block.fld_congr ((Block.getR_setN_ne _ (pg_ne_statusCount st (o := 0x48) (by decide)).symm _).trans
      (Block.getR_setN_ne _ (pg_ne_statusCount st (o := 0x44) (by decide)).symm _))]

theorem Block.refusedRegs_event (st i d : Nat) : (s.refusedRegs f st i).rbit (pg 0x3E 0x0C) d = s.rbit (pg 0x3E 0x0C) d := by
  refine Block.rbit_congr ?_ d
  rw [Block.refusedRegs, Block.getR_bump_ne _ (pg_ne_statusCount st (by decide)), Block.getR_setN_ne _ (by decide),
    Block.getR_setN_ne _ (by decide)]

theorem Block.frameDone_refused {st : Nat} (h : st ≠ 0) (i : Nat) (ws : List Word) : s.frameDone f st i ws
    = { s.refusedRegs f st i with host := { s.host with reply := replyBytes st ws } } := by
  by_cases h1 : st = 1
  · simp only [Block.frameDone, if_neg h, if_pos h1, Block.refusedRegs, statusCount]; rfl
  · simp only [Block.frameDone, if_neg h, if_neg h1, Block.refusedRegs, statusCount]; rfl

theorem Block.onlyRaised.withHost {s t : Block} {ps as : List Nat} (h : s.onlyRaised t ps as) (x : HostPort) :
    ({ s with host := x } : Block).onlyRaised { t with host := x } ps as := by
  refine ⟨?_, fun a ha hr => h.2 a ha hr⟩
  have e := congrArg (fun b : Block => { b with host := x }) h.1
  exact e

theorem Block.frameFail_crc (i n : Nat) :
    s.frameFail f 1 i n = (s.raise 0x3E 1 f.addr.toNat).frameDone f 1 i (List.replicate n 0) := rfl

theorem Block.frameFail_badAddr (i n : Nat) :
    s.frameFail f 4 i n = (s.raise 0x3E 3 f.addr.toNat).frameDone f 4 i (List.replicate n 0) := rfl

/-- A refused frame: its detector, its counter, its status and its answer, and nothing else (R395, R426, R427). -/
theorem Block.refused_row {st d : Nat} (hd : d < 32) (h0 : st ≠ 0) (h : st < 256) (i : Nat) (ws : List Word) {t : Block}
    (ht : (s.raise 0x3E d f.addr.toNat).frameDone f st i ws = t) :
    t.rbit (pg 0x3E 0x0C) d = true
      ∧ t.fld (pg 0x3E (statusCount st)) 15 0 = min 65535 (s.fld (pg 0x3E (statusCount st)) 15 0 + 1)
      ∧ t.fld (pg 0x3E 0x44) 7 0 = st ∧ t.host = { s.host with reply := replyBytes st ws }
      ∧ ({ s with host := t.host } : Block).onlyRaised t [0x3E] [pg 0x3E 0x44, pg 0x3E 0x48, pg 0x3E (statusCount st)] := by
  rw [Block.frameDone_refused _ _ h0, Block.raise_host] at ht
  subst ht
  have raised := s.raise_event 0x3E d f.addr.toNat hd
  have before : (s.raise 0x3E d f.addr.toNat).fld (pg 0x3E (statusCount st)) 15 0 = s.fld (pg 0x3E (statusCount st)) 15 0 :=
    Block.fld_congr (s.getR_raise (quiet_statusCount st) _ _ _) 15 0
  have changed : s.onlyRaised ((s.raise 0x3E d f.addr.toNat).refusedRegs f st i) [0x3E]
      [pg 0x3E 0x44, pg 0x3E 0x48, pg 0x3E (statusCount st)] :=
    ((((s.onlyRaised_refl _ _).raise _ _ (by simp)).setR _ (by simp)).setR _ (by simp)).setR _ (by simp)
  exact ⟨(Block.refusedRegs_event _ f st i d).trans raised, before ▸ Block.refusedRegs_count _ f st i,
    Block.refusedRegs_status _ f h i, rfl, changed.withHost _⟩

/-! ### Frames as they arrive -/

theorem Block.portUp_of_ready {s : Block} (h : s.hostReady = true) : s.portUp = true ∧ (s.pwr.st == .hold) = false := by
  simpa [Block.hostReady] using h

theorem Block.powered_of_portUp {s : Block} (h : s.portUp = true) : s.powered = true := by
  rw [Block.portUp, Bool.and_eq_true] at h
  exact h.1

theorem Block.portUp_of_hold {s : Block} (h : s.pwr.st = .hold) : s.portUp = true := by simp [Block.portUp, Block.powered, h]

section
variable {f fifo} (x : State) (hup : x.block.portUp = true)
include hup

/-- A read row stands for its frame (R393). -/
theorem exec_readFrame (hcmd : f.cmd.toNat = if fifo then 7 else 3) :
    exec (if fifo then .readFifo f stuck else .read f stuck) x = .next { x with block := x.block.arrive.frameRead f fifo stuck } := by
  have hp := Block.powered_of_portUp hup
  have row : exec (if fifo then .readFifo f stuck else .read f stuck) x
      = .next (x.onBlock (fun b => b.act (fun b => b.frameIn (if fifo then 7 else 3) f stuck))) := by cases fifo <;> rfl
  refine next_of row ((x.block.act_of _ hp).trans ?_)
  have up : x.block.arrive.portUp = true := hup
  rw [Block.frameIn, up, if_neg (by decide), if_pos hcmd]
  cases fifo <;> rfl

theorem exec_writeFrame (hcmd : f.cmd.toNat = 2) :
    exec (.write f stuck) x = .next { x with block := x.block.arrive.frameWrite f false stuck } := by
  have hp := Block.powered_of_portUp hup
  refine next_of rfl ((x.block.act_of _ hp).trans ?_)
  have up : x.block.arrive.portUp = true := hup
  rw [Block.frameIn, up, if_neg (by decide), if_pos hcmd]
  rfl

end

/-- Settles O47: each frame by the status it brings. -/
theorem readFrames : Obligations.ReadFrames := by
  unfold Obligations.ReadFrames
  intro s f fifo stuck b c n zeros r refused
  have answered {u : Block} (hcmd : f.cmd.toNat = if fifo then 7 else 3) (hup : s.block.portUp = true)
      (hu : b.frameRead f fifo stuck = u) : exec c s = .next { s with block := u } := hu ▸ exec_readFrame stuck s hup hcmd
  have failed {st d i : Nat} (hcmd : f.cmd.toNat = if fifo then 7 else 3) (hup : s.block.portUp = true) (hd : d < 32) (h0 : st ≠ 0)
      (h : st < 256) (hu : b.frameRead f fifo stuck = (b.raise 0x3E d f.addr.toNat).frameDone f st i zeros) :
      refused st d (statusCount st) :=
    ⟨_, answered hcmd hup hu, rfl, Block.refused_row b f hd h0 h i zeros rfl⟩
  refine ⟨fun hcmd => ⟨fun hr hcrc hn hk => ?_, fun hr hcrc => ?_, fun hr hcrc hn hk => ?_, fun hh hcrc hn hk => ?_⟩,
    fun hcmd hh hcrc hn hm hw hk => ?_⟩
  · obtain ⟨up, run⟩ := Block.portUp_of_ready hr
    have done := answered hcmd up (Block.frameRead_ok (s := b) stuck run (Block.readCode_ok hcrc hn hk))
    refine ⟨done, fun h1 hstuck => ⟨_, done, rfl, ?_⟩⟩
    subst hstuck
    rw [show f.count.toNat = 1 from h1]
    exact readAnswer_one b f fifo
  · obtain ⟨up, run⟩ := Block.portUp_of_ready hr
    have done := Block.frameRead_crc (s := b) (fifo := fifo) stuck run (Block.readCode_crc hcrc)
    rw [Block.frameFail_crc] at done
    exact failed (st := 1) (d := 1) hcmd up (by decide) (by decide) (by decide) done
  · obtain ⟨up, run⟩ := Block.portUp_of_ready hr
    obtain ⟨i, done⟩ := Block.frameRead_badAddr (s := b) stuck run (Block.readCode_badAddr hcrc hn hk)
    rw [Block.frameFail_badAddr] at done
    exact failed (st := 4) (d := 3) hcmd up (by decide) (by decide) (by decide) done
  · refine answered hcmd (Block.portUp_of_hold hh) ?_
    rw [Block.frameRead_hold b f fifo stuck hh, Block.readCode_ok hcrc hn hk]
    rfl
  · refine (exec_writeFrame stuck s (Block.portUp_of_hold hh) hcmd).trans ?_
    rw [Block.frameWrite_hold s.block.arrive f false stuck hh, Block.writeCode_ok hcrc hn hm hw hk]
    rfl

end Sys2Proof.Machine
end

section
/-! SUPPORT. The pick strobe (R32, R34): what it moves before the actions of the pick that begins: the engines' busy time, time itself,
the clock readings of PQ, and the modulators' counts with the injected holds that end. -/

namespace Sys2Proof.Machine

variable (s : Block)

/-- Busy time moves the engines alone (R195). -/
theorem Block.engBusy_eq (e upto : Nat) : ∃ l, s.engBusy e upto = { s with engines := l } := by
  unfold Block.engBusy
  dsimp only
  split <;> exact ⟨_, rfl⟩

/-- So does the busy time of every engine up to the strobe. -/
theorem Block.enginesBusy_eq : ∃ l, s.enginesBusy = { s with engines := l } := by
  refine List.foldlRecOn (motive := fun t : Block => ∃ l, t = { s with engines := l }) _ _ ⟨_, rfl⟩ fun t ht e _ => ?_
  obtain ⟨l, rfl⟩ := ht
  exact Block.engBusy_eq _ e _

/-- The clock readings noted at a strobe move PQ alone (R234). -/
theorem Block.pqStrobe_eq : ∃ q, s.pqStrobe = { s with pq := q } := by
  unfold Block.pqStrobe
  dsimp only
  repeat' split
  all_goals exact ⟨_, rfl⟩

/-- Nothing differs but modulators and registers. -/
def Block.onlyModsRegs (s t : Block) : Prop := t = { s with mods := t.mods, regs := t.regs }

namespace Block.onlyModsRegs

variable {s} {t u : Block}

theorem trans (h : s.onlyModsRegs t) (k : t.onlyModsRegs u) : s.onlyModsRegs u := by
  unfold Block.onlyModsRegs at *
  rw [h] at k
  exact k

theorem setF (h : s.onlyModsRegs t) (a hi lo v : Nat) : s.onlyModsRegs (t.setF a hi lo v) := h.trans rfl

theorem modMod (h : s.onlyModsRegs t) (m : Nat) (f : Modulator → Modulator) : s.onlyModsRegs (t.modMod m f) := h.trans rfl

theorem chStat (h : s.onlyModsRegs t) (n : Nat) : s.onlyModsRegs (t.chStat n) :=
  ((((((h.setF _ _ _ _).setF _ _ _ _).setF _ _ _ _).setF _ _ _ _).setF _ _ _ _).setF _ _ _ _).setF _ _ _ _

theorem statOf (h : s.onlyModsRegs t) (m : Nat) : s.onlyModsRegs (t.statOf m) := by
  unfold Block.statOf
  split
  · exact h.chStat _
  · exact h

/-- A release, with the mark and the display that follow it (R81). -/
theorem overloadRelease (h : s.onlyModsRegs t) (m : Nat) : s.onlyModsRegs (t.overloadRelease m) := by
  unfold Block.overloadRelease
  split
  · exact h
  · exact (((h.modMod _ _).setF _ _ _ _).trans (Block.onlyMarks_remark _ m).1).statOf m

end Block.onlyModsRegs

theorem Block.onlyModsRegs_tickMods : s.onlyModsRegs s.tickMods := by
  refine List.foldlRecOn (motive := s.onlyModsRegs) _ _ rfl fun t ht m _ => ?_
  dsimp only
  split
  · exact ht.overloadRelease m
  · exact ht

/-- What holds of a modulator at rest and of every modulator of the block holds of the one that any number names. -/
theorem Block.mod_of_forall {P : Modulator → Prop} (hr : P Modulator.reset) (h : ∀ d ∈ s.mods, P d) (m : Nat) : P (s.mod m) := by
  rw [Block.mod, nth, List.getD_eq_getElem?_getD]
  cases hd : s.mods[m]? with
  | none => exact hr
  | some d => exact h d (List.mem_of_getElem? hd)

/-- No injected hold of the modulator waits for its end (R99). -/
def Modulator.unheld (d : Modulator) : Prop := d.ovlInjHold = 0 ∨ d.ovlInj = false

/-- Where no modulator is in an injected hold, none is released: the counts alone run on (R99). -/
theorem Block.tickMods_of_noHold (h : ∀ d ∈ s.mods, d.unheld) :
    s.tickMods = s.modAll Modulator.tick := by
  have free (m : Nat) : ((s.modAll Modulator.tick).mod m).unheld := by
    refine Block.mod_of_forall _ (P := Modulator.unheld) (.inl rfl) (fun d hd => ?_) m
    obtain ⟨c, hc, rfl⟩ := List.mem_map.1 hd
    exact h c hc
  refine List.foldlRecOn (motive := fun t : Block => t = s.modAll Modulator.tick) _ _ rfl fun t ht m _ => ?_
  rw [ht]
  refine if_neg fun held => ?_
  rcases free m with f | f <;> simp [f] at held

theorem Block.tickMods_regs (h : ∀ d ∈ s.mods, d.unheld) : s.tickMods.regs = s.regs := by
  rw [s.tickMods_of_noHold h, Block.modAll_regs]

/-- The coming pick is at least one clock period long (R11). -/
theorem Block.one_le_pickLen_tickTime : 1 ≤ s.tickTime.time.pickLen := Nat.le_max_left _ _

/-- A strobe before the actions of its pick moves time as the tick does, and the states of the engines, PQ and the modulators; registers
only where an injected hold ends. -/
theorem Block.strobeBegin_eq : ∃ l q ms rs,
    s.strobeBegin = { s with time := s.tickTime.time, engines := l, pq := q, mods := ms, regs := rs }
      ∧ ((∀ d ∈ s.mods, d.unheld) → rs = s.regs) := by
  obtain ⟨l, busy⟩ := s.enginesBusy_eq
  have ticked : ({ s with engines := l } : Block).tickTime = { s with time := s.tickTime.time, engines := l } := rfl
  obtain ⟨q, noted⟩ := Block.pqStrobe_eq { s with time := s.tickTime.time, engines := l }
  unfold Block.strobeBegin
  rw [busy, ticked, noted]
  dsimp only
  split
  · exact ⟨l, q, _, _, Block.onlyModsRegs_tickMods _, fun h => Block.tickMods_regs _ h⟩
  · exact ⟨l, q, s.mods, s.regs, rfl, fun _ => rfl⟩

/-- Settles O16: the row is the strobe, and the block it begins with has the time of the tick. -/
theorem strobeAdvancesTime : Obligations.StrobeAdvancesTime := by
  unfold Obligations.StrobeAdvancesTime
  intro s x u
  have row : exec (.pickStrobe x) s = .next (s.onBlock (fun b => b.strobe x)) := rfl
  obtain ⟨l, q, ms, rs, begun, kept⟩ := s.block.strobeBegin_eq
  refine ⟨fun h => next_of row (if_pos h), fun h => next_of row (if_neg (by simp [h])), ?_⟩
  rw [show u = s.block.strobeBegin from rfl, begun]
  exact ⟨rfl, rfl, rfl, rfl, rfl, s.block.one_le_pickLen_tickTime, rfl, rfl, rfl, rfl, kept⟩

end Sys2Proof.Machine
end

section
/-! SUPPORT. LATCH_CMD (R654): what its word asks of the node, and what it reads. -/

namespace Sys2Proof.Machine

variable (s : Block)

/-- A node that follows no lead makes a command latch wait (R53). -/
theorem Block.latchCmd_of_alone (h : s.following = false) : s.latchCmd = s.modWarp (fun w => { w with cmdLatch := true }) := by
  rw [Block.latchCmd, Block.askLatch, h]; rfl

/-- A follower makes a LATCH_REQ wait, a billing one where that waits already (R581). -/
theorem Block.latchCmd_of_following (h : s.following = true) :
    s.latchCmd = (s.modJoin (fun j => { j with req := some ((j.req.map (·.1)).getD false, none) })).showJoin := by
  rw [Block.latchCmd, Block.askLatch, if_pos h]; rfl

/-- Nothing reads back of LATCH_CMD. -/
theorem Block.regView_latchCmd : s.regView 5 0x54 = 0 := by
  have row : RegTable.row 5 0x54 = some ⟨0x54, 1, 4, .wo, 0, 0⟩ := rfl
  unfold Block.regView
  rw [if_neg (by decide), row]; rfl

/-- LATCH_CMD_WRITE is the word's command where the host's words reach the registers. -/
theorem Block.toReg_latchCmd (v : Word) (h : s.hostReady = true) :
    s.toReg 5 0x54 v = if v.bit 0 then s.arrive.nextFrame.latchCmd else s.arrive.nextFrame := by
  rw [Block.toReg_of s 5 0x54 v h (by decide) (by decide) (by decide) (by decide)]
  exact Block.regWriteTo_cmd _ 5 0x54 v _ (by decide) rfl

/-- Settles O19: the word's command, by its bit and the node's place. -/
theorem latchCommand : Obligations.LatchCommand := by
  unfold Obligations.LatchCommand
  intro s v ready
  have write := s.block.toReg_latchCmd v ready
  refine ⟨fun hv alone => ?_, fun hv follows => ?_, fun hv => ?_, s.block.regView_latchCmd⟩
  · exact next_of rfl (write.trans ((if_pos hv).trans (Block.latchCmd_of_alone _ alone)))
  · exact leads_of rfl (write.trans ((if_pos hv).trans (Block.latchCmd_of_following _ follows))) ⟨rfl, rfl⟩
  · exact next_of rfl (write.trans (if_neg (by simp [hv])))

end Sys2Proof.Machine
end

section
/-! SUPPORT. Happenings on the pins (R81 to R90, R97): the channel's display, marks formed again on a channel's pins, and what either
leaves as it was. -/

namespace Sys2Proof.Machine

variable (s : Block)

/-! ### Registers alone -/

theorem Block.onlyRegs_refl (as : List Nat) : s.onlyRegs s as := ⟨rfl, fun _ _ => rfl⟩

theorem Block.onlyRegs.setR {s t : Block} {as : List Nat} (h : s.onlyRegs t as) {a : Nat} (v : Word) (ha : a ∈ as) :
    s.onlyRegs (t.setR a v) as :=
  h.trans ((t.onlyRegs_setR a v).mono (by simpa using ha))

theorem Block.onlyRegs.onlyRaised {s t : Block} {as : List Nat} (h : s.onlyRegs t as) (ps : List Nat) : s.onlyRaised t ps as := by
  obtain ⟨same, regs⟩ := h
  refine ⟨?_, fun a ha _ => regs a ha⟩
  rw [same]

theorem Block.onlyRegs.getR {s t : Block} {as : List Nat} (h : s.onlyRegs t as) {a : Nat} (ha : a ∉ as) : t.getR a = s.getR a := h.2 a ha

theorem Block.onlyRegs.mods {s t : Block} {as : List Nat} (h : s.onlyRegs t as) : t.mods = s.mods := by rw [h.1]

/-! ### CH_STAT (R97) -/

/-- The display of a channel writes its CH_STAT alone. -/
theorem Block.onlyRegs_chStat (n : Nat) : s.onlyRegs (s.chStat n) [pg (chPage n) 0x4C] :=
  have own := List.mem_singleton_self (pg (chPage n) 0x4C)
  (((((((s.onlyRegs_refl _).setR _ own).setR _ own).setR _ own).setR _ own).setR _ own).setR _ own).setR _ own

@[simp] theorem Block.chStat_mods (n : Nat) : (s.chStat n).mods = s.mods := (s.onlyRegs_chStat n).mods
@[simp] theorem Block.chStat_mod (n m : Nat) : (s.chStat n).mod m = s.mod m := by rw [Block.mod, s.chStat_mods]; rfl

theorem Block.getR_chStat_ne {n a : Nat} (h : a ≠ pg (chPage n) 0x4C) : (s.chStat n).getR a = s.getR a :=
  (s.onlyRegs_chStat n).getR (by simpa using h)

/-- Bit 4 shows the channel's common-mode fault. -/
theorem Block.rbit_chStat_commonMode (n : Nat) : (s.chStat n).rbit (pg (chPage n) 0x4C) 4 = (s.mod n).cmFault := by
  unfold Block.chStat
  dsimp only
  rw [Block.rbit_setB_ne _ _ _ _ _ (by decide), Block.rbit_setB_ne _ _ _ _ _ (by decide), Block.rbit_setB_ne _ _ _ _ _ (by decide)]
  exact Block.rbit_setB_same _ _ _ _ (by decide)

/-- Bit 2 shows that its clamp current is over the rating. -/
theorem Block.rbit_chStat_overdrive (n : Nat) : (s.chStat n).rbit (pg (chPage n) 0x4C) 2 = (s.mod n).injOver := by
  unfold Block.chStat
  dsimp only
  rw [Block.rbit_setB_ne _ _ _ _ _ (by decide)]
  exact Block.rbit_setB_same _ _ _ _ (by decide)

/-- Pages of channels lie apart from one another and from ACQ's. -/
theorem pg_chPage_ne {k n o o' : Nat} (h : k ≠ n) (ho : o < 0x400) (ho' : o' < 0x400) : pg (chPage k) o ≠ pg (chPage n) o' := by
  unfold pg chPage; omega

theorem pg_chPage_ne_acq {n o o' : Nat} (ho' : o' < 0x400) : pg 6 o' ≠ pg (chPage n) o := by
  unfold pg chPage; omega

/-! ### Modulators listed, and words of this pick -/

theorem Block.mod_of_le {m : Nat} (h : s.mods.length ≤ m) : s.mod m = Modulator.reset := by
  simp [Block.mod, nth, List.getD, List.getElem?_eq_none h]

/-- A modulator that is not at rest is listed. -/
theorem Block.lt_of_mod_ne {m : Nat} (h : s.mod m ≠ Modulator.reset) : m < s.mods.length :=
  Nat.lt_of_not_le fun hm => h (s.mod_of_le hm)

/-- One changed in a block that does not list it stays at rest. -/
theorem Block.mod_modMod_out {m : Nat} (f : Modulator → Modulator) (h : s.mods.length ≤ m) : (s.modMod m f).mod m = Modulator.reset :=
  Block.mod_of_le _ (by simpa [modNth] using h)

/-- The word of this pick depends on the modulator's chain and on the pick alone. -/
theorem Block.markNow_congr {s t : Block} {m : Nat} (hl : (t.mod m).line = (s.mod m).line) (hp : t.absPick = s.absPick) :
    t.markNow m = s.markNow m := by
  rw [Block.markNow, Block.markNow, hl, hp]

/-- A field that a change of one modulator keeps reads as before on every modulator. -/
theorem Block.field_modMod {α : Type} (g : Modulator → α) (n m : Nat) {f : Modulator → Modulator} (h : ∀ d, g (f d) = g d) :
    g ((s.modMod n f).mod m) = g (s.mod m) := by
  by_cases hm : m = n
  · subst hm
    by_cases hl : m < s.mods.length
    · rw [Block.mod_modMod_same _ _ hl, h]
    · rw [s.mod_modMod_out f (Nat.not_lt.1 hl), s.mod_of_le (Nat.not_lt.1 hl)]
  · rw [Block.mod_modMod_ne _ _ hm]

theorem Block.markNow_modMod (n m : Nat) {f : Modulator → Modulator} (h : ∀ d, (f d).line = d.line) :
    (s.modMod n f).markNow m = s.markNow m :=
  Block.markNow_congr (s.field_modMod Modulator.line n m h) rfl

theorem Block.onlyRegs.markNow {s t : Block} {as : List Nat} (h : s.onlyRegs t as) (m : Nat) : t.markNow m = s.markNow m := by
  rw [h.1]; rfl

theorem Block.markNow_raiseX (p d x : Nat) (e i : Bool) (m : Nat) : (s.raiseX p d x e i).markNow m = s.markNow m :=
  Block.markNow_congr (by rw [Block.mod, Block.raiseX_mods]; rfl) (by rw [Block.absPick, Block.raiseX_time]; rfl)

theorem Block.markNow_raise (p d x m : Nat) : (s.raise p d x).markNow m = s.markNow m := s.markNow_raiseX p d x false false m

/-! ### Causes in force -/

/-- A mark behind which some cause stands has one. -/
theorem Block.topCause_of_mem {m c : Nat} (h : c ∈ s.causes m) : topCause (s.causes m) ≠ 0 :=
  topCause_ne_zero (s.causes_ne_zero m) (List.ne_nil_of_mem h)

theorem Block.two_mem_causes_of_held {m : Nat} (h : (s.mod m).ovlHeld.isSome = true) : 2 ∈ s.causes m := by
  simp [Block.causes, h]

theorem Block.two_mem_causes_of_commonMode {m n : Nat} (hp : s.pinsOf m = some n) (h : (s.mod n).cmFault = true) :
    2 ∈ s.causes m := by
  simp [Block.causes, hp, h]

theorem Block.five_mem_causes {m n : Nat} (hp : s.pinsOf m = some n) (h : (s.mod n).nbrNow = true) : 5 ∈ s.causes m := by
  simp [Block.causes, hp, h]

theorem Block.pinsOf_of_mem {m n : Nat} (h : m ∈ s.modsOn n) : s.pinsOf m = some n := by
  simpa using (List.mem_filter.1 h).2

theorem Block.mem_modsOn {m n : Nat} (hm : m < 17) (h : s.pinsOf m = some n) : m ∈ s.modsOn n :=
  List.mem_filter.2 ⟨List.mem_range.2 hm, by simp [h]⟩

/-- The channel whose pins a modulator with a word is on has a modulator of its own. -/
theorem Block.lt_of_pinsOf {m n : Nat} {k : WordMark} (hn : n < 16) (hp : s.pinsOf m = some n) (hk : s.markNow m = some k) :
    n < s.mods.length := by
  have hm := s.lt_of_markNow hk
  rw [Block.pinsOf] at hp
  split at hp
  case isTrue =>
    split at hp
    · cases hp
    · cases hp; exact hm
  case isFalse h => omega

/-! ### Marks formed again on a channel's pins (R84) -/

theorem Block.onlyMarks.noMarks {s t : Block} (h : s.onlyMarks t) : t.mods.map Modulator.noMarks = s.mods.map Modulator.noMarks := h.2.1

theorem Block.onlyMarks.getR {s t : Block} (h : s.onlyMarks t) {a : Nat} (ha : a ≠ pg 6 0x54) : t.getR a = s.getR a := h.2.2 a ha

/-- Of each modulator the words in its chain alone differ. -/
theorem Block.onlyMarks.mod {s t : Block} (h : s.onlyMarks t) (m : Nat) : t.mod m = { s.mod m with line := (t.mod m).line } :=
  congrArg (fun d : Modulator => { d with line := (t.mod m).line }) (Block.mod_noMarks h.noMarks m)

theorem Block.onlyMarks_remarks (l : List Nat) : s.onlyMarks (forEach l (fun m b => b.remark m) s) := by
  refine List.foldlRecOn (motive := s.onlyMarks) _ _ (.refl s) fun t ht m _ => ?_
  exact ht.trans (t.onlyMarks_remark m)

theorem Block.onlyMarks_remarkOn (n : Nat) : s.onlyMarks (s.remarkOn n) := s.onlyMarks_remarks _

/-- The word of a modulator on the channel's pins carries the causes in force. -/
theorem Block.markNow_remarkOn {m n : Nat} (hm : m ∈ s.modsOn n) {k : WordMark} (h : s.markNow m = some k) :
    ∃ w, (s.remarkOn n).markNow m = some w ∧ w.cause = topCause (s.causes m) :=
  s.markNow_remarks _ h (.inl hm)

/-- That of any other stays as it was. -/
theorem Block.markNow_remarkOn_out {m n : Nat} (hm : m ∉ s.modsOn n) : (s.remarkOn n).markNow m = s.markNow m := by
  refine List.foldlRecOn (motive := fun t : Block => t.markNow m = s.markNow m) _ _ rfl fun t ht j hj => ?_
  exact (t.markNow_remark_ne (by rintro rfl; exact hm hj)).trans ht

/-! ### The reach of a happening -/

/-- Nothing differs but modulators, and registers of the list. -/
def Block.onlyPins (s t : Block) (as : List Nat) : Prop := ({ s with mods := t.mods }).onlyRegs t as

theorem Block.onlyPins_refl (as : List Nat) : s.onlyPins s as := ⟨rfl, fun _ _ => rfl⟩

namespace Block.onlyPins

variable {s} {t u : Block} {as : List Nat}

theorem getR (h : s.onlyPins t as) {a : Nat} (ha : a ∉ as) : t.getR a = s.getR a := h.2 a ha

theorem onlyModsRegs (h : s.onlyPins t as) : s.onlyModsRegs t := h.1

theorem trans (h : s.onlyPins t as) (k : t.onlyPins u as) : s.onlyPins u as :=
  ⟨h.onlyModsRegs.trans k.onlyModsRegs, fun _ ha => (k.getR ha).trans (h.getR ha)⟩

theorem modMod (h : s.onlyPins t as) (m : Nat) (f : Modulator → Modulator) : s.onlyPins (t.modMod m f) as :=
  h.trans ⟨rfl, fun _ _ => rfl⟩

theorem modAll (h : s.onlyPins t as) (f : Modulator → Modulator) : s.onlyPins (t.modAll f) as :=
  h.trans ⟨rfl, fun _ _ => rfl⟩

theorem setR (h : s.onlyPins t as) {a : Nat} (v : Word) (ha : a ∈ as) : s.onlyPins (t.setR a v) as :=
  h.trans ⟨rfl, fun _ hb => t.getR_setR_ne v (by rintro rfl; exact hb ha)⟩

theorem marks (h : s.onlyPins t as) (k : t.onlyMarks u) (ha : pg 6 0x54 ∈ as) : s.onlyPins u as :=
  h.trans ⟨k.1, fun _ hb => k.getR (by rintro rfl; exact hb ha)⟩

theorem regs (h : s.onlyPins t as) {bs : List Nat} (k : t.onlyRegs u bs) (hb : ∀ a ∈ bs, a ∈ as) : s.onlyPins u as := by
  refine h.trans ?_
  rw [Block.onlyPins, k.mods]
  exact k.mono hb

theorem chStat (h : s.onlyPins t as) {n : Nat} (ha : pg (chPage n) 0x4C ∈ as) : s.onlyPins (t.chStat n) as :=
  h.regs (t.onlyRegs_chStat n) (by simpa using ha)

/-- The happening reported by its page. -/
theorem raise (h : s.onlyPins t as) (p d x : Nat) :
    ({ s with mods := (t.raise p d x).mods }).onlyRaised (t.raise p d x) [p] as := by
  rw [t.raise_mods]
  exact (h.onlyRaised [p]).raise d x (List.mem_singleton_self p)

end Block.onlyPins

end Sys2Proof.Machine
end

section
/-! SUPPORT. The reference and AVDD, lost and back (R90, R94). -/

namespace Sys2Proof.Machine

variable (s : Block) {w : Nat}

/-- A supply lost, before its marks and its report: shown, every modulator under the fault. -/
def Block.refMarked (s : Block) (w : Nat) : Block :=
  (s.setB (pg 6 0x5C) w false).modAll (fun d => { d with refFault := true, refInjLeft := 0 })

theorem Block.refLost_of (h : s.rbit (pg 6 0x5C) w = true) : s.refLost w = ((s.refMarked w).remarkAll).raise 6 (w + 1) 0 := by
  rw [Block.refLost, if_neg (by simp [h])]; rfl

theorem Block.refMarked_mod {m : Nat} (hm : m < s.mods.length) :
    (s.refMarked w).mod m = { s.mod m with refFault := true, refInjLeft := 0 } := by
  rw [Block.mod_eq_of_lt _ hm, Block.mod_eq_of_lt _ (by simpa [Block.refMarked] using hm)]
  simp [Block.refMarked]

theorem Block.refMarked_markNow {m : Nat} {k : WordMark} (h : s.markNow m = some k) : (s.refMarked w).markNow m = some k :=
  (Block.markNow_congr (s := s) (t := s.refMarked w) (by rw [s.refMarked_mod (s.lt_of_markNow h)]) rfl).trans h

theorem Block.onlyPins_refMarked : s.onlyPins (s.refMarked w) [pg 6 0x5C, pg 6 0x54] :=
  ((s.onlyPins_refl _).setR _ (by decide)).modAll _

theorem Block.refLost_row (hw : w < 2) (h : s.rbit (pg 6 0x5C) w = true) :
    (s.refLost w).rbit (pg 6 0x5C) w = false
      ∧ (s.refLost w).mods.map Modulator.noMarks = s.mods.map (fun d => { d with refFault := true, refInjLeft := 0, line := [] })
      ∧ (∀ m < 17, ∀ k, s.markNow m = some k → ∃ x, (s.refLost w).markNow m = some x ∧ x.cause ≠ 0)
      ∧ (s.refLost w).rbit (pg 6 0x0C) (w + 1) = true
      ∧ ({ s with mods := (s.refLost w).mods }).onlyRaised (s.refLost w) [6] [pg 6 0x5C, pg 6 0x54] := by
  rw [s.refLost_of h]
  have marks := (s.refMarked w).onlyMarks_remarkAll
  have reach := s.onlyPins_refMarked.marks marks (by decide)
  refine ⟨?_, ?_, fun m hm k hk => ?_, Block.raise_event _ 6 (w + 1) 0 (by omega), reach.raise 6 (w + 1) 0⟩
  · rw [Block.rbit_congr (Block.getR_raise _ (by unfold quietReg; decide) _ _ _), Block.rbit_congr (marks.getR (by decide))]
    exact s.rbit_setB_same (pg 6 0x5C) w false (by omega)
  · rw [Block.raise_mods, marks.noMarks, Block.refMarked, Block.modAll_mods, List.map_map]; rfl
  · obtain ⟨x, hx, hc⟩ := Block.markNow_remarkAll _ hm (s.refMarked_markNow (w := w) hk)
    refine ⟨x, ?_, hc ▸ Block.topCause_of_refFault _ ?_⟩
    · exact (Block.markNow_raise _ _ _ _ _).trans hx
    · rw [s.refMarked_mod (s.lt_of_markNow hk)]

/-- A supply back, shown, before any settling. -/
def Block.refShown (s : Block) (w : Nat) : Block := s.setB (pg 6 0x5C) w true

/-- A supply back and everything good: the faults off, each modulator settles (R90). -/
theorem Block.refBack_of (h : s.rbit (pg 6 0x5C) w = false) :
    s.refBack w = if (s.refShown w).rbit (pg 6 0x5C) (1 - w) && (s.refShown w).rbit (pg 3 0x40) 1
      then ((s.refShown w).modAll (fun d => { d with refFault := false })).settleFirst id 17 else s.refShown w := by
  have unchanged (t : Block) (m : Nat) : t.modMod m id = t := by rw [Block.modMod, modNth, List.modify_id]
  simp only [Block.refBack, h, Block.settleFirst, unchanged]
  rfl

theorem Block.refShown_good (hw : w < 2) :
    ((s.refShown w).rbit (pg 6 0x5C) (1 - w) && (s.refShown w).rbit (pg 3 0x40) 1)
      = (s.rbit (pg 6 0x5C) (1 - w) && s.rbit (pg 3 0x40) 1) := by
  rw [Block.refShown, s.rbit_setB_ne _ _ _ _ (by omega), Block.rbit_congr (s.getR_setB_ne (by decide) _ _)]

theorem Block.refBack_row (hw : w < 2) (h : s.rbit (pg 6 0x5C) w = false) :
    (s.refBack w).rbit (pg 6 0x5C) w = true
      ∧ (s.rbit (pg 6 0x5C) (1 - w) = true → s.rbit (pg 3 0x40) 1 = true → ∀ m < 17, ∀ d, s.mods[m]? = some d →
          ∃ e, (s.refBack w).mods[m]? = some e ∧ e.refFault = false ∧ e.settleLeft = s.settleCount m ∧ e.settleOwed = true)
      ∧ (s.rbit (pg 6 0x5C) (1 - w) = false ∨ s.rbit (pg 3 0x40) 1 = false → (s.refBack w).mods = s.mods) := by
  have shown : (s.refShown w).rbit (pg 6 0x5C) w = true := s.rbit_setB_same _ _ _ (by omega)
  rw [s.refBack_of h, s.refShown_good hw]
  split
  case isTrue good =>
    obtain ⟨other, lock⟩ := by simpa using good
    have keeps := Block.onlySettle_settleFirst ((s.refShown w).modAll (fun d => { d with refFault := false })) id 17
    refine ⟨(Block.rbit_congr (keeps.2 _ (by decide)) w).trans shown, fun _ _ m hm d hd => ?_, fun bad => by simp [other, lock] at bad⟩
    refine ⟨_, Block.settleFirst_some _ id hm (d := { d with refFault := false }) (by simp [Block.refShown, hd]), rfl, ?_, rfl⟩
    exact Block.settleCount_congr (s := s) (t := (s.refShown w).modAll _) rfl rfl
      (fun a ha => s.getR_setB_ne (a := pg 6 0x5C) (b := a) (by unfold pg; omega) w true) m
  case isFalse bad => exact ⟨shown, fun other lock => by simp [other, lock] at bad, fun _ => rfl⟩

/-- Settles O25: one lemma for a loss and one for a return, of the supply that the row names. -/
theorem referenceRows : Obligations.ReferenceRows := by
  unfold Obligations.ReferenceRows
  intro s w c d hp row
  have at_ (f : Block → Block) : s.block.act f = f s.block.arrive := s.block.act_of f hp
  obtain ⟨hw, lost, back⟩ : w < 2 ∧ exec c s = .next (s.onBlock (fun b => b.act (fun b => b.refLost w)))
      ∧ exec d s = .next (s.onBlock (fun b => b.act (fun b => b.refBack w))) := by
    obtain ⟨rfl, rfl, rfl⟩ | ⟨rfl, rfl, rfl⟩ := row
    · exact ⟨by decide, rfl, rfl⟩
    · exact ⟨by decide, rfl, rfl⟩
  exact ⟨fun h => leads_of lost (at_ _) (s.block.arrive.refLost_row hw h),
    fun h => leads_of back (at_ _) (s.block.arrive.refBack_row hw h)⟩

end Sys2Proof.Machine
end

section
/-! SUPPORT. PEAK_CLR and the coefficient window (R98, R108, R127). -/

namespace Sys2Proof

/-- A field whose bits were all taken from a word reads as in that word. -/
theorem Word.bits_withBits_within (w v : Word) {hi lo hi' lo' : Nat} (hl : lo ≤ lo') (hm : lo' ≤ hi') (hh : hi' ≤ hi) (h : hi < 32) :
    (w.withBits hi lo (v.bits hi lo)).bits hi' lo' = v.bits hi' lo' := by
  refine Word.bits_eq_of _ _ _ _ (fun k hk hk' => ?_) hm
  have inside : k - lo < hi + 1 - lo := by omega
  have place : lo + (k - lo) = k := by omega
  rw [Word.withBits_getLsbD _ _ _ _ _ (by omega), if_pos (by omega)]
  simp [Word.bits, Nat.testBit_mod_two_pow, Nat.testBit_shiftRight, inside, place, BitVec.getLsbD]

namespace Machine

variable (s : Block)

/-! ### A host's read -/

/-- A word a host row reads from a register: the effect of the read. -/
theorem Block.fromReg_of (p o : Nat) (h : s.hostReady = true) (hp : p < 64) (ho : o < 0x400) :
    s.fromReg p o = s.arrive.regReadEffect p o := by
  have up : s.arrive.portUp = true ∧ (s.arrive.pwr.st == .hold) = false := Block.portUp_of_ready (s := s.arrive) h
  have low : pg p o < 0x10000 := by unfold pg; omega
  have page : pg p o / 0x400 = p := by unfold pg; omega
  have ofs : pg p o % 0x400 = o := by unfold pg; omega
  rw [Block.fromReg, Block.hostDo_of _ _ _ h rfl, Block.rowRead, up.1, up.2, Block.hostRead, if_pos low, page, ofs]
  rfl

/-! ### The coefficient window (R127) -/

theorem Block.onlyRegs_loadCoef : s.onlyRegs s.loadCoef [pg 0x18 0xDC] := s.onlyRegs_setR _ _

theorem Block.onlyRegs_loadCrc : s.onlyRegs s.loadCrc [pg 0x18 0xE0] := by
  unfold Block.loadCrc
  split
  · exact s.onlyRegs_setR _ _
  · exact s.onlyRegs_refl _

/-- INDEX steps, COEF_DATA follows. -/
theorem Block.onlyRegs_nextCoef : s.onlyRegs s.nextCoef [pg 0x18 0xD8, pg 0x18 0xDC] := by
  have step := (s.onlyRegs_refl [pg 0x18 0xD8, pg 0x18 0xDC]).setR (a := pg 0x18 0xD8)
    ((s.getR (pg 0x18 0xD8)).withBits 6 0 (if 95 ≤ s.fld (pg 0x18 0xD8) 6 0 then 0 else s.fld (pg 0x18 0xD8) 6 0 + 1)) (by decide)
  unfold Block.nextCoef
  dsimp only
  split
  · exact step.trans ((Block.onlyRegs_loadCoef _).mono (by decide))
  · exact step

theorem Block.onlyRegs.flt {s t : Block} {as : List Nat} (h : s.onlyRegs t as) : t.flt = s.flt := by rw [h.1]

/-- The step of INDEX: one on, from 95 to 0. -/
theorem Block.fld_nextCoef : s.nextCoef.fld (pg 0x18 0xD8) 6 0
    = if 95 ≤ s.fld (pg 0x18 0xD8) 6 0 then 0 else s.fld (pg 0x18 0xD8) 6 0 + 1 := by
  have stepped : s.nextCoef.fld (pg 0x18 0xD8) 6 0
      = (s.setF (pg 0x18 0xD8) 6 0 (if 95 ≤ s.fld (pg 0x18 0xD8) 6 0 then 0 else s.fld (pg 0x18 0xD8) 6 0 + 1)).fld
          (pg 0x18 0xD8) 6 0 := by
    unfold Block.nextCoef
    dsimp only
    split
    · exact Block.fld_congr ((Block.onlyRegs_loadCoef _).getR (by decide)) 6 0
    · rfl
  rw [stepped, Block.fld_setF_same _ _ _ _ _ (by decide) (by decide)]
  split <;> omega

/-- COEF_ADDR takes PROFILE, BANK and INDEX; both words of the window follow. -/
theorem Block.coefAddr_of {v : Word} (h : v.bits 6 0 ≤ 95) :
    s.coefAddr v = (((s.modFlt (fun f => { f with addrSet := true })).setF (pg 0x18 0xD8) 9 0 (v.bits 9 0)).loadCoef).loadCrc := by
  rw [Block.coefAddr, if_neg (by omega)]; rfl

theorem Block.coefAddr_row {v : Word} (h : v.bits 6 0 ≤ 95) :
    (s.coefAddr v).fld (pg 0x18 0xD8) 9 0 = v.bits 9 0 ∧ (s.coefAddr v).flt.coefs = s.flt.coefs
      ∧ (s.coefAddr v).getR (pg 0x18 0xDC) = BitVec.ofNat 32 (unsignedOf 32 (s.coef (v.bits 9 8) (v.bits 7 7) (v.bits 6 0)))
      ∧ ({ s with flt := (s.coefAddr v).flt }).onlyRegs (s.coefAddr v) [pg 0x18 0xD8, pg 0x18 0xDC, pg 0x18 0xE0] := by
  rw [s.coefAddr_of h]
  generalize hu : (s.modFlt (fun f => { f with addrSet := true })).setF (pg 0x18 0xD8) 9 0 (v.bits 9 0) = u
  have field (hi lo : Nat) (hm : lo ≤ hi) (hh : hi ≤ 9) : u.fld (pg 0x18 0xD8) hi lo = v.bits hi lo := by
    rw [← hu, Block.fld, Block.getR_setF_same]
    exact Word.bits_withBits_within _ v (Nat.zero_le _) hm hh (by decide)
  have data := u.onlyRegs_loadCoef
  have crc := u.loadCoef.onlyRegs_loadCrc
  have flt : u.loadCoef.loadCrc.flt = { s.flt with addrSet := true } := by rw [crc.flt, data.flt, ← hu]; rfl
  have shown : u.loadCoef.getR (pg 0x18 0xDC) = BitVec.ofNat 32 (unsignedOf 32 (s.coef (v.bits 9 8) (v.bits 7 7) (v.bits 6 0))) := by
    rw [Block.loadCoef, Block.getR_setN_same, Block.coefAt, field 9 8 (by decide) (by decide), field 7 7 (by decide) (by decide),
      field 6 0 (by decide) (by decide), ← hu]
    rfl
  refine ⟨?_, by rw [flt], (crc.getR (by decide)).trans shown, ?_⟩
  · rw [Block.fld_congr (crc.getR (by decide)), Block.fld_congr (data.getR (by decide)), field 9 0 (by decide) (by decide)]
  · rw [flt]
    have base : ({ s with flt := { s.flt with addrSet := true } }).onlyRegs u [pg 0x18 0xD8, pg 0x18 0xDC, pg 0x18 0xE0] :=
      hu ▸ (Block.onlyRegs_refl _ _).setR _ (by decide)
    exact (base.trans (data.mono (by decide))).trans (crc.mono (by decide))

theorem Block.coefAddr_refused {v : Word} (h : 95 < v.bits 6 0) :
    (s.coefAddr v).rbit (pg 0x18 0x0C) 3 = true ∧ s.onlyRaised (s.coefAddr v) [0x18] [] := by
  rw [Block.coefAddr, if_pos h]
  exact ⟨Block.raise_event _ 0x18 3 0 (by decide), s.onlyRaised_raise 0x18 3 0⟩

/-- A coefficient stored. -/
def Block.coefStored (s : Block) (v : Word) : Block :=
  s.modFlt (fun f =>
    { f with coefs := Sparse.put ((2 * s.coefAt.1 + s.coefAt.2.1) * 96 + s.coefAt.2.2) (signedOf 18 (v.bits 17 0)) f.coefs })

theorem Block.coefWrite_row {v : Word} (h : s.bankBusy s.coefAt.1 s.coefAt.2.1 = false) :
    (s.coefWrite v).flt.coefs
        = Sparse.put ((2 * s.coefAt.1 + s.coefAt.2.1) * 96 + s.coefAt.2.2) (signedOf 18 (v.bits 17 0)) s.flt.coefs
      ∧ (s.coefWrite v).fld (pg 0x18 0xD8) 6 0
        = (if 95 ≤ s.fld (pg 0x18 0xD8) 6 0 then 0 else s.fld (pg 0x18 0xD8) 6 0 + 1)
      ∧ ({ s with flt := (s.coefWrite v).flt }).onlyRegs (s.coefWrite v) [pg 0x18 0xD8, pg 0x18 0xDC, pg 0x18 0xE0] := by
  have taken : s.coefWrite v = (s.coefStored v).loadCrc.nextCoef := by rw [Block.coefWrite, if_neg (by simp [h])]; rfl
  rw [taken]
  have crc := (s.coefStored v).onlyRegs_loadCrc
  have next := (s.coefStored v).loadCrc.onlyRegs_nextCoef
  have flt : (s.coefStored v).loadCrc.nextCoef.flt = (s.coefStored v).flt := next.flt.trans crc.flt
  have index : (s.coefStored v).loadCrc.fld (pg 0x18 0xD8) 6 0 = s.fld (pg 0x18 0xD8) 6 0 := Block.fld_congr (crc.getR (by decide)) 6 0
  refine ⟨by rw [flt]; rfl, by rw [Block.fld_nextCoef, index], ?_⟩
  rw [flt]
  exact (crc.mono (by decide)).trans (next.mono (by decide))

theorem Block.coefWrite_refused {v : Word} (h : s.bankBusy s.coefAt.1 s.coefAt.2.1 = true) :
    (s.coefWrite v).flt = s.flt
      ∧ (s.coefWrite v).fld (pg 0x18 0xD8) 6 0
        = (if 95 ≤ s.fld (pg 0x18 0xD8) 6 0 then 0 else s.fld (pg 0x18 0xD8) 6 0 + 1)
      ∧ (s.coefWrite v).rbit (pg 0x18 0x0C) 2 = true := by
  have next := (s.raise 0x18 2 0).onlyRegs_nextCoef
  have index : (s.raise 0x18 2 0).fld (pg 0x18 0xD8) 6 0 = s.fld (pg 0x18 0xD8) 6 0 :=
    Block.fld_congr (s.getR_raise (by unfold quietReg; decide) 0x18 2 0) 6 0
  rw [Block.coefWrite, if_pos h]
  refine ⟨next.flt.trans (s.raise_flt 0x18 2 0), by rw [Block.fld_nextCoef, index], ?_⟩
  rw [Block.rbit_congr (next.getR (by decide))]
  exact Block.raise_event _ 0x18 2 0 (by decide)

/-! ### The rows -/

theorem Block.cmdWrite_peakClr {n : Nat} (hn : n < 16) (v : Word) :
    s.cmdWrite (chPage n) 0x68 v = some (s.modMod n (fun d => { d with peakClr := true })) := by
  unfold Block.cmdWrite
  dsimp only
  rw [if_pos (by unfold chPage; omega), if_pos rfl, chPage, Nat.add_sub_cancel_left]

/-- Settles O26: each row's write is its command; the window's words follow the index. -/
theorem filterRows : Obligations.FilterRows := by
  unfold Obligations.FilterRows
  intro s ready a step
  have addr (v : Word) : s.block.toReg 0x18 0xD8 v = s.block.arrive.nextFrame.coefAddr v :=
    (s.block.toReg_of 0x18 0xD8 v ready (by decide) (by decide) (by decide) (by decide)).trans
      (Block.regWriteTo_cmd _ 0x18 0xD8 v _ (by decide) rfl)
  have data (v : Word) : s.block.toReg 0x18 0xDC v = s.block.arrive.nextFrame.coefWrite v :=
    (s.block.toReg_of 0x18 0xDC v ready (by decide) (by decide) (by decide) (by decide)).trans
      (Block.regWriteTo_cmd _ 0x18 0xDC v _ (by decide) rfl)
  have read : s.block.fromReg 0x18 0xDC = s.block.arrive.nextCoef :=
    (s.block.fromReg_of 0x18 0xDC ready (by decide) (by decide)).trans rfl
  refine ⟨fun n hn => next_of rfl ?_, fun v h => leads_of rfl (addr v) (Block.coefAddr_row _ h),
    fun v h => leads_of rfl (addr v) (Block.coefAddr_refused _ h), fun v h => leads_of rfl (data v) (Block.coefWrite_row _ h),
    fun v h => leads_of rfl (data v) (Block.coefWrite_refused _ h),
    leads_of rfl read ⟨(Block.onlyRegs_nextCoef _).flt, s.block.arrive.fld_nextCoef⟩⟩
  exact (s.block.toRegIf_of _ (chPage n) 0x68 1 ready (by simpa using hn) (by unfold chPage; omega) (by decide) (by decide)
    (by decide)).trans (Block.regWriteTo_cmd _ _ _ _ _ (by decide) (Block.cmdWrite_peakClr _ hn 1))

end Machine
end Sys2Proof
end

section
/-! SUPPORT. Common mode (R83) and the end of a settling episode (R86). A channel's fault is kept in the modulator of its number, so a
block that lists no such modulator keeps none, and its display shows none: that refutes O24, which asks it of every block. Where the
modulator is listed the first clause holds; the other two hold as they are stated. -/

namespace Sys2Proof.Machine

variable (s : Block) {m n : Nat}

/-! ### Common mode out of range -/

/-- The channel under the fault, before marks, display and report. -/
def Block.cmMarked (s : Block) (n : Nat) : Block := s.modMod n (fun d => { d with cmFault := true, cmLeft := 0 })

theorem Block.cmFaultOn_of (hn : n < 16) (hd : s.rbit (pg 6 0x40) 1 = true) (h : (s.mod n).cmFault = false) :
    s.cmFaultOn n = (((s.cmMarked n).remarkOn n).chStat n).raise (chPage n) 4 0 := by
  rw [Block.cmFaultOn, if_neg (by simp [hd, h, Nat.le_of_lt_succ hn])]; rfl

theorem quiet_chStat (hn : n < 16) : quietReg (pg (chPage n) 0x4C) := by unfold quietReg pg chPage; omega

/-- The fault is shown exactly where the channel has a modulator. -/
theorem Block.rbit_cmFaultOn (hn : n < 16) (hd : s.rbit (pg 6 0x40) 1 = true) (h : (s.mod n).cmFault = false) :
    (s.cmFaultOn n).rbit (pg (chPage n) 0x4C) 4 = decide (n < s.mods.length) := by
  have marks := (s.cmMarked n).onlyMarks_remarkOn n
  rw [s.cmFaultOn_of hn hd h, Block.rbit_congr (Block.getR_raise _ (quiet_chStat hn) _ _ _), Block.rbit_chStat_commonMode,
    marks.mod n, Block.cmMarked]
  dsimp only
  by_cases hl : n < s.mods.length
  · rw [Block.mod_modMod_same _ _ hl, decide_eq_true hl]
  · rw [Block.mod_modMod_out _ _ (Nat.not_lt.1 hl), decide_eq_false hl]; rfl

/-- Refutes O24: of a block that lists no modulators, COMMON_MODE_FAULT of channel 0 leaves bit 4 of CH_STAT clear. No start gives such
a block (`Block.start` lists 17 modulators); the statement speaks of every powered one. -/
theorem not_commonModeAndSettlingRows : ¬ Obligations.CommonModeAndSettlingRows := by
  unfold Obligations.CommonModeAndSettlingRows
  intro rows
  let b : Block := { Block.reset.setB (pg 6 0x40) 1 true with mods := [] }
  have detect : b.rbit (pg 6 0x40) 1 = true := Block.reset.rbit_setB_same (pg 6 0x40) 1 true (by decide)
  obtain ⟨t, ran, -, -, -, shown, -⟩ := (rows ⟨[], b⟩ rfl).1 0 (by decide) detect rfl
  have ends : exec (.commonModeFault 0) ⟨[], b⟩ = .next ⟨[], b.arrive.cmFaultOn 0⟩ := next_of rfl (b.actIf_of _ _ rfl rfl)
  cases ran.symm.trans ends
  rw [b.arrive.rbit_cmFaultOn (by decide) detect rfl] at shown
  cases shown

/-- COMMON_MODE_FAULT of a channel whose modulator is listed: the first clause of O24. -/
theorem leads_commonModeFault {s : State} (hp : s.block.powered = true) (hn : n < 16) (hm : n < s.block.mods.length)
    (hd : s.block.rbit (pg 6 0x40) 1 = true) (h : (s.block.mod n).cmFault = false) : (Instr.commonModeFault n).leads s (fun t =>
      s.block.onlyMod t n (fun d => { d with cmFault := true, cmLeft := 0 })
        ∧ (∀ m ∈ s.block.modsOn n, ∀ w, s.block.markNow m = some w → ∃ x, t.markNow m = some x ∧ x.cause ≠ 0)
        ∧ t.rbit (pg (chPage n) 0x4C) 4 = true ∧ t.rbit (pg (chPage n) 0x0C) 4 = true
        ∧ ({ s.block.arrive with mods := t.mods }).onlyRaised t [chPage n] [pg (chPage n) 0x4C, pg 6 0x54]) := by
  refine leads_of (f := fun b => b.actIf (n < 16) (fun b => b.cmFaultOn n)) rfl (s.block.actIf_of _ _ hp (decide_eq_true hn)) ?_
  have shown := s.block.arrive.rbit_cmFaultOn hn hd h
  rw [s.block.arrive.cmFaultOn_of hn hd h] at shown ⊢
  have marks := (s.block.arrive.cmMarked n).onlyMarks_remarkOn n
  have reach : s.block.arrive.onlyPins (((s.block.arrive.cmMarked n).remarkOn n).chStat n) [pg (chPage n) 0x4C, pg 6 0x54] :=
    (((Block.onlyPins_refl _ _).modMod n _).marks marks (by simp)).chStat (by simp)
  refine ⟨?_, fun j hj w hw => ?_, shown.trans (decide_eq_true hm), Block.raise_event _ _ 4 0 (by decide), reach.raise _ _ _⟩
  · rw [Block.onlyMod, Block.raise_mods, Block.chStat_mods, marks.noMarks]; rfl
  · have word : (s.block.arrive.cmMarked n).markNow j = some w := (Block.markNow_modMod _ n j (by exact fun _ => rfl)).trans hw
    obtain ⟨x, hx, hc⟩ := Block.markNow_remarkOn (s.block.arrive.cmMarked n) (n := n) hj word
    have cause : 2 ∈ (s.block.arrive.cmMarked n).causes j :=
      Block.two_mem_causes_of_commonMode _ (s.block.pinsOf_of_mem hj) (congrArg Modulator.cmFault (s.block.arrive.mod_modMod_same _ hm))
    refine ⟨x, ?_, hc ▸ Block.topCause_of_mem _ cause⟩
    rw [Block.markNow_raise, (Block.onlyRegs_chStat _ n).markNow, hx]

/-- COMMON_MODE_RESTORED: the second clause of O24. -/
theorem leads_commonModeRestored {s : State} (hp : s.block.powered = true) (hn : n < 16) (h : (s.block.mod n).cmFault = true) :
    (Instr.commonModeRestored n).leads s (fun t =>
      t.mods = modNth s.block.mods n (fun d => { d with cmFault := false, cmLeft := s.block.settleCount (s.block.slotMod n) + 1 })
        ∧ t.rbit (pg (chPage n) 0x4C) 4 = false ∧ ({ s.block with mods := t.mods }).onlyRegs t [pg (chPage n) 0x4C]) := by
  have back : s.block.cmFaultOff n = (s.block.modMod n (fun d =>
      { d with cmFault := false, cmLeft := s.block.settleCount (s.block.slotMod n) + 1 })).chStat n := by
    rw [Block.cmFaultOff, if_neg (by simp [h])]
  refine leads_of (f := fun b => b.within (n < 16) (fun b => b.cmFaultOff n)) rfl
    ((s.block.within_of _ _ hp (decide_eq_true hn)).trans back) ⟨Block.chStat_mods _ n, ?_, ?_⟩
  · have listed : n < s.block.mods.length := s.block.lt_of_mod_ne (fun e => by rw [e] at h; cases h)
    rw [Block.rbit_chStat_commonMode, Block.mod_modMod_same _ _ listed]
  · exact ((s.block.onlyPins_refl _).modMod n _).chStat (List.mem_singleton_self _)

/-- SETTLING_END: the third clause of O24. -/
theorem leads_settlingEnd {s : State} (hp : s.block.powered = true) (hm : m < 17) (owed : (s.block.mod m).settleOwed = true)
    (ran : (s.block.mod m).settleLeft = 0) (free : ∀ c ∈ s.block.causes m, ¬ (2 ≤ c ∧ c ≤ 6)) :
    (Instr.settlingEnd m).leads s (fun t =>
      t.mods = modNth s.block.mods m (fun d => { d with settleOwed := false })
        ∧ (∀ c, s.block.shownOn m = some c → t.rbit (pg (chPage c) 0x0C) 6 = true
            ∧ ({ s.block with mods := t.mods }).onlyRaised t [chPage c] [])
        ∧ (s.block.shownOn m = none → t.regs = s.block.regs)) := by
  have ends : s.block.settlingEnd m = match s.block.shownOn m with
      | some c => (s.block.modMod m (fun d => { d with settleOwed := false })).raise (chPage c) 6 0
      | none => s.block.modMod m (fun d => { d with settleOwed := false }) := by
    rw [Block.settlingEnd, if_pos (by simpa [owed, ran] using free)]; rfl
  refine leads_of (f := fun b => b.within (m < 17) (fun b => b.settlingEnd m)) rfl
    ((s.block.within_of _ _ hp (decide_eq_true hm)).trans ends) ?_
  cases s.block.shownOn m with
  | none => exact ⟨rfl, fun _ e => (by cases e), fun _ => rfl⟩
  | some c =>
    refine ⟨Block.raise_mods _ _ 6 0, ?_, fun e => (by cases e)⟩
    rintro _ ⟨⟩
    exact ⟨Block.raise_event _ (chPage c) 6 0 (by decide), ((s.block.onlyPins_refl _).modMod m _).raise (chPage c) 6 0⟩

end Sys2Proof.Machine
end

section
/-! SUPPORT. Block registers that a raise leaves (R409 to R411, R416): all but SYS's and, of RING's, those of RING2 and of the ring flags.
Needed beyond `quietReg` because the page number that an injected overload keeps (R99) is any number in the model, RING's too. -/

namespace Sys2Proof.Machine

variable (s : Block) {a : Nat}

/-- A block register that entries in RING2 never write. -/
def offRing2 (a : Nat) : Prop := a ∉ [dHead 2, dTail 2, dSeq 2, dLost 2, pg 0x2D 0x240, pg 0x2D 0x248]

/-- A block register that no raise writes. -/
def calmReg (a : Nat) : Prop := 0x40 ≤ a % 0x400 ∧ a / 0x400 ≠ 0 ∧ offRing2 a

theorem offRing2_ne (h : offRing2 a) :
    a ≠ dHead 2 ∧ a ≠ dTail 2 ∧ a ≠ dSeq 2 ∧ a ≠ dLost 2 ∧ a ≠ pg 0x2D 0x240 ∧ a ≠ pg 0x2D 0x248 := by
  simpa [offRing2] using h

theorem calm_ne_header (h : calmReg a) (p : Nat) {o : Nat} (ho : o < 0x40) : a ≠ pg p o := by
  obtain ⟨low, -, -⟩ := h
  rintro rfl
  unfold pg at low; omega

theorem calm_ne_sys (h : calmReg a) {o : Nat} (ho : o < 0x400) : a ≠ pg 0 o := by
  obtain ⟨-, page, -⟩ := h
  rintro rfl
  exact page (by unfold pg; omega)

theorem calm_offRing2 (h : calmReg a) : offRing2 a := h.2.2

theorem Block.getR_ringCommit2 (h : offRing2 a) (l : List Entry) : (s.ringCommit 2 l).getR a = s.getR a := by
  obtain ⟨head, -, seq, -⟩ := offRing2_ne h
  simp only [Block.ringCommit]
  rw [Block.getR_congr (Block.modRing_regs ..), Block.getR_setN_ne _ seq, Block.getR_setN_ne _ head]
  exact Block.getR_congr (Block.ringStoreAll_regs ..) a

theorem Block.getR_ringLose2 (h : offRing2 a) (l : List Entry) (f : Bool) : (s.ringLose 2 l f).getR a = s.getR a := by
  obtain ⟨-, -, seq, lost, -⟩ := offRing2_ne h
  unfold Block.ringLose
  split
  · rfl
  · rw [Block.getR_congr (Block.modRing_regs ..), Block.getR_bump_ne _ lost, Block.getR_setN_ne _ seq]

theorem Block.getR_ringDiscard2 (h : offRing2 a) (need fuel : Nat) : (s.ringDiscard 2 need fuel).getR a = s.getR a := by
  obtain ⟨-, tail, -, lost, -⟩ := offRing2_ne h
  induction fuel generalizing s with
  | zero => rfl
  | succ k ih =>
    simp only [Block.ringDiscard]
    repeat' split
    · rfl
    · rfl
    · rw [ih, Block.getR_congr (Block.modRing_regs ..), Block.getR_bump_ne _ lost, Block.getR_setN_ne _ tail]

theorem Block.getR_ringOffer2 (h : offRing2 a) (l : List Entry) : (s.ringOffer 2 l).1.getR a = s.getR a := by
  obtain ⟨-, -, -, -, -, full⟩ := offRing2_ne h
  unfold Block.ringOffer
  dsimp only
  generalize groupLen l + (if (s.ringMeta 2).gapPending = true then 32 else 0) = need
  repeat' split
  · rfl
  · exact (Block.getR_setF_ne _ full _ _ _).trans (s.getR_ringLose2 h _ _)
  · exact s.getR_ringCommit2 h _
  · exact (Block.getR_setF_ne _ full _ _ _).trans ((Block.getR_ringCommit2 _ h _).trans (s.getR_ringDiscard2 h _ _))
  · exact (Block.getR_setF_ne _ full _ _ _).trans (s.getR_ringLose2 h _ _)

section
variable (h : calmReg a)
include h

theorem Block.getR_noteFault_calm (p d x : Nat) : (s.noteFault p d x).getR a = s.getR a :=
  s.getR_noteFault (calm_ne_header h p (by decide)) (calm_ne_header h p (by decide)) (calm_ne_header h p (by decide))

theorem Block.getR_noteEvent_calm (p d x : Nat) : (s.noteEvent p d x).getR a = s.getR a := by
  rw [Block.noteEvent, Block.getR_noteFirst _ (calm_ne_sys h (by decide)) (calm_ne_sys h (by decide)) (calm_ne_sys h (by decide)),
    Block.getR_setB_ne _ (calm_ne_header h p (by decide))]

theorem Block.getR_raiseRegs_calm (p d : Nat) : (s.raiseRegs p d).getR a = s.getR a := by
  rw [Block.raiseRegs, Block.getR_noteEvent_calm _ h, Block.getR_noteFault_calm _ h]

theorem Block.getR_lossNews_calm (b : Bool) : (s.lossNews b).getR a = s.getR a := by
  cases b
  · rfl
  · exact s.getR_raiseRegs_calm h _ _

theorem Block.getR_firstNews_calm (b : Bool) : (s.firstNews b).getR a = s.getR a := by
  obtain ⟨-, -, -, -, nonempty, -⟩ := offRing2_ne (calm_offRing2 h)
  cases b
  · rfl
  · exact (Block.getR_setF_ne _ nonempty _ _ _).trans (s.getR_raiseRegs_calm h _ _)

theorem Block.getR_waterNews_calm (b : Bool) : (s.waterNews b).getR a = s.getR a := by
  cases b
  · rfl
  · exact (Block.getR_lossNews_calm _ h _).trans ((Block.getR_noteEvent_calm _ h _ _ _).trans
      ((Block.getR_ringOffer2 _ (calm_offRing2 h) _).trans (s.getR_noteFault_calm h _ _ _)))

/-- A raise leaves every calm register. -/
theorem Block.getR_raiseX_calm (p d x : Nat) (e i : Bool) : (s.raiseX p d x e i).getR a = s.getR a := by
  rw [Block.raiseX, Block.raiseAt, Block.eventNews, Block.getR_waterNews_calm _ h, Block.getR_firstNews_calm _ h,
    Block.getR_lossNews_calm _ h, Block.getR_noteEvent_calm _ h, Block.getR_ringOffer2 _ (calm_offRing2 h), Block.getR_noteFault_calm _ h]

end

end Sys2Proof.Machine
end

section
/-! SUPPORT. Overload (R81, R84, R93, R97, R99): entry, release, and the end of the recovery count. -/

namespace Sys2Proof.Machine

variable (s : Block) {m : Nat}

/-! ### A mark formed again and shown -/

theorem Block.onlyModsRegs.shownOn {s t : Block} (h : s.onlyModsRegs t) (m : Nat) : t.shownOn m = s.shownOn m := by
  unfold Block.onlyModsRegs at h
  rw [h]; rfl

/-- CH_STAT of the channel that shows a modulator, if any. -/
def Block.statAt (s : Block) (m : Nat) : List Nat := ((s.shownOn m).map (fun c => pg (chPage c) 0x4C)).toList

theorem Block.onlyRegs_statOf : s.onlyRegs (s.statOf m) (s.statAt m) := by
  unfold Block.statOf Block.statAt
  cases s.shownOn m with
  | none => exact s.onlyRegs_refl _
  | some c => exact s.onlyRegs_chStat c

theorem Block.statAt_ne_acq {o a : Nat} (ho : o < 0x400) (h : a ∈ s.statAt m) : pg 6 o ≠ a := by
  obtain ⟨c, -, rfl⟩ : ∃ c, s.shownOn m = some c ∧ pg (chPage c) 0x4C = a := by simpa [Block.statAt] using h
  exact pg_chPage_ne_acq ho

/-- Both steps leave ACQ's registers but NBR_STICKY. -/
theorem Block.getR_remark_statOf {o : Nat} (ho : o < 0x400) (h : o ≠ 0x54) :
    ((s.remark m).statOf m).getR (pg 6 o) = s.getR (pg 6 o) := by
  have sticky : pg 6 o ≠ pg 6 0x54 := by unfold pg; omega
  exact ((Block.onlyRegs_statOf _).getR (fun k => Block.statAt_ne_acq _ ho k rfl)).trans ((s.onlyMarks_remark m).getR sticky)

theorem Block.onlyPins.remark_statOf {s t : Block} {as : List Nat} (h : s.onlyPins t as) (hs : ∀ a ∈ s.statAt m, a ∈ as)
    (ha : pg 6 0x54 ∈ as) : s.onlyPins ((t.remark m).statOf m) as := by
  have marked := h.marks (t.onlyMarks_remark m) ha
  refine marked.regs (Block.onlyRegs_statOf _) ?_
  rw [Block.statAt, marked.onlyModsRegs.shownOn m]
  exact hs

theorem Block.markNow_remark_new {k : WordMark} (h : s.markNow m = some k) : (s.remark m).markNow m = some (s.newMark m) := by
  rw [s.remark_of_some h, Block.markNow_noteNbr, Block.markNow_eq_some, Block.mod_modMod_same _ _ (s.lt_of_markNow h)]
  exact ⟨List.getLast?_concat, rfl⟩

theorem Block.noMarks_remark_statOf : ((s.remark m).statOf m).mods.map Modulator.noMarks = s.mods.map Modulator.noMarks := by
  rw [(Block.onlyRegs_statOf _).mods, (s.onlyMarks_remark m).noMarks]

/-! ### The capture that an entry may trigger (R243) -/

/-- Nothing of the modulators and of time differs, no event is lost, and no register but PQ's and those of a report. -/
def Block.onlyTrigger (s t : Block) : Prop :=
  t.mods = s.mods ∧ t.time = s.time ∧ (∀ a, reported [] a = false → a / 0x400 ≠ 0x33 → t.getR a = s.getR a)
    ∧ ∀ q k, s.rbit (pg q 0x0C) k = true → t.rbit (pg q 0x0C) k = true

theorem Block.onlyTrigger_refl : s.onlyTrigger s := ⟨rfl, rfl, fun _ _ _ => rfl, fun _ _ h => h⟩

/-- What a report of no page writes and lies on another page, a report of the page writes neither. -/
theorem reported_page {p a : Nat} (h : reported [] a = false) (hp : a / 0x400 ≠ p) : reported [p] a = false := by
  have ne {o : Nat} (ho : o < 0x400) : a ≠ pg p o := by rintro rfl; exact hp (by unfold pg; omega)
  have own : [pg p 0x0C, pg p 0x18, pg p 0x1C, pg p 0x20].contains a = false := by
    simpa using ⟨ne (o := 0x0C) (by decide), ne (o := 0x18) (by decide), ne (o := 0x1C) (by decide), ne (o := 0x20) (by decide)⟩
  simp only [reported, List.any_cons, own, Bool.false_or] at h ⊢
  exact h

theorem Block.onlyTrigger_modPq (f : Pq → Pq) : s.onlyTrigger (s.modPq f) := ⟨rfl, rfl, fun _ _ _ => rfl, fun _ _ h => h⟩

theorem Block.onlyTrigger.trans {s t u : Block} (h : s.onlyTrigger t) (k : t.onlyTrigger u) : s.onlyTrigger u := by
  obtain ⟨mods, time, regs, events⟩ := h
  obtain ⟨mods', time', regs', events'⟩ := k
  exact ⟨mods'.trans mods, time'.trans time, fun a ha hp => (regs' a ha hp).trans (regs a ha hp), fun q k h => events' q k (events q k h)⟩

theorem Block.onlyTrigger.markNow {s t : Block} (h : s.onlyTrigger t) (m : Nat) : t.markNow m = s.markNow m := by
  obtain ⟨mods, time, -⟩ := h
  rw [Block.markNow, Block.markNow, Block.mod, mods, Block.absPick, time]; rfl

theorem Block.onlyTrigger_capArm : s.onlyTrigger s.capArm := by
  unfold Block.capArm
  dsimp only
  split
  · exact s.onlyTrigger_refl
  · split
    · exact s.onlyTrigger_modPq _
    · exact s.onlyTrigger_refl

/-- A trigger lost for want of a slot: counted and reported by PQ. -/
theorem Block.onlyTrigger_lost (inj : Bool) : s.onlyTrigger ((s.bump (pg 0x33 0x74) 15 0 1).raiseX 0x33 5 0 false inj) := by
  refine ⟨Block.raiseX_mods _ _ _ _ _ _, Block.raiseX_time _ _ _ _ _ _, fun a ha hp => ?_, fun q k h => ?_⟩
  · have counter : a ≠ pg 0x33 0x74 := by rintro rfl; exact hp (by decide)
    rw [Block.getR_raiseX_out _ (reported_page ha hp) _ _ _ _ _ (by decide), Block.getR_bump_ne _ counter]
  · refine Block.rbit_raiseX _ _ _ _ _ _ ?_
    rwa [Block.rbit_congr (s.getR_bump_ne (by unfold pg; omega) _ _ _)]

theorem Block.onlyTrigger_capTrigger (code stamp abs rtc evId : Nat) (inj : Bool) :
    s.onlyTrigger (s.capTrigger code stamp abs rtc evId inj) := by
  unfold Block.capTrigger
  split
  · exact s.onlyTrigger_refl
  · split
    · exact s.onlyTrigger_modPq _
    · exact (s.onlyTrigger_modPq _).trans (Block.onlyTrigger_capArm _)
    · split
      · exact s.onlyTrigger_lost inj
      · exact s.onlyTrigger_refl

theorem Block.onlyTrigger_overloadTrigger (p : Nat) (inj : Bool) : s.onlyTrigger (s.overloadTrigger p inj) := by
  unfold Block.overloadTrigger
  split
  · exact s.onlyTrigger_capTrigger _ _ _ _ _ _
  · exact s.onlyTrigger_refl

/-! ### Entry -/

/-- The modulator held and shown so, before the mark, the display and the report. -/
def Block.ovlEntered (s : Block) (m : Nat) (pos : Bool) : Block :=
  ((s.modMod m (fun d =>
    { d with ovlHeld := some pos, ovlEpisode := true, ovlInj := false, ovlLeft := 0, ovlInjHold := 0, ovlPage := none })).setB
      (pg 6 0x4C) m true).setB (pg 6 0x44) m false

theorem Block.overloadTaken_of (hm : m < 17) (h : (s.mod m).ovlHeld = none) (pos : Bool) :
    s.overloadTaken m pos = (((((s.ovlEntered m pos).remark m).statOf m).raise (s.ovlPage m).1 (s.ovlPage m).2 0)).overloadTrigger
      (s.ovlPage m).1 false := by
  have free : ¬ ((s.mod m).ovlHeld.isSome && !(s.mod m).ovlInj || 16 < m) = true := by simp [h]; omega
  rw [Block.overloadTaken, if_neg free, Block.overloadEntry, if_neg free]; rfl

theorem Block.ovlPage_det : (s.ovlPage m).2 < 32 := by
  unfold Block.ovlPage
  split
  · exact (by decide : 2 < 32)
  · decide

theorem quiet_acq {o : Nat} (ho : 0x40 ≤ o) (ho' : o < 0x400) : quietReg (pg 6 o) := by unfold quietReg pg; omega

theorem Block.overloadTaken_row (hm : m < 17) (h : (s.mod m).ovlHeld = none) (pos : Bool) :
    s.onlyMod (s.overloadTaken m pos) m (fun d =>
        { d with ovlHeld := some pos, ovlEpisode := true, ovlInj := false, ovlLeft := 0, ovlInjHold := 0, ovlPage := none })
      ∧ (∀ k, s.markNow m = some k → ∃ w, (s.overloadTaken m pos).markNow m = some w ∧ w.clamp = some pos ∧ w.cause ≠ 0)
      ∧ (s.overloadTaken m pos).rbit (pg 6 0x4C) m = true ∧ (s.overloadTaken m pos).rbit (pg 6 0x44) m = false
      ∧ (s.overloadTaken m pos).rbit (pg (s.ovlPage m).1 0x0C) (s.ovlPage m).2 = true
      ∧ ∀ a, a ∉ pg 6 0x4C :: (s.statAt m ++ [pg 6 0x44, pg 6 0x54]) → reported [(s.ovlPage m).1] a = false → a / 0x400 ≠ 0x33 →
          (s.overloadTaken m pos).getR a = s.getR a := by
  rw [s.overloadTaken_of hm h pos]
  have det := s.ovlPage_det (m := m)
  generalize s.ovlPage m = page at *
  have trigger := ((((s.ovlEntered m pos).remark m).statOf m).raise page.1 page.2 0).onlyTrigger_overloadTrigger page.1 false
  have ⟨mods, _, regs, events⟩ := trigger
  have acq {o : Nat} (ho : 0x40 ≤ o) (ho' : o < 0x400) (hs : o ≠ 0x54) (hr : reported [] (pg 6 o) = false) :
      (((((s.ovlEntered m pos).remark m).statOf m).raise page.1 page.2 0).overloadTrigger page.1 false).getR (pg 6 o)
        = (s.ovlEntered m pos).getR (pg 6 o) :=
    (regs _ hr (by unfold pg; omega)).trans ((Block.getR_raise _ (quiet_acq ho ho') _ _ _).trans (Block.getR_remark_statOf _ ho' hs))
  refine ⟨?_, fun k hk => ?_, ?_, ?_, events _ _ (Block.raise_event _ _ _ 0 det), fun a ha hr hp => ?_⟩
  · rw [Block.onlyMod, mods, Block.raise_mods, Block.noMarks_remark_statOf]; rfl
  · have word : (s.ovlEntered m pos).markNow m = some k := (s.markNow_modMod m m (by exact fun _ => rfl)).trans hk
    have held : ((s.ovlEntered m pos).mod m).ovlHeld = some pos :=
      congrArg Modulator.ovlHeld (s.mod_modMod_same _ (s.lt_of_markNow hk))
    refine ⟨(s.ovlEntered m pos).newMark m, ?_, held, Block.topCause_of_mem _ (Block.two_mem_causes_of_held _ (by rw [held]; rfl))⟩
    rw [trigger.markNow, Block.markNow_raise, (Block.onlyRegs_statOf _).markNow, Block.markNow_remark_new _ word]
  · rw [Block.rbit_congr (acq (by decide) (by decide) (by decide) (by decide)), Block.ovlEntered,
      Block.rbit_congr (Block.getR_setB_ne _ (by decide) _ _)]
    exact Block.rbit_setB_same _ _ _ _ (by omega)
  · rw [Block.rbit_congr (acq (by decide) (by decide) (by decide) (by decide))]
    exact Block.rbit_setB_same _ _ _ _ (by omega)
  · have reach : s.onlyPins (((s.ovlEntered m pos).remark m).statOf m) (pg 6 0x4C :: (s.statAt m ++ [pg 6 0x44, pg 6 0x54])) :=
      ((((s.onlyPins_refl _).modMod m _).setR _ (by simp)).setR _ (by simp)).remark_statOf
        (fun b hb => by simp [hb]) (by simp)
    rw [regs a (reported_mono hr (by simp)) hp, Block.getR_raise_out _ hr _ _ _ (by simp), reach.getR ha]

/-! ### Release -/

theorem Block.overloadRelease_row (hm : m < 17) (h : (s.mod m).ovlHeld ≠ none) :
    s.onlyMod (s.overloadRelease m) m (fun d => { d with ovlHeld := none, ovlLeft := s.settleCount m, ovlInjHold := 0 })
      ∧ (s.overloadRelease m).rbit (pg 6 0x44) m = (s.mod m).powered
      ∧ s.onlyPins (s.overloadRelease m) (s.statAt m ++ [pg 6 0x44, pg 6 0x54]) := by
  rw [Block.overloadRelease, if_neg (by simpa using h)]
  refine ⟨?_, ?_, ?_⟩
  · rw [Block.onlyMod, Block.noMarks_remark_statOf]; rfl
  · rw [Block.rbit_congr (Block.getR_remark_statOf _ (by decide) (by decide))]
    exact Block.rbit_setB_same _ _ _ _ (by omega)
  · exact (((s.onlyPins_refl _).modMod m _).setR _ (by simp)).remark_statOf (fun b hb => by simp [hb]) (by simp)

/-! ### The end of the recovery count -/

/-- Page and detector that report the end of an episode: where its entry was reported (R99). -/
def Block.ovlReport (s : Block) (m : Nat) : Nat × Nat :=
  match (s.mod m).ovlPage with
  | some n => (chPage n, 2)
  | none => s.ovlPage m

/-- The counter of episodes that the page keeps. -/
def ovlCounter (p : Nat) : Nat := if p = 0x17 then pg 0x17 0xC8 else pg p 0x54

theorem Block.ovlReport_bounds : 7 ≤ (s.ovlReport m).1 ∧ (s.ovlReport m).2 < 32 := by
  unfold Block.ovlReport
  split
  · exact ⟨Nat.le_add_right 7 _, (by decide : 2 < 32)⟩
  · refine ⟨?_, s.ovlPage_det⟩
    unfold Block.ovlPage
    split
    · exact Nat.le_add_right 7 m
    · decide

theorem calm_ovlCounter {p : Nat} (hp : 7 ≤ p) : calmReg (ovlCounter p) := by
  unfold calmReg ovlCounter offRing2 dHead dTail dSeq dLost
  split
  · decide
  · have page : pg p 0x54 / 0x400 = p ∧ pg p 0x54 % 0x400 = 0x54 := by unfold pg; omega
    refine ⟨by omega, by omega, ?_⟩
    simp only [List.mem_cons, List.not_mem_nil, or_false, not_or]
    unfold pg
    omega

/-- The episode closed, before it is counted and reported. -/
def Block.ovlClosed (s : Block) (m : Nat) : Block :=
  s.modMod m (fun d => { d with ovlEpisode := false, ovlInj := false, ovlPage := none })

theorem Block.overloadEnd_of (he : (s.mod m).ovlEpisode = true) (hh : (s.mod m).ovlHeld = none) (hl : (s.mod m).ovlLeft = 0) :
    s.overloadEnd m = ((s.ovlClosed m).bump (ovlCounter (s.ovlReport m).1) 15 0 1).raiseX (s.ovlReport m).1 (s.ovlReport m).2 0 true
      (s.mod m).ovlInj := by
  have ended : s.overloadEnd m = (if (s.ovlReport m).1 = 0x17 then (s.ovlClosed m).bump (pg 0x17 0xC8) 15 0 1
      else (s.ovlClosed m).bump (pg (s.ovlReport m).1 0x54) 15 0 1).raiseX (s.ovlReport m).1 (s.ovlReport m).2 0 true
        (s.mod m).ovlInj := by
    rw [Block.overloadEnd, if_pos (by simp [he, hh, hl])]
    rfl
  rw [ended, ← apply_ite (fun a => (s.ovlClosed m).bump a 15 0 1)]
  rfl

theorem Block.overloadEnd_row (he : (s.mod m).ovlEpisode = true) (hh : (s.mod m).ovlHeld = none) (hl : (s.mod m).ovlLeft = 0) :
    (s.overloadEnd m).mods = modNth s.mods m (fun d => { d with ovlEpisode := false, ovlInj := false, ovlPage := none })
      ∧ (s.overloadEnd m).rbit (pg (s.ovlReport m).1 0x0C) (s.ovlReport m).2 = true
      ∧ (s.overloadEnd m).fld (ovlCounter (s.ovlReport m).1) 15 0 = min 65535 (s.fld (ovlCounter (s.ovlReport m).1) 15 0 + 1) := by
  obtain ⟨page, det⟩ := s.ovlReport_bounds (m := m)
  rw [s.overloadEnd_of he hh hl]
  refine ⟨Block.raiseX_mods _ _ _ _ _ _, Block.raiseX_event _ _ _ 0 true _ det, ?_⟩
  rw [Block.fld_congr (Block.getR_raiseX_calm _ (calm_ovlCounter page) _ _ _ _ _), Block.fld_bump16]
  rfl

/-- Settles O22: entry, release and the end of the episode, each by its row. -/
theorem overloadRows : Obligations.OverloadRows := by
  unfold Obligations.OverloadRows
  intro s m hp hm stat
  have in_ (f : Block → Block) : s.block.within (m < 17) f = f s.block := s.block.within_of _ f hp (decide_eq_true hm)
  refine ⟨fun pos h => ?_, fun h => ?_, fun he hh hl => ?_⟩
  · exact leads_of rfl (s.block.actIf_of _ _ hp (decide_eq_true hm)) (s.block.arrive.overloadTaken_row hm h pos)
  · exact leads_of rfl (in_ _) (s.block.overloadRelease_row hm h)
  · exact leads_of rfl (in_ _) (s.block.overloadEnd_row he hh hl)

end Sys2Proof.Machine
end

section
/-! SUPPORT. Clamp current above the rating, and its end (R82, R84, R92, R96): the marking of the neighbouring channels, one by one. -/

namespace Sys2Proof.Machine

variable (s : Block) {n k m : Nat}

/-! ### Neighbours -/

theorem mem_neighbours : k ∈ neighbours n ↔ k + 1 = n ∨ n < 15 ∧ k = n + 1 := by
  unfold neighbours
  rw [List.mem_append, List.mem_ite_nil_right, List.mem_ite_nil_right, List.mem_singleton, List.mem_singleton]
  omega

theorem neighbours_lt (hn : n < 16) (h : k ∈ neighbours n) : k < 16 := by
  rw [mem_neighbours] at h; omega

theorem neighbours_ne (h : k ∈ neighbours n) : k ≠ n := by
  rw [mem_neighbours] at h; omega

theorem neighbours_nodup (n : Nat) : (neighbours n).Nodup := by
  unfold neighbours
  repeat' split
  all_goals simp

/-! ### One neighbour marked -/

/-- The marking that a modulator over the rating puts on its neighbour. -/
def Modulator.nbrMarked (d : Modulator) : Modulator := { d with nbrNow := true, nbrLeft := 0 }

/-- The neighbour under the marking and its episode counted, before marks and display. -/
def Block.nbrBegun (s : Block) (k : Nat) : Block := (s.modMod k Modulator.nbrMarked).bump (pg (chPage k) 0x5C) 15 0 1

theorem Block.nbrMark_of : s.nbrMark false k = ((s.nbrBegun k).remarkOn k).chStat k := rfl

/-- The registers that the marking of a channel writes: its own count and display, and NBR_STICKY. -/
def nbrRegs (k : Nat) : List Nat := [pg (chPage k) 0x5C, pg (chPage k) 0x4C, pg 6 0x54]

theorem Block.onlyPins_nbrMark : s.onlyPins (s.nbrMark false k) (nbrRegs k) :=
  ((((s.onlyPins_refl _).modMod k _).setR _ (by simp [nbrRegs])).marks ((s.nbrBegun k).onlyMarks_remarkOn k) (by simp [nbrRegs])).chStat
    (by simp [nbrRegs])

theorem Block.nbrMark_mods (j : Nat) : (s.nbrMark false k).mods[j]?.map Modulator.noMarks
    = (s.mods[j]?.map Modulator.noMarks).map (if j = k then Modulator.nbrMarked else id) := by
  have marks : (s.nbrMark false k).mods.map Modulator.noMarks = (modNth s.mods k Modulator.nbrMarked).map Modulator.noMarks := by
    rw [s.nbrMark_of, Block.chStat_mods, ((s.nbrBegun k).onlyMarks_remarkOn k).noMarks]; rfl
  have at_ := congrArg (·[j]?) marks
  simp only [List.getElem?_map, modNth, List.getElem?_modify] at at_
  rw [at_]
  by_cases hj : j = k
  · subst hj
    cases s.mods[j]? <;> simp [Modulator.noMarks, Modulator.nbrMarked]
  · simp [hj, Ne.symm hj]

theorem Block.nbrMark_count :
    (s.nbrMark false k).fld (pg (chPage k) 0x5C) 15 0 = min 65535 (s.fld (pg (chPage k) 0x5C) 15 0 + 1) := by
  have shown : pg (chPage k) 0x5C ≠ pg (chPage k) 0x4C := by unfold pg; omega
  rw [s.nbrMark_of, Block.fld_congr (Block.getR_chStat_ne _ shown),
    Block.fld_congr (((s.nbrBegun k).onlyMarks_remarkOn k).getR (pg_chPage_ne_acq (by decide)).symm)]
  exact Block.fld_bump16 _ _

/-- The word of this pick of a modulator on the channel's pins is marked. -/
theorem Block.nbrMark_markNow (hk : k < 16) (hm : m ∈ s.modsOn k) {w : WordMark} (hw : s.markNow m = some w) :
    ∃ x, (s.nbrMark false k).markNow m = some x ∧ x.cause ≠ 0 := by
  have word : (s.nbrBegun k).markNow m = some w := (s.markNow_modMod k m (f := Modulator.nbrMarked) (fun _ => rfl)).trans hw
  obtain ⟨x, hx, hc⟩ := Block.markNow_remarkOn (s.nbrBegun k) (n := k) hm word
  have listed : k < s.mods.length := s.lt_of_pinsOf hk (s.pinsOf_of_mem hm) hw
  have cause : 5 ∈ (s.nbrBegun k).causes m :=
    Block.five_mem_causes _ (s.pinsOf_of_mem hm) (congrArg Modulator.nbrNow (s.mod_modMod_same Modulator.nbrMarked listed))
  exact ⟨x, ((Block.onlyRegs_chStat _ k).markNow m).trans hx, hc ▸ Block.topCause_of_mem _ cause⟩

/-- That of any other is left. -/
theorem Block.nbrMark_markNow_out (hm : m ∉ s.modsOn k) : (s.nbrMark false k).markNow m = s.markNow m := by
  rw [s.nbrMark_of, (Block.onlyRegs_chStat _ k).markNow, Block.markNow_remarkOn_out (s.nbrBegun k) (n := k) hm]
  exact s.markNow_modMod k m (f := Modulator.nbrMarked) (fun _ => rfl)

/-! ### Several marked in turn -/

/-- The neighbours of a list marked in turn. -/
def Block.nbrMarks (s : Block) (l : List Nat) : Block := forEach l (fun k b => b.nbrMark false k) s

theorem Block.nbrMarks_append (l l' : List Nat) : s.nbrMarks (l ++ l') = (s.nbrMarks l).nbrMarks l' := by
  simp [Block.nbrMarks, forEach]

theorem Block.nbrMarks_cons (l : List Nat) : s.nbrMarks (k :: l) = (s.nbrMark false k).nbrMarks l := rfl

theorem Block.onlyModsRegs.modsOn {s t : Block} (h : s.onlyModsRegs t) (k : Nat) : t.modsOn k = s.modsOn k := by
  unfold Block.onlyModsRegs at h
  rw [h]; rfl

theorem Block.onlyModsRegs_nbrMarks (l : List Nat) : s.onlyModsRegs (s.nbrMarks l) := by
  refine List.foldlRecOn (motive := s.onlyModsRegs) _ _ rfl fun t ht k _ => ?_
  exact ht.trans t.onlyPins_nbrMark.onlyModsRegs

theorem Block.getR_nbrMarks {l : List Nat} {a : Nat} (h : ∀ k ∈ l, a ∉ nbrRegs k) : (s.nbrMarks l).getR a = s.getR a := by
  refine List.foldlRecOn (motive := fun t : Block => t.getR a = s.getR a) _ _ rfl fun t ht k hk => ?_
  exact (t.onlyPins_nbrMark.getR (h k hk)).trans ht

theorem Block.nbrMarks_markNow_out {l : List Nat} (h : ∀ k ∈ l, m ∉ s.modsOn k) : (s.nbrMarks l).markNow m = s.markNow m := by
  refine (List.foldlRecOn (motive := fun t : Block => s.onlyModsRegs t ∧ t.markNow m = s.markNow m) _ _
    ⟨show s.onlyModsRegs s from rfl, rfl⟩ fun t ht k hk => ?_).2
  refine ⟨ht.1.trans t.onlyPins_nbrMark.onlyModsRegs, (t.nbrMark_markNow_out ?_).trans ht.2⟩
  rw [ht.1.modsOn k]
  exact h k hk

/-- Each modulator but for its marks: marked where its number is in the list. -/
theorem Block.nbrMarks_mods (l : List Nat) (j : Nat) : (s.nbrMarks l).mods[j]?.map Modulator.noMarks
    = (s.mods[j]?.map Modulator.noMarks).map (if j ∈ l then Modulator.nbrMarked else id) := by
  induction l generalizing s with
  | nil => simp [Block.nbrMarks, forEach]
  | cons k l ih =>
    have step : (if j ∈ l then Modulator.nbrMarked else id) ∘ (if j = k then Modulator.nbrMarked else id)
        = if j ∈ k :: l then Modulator.nbrMarked else id := by
      by_cases hk : j = k
      · subst hk
        rw [if_pos rfl, if_pos List.mem_cons_self]
        split <;> rfl
      · simp [hk]
    rw [s.nbrMarks_cons, ih, s.nbrMark_mods, Option.map_map, step]

theorem nbrRegs_apart (h : k ≠ n) {o : Nat} (ho : o < 0x400) : pg (chPage k) o ∉ nbrRegs n := by
  simp only [nbrRegs, List.mem_cons, List.not_mem_nil, or_false, not_or]
  exact ⟨pg_chPage_ne h ho (by decide), pg_chPage_ne h ho (by decide), (pg_chPage_ne_acq (by decide)).symm⟩

/-- Every channel of the list counts once. -/
theorem Block.nbrMarks_count {l : List Nat} (hl : l.Nodup) (h : k ∈ l) :
    (s.nbrMarks l).fld (pg (chPage k) 0x5C) 15 0 = min 65535 (s.fld (pg (chPage k) 0x5C) 15 0 + 1) := by
  obtain ⟨l₁, l₂, rfl⟩ := List.append_of_mem h
  obtain ⟨-, hl₂, apart⟩ := List.nodup_append.1 hl
  have before : ∀ j ∈ l₁, pg (chPage k) 0x5C ∉ nbrRegs j := fun j hj =>
    nbrRegs_apart (apart j hj k List.mem_cons_self).symm (by decide)
  have after : ∀ j ∈ l₂, pg (chPage k) 0x5C ∉ nbrRegs j := fun j hj =>
    nbrRegs_apart (by rintro rfl; exact (List.nodup_cons.1 hl₂).1 hj) (by decide)
  rw [s.nbrMarks_append, Block.nbrMarks_cons, Block.fld_congr (Block.getR_nbrMarks _ after), Block.nbrMark_count,
    Block.fld_congr (s.getR_nbrMarks before)]

theorem Block.modsOn_apart (hm : m ∈ s.modsOn k) (h : n ≠ k) : m ∉ s.modsOn n := fun hn =>
  h (Option.some.inj ((s.pinsOf_of_mem hn).symm.trans (s.pinsOf_of_mem hm)))

/-- The words of this pick on its pins are marked. -/
theorem Block.nbrMarks_markNow {l : List Nat} (hl : l.Nodup) (h : k ∈ l) (hk : k < 16) (hm : m ∈ s.modsOn k) {w : WordMark}
    (hw : s.markNow m = some w) : ∃ x, (s.nbrMarks l).markNow m = some x ∧ x.cause ≠ 0 := by
  obtain ⟨l₁, l₂, rfl⟩ := List.append_of_mem h
  obtain ⟨-, hl₂, apart⟩ := List.nodup_append.1 hl
  have reach₁ := s.onlyModsRegs_nbrMarks l₁
  have reach₂ := reach₁.trans ((s.nbrMarks l₁).onlyPins_nbrMark (k := k)).onlyModsRegs
  have word : (s.nbrMarks l₁).markNow m = some w :=
    (s.nbrMarks_markNow_out fun j hj => s.modsOn_apart hm (apart j hj k List.mem_cons_self)).trans hw
  obtain ⟨x, hx, hc⟩ := (s.nbrMarks l₁).nbrMark_markNow hk (reach₁.modsOn k ▸ hm) word
  refine ⟨x, ?_, hc⟩
  rw [s.nbrMarks_append, Block.nbrMarks_cons, Block.nbrMarks_markNow_out, hx]
  intro j hj
  rw [reach₂.modsOn j]
  exact s.modsOn_apart hm (by rintro rfl; exact (List.nodup_cons.1 hl₂).1 hj)

/-! ### The current rises above the rating -/

/-- The channel over the rating, counted, shown, before its neighbours and its report. -/
def Block.clampBegun (s : Block) (n : Nat) : Block :=
  (((s.modMod n (fun d => { d with injOver := true })).setB (pg 6 0x50) n true).bump (pg (chPage n) 0x58) 15 0 1).chStat n

/-- The neighbours that are marked: none with NBR_MARK clear (log 13). -/
def Block.nbrList (s : Block) (n : Nat) : List Nat := if s.rbit (pg 6 0x40) 0 then neighbours n else []

theorem Block.clampOver_of (hn : n < 16) (h : (s.mod n).injOver = false) :
    s.clampOver n false = ((s.clampBegun n).nbrMarks (s.nbrList n)).raise (chPage n) 3 0 := by
  rw [Block.clampOver, if_neg (by simp [h, Nat.le_of_lt_succ hn]), Block.nbrList, apply_ite (Block.nbrMarks _)]; rfl

theorem Block.nbrList_sub (h : k ∈ s.nbrList n) : k ∈ neighbours n := by
  unfold Block.nbrList at h
  split at h
  · exact h
  · cases h

/-- The registers that the channel over the rating writes itself: ACQ's bits, its own count and display. -/
def clampRegs (n : Nat) : List Nat := [pg 6 0x50, pg (chPage n) 0x58, pg (chPage n) 0x4C]

theorem Block.onlyPins_clampBegun : s.onlyPins (s.clampBegun n) (clampRegs n) :=
  ((((s.onlyPins_refl _).modMod n _).setR _ (by simp [clampRegs])).setR _ (by simp [clampRegs])).chStat (by simp [clampRegs])

/-- The channel's own modulator, count and ACQ bit, marking or not. -/
theorem Block.clampBegun_row (hn : n < 16) :
    (s.clampBegun n).fld (pg (chPage n) 0x58) 15 0 = min 65535 (s.fld (pg (chPage n) 0x58) 15 0 + 1)
      ∧ (s.clampBegun n).rbit (pg 6 0x50) n = true
      ∧ (s.clampBegun n).mods = modNth s.mods n (fun d => { d with injOver := true }) := by
  have shown : pg (chPage n) 0x58 ≠ pg (chPage n) 0x4C := by unfold pg; omega
  refine ⟨?_, ?_, Block.chStat_mods _ n⟩
  · rw [Block.clampBegun, Block.fld_congr (Block.getR_chStat_ne _ shown), Block.fld_bump16,
      Block.fld_congr (Block.getR_setB_ne _ (pg_chPage_ne_acq (by decide)).symm _ _)]
    rfl
  · rw [Block.clampBegun, Block.rbit_congr (Block.getR_chStat_ne _ (pg_chPage_ne_acq (by decide))),
      Block.rbit_congr (Block.getR_bump_ne _ (pg_chPage_ne_acq (by decide)) _ _ _)]
    exact Block.rbit_setB_same _ _ _ _ (by omega)

theorem clampRegs_apart (h : k ≠ n) : pg (chPage k) 0x5C ∉ clampRegs n := by
  simp only [clampRegs, List.mem_cons, List.not_mem_nil, or_false, not_or]
  exact ⟨(pg_chPage_ne_acq (by decide)).symm, pg_chPage_ne h (by decide) (by decide), pg_chPage_ne h (by decide) (by decide)⟩

theorem quiet_channel (hn : n < 16) {o : Nat} (ho : 0x40 ≤ o) (ho' : o < 0x400) : quietReg (pg (chPage n) o) := by
  unfold quietReg pg chPage; omega

theorem acq_apart {o : Nat} (ho : o < 0x400) (h : o ≠ 0x54) : pg 6 o ∉ nbrRegs k := by
  have sticky : pg 6 o ≠ pg 6 0x54 := by unfold pg; omega
  simp only [nbrRegs, List.mem_cons, List.not_mem_nil, or_false, not_or]
  exact ⟨pg_chPage_ne_acq ho, pg_chPage_ne_acq ho, sticky⟩

/-- What the row does of the channel itself, whatever is marked. -/
theorem Block.clampOver_own (hn : n < 16) (h : (s.mod n).injOver = false) :
    (∀ d, s.mods[n]? = some d → ∃ e, (s.clampOver n false).mods[n]? = some e ∧ e.noMarks = { d.noMarks with injOver := true })
      ∧ (s.clampOver n false).fld (pg (chPage n) 0x58) 15 0 = min 65535 (s.fld (pg (chPage n) 0x58) 15 0 + 1)
      ∧ (s.clampOver n false).rbit (pg 6 0x50) n = true ∧ (s.clampOver n false).rbit (pg (chPage n) 0x0C) 3 = true := by
  obtain ⟨count, bit, mods⟩ := s.clampBegun_row hn
  have apart : n ∉ s.nbrList n := fun k => neighbours_ne (s.nbrList_sub k) rfl
  rw [s.clampOver_of hn h]
  refine ⟨fun d hd => ?_, ?_, ?_, Block.raise_event _ _ 3 0 (by decide)⟩
  · have own := (s.clampBegun n).nbrMarks_mods (s.nbrList n) n
    rw [if_neg apart, mods, Option.map_id, modNth, List.getElem?_modify_eq, hd] at own
    rw [Block.raise_mods]
    exact Option.map_eq_some_iff.1 own
  · rw [Block.fld_congr (Block.getR_raise _ (quiet_channel hn (by decide) (by decide)) _ _ _),
      Block.fld_congr (Block.getR_nbrMarks _ fun k hk => nbrRegs_apart (by rintro rfl; exact apart hk) (by decide)), count]
  · rw [Block.rbit_congr (Block.getR_raise _ (quiet_acq (by decide) (by decide)) _ _ _),
      Block.rbit_congr (Block.getR_nbrMarks _ fun k _ => acq_apart (by decide) (by decide)), bit]

/-- What it does of a neighbour with NBR_MARK set. -/
theorem Block.clampOver_neighbour (hn : n < 16) (h : (s.mod n).injOver = false) (mark : s.rbit (pg 6 0x40) 0 = true)
    (hk : k ∈ neighbours n) :
    (s.clampOver n false).fld (pg (chPage k) 0x5C) 15 0 = min 65535 (s.fld (pg (chPage k) 0x5C) 15 0 + 1)
      ∧ (∀ d, s.mods[k]? = some d → ∃ e, (s.clampOver n false).mods[k]? = some e
          ∧ e.noMarks = { d.noMarks with nbrNow := true, nbrLeft := 0 })
      ∧ ∀ m ∈ s.modsOn k, ∀ w, s.markNow m = some w → ∃ x, (s.clampOver n false).markNow m = some x ∧ x.cause ≠ 0 := by
  have list : s.nbrList n = neighbours n := if_pos mark
  have page : k < 16 := neighbours_lt hn hk
  obtain ⟨-, -, mods⟩ := s.clampBegun_row hn
  rw [s.clampOver_of hn h, list]
  refine ⟨?_, fun d hd => ?_, fun m hm w hw => ?_⟩
  · rw [Block.fld_congr (Block.getR_raise _ (quiet_channel page (by decide) (by decide)) _ _ _),
      Block.nbrMarks_count _ (neighbours_nodup n) hk, Block.fld_congr (s.onlyPins_clampBegun.getR (clampRegs_apart (neighbours_ne hk)))]
  · have own := (s.clampBegun n).nbrMarks_mods (neighbours n) k
    rw [if_pos hk, mods, modNth, List.getElem?_modify_ne _ _ (neighbours_ne hk).symm, hd] at own
    rw [Block.raise_mods]
    exact Option.map_eq_some_iff.1 own
  · have word : (s.clampBegun n).markNow m = some w := by
      rw [Block.clampBegun, (Block.onlyRegs_chStat _ n).markNow]
      exact (s.markNow_modMod n m (by exact fun _ => rfl)).trans hw
    have pins : m ∈ (s.clampBegun n).modsOn k := by rwa [s.onlyPins_clampBegun.onlyModsRegs.modsOn k]
    rw [Block.markNow_raise]
    exact Block.nbrMarks_markNow _ (neighbours_nodup n) hk page pins word

/-- With it clear no channel is marked and none counts (log 13). -/
theorem Block.clampOver_unmarked (hn : n < 16) (h : (s.mod n).injOver = false) (mark : s.rbit (pg 6 0x40) 0 = false) :
    (s.clampOver n false).mods = modNth s.mods n (fun d => { d with injOver := true })
      ∧ ∀ k < 16, (s.clampOver n false).fld (pg (chPage k) 0x5C) 15 0 = s.fld (pg (chPage k) 0x5C) 15 0 := by
  have list : s.nbrList n = [] := if_neg (by simp [mark])
  have count (k : Nat) : pg (chPage k) 0x5C ∉ clampRegs n := by
    simp only [clampRegs, List.mem_cons, List.not_mem_nil, or_false, not_or]
    unfold pg chPage; omega
  obtain ⟨-, -, mods⟩ := s.clampBegun_row hn
  rw [s.clampOver_of hn h, list]
  refine ⟨(Block.raise_mods _ _ 3 0).trans mods, fun k hk => ?_⟩
  exact Block.fld_congr ((Block.getR_raise _ (quiet_channel hk (by decide) (by decide)) _ _ _).trans
    (s.onlyPins_clampBegun.getR (count k))) 15 0

/-! ### The current falls below the rating -/

/-- A neighbour of the channel is over the rating. -/
def Block.nbrOver (s : Block) (k : Nat) : Bool := (neighbours k).any (fun j => (s.mod j).injOver)

/-- A modulator's marking that ends unless another neighbour is over: it runs on for this pick and the three after it. -/
def Modulator.nbrFreed (other : Bool) (d : Modulator) : Modulator :=
  if d.nbrNow = true ∧ other = false then { d with nbrNow := false, nbrLeft := 4 } else d

/-- One neighbour's marking looked at. -/
def Block.nbrFree (s : Block) (k : Nat) : Block :=
  if !(s.mod k).nbrNow || s.nbrOver k then s
  else (s.modMod k (fun d => { d with nbrNow := false, nbrLeft := 4 })).chStat k

theorem Block.mod_of_some {j : Nat} {d : Modulator} (h : s.mods[j]? = some d) : s.mod j = d := by
  simp [Block.mod, nth, List.getD, h]

theorem Block.nbrFree_mods (k j : Nat) :
    (s.nbrFree k).mods[j]? = s.mods[j]?.map (if j = k then Modulator.nbrFreed (s.nbrOver k) else id) := by
  by_cases hj : j = k
  · subst hj
    rw [if_pos rfl, Block.nbrFree]
    cases hd : s.mods[j]? with
    | none => split <;> simp [hd, modNth]
    | some d =>
      rw [s.mod_of_some hd]
      cases hn : d.nbrNow <;> cases ho : s.nbrOver j <;> simp [hd, hn, modNth, Modulator.nbrFreed]
  · rw [if_neg hj, Block.nbrFree]
    split <;> simp [modNth, Ne.symm hj]

/-- Who is over the rating is no matter of the marking. -/
theorem Block.nbrFree_nbrOver (k i : Nat) : (s.nbrFree k).nbrOver i = s.nbrOver i := by
  have same (j : Nat) : ((s.nbrFree k).mod j).injOver = (s.mod j).injOver := by
    unfold Block.nbrFree
    split
    · rfl
    · rw [Block.chStat_mod]
      exact s.field_modMod Modulator.injOver k j (fun _ => rfl)
  simp only [Block.nbrOver, same]

theorem Block.getR_nbrFree {k a : Nat} (h : a ≠ pg (chPage k) 0x4C) : (s.nbrFree k).getR a = s.getR a := by
  unfold Block.nbrFree
  split
  · rfl
  · exact Block.getR_chStat_ne _ h

/-- The markings of a list looked at in turn. -/
def Block.nbrFrees (s : Block) (l : List Nat) : Block := forEach l (fun k b => b.nbrFree k) s

theorem Block.getR_nbrFrees {l : List Nat} {a : Nat} (h : ∀ k ∈ l, a ≠ pg (chPage k) 0x4C) : (s.nbrFrees l).getR a = s.getR a := by
  refine List.foldlRecOn (motive := fun t : Block => t.getR a = s.getR a) _ _ rfl fun t ht k hk => ?_
  exact (t.getR_nbrFree (h k hk)).trans ht

theorem Modulator.nbrFreed_twice (other : Bool) (d : Modulator) : (d.nbrFreed other).nbrFreed other = d.nbrFreed other := by
  by_cases h : d.nbrNow = true ∧ other = false <;> simp [Modulator.nbrFreed, h]

theorem Block.nbrFrees_mods (l : List Nat) (j : Nat) :
    (s.nbrFrees l).mods[j]? = s.mods[j]?.map (if j ∈ l then Modulator.nbrFreed (s.nbrOver j) else id) := by
  induction l generalizing s with
  | nil => simp [Block.nbrFrees, forEach]
  | cons k l ih =>
    have step : (if j ∈ l then Modulator.nbrFreed (s.nbrOver j) else id) ∘ (if j = k then Modulator.nbrFreed (s.nbrOver k) else id)
        = if j ∈ k :: l then Modulator.nbrFreed (s.nbrOver j) else id := by
      by_cases hk : j = k
      · subst hk
        rw [if_pos rfl, if_pos List.mem_cons_self]
        split
        · exact funext fun d => d.nbrFreed_twice _
        · rfl
      · simp [hk]
    have rest : (s.nbrFrees (k :: l)) = (s.nbrFree k).nbrFrees l := rfl
    rw [rest, ih, s.nbrFree_mods, s.nbrFree_nbrOver, Option.map_map, step]

/-- The channel under the rating again and shown so. -/
def Block.clampLeft (s : Block) (n : Nat) : Block := (s.modMod n (fun d => { d with injOver := false })).chStat n

theorem Block.clampEnd_of (h : (s.mod n).injOver = true) : s.clampEnd n = (s.clampLeft n).nbrFrees (neighbours n) := by
  rw [Block.clampEnd, if_neg (by simp [h])]; rfl

/-- Another neighbour is over than the channel that has just left. -/
theorem Block.clampLeft_nbrOver (h : (s.mod n).injOver = true) (k : Nat) :
    (s.clampLeft n).nbrOver k = false ↔ ∀ j ∈ neighbours k, j ≠ n → (s.mod j).injOver = false := by
  have listed : n < s.mods.length := s.lt_of_mod_ne (fun e => by rw [e] at h; cases h)
  have left : ((s.clampLeft n).mod n).injOver = false := by
    rw [Block.clampLeft, Block.chStat_mod, Block.mod_modMod_same _ _ listed]
  have others {j : Nat} (hj : j ≠ n) : (s.clampLeft n).mod j = s.mod j := by
    rw [Block.clampLeft, Block.chStat_mod, Block.mod_modMod_ne _ _ hj]
  simp only [Block.nbrOver, List.any_eq_false, Bool.not_eq_true]
  refine ⟨fun all j hj hn => others hn ▸ all j hj, fun all j hj => ?_⟩
  by_cases hn : j = n
  · rw [hn, left]
  · rw [others hn, all j hj hn]

theorem Block.clampEnd_row (h : (s.mod n).injOver = true) :
    (∀ d, s.mods[n]? = some d → (s.clampEnd n).mods[n]? = some { d with injOver := false })
      ∧ (s.clampEnd n).rbit (pg (chPage n) 0x4C) 2 = false
      ∧ (∀ k ∈ neighbours n, ∀ d, s.mods[k]? = some d → (s.clampEnd n).mods[k]? = some
          (if d.nbrNow = true ∧ ∀ j ∈ neighbours k, j ≠ n → (s.mod j).injOver = false
            then { d with nbrNow := false, nbrLeft := 4 } else d))
      ∧ ∀ k, k ≠ n → k ∉ neighbours n → (s.clampEnd n).mods[k]? = s.mods[k]? := by
  have own : n ∉ neighbours n := fun k => neighbours_ne k rfl
  have mods : (s.clampLeft n).mods = modNth s.mods n (fun d => { d with injOver := false }) := Block.chStat_mods _ n
  have apart {k : Nat} (hk : k ≠ n) : (s.clampLeft n).mods[k]? = s.mods[k]? := by
    rw [mods, modNth, List.getElem?_modify_ne _ _ hk.symm]
  rw [s.clampEnd_of h]
  refine ⟨fun d hd => ?_, ?_, fun k hk d hd => ?_, fun k hn hk => ?_⟩
  · rw [Block.nbrFrees_mods, if_neg own, Option.map_id, mods, modNth, List.getElem?_modify_eq, hd]; rfl
  · have listed : n < s.mods.length := s.lt_of_mod_ne (fun e => by rw [e] at h; cases h)
    rw [Block.rbit_congr (Block.getR_nbrFrees _ fun k hk => pg_chPage_ne (neighbours_ne hk).symm (by decide) (by decide)),
      Block.clampLeft, Block.rbit_chStat_overdrive, Block.mod_modMod_same _ _ listed]
  · rw [Block.nbrFrees_mods, if_pos hk, apart (neighbours_ne hk), hd, Option.map_some, Modulator.nbrFreed]
    simp only [s.clampLeft_nbrOver h k]
  · rw [Block.nbrFrees_mods, if_neg hk, Option.map_id, apart hn]; rfl

/-- Settles O23: the channel's own part and its neighbours' of the rise, and the end of the marking. -/
theorem neighbourRows : Obligations.NeighbourRows := by
  unfold Obligations.NeighbourRows
  intro s n hp hn
  refine ⟨fun h => ?_, fun h => ?_⟩
  · obtain ⟨mods, count, bit, event⟩ := s.block.arrive.clampOver_own hn h
    exact leads_of rfl (s.block.actIf_of _ _ hp (decide_eq_true hn)) ⟨mods, count, bit, event,
      fun mark _ hk => s.block.arrive.clampOver_neighbour hn h mark hk, fun mark => s.block.arrive.clampOver_unmarked hn h mark⟩
  · exact leads_of rfl (s.block.within_of _ _ hp (decide_eq_true hn)) (s.block.clampEnd_row h)

end Sys2Proof.Machine
end

section
/-! SUPPORT. What entries in rings, reports, power requests and the log store leave of PQ (R175, R463, R529, R543). A request keeps its
page number in the arbiter's list, so its BUDGET word may fall on any page, PQ's too: the frame is over block registers and EVT_RAW. -/

namespace Sys2Proof.Machine

/-- PQ's inner state and block registers are as they were, and no page has lost an event. -/
def Block.keepsPq (s t : Block) : Prop :=
  t.pq = s.pq ∧ (∀ a, a / 0x400 = 0x33 → 0x40 ≤ a % 0x400 → t.getR a = s.getR a)
    ∧ ∀ q k, s.rbit (pg q 0x0C) k = true → t.rbit (pg q 0x0C) k = true

/-- A register that is neither a block register of PQ nor an EVT_RAW. -/
abbrev offPq (a : Nat) : Prop := ¬ (a / 0x400 = 0x33 ∧ 0x40 ≤ a % 0x400) ∧ a % 0x400 ≠ 0x0C

/-- A raise under any stamp leaves what EVT_RAW holds. -/
theorem Block.rbit_raiseAt (s : Block) (p d x : Nat) (e i : Bool) (st : Nat) {q k : Nat} (h : s.rbit (pg q 0x0C) k = true) :
    (s.raiseAt p d x e i st).rbit (pg q 0x0C) k = true := by
  refine Block.rbit_eventNews _ _ _ _ (Block.rbit_noteEvent _ _ _ _ _ _ ?_)
  rw [Block.rbit_ringOffer _ 2 (by decide), Block.rbit_noteFault]
  exact h

/-- After it the detector's bit is set. -/
theorem Block.raiseAt_event (s : Block) (p d x : Nat) (e i : Bool) (st : Nat) (hd : d < 32) :
    (s.raiseAt p d x e i st).rbit (pg p 0x0C) d = true :=
  Block.rbit_eventNews _ _ _ _ (Block.rbit_noteEvent_same _ _ _ _ hd)

namespace Block.keepsPq

variable {s t u : Block}

theorem pq (h : s.keepsPq t) : t.pq = s.pq := h.1

theorem getR (h : s.keepsPq t) {a : Nat} (hp : a / 0x400 = 0x33) (ho : 0x40 ≤ a % 0x400) : t.getR a = s.getR a := h.2.1 a hp ho

theorem event (h : s.keepsPq t) {q k : Nat} (hk : s.rbit (pg q 0x0C) k = true) : t.rbit (pg q 0x0C) k = true := h.2.2 q k hk

theorem refl : s.keepsPq s := ⟨rfl, fun _ _ _ => rfl, fun _ _ h => h⟩

theorem trans (h : s.keepsPq t) (k : t.keepsPq u) : s.keepsPq u := by
  obtain ⟨pq, regs, events⟩ := h
  obtain ⟨pq', regs', events'⟩ := k
  exact ⟨pq'.trans pq, fun a hp ho => (regs' a hp ho).trans (regs a hp ho), fun q k hk => events' q k (events q k hk)⟩

theorem ite {p : Prop} [Decidable p] (h : s.keepsPq t) (k : s.keepsPq u) : s.keepsPq (if p then t else u) := by
  split
  · exact h
  · exact k

/-- A step that a test may leave out. -/
theorem maybe {p : Prop} [Decidable p] (h : s.keepsPq t) (k : t.keepsPq u) : s.keepsPq (if p then u else t) := ite (h.trans k) h

/-- What moves neither PQ nor a register. -/
theorem same (h : s.keepsPq t) (hp : u.pq = t.pq) (hr : u.regs = t.regs) : s.keepsPq u :=
  h.trans ⟨hp, fun a _ _ => Block.getR_congr hr a, fun q k hk => (Block.rbit_congr (Block.getR_congr hr (pg q 0x0C)) k).trans hk⟩

theorem modArb (h : s.keepsPq t) (f : Arbiter → Arbiter) : s.keepsPq (t.modArb f) := h.same rfl rfl

theorem modStream (h : s.keepsPq t) (k : Nat) (f : LogStream → LogStream) : s.keepsPq (t.modStream k f) := h.same rfl rfl

theorem setR (h : s.keepsPq t) {a : Nat} (v : Word) (ha : offPq a) : s.keepsPq (t.setR a v) := by
  obtain ⟨block, header⟩ := ha
  refine h.trans ⟨rfl, fun b hp ho => t.getR_setR_ne v (by rintro rfl; exact block ⟨hp, ho⟩), fun q k hk => ?_⟩
  rwa [Block.rbit_congr (t.getR_setR_ne v (by rintro rfl; unfold pg at header; omega))]

theorem raiseAt (h : s.keepsPq t) (p d x : Nat) (e i : Bool) (st : Nat) : s.keepsPq (t.raiseAt p d x e i st) :=
  h.trans ⟨Block.pq_of_rest (t.rest_raiseAt p d x e i st),
    fun _ hp ho => t.getR_raiseAt ⟨ho, by omega, by omega⟩ p d x e i st, fun _ _ hk => t.rbit_raiseAt p d x e i st hk⟩

theorem raise (h : s.keepsPq t) (p d x : Nat) : s.keepsPq (t.raise p d x) := h.raiseAt p d x false false _

theorem each {α : Type} (h : s.keepsPq t) {f : α → Block → Block} (hf : ∀ x (b : Block), b.keepsPq (f x b)) (l : List α) :
    s.keepsPq (forEach l f t) :=
  List.foldlRecOn (motive := s.keepsPq) _ _ h fun b hb x _ => hb.trans (hf x b)

/-! ### Entries in rings -/

theorem ringOffer (h : s.keepsPq t) {n : Nat} (hn : n < 16) (l : List Entry) : s.keepsPq (t.ringOffer n l).1 :=
  h.trans ⟨Block.pq_of_rest (t.rest_ringOffer n l),
    fun _ hp ho => t.getR_ringOffer (quiet_offRing ⟨ho, by omega, by omega⟩) n hn l,
    fun q k hk => (t.rbit_ringOffer n hn l q k).trans hk⟩

theorem put (h : s.keepsPq t) {n : Nat} (hn : n < 16) (h2 : n ≠ 2) (l : List Entry) : s.keepsPq (t.put n l) := by
  rw [Block.put, if_neg h2]
  exact (((h.ringOffer hn l).maybe (refl.raise 0x2D 3 n)).maybe ((refl.raise 0x2D 1 n).setR _ (by decide))).maybe (refl.raise 0x2D 2 n)

/-- P08's ring takes an entry as it stands, with no copy of it (R457). -/
theorem putEngine8 (h : s.keepsPq t) (e : Entry) : s.keepsPq (t.putEngine 8 e) := h.put (n := 8) (by decide) (by decide) [e]

theorem mergeFlush8 (h : s.keepsPq t) : s.keepsPq (t.mergeFlush 8) := by
  unfold Block.mergeFlush
  extract_lets ws done last out key sorted rest
  exact each (h.same (u := rest) rfl rfl) (fun m _ => each refl (fun e _ => refl.putEngine8 e) m.entries) sorted

theorem mergePut8 (h : s.keepsPq t) (e stamp : Nat) (l : List Entry) : s.keepsPq (t.mergePut 8 e stamp l) := by
  unfold Block.mergePut
  exact mergeFlush8 (h.same rfl rfl)

theorem put8 (h : s.keepsPq t) (c : Capture) (type : Nat) (body : List Byte) : s.keepsPq (t.put8 c type body) := by
  unfold Block.put8
  split
  · exact h.mergePut8 _ _ _
  · exact h

/-! ### Power requests -/

theorem showBudget (h : s.keepsPq t) (r : ArbReq) : s.keepsPq (t.showBudget r) := h.setR _ (by unfold offPq pg; omega)

/-- A report of the arbiter, withheld in HOLD. -/
theorem raiseOutsideHold (h : s.keepsPq t) (p d x : Nat) : s.keepsPq (if t.pwr.st == .hold then t else t.raise p d x) :=
  ite h (h.raise p d x)

theorem arbSettle (h : s.keepsPq t) (redo : Bool) (old new : ArbReq) : s.keepsPq (t.arbSettle redo old new) := by
  unfold Block.arbSettle
  exact ((((h.modArb _).showBudget new).maybe (((refl.modArb _).setR _ (by decide)).raiseOutsideHold 2 1 _)).maybe
    (refl.modArb _)).maybe ((refl.setR _ (by decide)).raiseOutsideHold 2 4 0)

theorem arbWait (h : s.keepsPq t) (free : Nat) (r : ArbReq) : s.keepsPq (t.arbWait free r).1 := by
  simp only [Block.arbWait]
  split
  · exact h.same rfl rfl
  · exact h

theorem arbRun (h : s.keepsPq t) (redo : Bool) (free : Nat) (blocked : Bool) (l : List ArbReq) :
    s.keepsPq (t.arbRun redo free blocked l) := by
  induction l generalizing t free blocked with
  | nil => exact h
  | cons r l ih =>
    refine ih (arbSettle ?_ _ _ _) _ _
    split
    · exact h.arbWait _ _
    · exact h

theorem arbC0 (h : s.keepsPq t) : s.keepsPq t.arbC0 := by
  unfold Block.arbC0
  exact (((h.maybe ((refl.setR _ (by decide)).raiseOutsideHold 2 2 0)).modArb _).setR _ (by decide)).setR _ (by decide)

theorem chargeCurrent (h : s.keepsPq t) : s.keepsPq t.chargeCurrent := h.setR _ (by decide)

theorem arbEval (h : s.keepsPq t) : s.keepsPq t.arbEval := (ite h (h.arbRun _ _ _ _)).arbC0.chargeCurrent

theorem arbReeval (h : s.keepsPq t) : s.keepsPq t.arbReeval := (h.arbRun _ _ _ _).arbC0.chargeCurrent

theorem arbRequest (h : s.keepsPq t) (page cls mw : Nat) (standing : Bool) : s.keepsPq (t.arbRequest page cls mw standing) := by
  unfold Block.arbRequest
  split
  · exact ite h (h.modArb _).arbReeval
  · exact (h.modArb _).showBudget _

theorem arbRelease (h : s.keepsPq t) (page : Nat) : s.keepsPq (t.arbRelease page) := by
  unfold Block.arbRelease
  split
  · exact h
  · exact ite (h.modArb _) ((h.modArb _).setR _ (by unfold offPq pg; omega))

theorem arbOperation (h : s.keepsPq t) (page cls mw : Nat) : s.keepsPq (t.arbOperation page cls mw).1 := by
  unfold Block.arbOperation
  refine ite ?freed (arbRequest ?freed page cls mw false).arbEval
  split
  · exact ite (h.arbRelease page) h
  · exact h

/-! ### A record offered to the log store -/

theorem storRequest (h : s.keepsPq t) : s.keepsPq t.storRequest := ite (h.arbOperation _ _ _) (h.arbRelease _)

theorem logLose (h : s.keepsPq t) (k stamp : Nat) : s.keepsPq (t.logLose k stamp) :=
  (h.modStream k _).maybe (refl.raise 0x3A 3 0)

theorem stage (h : s.keepsPq t) (k : Nat) (r : LogRec) : s.keepsPq (t.stage k r) :=
  ite h (ite h (ite (h.logLose k _) (ite (h.logLose k _)
    ((ite h (h.put (by decide) (by decide) _)).modStream k _).storRequest)))

end Block.keepsPq

end Sys2Proof.Machine
end

section
/-! SUPPORT. Captures (R242, R243, R245, R249, R257): triggers, slots that become free, and the end of a capture. -/

namespace Sys2Proof.Machine

variable (s : Block)

/-! ### Arming, and a slot freed -/

/-- Arming moves no more than the armed slot (R242). -/
theorem Block.capArm_eq : ∃ a, s.capArm = s.modPq (fun p => { p with armed := a }) := by
  unfold Block.capArm
  dsimp only
  split
  · exact ⟨s.pq.armed, rfl⟩
  · split
    · exact ⟨_, rfl⟩
    · exact ⟨s.pq.armed, rfl⟩

theorem Block.capArm_pq : ∃ a, s.capArm.pq = { s.pq with armed := a } := by
  obtain ⟨a, h⟩ := s.capArm_eq
  exact ⟨a, by rw [h]; rfl⟩

theorem Block.capArm_regs : s.capArm.regs = s.regs := by
  obtain ⟨a, h⟩ := s.capArm_eq
  rw [h]; rfl

/-- A slot freed leaves the list of the held ones; of PQ's state only the armed slot moves besides (R245). -/
theorem Block.capFree_pq (k : Nat) :
    ∃ a, (s.capFree k).pq = { s.pq with held := s.pq.held.filter (fun h => h.1 ≠ k), armed := a } := by
  unfold Block.capFree
  dsimp only
  split
  · exact Block.capArm_pq _
  · exact Block.capArm_pq _

theorem Block.mem_capFree_held (k : Nat) (h : Nat × Nat) : h ∈ (s.capFree k).pq.held ↔ h ∈ s.pq.held ∧ h.1 ≠ k := by
  obtain ⟨a, pq⟩ := s.capFree_pq k
  rw [pq]
  simp

theorem Block.capFree_cap (k : Nat) : (s.capFree k).pq.cap = s.pq.cap := by
  obtain ⟨a, pq⟩ := s.capFree_pq k
  rw [pq]

theorem Block.capFree_copied (k : Nat) : (s.capFree k).pq.copied = s.pq.copied := by
  obtain ⟨a, pq⟩ := s.capFree_pq k
  rw [pq]

/-! ### A trigger (R243) -/

section
variable (code stamp abs rtc evId : Nat) (inj : Bool) (on : s.pqOn = true)
include on

/-- The armed slot takes it; another slot may be armed then. -/
theorem Block.capTrigger_armed (idle : s.pq.cap = none) {a : Nat × Nat} (armed : s.pq.armed = some a) :
    ∃ c next, (s.capTrigger code stamp abs rtc evId inj).pq
        = { s.pq with capId := s.pq.capId + 1, armed := next, cap := some c }
      ∧ c.slot = a.1 ∧ c.code = code ∧ c.id = s.pq.capId + 1 ∧ c.stamp = stamp ∧ c.started = false ∧ c.extra = 0 := by
  rw [Block.capTrigger, on, idle, armed]
  obtain ⟨next, pq⟩ := Block.capArm_pq _
  exact ⟨_, next, pq, rfl, rfl, rfl, rfl, rfl, rfl⟩

/-- A filling capture counts it. -/
theorem Block.capTrigger_filling {c : Capture} (fills : s.pq.cap = some c) :
    s.capTrigger code stamp abs rtc evId inj = s.modPq (fun p => { p with cap := some { c with extra := satAdd 255 c.extra 1 } }) := by
  rw [Block.capTrigger, on, fills]; rfl

/-- Without a free slot it is lost. -/
theorem Block.capTrigger_lost (idle : s.pq.cap = none) (armed : s.pq.armed = none) (full : s.freeSlots = []) :
    s.capTrigger code stamp abs rtc evId inj = (s.bump (pg 0x33 0x74) 15 0 1).raiseX 0x33 5 0 false inj := by
  rw [Block.capTrigger, on, idle, armed, full]; rfl

end

theorem Block.lostTrigger_row : let t := (s.bump (pg 0x33 0x74) 15 0 1).raise 0x33 5 0
    t.fld (pg 0x33 0x74) 15 0 = min 65535 (s.fld (pg 0x33 0x74) 15 0 + 1) ∧ t.rbit (pg 0x33 0x0C) 5 = true
      ∧ s.onlyRaised t [0x33] [pg 0x33 0x74] := by
  refine ⟨?_, Block.raise_event _ 0x33 5 0 (by decide), ?_⟩
  · rw [Block.fld_congr (Block.getR_raise _ (by unfold quietReg; decide) _ _ _), Block.fld_bump16]
  · exact ((s.onlyRaised_refl _ _).setR _ (by decide)).raise 5 0 (by decide)

/-! ### RELEASE (R257) -/

theorem Block.capCmdRelease_of {k : Nat} (exist : k < slotsOf (s.getR (pg 0x33 0x5C))) (idle : s.pq.cap.map (·.slot) ≠ some k) :
    s.capCmdRelease k = s.capFree k := by
  rw [Block.capCmdRelease, if_neg]
  cases fills : s.pq.cap with
  | none => simpa using exist
  | some c => simpa [exist, fills] using idle

theorem Block.capCmdRelease_refused {k : Nat}
    (h : slotsOf (s.getR (pg 0x33 0x5C)) ≤ k ∨ s.pq.cap.map (·.slot) = some k) : s.capCmdRelease k = s.raise 0x33 6 0 := by
  rw [Block.capCmdRelease, if_pos]
  rw [Bool.or_eq_true, decide_eq_true_eq]
  refine h.imp_right fun fills => ?_
  obtain ⟨c, hc, rfl⟩ := Option.map_eq_some_iff.1 fills
  simp [hc]

/-! ### The end of a capture (R245, R249), and of its copy -/

/-- A capture complete in RUN is reported and entered (u), then counted and held; the copy to the log and the page's state follow (v). -/
theorem Block.capDone_of {c : Capture} (run : s.pwr.st = .run) (fills : s.pq.cap = some c) (complete : c.complete = true)
    (started : c.started = true) :
    ∃ u v, s.capDone = Block.capArm v
      ∧ ((u.bump (pg 0x33 0x78) 31 0 1).modPq (fun p => { p with cap := none, held := p.held
          ++ [(c.slot, min c.len (slotSize (s.getR (pg 0x33 0x5C)) (s.getR (pg 0x33 0x68))))] })).keepsPq v
      ∧ s.keepsPq u ∧ u.rbit (pg 0x33 0x0C) 4 = true := by
  have done : ¬ (!c.complete || !c.started || (s.pwr.st != .run && !c.aborted)) = true := by simp [run, complete, started]
  rw [Block.capDone, fills]
  dsimp -zeta only
  rw [if_neg done]
  extract_lets size stored status hdr written reported entered held logged drained
  refine ⟨entered, drained, rfl, ?after, ?before, ?event⟩
  case after => exact (Block.keepsPq.refl.maybe (Block.keepsPq.refl.stage 4 _)).maybe (Block.keepsPq.refl.setR _ (by decide))
  case before => exact ((Block.keepsPq.refl.same (u := written) rfl rfl).raiseAt 0x33 4 0 false c.inj c.stamp).put8 c _ _
  case event =>
    exact (Block.keepsPq.refl.put8 c _ _).event (written.raiseAt_event 0x33 4 0 false c.inj c.stamp (by decide))

theorem Block.capDone_row {c : Capture} (run : s.pwr.st = .run) (fills : s.pq.cap = some c) (complete : c.complete = true)
    (started : c.started = true) :
    s.capDone.pq.cap = none
      ∧ s.capDone.pq.held = s.pq.held ++ [(c.slot, min c.len (slotSize (s.getR (pg 0x33 0x5C)) (s.getR (pg 0x33 0x68))))]
      ∧ s.capDone.fld (pg 0x33 0x78) 31 0 = min (2 ^ 32 - 1) (s.fld (pg 0x33 0x78) 31 0 + 1)
      ∧ s.capDone.rbit (pg 0x33 0x0C) 4 = true := by
  obtain ⟨u, v, ends, after, before, event⟩ := s.capDone_of run fills complete started
  obtain ⟨next, pq⟩ := v.capArm_pq
  have word (a : Nat) : v.capArm.getR a = v.getR a := Block.getR_congr v.capArm_regs a
  rw [ends, pq, after.pq]
  refine ⟨rfl, congrArg (· ++ _) (congrArg Pq.held before.pq), ?_, ?_⟩
  · rw [Block.fld_congr (word _), Block.fld_congr (after.getR (by decide) (by decide))]
    exact (u.fld_bump_same _ 31 0 1 (by decide) (by decide)).trans (by rw [Block.fld_congr (before.getR (by decide) (by decide))])
  · rw [Block.rbit_congr (word _)]
    exact after.event ((Block.rbit_congr (u.getR_bump_ne (by decide) _ _ _) 4).trans event)

theorem Block.capCopied_of {k : Nat} {rest : List Nat} (h : s.pq.copied = k :: rest) :
    s.capCopied = if s.rbit (pg 0x33 0x5C) 2 then (s.modPq (fun p => { p with copied := rest })).capFree k
      else s.modPq (fun p => { p with copied := rest }) := by
  rw [Block.capCopied, h]; rfl

theorem Block.capCopied_row {k : Nat} {rest : List Nat} (h : s.pq.copied = k :: rest) :
    s.capCopied.pq.copied = rest
      ∧ (s.rbit (pg 0x33 0x5C) 2 = true → ∀ x, x ∈ s.capCopied.pq.held ↔ x ∈ s.pq.held ∧ x.1 ≠ k)
      ∧ (s.rbit (pg 0x33 0x5C) 2 = false → s.capCopied.pq.held = s.pq.held) := by
  rw [s.capCopied_of h]
  split
  case isTrue auto => exact ⟨Block.capFree_copied _ k, fun _ => Block.mem_capFree_held _ k, fun off => by simp [auto] at off⟩
  case isFalse auto => exact ⟨rfl, fun on => absurd on auto, fun _ => rfl⟩

/-! ### The rows -/

/-- CAP_CMD TRIGGER where the host's words reach the registers. -/
theorem Block.toReg_capTrigger (h : s.hostReady = true) :
    s.toReg 0x33 0x6C (cmdWord 1 0 0) = s.arrive.nextFrame.capCmdTrigger :=
  (s.toReg_of 0x33 0x6C _ h (by decide) (by decide) (by decide) (by decide)).trans (Block.regWriteTo_cmd _ _ _ _ _ (by decide) rfl)

theorem Block.cmdWrite_capRelease {k : Nat} (hk : k < 4) : s.cmdWrite 0x33 0x6C (cmdWord 2 k 0) = some (s.capCmdRelease k) := by
  have cmd : (cmdWord 2 k 0).bits 3 0 = 2 := cmdWord_cmd 2 k 0 (by decide) (by omega) (by decide)
  have slot : (cmdWord 2 k 0).bits 9 8 = k := by
    rw [cmdWord_bits 2 k 0 9 8 (by decide) (by omega) (by decide)]; omega
  unfold Block.cmdWrite
  rw [cmd, slot]; rfl

/-- CAP_CMD RELEASE of one of the four slots, there too. -/
theorem Block.toReg_capRelease {k : Nat} (h : s.hostReady = true) (hk : k < 4) :
    s.toRegIf (k < 4) 0x33 0x6C (cmdWord 2 k 0) = s.arrive.nextFrame.capCmdRelease k :=
  (s.toRegIf_of _ 0x33 0x6C _ h (decide_eq_true hk) (by decide) (by decide) (by decide) (by decide)).trans
    (Block.regWriteTo_cmd _ _ _ _ _ (by decide) (Block.cmdWrite_capRelease _ hk))

theorem Block.unitsUp_of_run {s : Block} (h : s.pwr.st = .run) : s.unitsUp = true := by rw [Block.unitsUp, Block.powered, h]; rfl

/-- Settles O36: a trigger by what PQ has armed, filling and free; RELEASE by whether the slot exists and fills; CAP_DONE and the copy
by their rows. -/
theorem captureRows : Obligations.CaptureRows := by
  unfold Obligations.CaptureRows
  intro s b cap frees
  refine ⟨fun ready on => ?_, fun k ready hk => ?_, fun c run fills complete started => ?_, fun k rest up copied => ?_⟩
  · have trigger := s.block.toReg_capTrigger ready
    refine ⟨fun a idle armed => ?_, fun c fills => ?_, fun idle armed full => ?_⟩
    · obtain ⟨c, next, pq, slot, code, id, stamp, started, extra⟩ :=
        b.capTrigger_armed 7 b.stampNow b.absPick b.rtcNow 0 false on idle armed
      have held := congrArg Pq.held pq
      exact leads_of rfl trigger ⟨c, congrArg Pq.cap pq, slot, code, id, stamp, started, extra, held⟩
    · exact next_of rfl (trigger.trans (b.capTrigger_filling _ _ _ _ _ _ on fills))
    · exact leads_of rfl (trigger.trans (b.capTrigger_lost _ _ _ _ _ _ on idle armed full)) b.lostTrigger_row
  · have release := s.block.toReg_capRelease ready hk
    refine ⟨fun exist idle => ?_, fun h => ?_⟩
    · exact leads_of rfl (release.trans (b.capCmdRelease_of exist idle)) ⟨b.mem_capFree_held k, b.capFree_cap k⟩
    · exact leads_of rfl (release.trans (b.capCmdRelease_refused h))
        ⟨Block.raise_event _ 0x33 6 0 (by decide), b.onlyRaised_raise 0x33 6 0⟩
  · exact leads_of rfl (s.block.actUp_of _ (Block.unitsUp_of_run run)) (s.block.arrive.capDone_row run fills complete started)
  · exact leads_of rfl (s.block.actUp_of _ up) (s.block.arrive.capCopied_row copied)

end Sys2Proof.Machine
end

section
/-! SUPPORT. AUX_CMD (R264, R267, R268, R276): each command where the converter takes it, and where it is rejected. -/

namespace Sys2Proof.Machine

variable (s : Block)

/-! ### AUX_STAT (R278) -/

/-- The display of the converter writes AUX_STAT alone. -/
theorem Block.onlyRegs_showAux : s.onlyRegs s.showAux [pg 0x1A 0x4C] :=
  have own := List.mem_singleton_self (pg 0x1A 0x4C)
  ((((((s.onlyRegs_refl _).setR _ own).setR _ own).setR _ own).setR _ own).setR _ own).setR _ own

@[simp] theorem Block.showAux_aux : s.showAux.aux = s.aux := by rw [s.onlyRegs_showAux.1]

/-- A bit outside the field written stays. -/
theorem Block.rbit_setF_out (a hi lo v k : Nat) (h : k < lo ∨ hi < k) : (s.setF a hi lo v).rbit a k = s.rbit a k := by
  rw [Block.rbit, Block.getR_setF_same]
  exact Word.withBits_bit_out _ _ _ _ _ h

/-- Bit 2 shows a sequence, bit 3 an urgent conversion, bit 4 a calibration that runs or waits. -/
theorem Block.rbit_showAux_sequence : s.showAux.rbit (pg 0x1A 0x4C) 2 = s.aux.seq.isSome := by
  simp (disch := decide) only [Block.showAux, Block.rbit_setF_out, Block.rbit_setB_ne, Block.rbit_setB_same]

theorem Block.rbit_showAux_urgent : s.showAux.rbit (pg 0x1A 0x4C) 3 = s.aux.urg.isSome := by
  simp (disch := decide) only [Block.showAux, Block.rbit_setF_out, Block.rbit_setB_ne, Block.rbit_setB_same]

theorem Block.rbit_showAux_cal : s.showAux.rbit (pg 0x1A 0x4C) 4 = (s.aux.calRuns || s.aux.calWaits) := by
  simp (disch := decide) only [Block.showAux, Block.rbit_setF_out, Block.rbit_setB_ne, Block.rbit_setB_same]

/-! ### The reach of a command that is taken -/

/-- Nothing differs but the converter's inner state and AUX_STAT. -/
def Block.onlyAux (s t : Block) : Prop := ({ s with aux := t.aux }).onlyRegs t [pg 0x1A 0x4C]

namespace Block.onlyAux

variable {s} {t u : Block}

theorem refl : s.onlyAux s := ⟨rfl, fun _ _ => rfl⟩

theorem trans (h : s.onlyAux t) (k : t.onlyAux u) : s.onlyAux u := by
  obtain ⟨e, r⟩ := h
  obtain ⟨e', r'⟩ := k
  refine ⟨?_, fun a ha => (r' a ha).trans (r a ha)⟩
  rw [e] at e'
  exact e'

theorem getR (h : s.onlyAux t) {a : Nat} (ha : a ≠ pg 0x1A 0x4C) : t.getR a = s.getR a := h.2 a (by simpa using ha)

theorem modAux (h : s.onlyAux t) (f : Aux → Aux) : s.onlyAux (t.modAux f) := h.trans ⟨rfl, fun _ _ => rfl⟩

theorem showAux (h : s.onlyAux t) : s.onlyAux t.showAux := by
  refine h.trans ?_
  rw [Block.onlyAux, t.showAux_aux]
  exact t.onlyRegs_showAux

end Block.onlyAux

theorem Block.onlyAux_shown (f : Aux → Aux) : s.onlyAux (s.modAux f).showAux := (Block.onlyAux.refl.modAux f).showAux

/-- A rejected command: detector 2, and nothing but what its report writes. -/
theorem Block.auxRejected_row :
    (s.raise 0x1A 2 0).rbit (pg 0x1A 0x0C) 2 = true ∧ s.onlyRaised (s.raise 0x1A 2 0) [0x1A] [] :=
  ⟨Block.raise_event _ 0x1A 2 0 (by decide), s.onlyRaised_raise 0x1A 2 0⟩

/-! ### CAL (R267) -/

section
variable (up : s.auxUp = true) (runs : s.aux.calRuns = false) (waits : s.aux.calWaits = false)
include up runs waits

theorem Block.auxCal_of_idle (seq : s.aux.seq = none) (urg : s.aux.urg = none) :
    s.auxCal = (s.modAux (fun a => { a with calRuns := true })).showAux := by
  simp [Block.auxCal, up, runs, waits, seq, urg]

/-- Under a sequence or an urgent conversion it waits (log 26). -/
theorem Block.auxCal_of_busy (busy : s.aux.seq ≠ none ∨ s.aux.urg ≠ none) :
    s.auxCal = (s.modAux (fun a => { a with calWaits := true })).showAux := by
  have under : (s.aux.seq.isSome || s.aux.urg.isSome) = true := by simpa [Option.isSome_iff_ne_none] using busy
  simp [Block.auxCal, up, runs, waits, under]

end

theorem Block.auxCal_refused (h : ¬ (s.auxUp = true ∧ s.aux.calRuns = false ∧ s.aux.calWaits = false)) :
    s.auxCal = s.raise 0x1A 2 0 := by
  refine if_pos (eq_true_of_ne_false fun taken => h ?_)
  simp only [Bool.or_eq_false_iff, Bool.not_eq_false'] at taken
  obtain ⟨⟨runs, waits⟩, up⟩ := taken
  exact ⟨up, runs, waits⟩

/-! ### START (R264, R265) -/

/-- The sequence that starts: at entry 0, under the committed entries. -/
def Block.firstSeq (s : Block) : AuxSeq where
  entries := (List.range 16).map (fun i => s.getR (pg 0x1A (0x80 + 4 * i)))
  last := s.fld (pg 0x1A 0x44) 7 4
  continuous := s.fld (pg 0x1A 0x44) 1 0 == 3
  cur := 0
  stamp := s.stampAfter s.auxDelay
  preempted := false
  results := (List.range 16).map (fun i => s.getR (pg 0x1A (0xC0 + 4 * i)))
  clamped := false

theorem Block.auxStart_of_cal (h : s.aux.calRuns = true) : s.auxStart = s.modAux (fun a => { a with trigWaits := true }) := if_pos h

theorem Block.auxStart_of_noCal (h : s.aux.calRuns = false) :
    s.auxStart = (s.modAux (fun a => { a with seq := some s.firstSeq, trigWaits := false })).showAux := if_neg (by simp [h])

theorem Block.auxCmdStart_of (up : s.auxUp = true) (trig : s.fld (pg 0x1A 0x44) 1 0 = 2 ∨ s.fld (pg 0x1A 0x44) 1 0 = 3)
    (idle : s.aux.seq = none) : s.auxCmdStart = s.auxStart := by
  simp [Block.auxCmdStart, up, trig, idle]

theorem Block.auxCmdStart_refused (h : ¬ (s.auxUp = true ∧ (s.fld (pg 0x1A 0x44) 1 0 = 2 ∨ s.fld (pg 0x1A 0x44) 1 0 = 3)
    ∧ s.aux.seq = none)) : s.auxCmdStart = s.raise 0x1A 2 0 := by
  refine if_neg fun taken => h ?_
  simp only [Bool.and_eq_true, Bool.or_eq_true, decide_eq_true_eq, Option.isNone_iff_eq_none] at taken
  obtain ⟨⟨trig, idle⟩, up⟩ := taken
  exact ⟨up, trig, idle⟩

/-! ### STOP (R264) -/

/-- The sequence that runs ends as any other; no further one follows it (log 26). -/
theorem Block.auxCmdStop_of {q : AuxSeq} (h : s.aux.seq = some q) (on : q.continuous = true) :
    s.auxCmdStop = s.modAux (fun a => { a with seq := some { q with continuous := false } }) := by
  rw [Block.auxCmdStop, h]
  exact if_pos on

theorem Block.auxCmdStop_refused (h : ∀ q, s.aux.seq = some q → q.continuous = false) : s.auxCmdStop = s.raise 0x1A 2 0 := by
  unfold Block.auxCmdStop
  split
  case h_1 q hq => exact if_neg (by simp [h q hq])
  case h_2 => rfl

/-! ### URGENT (R268) -/

/-- An urgent conversion that the word asks for is taken: none under way, the converter running, source and field values allowed. -/
def Block.urgentFits (s : Block) (w : Word) : Prop :=
  s.aux.urg = none ∧ s.auxUp = true ∧ auxSrcOk (w.bits 11 8) (w.bits 16 16) = true ∧ 9 ≤ w.bits 31 24 ∧ w.bits 22 20 ≤ 4

/-- The command's own bits are no part of that. -/
theorem Block.urgentFits_cmd (w : Word) (c : Nat) : s.urgentFits (w.withBits 3 0 c) ↔ s.urgentFits w := by
  have field {hi lo : Nat} (h : 3 < lo) (h' : lo ≤ hi) (h32 : hi < 32) : (w.withBits 3 0 c).bits hi lo = w.bits hi lo :=
    Word.withBits_bits_ne w 3 0 c hi lo (.inr h) h' h32
  rw [Block.urgentFits, field (by decide) (by decide) (by decide), field (by decide) (by decide) (by decide),
    field (by decide) (by decide) (by decide), field (by decide) (by decide) (by decide)]
  rfl

/-- The entry that a sequence is at, abandoned and counted. -/
def Block.entryAbandoned (s : Block) : Block :=
  match s.aux.seq with
  | some q =>
    if q.cur ≤ q.last then (s.modAux (fun a => { a with seq := some { q with preempted := true } })).bump (pg 0x1A 0x74) 15 0 1 else s
  | none => s

/-- The urgent conversion held, before it may begin. -/
def Block.urgentHeld (s : Block) (w : Word) : Block := (s.modAux (fun a => { a with urg := some (w, 0, false) })).showAux

theorem Block.auxUrgent_of {w : Word} (h : s.urgentFits w) : s.auxUrgent w = (s.entryAbandoned.urgentHeld w).auxUrgStart := by
  obtain ⟨free, up, src, acq, avg⟩ := h
  rw [Block.auxUrgent, if_neg (by simp [free, up, src, acq, avg])]
  rfl

theorem Block.auxUrgent_refused {w : Word} (h : ¬ s.urgentFits w) : s.auxUrgent w = s.raise 0x1A 2 0 := by
  refine if_pos (eq_true_of_ne_false fun taken => h ?_)
  simp only [Bool.or_eq_false_iff, Bool.not_eq_false', decide_eq_false_iff_not, Nat.not_lt, Option.isSome_eq_false_iff,
    Option.isNone_iff_eq_none] at taken
  obtain ⟨⟨⟨⟨free, up⟩, src⟩, acq⟩, avg⟩ := taken
  exact ⟨free, up, src, acq, avg⟩

theorem Block.entryAbandoned_of_none (h : s.aux.seq = none) : s.entryAbandoned = s := by rw [Block.entryAbandoned, h]

theorem Block.entryAbandoned_of_entry {q : AuxSeq} (h : s.aux.seq = some q) (at_ : q.cur ≤ q.last) :
    s.entryAbandoned = (s.modAux (fun a => { a with seq := some { q with preempted := true } })).bump (pg 0x1A 0x74) 15 0 1 := by
  rw [Block.entryAbandoned, h]
  exact if_pos at_

/-- Whether a calibration runs is no matter of the sequence. -/
theorem Block.entryAbandoned_calRuns : s.entryAbandoned.aux.calRuns = s.aux.calRuns := by
  unfold Block.entryAbandoned
  repeat' split
  all_goals rfl

theorem Block.urgentHeld_aux (w : Word) : (s.urgentHeld w).aux = { s.aux with urg := some (w, 0, false) } := Block.showAux_aux _

/-- It waits while a calibration runs. -/
theorem Block.auxUrgStart_of_cal (w : Word) (h : s.aux.calRuns = true) : (s.urgentHeld w).auxUrgStart = s.urgentHeld w := by
  rw [Block.auxUrgStart, s.urgentHeld_aux]
  exact if_pos h

/-- Else it begins at once. -/
theorem Block.auxUrgStart_of_noCal (w : Word) (h : s.aux.calRuns = false) :
    ∃ st, (s.urgentHeld w).auxUrgStart = ((s.urgentHeld w).modAux (fun a => { a with urg := some (w, st, true) })).showAux := by
  rw [Block.auxUrgStart, s.urgentHeld_aux]
  exact ⟨_, if_neg (by simp [h])⟩

theorem Block.urgentHeld_row (w : Word) : let t := (s.urgentHeld w).auxUrgStart
    (∃ st, t.aux = { s.aux with urg := some (w, st, !s.aux.calRuns) }) ∧ t.rbit (pg 0x1A 0x4C) 3 = true ∧ s.onlyAux t := by
  have reach : s.onlyAux (s.urgentHeld w) := s.onlyAux_shown _
  cases cal : s.aux.calRuns with
  | true =>
    rw [s.auxUrgStart_of_cal w cal]
    exact ⟨⟨0, s.urgentHeld_aux w⟩, Block.rbit_showAux_urgent _, reach⟩
  | false =>
    obtain ⟨st, begun⟩ := s.auxUrgStart_of_noCal w cal
    rw [begun]
    refine ⟨⟨st, ?_⟩, Block.rbit_showAux_urgent _, (reach.modAux _).showAux⟩
    rw [Block.showAux_aux, Block.modAux_aux, s.urgentHeld_aux]
    rfl

/-! ### The rows -/

/-- A word to AUX_CMD where the host's words reach the registers is its command. -/
theorem Block.toReg_auxCmd (v : Word) (h : s.hostReady = true) : s.toReg 0x1A 0x48 v = s.arrive.nextFrame.auxCmd v :=
  (s.toReg_of 0x1A 0x48 v h (by decide) (by decide) (by decide) (by decide)).trans (Block.regWriteTo_cmd _ _ _ _ _ (by decide) rfl)

theorem Block.auxCmd_urgent (v : Word) : s.auxCmd (v.withBits 3 0 2) = s.auxUrgent (v.withBits 3 0 2) := by
  have cmd : (v.withBits 3 0 2).bits 3 0 = 2 := Word.withBits_bits_same v 3 0 2 (by decide) (by decide)
  rw [Block.auxCmd, cmd]
  rfl

/-- What URGENT does where its word fits: held, shown, and the entry in progress abandoned. -/
theorem Block.auxUrgent_row {w : Word} (h : s.urgentFits w) :
    (∃ st, (s.auxUrgent w).aux.urg = some (w, st, !s.aux.calRuns)) ∧ (s.auxUrgent w).rbit (pg 0x1A 0x4C) 3 = true
      ∧ (∀ q, s.aux.seq = some q → q.cur ≤ q.last → (s.auxUrgent w).aux.seq = some { q with preempted := true }
          ∧ (s.auxUrgent w).fld (pg 0x1A 0x74) 15 0 = min 65535 (s.fld (pg 0x1A 0x74) 15 0 + 1))
      ∧ (s.aux.seq = none → (s.auxUrgent w).aux.seq = none ∧ s.onlyAux (s.auxUrgent w)) := by
  obtain ⟨⟨st, taken⟩, shown, reach⟩ := s.entryAbandoned.urgentHeld_row w
  rw [s.auxUrgent_of h, taken, s.entryAbandoned_calRuns]
  refine ⟨⟨st, rfl⟩, shown, fun q hq entry => ?_, fun idle => ?_⟩
  · have abandoned := s.entryAbandoned_of_entry hq entry
    refine ⟨by rw [abandoned]; rfl, ?_⟩
    rw [Block.fld_congr (reach.getR (by decide)), abandoned]
    exact Block.fld_bump16 _ _
  · rw [s.entryAbandoned_of_none idle] at reach ⊢
    exact ⟨idle, reach⟩

/-- Settles O37: each command by the converter's state, taken or rejected. -/
theorem auxCommands : Obligations.AuxCommands := by
  unfold Obligations.AuxCommands
  intro s ready b a up stat rejected trig fits
  have command (v : Word) := s.block.toReg_auxCmd v ready
  have refused {c : Instr} {v : Word} (row : exec c s = .next (s.onBlock (fun b => b.toReg 0x1A 0x48 v)))
      (raises : b.auxCmd v = b.raise 0x1A 2 0) : rejected c :=
    leads_of row ((command v).trans raises) b.auxRejected_row
  refine ⟨fun on runs waits => ⟨fun seq urg => ?_, fun busy => ?_⟩, fun h => ?_, fun on mode idle => ⟨fun cal => ?_, fun noCal => ?_⟩,
    fun h => ?_, fun q hq continuous => ?_, fun h => ?_, fun v h => ?_, fun v h => ?_⟩
  · refine leads_of rfl ((command _).trans (b.auxCal_of_idle on runs waits seq urg)) ⟨Block.showAux_aux _, ?_, b.onlyAux_shown _⟩
    exact Block.rbit_showAux_cal _
  · refine leads_of rfl ((command _).trans (b.auxCal_of_busy on runs waits busy)) ⟨Block.showAux_aux _, ?_, b.onlyAux_shown _⟩
    exact (Block.rbit_showAux_cal _).trans (Bool.or_true _)
  · exact refused rfl (b.auxCal_refused h)
  · exact next_of rfl ((command _).trans ((b.auxCmdStart_of on mode idle).trans (b.auxStart_of_cal cal)))
  · refine leads_of rfl ((command _).trans ((b.auxCmdStart_of on mode idle).trans (b.auxStart_of_noCal noCal)))
      ⟨b.firstSeq, Block.showAux_aux _, rfl, rfl, rfl, rfl, ?_, b.onlyAux_shown _⟩
    exact Block.rbit_showAux_sequence _
  · exact refused rfl (b.auxCmdStart_refused h)
  · exact next_of rfl ((command _).trans (b.auxCmdStop_of hq continuous))
  · exact refused rfl (b.auxCmdStop_refused h)
  · exact leads_of rfl ((command _).trans (b.auxCmd_urgent v)) (b.auxUrgent_row ((b.urgentFits_cmd v 2).2 h))
  · exact refused rfl ((b.auxCmd_urgent v).trans (b.auxUrgent_refused (fun fit => h ((b.urgentFits_cmd v 2).1 fit))))

end Sys2Proof.Machine
end

section
/-! SUPPORT. Pulse inputs and host temperatures (R285, R286, R287, R289, R294, R304): edges, levels and wire breaks of an input that is
counted, a temperature the host writes and one grown old. -/

namespace Sys2Proof.Machine

variable (s : Block)

/-- A 32-bit counter that wraps reads as the sum modulo 2^32. -/
theorem Block.getN_wrapAdd_same (a n : Nat) : (s.wrapAdd a n).getN a = (s.getN a + n) % 2 ^ 32 := by
  rw [Block.wrapAdd, Block.getN, Block.getR_setN_same, BitVec.toNat_ofNat]

theorem Block.getN_congr {s t : Block} {a : Nat} (h : t.getR a = s.getR a) : t.getN a = s.getN a := congrArg BitVec.toNat h

/-! ### The reach of heat metering and pulse counting -/

/-- Nothing differs but the inner state of heat metering and pulse counting, and of the registers none outside the list. -/
def Block.onlyTherm (s t : Block) (as : List Nat) : Prop := ({ s with therm := t.therm }).onlyRegs t as

namespace Block.onlyTherm

variable {s} {t : Block} {as : List Nat}

theorem refl : s.onlyTherm s as := ⟨rfl, fun _ _ => rfl⟩

theorem getR (h : s.onlyTherm t as) {a : Nat} (ha : a ∉ as) : t.getR a = s.getR a := h.2 a ha

theorem mono {bs : List Nat} (h : s.onlyTherm t as) (l : ∀ a ∈ as, a ∈ bs) : s.onlyTherm t bs := Block.onlyRegs.mono h l

theorem setR (h : s.onlyTherm t as) {a : Nat} (v : Word) (ha : a ∈ as) : s.onlyTherm (t.setR a v) as := Block.onlyRegs.setR h v ha

theorem modTherm (h : s.onlyTherm t as) (f : Therm → Therm) : s.onlyTherm (t.modTherm f) as := by
  obtain ⟨same, regs⟩ := h
  refine ⟨?_, regs⟩
  rw [same]
  rfl

/-- A detector raised besides. -/
theorem raise (h : s.onlyTherm t as) (p d x : Nat) :
    ({ s with therm := (t.raise p d x).therm }).onlyRaised (t.raise p d x) [p] as := by
  rw [t.raise_therm]
  exact (Block.onlyRegs.onlyRaised h [p]).raise d x (List.mem_singleton_self p)

end Block.onlyTherm

/-! ### A pulse counted (R285, R286, R289) -/

/-- PLSI_STAT (R286): the levels, and from bit 8 on the wire breaks. -/
abbrev plsiStat : Nat := pg 0x36 0x80

/-- The counter of an input's pulses in one direction: CNT, or REV_CNT. -/
def pulseCnt (i : Nat) (reverse : Bool) : Nat := pg 0x36 ((if reverse then 0x70 else 0x60) + 4 * i)

/-- What an accepted edge leaves before it counts (u): the level shown low, and nothing of the counts moved. -/
structure Block.EdgeShown (s u : Block) : Prop where
  reach : s.onlyTherm u [plsiStat]
  fwd : u.therm.fwd = s.therm.fwd
  rev : u.therm.rev = s.therm.rev

theorem Block.edgeShown_low (i : Nat) : s.EdgeShown (s.setB plsiStat i false) :=
  ⟨Block.onlyTherm.refl.setR _ (List.mem_singleton_self _), rfl, rfl⟩

/-- An edge of a pair that is not coincident also ends the episode of coincident ones. -/
theorem Block.edgeShown_pair (i : Nat) :
    s.EdgeShown ((s.setB plsiStat i false).modTherm (fun t => { t with quadEp := false })) :=
  ⟨(s.edgeShown_low i).reach.modTherm _, rfl, rfl⟩

section
variable {s} {u : Block} {i : Nat} (h : s.EdgeShown u) (hi : i < 4)
include h hi

/-- The counter of the direction wraps, and no other register but PLSI_STAT has moved. -/
theorem Block.EdgeShown.count (reverse : Bool) :
    (u.countPulse i reverse).getN (pulseCnt i reverse) = (s.getN (pulseCnt i reverse) + 1) % 2 ^ 32
      ∧ s.onlyTherm (u.countPulse i reverse) [plsiStat, pulseCnt i reverse] := by
  have apart : pulseCnt i reverse ∉ [plsiStat] := by cases reverse <;> simp [pulseCnt, pg] <;> omega
  have before : u.getN (pulseCnt i reverse) = s.getN (pulseCnt i reverse) := Block.getN_congr (h.reach.getR apart)
  have reach : s.onlyTherm u [plsiStat, pulseCnt i reverse] := h.reach.mono (by simp)
  rw [← before]
  cases reverse
  case false => exact ⟨u.getN_wrapAdd_same _ 1, (reach.setR _ (by simp [pulseCnt])).modTherm _⟩
  case true => exact ⟨u.getN_wrapAdd_same _ 1, (reach.setR _ (by simp [pulseCnt])).modTherm _⟩

theorem Block.EdgeShown.weight : u.getN (pg 0x36 (0x50 + 4 * i)) = s.getN (pg 0x36 (0x50 + 4 * i)) :=
  Block.getN_congr (h.reach.getR (by simp [pg]; omega))

theorem Block.EdgeShown.forward_row : let t := u.countPulse i false
    t.getN (pulseCnt i false) = (s.getN (pulseCnt i false) + 1) % 2 ^ 32
      ∧ t.therm.fwd = modNth s.therm.fwd i (· + s.getN (pg 0x36 (0x50 + 4 * i))) ∧ t.therm.rev = s.therm.rev
      ∧ s.onlyTherm t [plsiStat, pulseCnt i false] := by
  obtain ⟨count, reach⟩ := h.count hi false
  refine ⟨count, ?_, h.rev, reach⟩
  rw [← h.fwd, ← h.weight hi]
  rfl

theorem Block.EdgeShown.reverse_row : let t := u.countPulse i true
    t.getN (pulseCnt i true) = (s.getN (pulseCnt i true) + 1) % 2 ^ 32
      ∧ t.therm.rev = modNth s.therm.rev i (· + s.getN (pg 0x36 (0x50 + 4 * i))) ∧ t.therm.fwd = s.therm.fwd
      ∧ s.onlyTherm t [plsiStat, pulseCnt i true] := by
  obtain ⟨count, reach⟩ := h.count hi true
  refine ⟨count, ?_, h.fwd, reach⟩
  rw [← h.rev, ← h.weight hi]
  rfl

end

/-! ### Edges (R285, R286) -/

/-- An input whose edges count by themselves: enabled, no wire break, not the B phase of a pair. -/
def Block.pulseLive (s : Block) (i : Nat) : Prop :=
  s.rbit (pinCfg i) 0 = true ∧ s.rbit plsiStat (8 + i) = false ∧ s.isPhaseB i = false

section
variable {i : Nat} (hi : i < 4)
include hi

/-- None of what stops an edge holds once its level is shown. -/
theorem Block.edge_passes (live : s.pulseLive i) : ¬ (!(s.getR (pinCfg i)).bit 0 || (s.setB plsiStat i false).rbit plsiStat (8 + i)
    || (s.setB plsiStat i false).isPhaseB i) = true := by
  obtain ⟨enabled, unbroken, ownPhase⟩ := live
  have phase : (s.setB plsiStat i false).isPhaseB i = s.isPhaseB i := by
    rw [Block.isPhaseB, Block.fld_congr (s.getR_setB_ne (by unfold pinCfg plsiStat pg; omega) _ _)]
    rfl
  rw [Block.rbit] at enabled
  rw [phase, Block.rbit_setB_ne _ _ _ _ _ (by omega), enabled, unbroken, ownPhase]
  decide

variable (on : s.pulsesRun = true)
include on

theorem Block.notIdle_of_runs : ¬ (decide (3 < i) || !s.pulsesRun) = true := by simp [on]; omega

variable (live : s.pulseLive i)
include live

theorem Block.pulseEdge_single (both : Bool) (mode : s.fld (pinCfg i) 9 8 = 0) :
    s.pulseEdge i both = (s.setB plsiStat i false).countPulse i false := by
  simp only [Block.pulseEdge, if_neg (s.notIdle_of_runs hi on), if_neg (s.edge_passes hi live),
    show (s.getR (pinCfg i)).bits 9 8 = 0 from mode]

theorem Block.pulseEdge_pair (mode : s.fld (pinCfg i) 9 8 = 1) :
    s.pulseEdge i false
      = ((s.setB plsiStat i false).modTherm (fun t => { t with quadEp := false })).countPulse i (!s.rbit plsiStat (i + 1)) := by
  simp only [Block.pulseEdge, if_neg (s.notIdle_of_runs hi on), if_neg (s.edge_passes hi live),
    show (s.getR (pinCfg i)).bits 9 8 = 1 from mode, Bool.false_eq_true, if_false, s.rbit_setB_ne plsiStat i (i + 1) false (by omega)]

theorem Block.pulseEdge_coincident (mode : s.fld (pinCfg i) 9 8 = 1) (first : s.therm.quadEp = false) :
    s.pulseEdge i true = ((s.setB plsiStat i false).modTherm (fun t => { t with quadEp := true })).raise 0x36 4 0 := by
  simp only [Block.pulseEdge, if_neg (s.notIdle_of_runs hi on), if_neg (s.edge_passes hi live),
    show (s.getR (pinCfg i)).bits 9 8 = 1 from mode, Block.setB_therm, first, Bool.false_eq_true, if_false, if_true]

end

theorem Block.coincident_row (i : Nat) :
    let t := ((s.setB plsiStat i false).modTherm (fun t => { t with quadEp := true })).raise 0x36 4 0
    t.rbit (pg 0x36 0x0C) 4 = true ∧ t.therm = { s.therm with quadEp := true }
      ∧ ({ s with therm := t.therm }).onlyRaised t [0x36] [plsiStat] :=
  ⟨Block.raise_event _ 0x36 4 0 (by decide), Block.raise_therm _ _ _ _, ((s.edgeShown_low i).reach.modTherm _).raise 0x36 4 0⟩

/-! ### Levels and wire breaks (R286, R287) -/

theorem quietReg_plsi {o : Nat} (ho : 0x40 ≤ o) (ho' : o < 0x400) : quietReg (pg 0x36 o) := by
  unfold quietReg pg; omega

section
variable {i : Nat} (hi : i < 4) (on : s.pulsesRun = true)
include hi on

theorem Block.levelChange_of (high : Bool) : s.levelChange i high = s.setB plsiStat i high := if_neg (s.notIdle_of_runs hi on)

theorem Block.wireBreak_begun (pulsed : s.fld (pinCfg i) 17 16 = 2) (whole : s.rbit plsiStat (8 + i) = false) :
    s.wireBreak i true = ((s.setB plsiStat (8 + i) true).bump (pg 0x36 (0x84 + 4 * i)) 15 0 1).raise 0x36 1 0 := by
  rw [Block.wireBreak, if_neg (by simp [on, pulsed, whole]; omega)]
  exact if_pos rfl

theorem Block.wireBreak_ended (broken : s.rbit plsiStat (8 + i) = true) :
    s.wireBreak i false = (s.setB plsiStat (8 + i) false).raiseX 0x36 1 0 true false := by
  rw [Block.wireBreak, if_neg (by simp [on, broken]; omega)]
  exact if_neg Bool.false_ne_true

end

theorem Block.wireBreak_begun_row {i : Nat} (hi : i < 4) :
    let t := ((s.setB plsiStat (8 + i) true).bump (pg 0x36 (0x84 + 4 * i)) 15 0 1).raise 0x36 1 0
    t.rbit plsiStat (8 + i) = true ∧ t.rbit (pg 0x36 0x0C) 1 = true
      ∧ t.fld (pg 0x36 (0x84 + 4 * i)) 15 0 = min 65535 (s.fld (pg 0x36 (0x84 + 4 * i)) 15 0 + 1)
      ∧ s.onlyRaised t [0x36] [plsiStat, pg 0x36 (0x84 + 4 * i)] := by
  have apart : plsiStat ≠ pg 0x36 (0x84 + 4 * i) := by unfold plsiStat pg; omega
  refine ⟨?shown, Block.raise_event _ 0x36 1 0 (by decide), ?counted, ?reach⟩
  case shown =>
    rw [Block.rbit_congr (Block.getR_raise _ (quietReg_plsi (by decide) (by decide)) _ _ _),
      Block.rbit_congr (Block.getR_bump_ne _ apart _ _ _)]
    exact s.rbit_setB_same _ _ _ (by omega)
  case counted =>
    rw [Block.fld_congr (Block.getR_raise _ (quietReg_plsi (by omega) (by omega)) _ _ _), Block.fld_bump16,
      Block.fld_congr (s.getR_setB_ne apart.symm _ _)]
  case reach => exact (((s.onlyRaised_refl _ _).setR _ (by simp)).setR _ (by simp)).raise 1 0 (by simp)

theorem Block.wireBreak_ended_row {i : Nat} (hi : i < 4) :
    let t := (s.setB plsiStat (8 + i) false).raiseX 0x36 1 0 true false
    t.rbit plsiStat (8 + i) = false ∧ s.onlyRaised t [0x36] [plsiStat] := by
  refine ⟨?_, (s.onlyRaised_setR _ _ _).trans ((Block.onlyRaised_raiseX _ 0x36 1 0 true false).mono (by simp) (by simp))⟩
  rw [Block.rbit_congr (Block.getR_raiseX _ (quietReg_plsi (by decide) (by decide)) _ _ _ _ _)]
  exact s.rbit_setB_same _ _ _ (by omega)

/-! ### Host temperatures (R294) -/

/-- A temperature taken: shown, no longer STALE, stamped with the Warp's time. -/
def Block.hostTaken (s : Block) (k : Nat) (v : Word) : Block :=
  ((s.setR (pg 0x34 (0x5C + 4 * k)) v).setB (pg 0x34 0x64) k false).modTherm (fun t =>
    { t with hostAt := setNth t.hostAt k (some s.monoNow), hostStaleEp := setNth t.hostStaleEp k false })

theorem Block.hostT_of {k : Nat} {v : Word} (inRange : f32within (-60) 260 v.toNat = true) : s.hostT k v = s.hostTaken k v := by
  rw [Block.hostT, if_pos inRange]
  rfl

theorem Block.hostT_refused {k : Nat} {v : Word} (outside : f32within (-60) 260 v.toNat = false) : s.hostT k v = s.raise 0x34 3 0 := by
  rw [Block.hostT, if_neg (by simp [outside])]

section
variable {k : Nat} (hk : k < 2)
include hk

/-- A word to HOST_T where the host's words reach the registers is a temperature. -/
theorem Block.toRegIf_hostT (v : Word) (ready : s.hostReady = true) :
    s.toRegIf (k < 2) 0x34 (0x5C + 4 * k) v = s.arrive.nextFrame.hostT k v := by
  refine (s.toRegIf_of _ 0x34 _ v ready (decide_eq_true hk) (by decide) (by omega) (by omega) (by omega)).trans
    (Block.regWriteTo_cmd _ _ _ _ _ (by omega) ?_)
  obtain rfl | rfl : k = 0 ∨ k = 1 := by omega
  · rfl
  · rfl

theorem Block.hostT_row (v : Word) : let t := s.hostTaken k v
    t.getR (pg 0x34 (0x5C + 4 * k)) = v ∧ t.rbit (pg 0x34 0x64) k = false
      ∧ t.therm.hostAt = setNth s.therm.hostAt k (some s.monoNow)
      ∧ s.onlyTherm t [pg 0x34 (0x5C + 4 * k), pg 0x34 0x64] := by
  refine ⟨?value, ?fresh, rfl, ((Block.onlyTherm.refl.setR _ (by simp)).setR _ (by simp)).modTherm _⟩
  case value =>
    rw [Block.hostTaken, Block.getR_congr (Block.modTherm_regs _ _), Block.getR_setB_ne _ (by unfold pg; omega), Block.getR_setR_same]
  case fresh =>
    rw [Block.hostTaken, Block.rbit_congr (Block.getR_congr (Block.modTherm_regs _ _) _)]
    exact Block.rbit_setB_same _ _ _ _ (by omega)

end

/-- A written temperature past HOST_TMO (R294), where it is not known to be old. -/
theorem Block.hostTStale_of {k at_ : Nat} (written : s.therm.hostAt[k]? = some (some at_))
    (first : nth false s.therm.hostStaleEp k = false)
    (due : at_ + s.fld (pg 0x34 0x48) 23 16 * sysHz ≤ s.time.mono + s.time.pickLen) :
    s.hostTStale k
      = ((s.setB (pg 0x34 0x64) k true).modTherm (fun t => { t with hostStaleEp := setNth t.hostStaleEp k true })).raise 0x34 2 0 := by
  have stamped : nth none s.therm.hostAt k = some at_ := by rw [nth, List.getD_eq_getElem?_getD, written]; rfl
  rw [Block.hostTStale, stamped]
  exact if_pos (by simp [first, due])

theorem Block.hostStale_row {k : Nat} (hk : k < 2) :
    let t := ((s.setB (pg 0x34 0x64) k true).modTherm (fun t => { t with hostStaleEp := setNth t.hostStaleEp k true })).raise 0x34 2 0
    t.rbit (pg 0x34 0x64) k = true ∧ t.rbit (pg 0x34 0x0C) 2 = true
      ∧ t.therm = { s.therm with hostStaleEp := setNth s.therm.hostStaleEp k true }
      ∧ ({ s with therm := t.therm }).onlyRaised t [0x34] [pg 0x34 0x64] := by
  refine ⟨?_, Block.raise_event _ 0x34 2 0 (by decide), Block.raise_therm _ _ _ _,
    ((Block.onlyTherm.refl.setR _ (by simp)).modTherm _).raise 0x34 2 0⟩
  rw [Block.rbit_congr (Block.getR_raise _ (by unfold quietReg; decide) _ _ _)]
  exact s.rbit_setB_same _ _ _ (by omega)

/-! ### The rows -/

/-- THERM_CMD SEASON_START where the host's words reach the registers (R304). -/
theorem Block.toReg_seasonStart (ready : s.hostReady = true) :
    s.toReg 0x34 0x58 (cmdWord 1 0 0) = s.arrive.nextFrame.seasonStart :=
  (s.toReg_of 0x34 0x58 _ ready (by decide) (by decide) (by decide) (by decide)).trans (Block.regWriteTo_cmd _ _ _ _ _ (by decide) rfl)

theorem Block.powered_of_pulses {s : Block} (on : s.pulsesRun = true) : s.powered = true := by
  rw [Block.pulsesRun, Bool.and_eq_true] at on
  exact on.1

/-- Settles O39: an edge by its input's mode and the level of its B phase, a wire break by the bias and the break shown, a temperature
by its value and its age. -/
theorem pulseInputRows : Obligations.PulseInputRows := by
  unfold Obligations.PulseInputRows
  intro s st
  let b := s.block.arrive
  refine ⟨fun i hi on => ?inputs, fun k hk => ?temperatures, fun ready => next_of rfl (s.block.toReg_seasonStart ready)⟩
  case inputs =>
    intro live mode weight forward back
    have event (f : Block → Block) : s.block.actIf (i < 4) f = f b :=
      s.block.actIf_of _ f (Block.powered_of_pulses on) (decide_eq_true hi)
    refine ⟨fun both h single => ?_, fun h pair high => ?_, fun h pair low => ?_, fun h pair first => ?_, fun high => ?_,
      fun pulsed whole => ?_, fun broken => ?_⟩
    · exact leads_of rfl ((event _).trans (b.pulseEdge_single hi on h both single)) ((b.edgeShown_low i).forward_row hi)
    · have edge := b.pulseEdge_pair hi on h pair
      rw [show b.rbit plsiStat (i + 1) = true from high] at edge
      exact leads_of rfl ((event _).trans edge) ((b.edgeShown_pair i).forward_row hi)
    · have edge := b.pulseEdge_pair hi on h pair
      rw [show b.rbit plsiStat (i + 1) = false from low] at edge
      exact leads_of rfl ((event _).trans edge) ((b.edgeShown_pair i).reverse_row hi)
    · exact leads_of rfl ((event _).trans (b.pulseEdge_coincident hi on h pair first)) (b.coincident_row i)
    · exact leads_of rfl ((event _).trans (b.levelChange_of hi on high)) ⟨b.rbit_setB_same _ _ _ (by omega), b.onlyRegs_setR _ _⟩
    · exact leads_of rfl ((event _).trans (b.wireBreak_begun hi on pulsed whole)) (b.wireBreak_begun_row hi)
    · exact leads_of rfl ((event _).trans (b.wireBreak_ended hi on broken)) (b.wireBreak_ended_row hi)
  case temperatures =>
    refine ⟨fun v ready inRange => ?_, fun v ready outside => ?_, fun at_ powered written first due => ?_⟩
    · exact leads_of rfl ((s.block.toRegIf_hostT hk v ready).trans (b.nextFrame.hostT_of inRange)) (b.nextFrame.hostT_row hk v)
    · exact leads_of rfl ((s.block.toRegIf_hostT hk v ready).trans (b.nextFrame.hostT_refused outside))
        ⟨Block.raise_event _ 0x34 3 0 (by decide), b.nextFrame.onlyRaised_raise 0x34 3 0⟩
    · exact leads_of rfl ((s.block.within_of _ _ powered (decide_eq_true hk)).trans (s.block.hostTStale_of written first due))
        (s.block.hostStale_row hk)

end Sys2Proof.Machine
end

section
/-! SUPPORT. The services that other units call on: rings, arbiter, log store, record store, crypto unit (R409, R463, R435, R498, R529).
What a call of one leaves: every other unit's state, and the registers outside the services' own pages. -/

namespace Sys2Proof.Machine

/-- Registers that a call of a service may write: headers but for PAGE_STAT, the pages of power, arbiter, RING, records, log store and
crypto unit, and SYS.FIRST_CODE with its stamp. -/
abbrev serviceReg (a : Nat) : Prop :=
  (a % 0x400 < 0x40 ∧ a % 0x400 ≠ 0x08) ∨ a / 0x400 ∈ [0x01, 0x02, 0x2D, 0x39, 0x3A, 0x3C]
    ∨ a ∈ [pg 0 0x54, pg 0 0x58, pg 0 0x5C]

/-- Nothing differs but the services' state and their registers, and no event is lost. -/
def Block.onlyServices (s t : Block) : Prop :=
  t = { s with regs := t.regs, sram := t.sram, rings := t.rings, arb := t.arb, stor := t.stor, recs := t.recs, husk := t.husk,
               episodes := t.episodes, freeCnt := t.freeCnt }
    ∧ (∀ a, ¬ serviceReg a → t.getR a = s.getR a)
    ∧ ∀ q k, s.rbit (pg q 0x0C) k = true → t.rbit (pg q 0x0C) k = true

namespace Block.onlyServices

variable {s t u : Block}

theorem refl : s.onlyServices s := ⟨rfl, fun _ _ => rfl, fun _ _ h => h⟩

theorem trans (h : s.onlyServices t) (k : t.onlyServices u) : s.onlyServices u := by
  obtain ⟨same, regs, events⟩ := h
  obtain ⟨same', regs', events'⟩ := k
  refine ⟨?_, fun a ha => (regs' a ha).trans (regs a ha), fun q k h => events' q k (events q k h)⟩
  rw [same] at same'
  exact same'

theorem led (h : s.onlyServices t) : t.led = s.led := by rw [h.1]
theorem posts (h : s.onlyServices t) : t.posts = s.posts := by rw [h.1]
theorem getR (h : s.onlyServices t) {a : Nat} (ha : ¬ serviceReg a) : t.getR a = s.getR a := h.2.1 a ha
theorem event (h : s.onlyServices t) {q k : Nat} (hk : s.rbit (pg q 0x0C) k = true) : t.rbit (pg q 0x0C) k = true := h.2.2 q k hk

theorem ite {p : Prop} [Decidable p] (h : s.onlyServices t) (k : s.onlyServices u) : s.onlyServices (if p then t else u) := by
  split
  · exact h
  · exact k

/-- A step that a test may leave out. -/
theorem maybe {p : Prop} [Decidable p] (h : s.onlyServices t) (k : t.onlyServices u) : s.onlyServices (if p then u else t) :=
  ite (h.trans k) h

/-- A step within the services' own state. -/
theorem inner (h : s.onlyServices t)
    (same : u = { t with sram := u.sram, rings := u.rings, arb := u.arb, stor := u.stor, recs := u.recs, husk := u.husk,
                         episodes := u.episodes, freeCnt := u.freeCnt }) : s.onlyServices u := by
  have regs : u.regs = t.regs := by rw [same]
  refine h.trans ⟨same.trans (by rw [regs]), fun a _ => Block.getR_congr regs a, fun q k hk => ?_⟩
  rwa [Block.rbit_congr (Block.getR_congr regs (pg q 0x0C))]

theorem setR (h : s.onlyServices t) {a : Nat} (v : Word) (ha : serviceReg a) (event : a % 0x400 ≠ 0x0C) :
    s.onlyServices (t.setR a v) := by
  refine h.trans ⟨rfl, fun b hb => t.getR_setR_ne v (fun e => hb (e ▸ ha)), fun q k hk => ?_⟩
  rwa [Block.rbit_congr (t.getR_setR_ne v (by rintro rfl; exact event (by unfold pg; omega)))]

end Block.onlyServices

/-! ### Raises and rings -/

/-- A register out of the services' reach is none that a report writes. -/
theorem not_reported_of_noService {a : Nat} (h : ¬ serviceReg a) (ps : List Nat) : reported ps a = false := by
  obtain ⟨header, pages, first⟩ : (0x40 ≤ a % 0x400 ∨ a % 0x400 = 0x08) ∧ a / 0x400 ∉ [0x01, 0x02, 0x2D, 0x39, 0x3A, 0x3C]
      ∧ a ∉ [pg 0 0x54, pg 0 0x58, pg 0 0x5C] := by
    simp only [serviceReg, not_or] at h
    exact ⟨by omega, h.2⟩
  have own (p : Nat) : a ∉ [pg p 0x0C, pg p 0x18, pg p 0x1C, pg p 0x20] := by
    simp only [List.mem_cons, List.not_mem_nil, or_false, not_or]
    unfold pg
    omega
  have ring : a / 0x400 ≠ 0x2D := fun e => pages (by rw [e]; decide)
  rw [reported, Bool.or_eq_false_iff, Bool.or_eq_false_iff]
  refine ⟨⟨List.any_eq_false.2 fun p _ => by simpa using own p, by simpa using first⟩, by simp [ring]⟩

theorem offRing_of_noService {a : Nat} (h : ¬ serviceReg a) : offRing a := (reported_ne (not_reported_of_noService h [])).2.2

namespace Block.onlyServices

variable {s t u : Block}

theorem raiseX (h : s.onlyServices t) (p d x : Nat) (e i : Bool) : s.onlyServices (t.raiseX p d x e i) := by
  have same := Block.eq_of_rest (t.rest_raiseX p d x e i)
  refine h.trans ⟨same.trans ?_, fun a ha => t.getR_raiseX_out (not_reported_of_noService ha [p]) p d x e i (by simp),
    fun _ _ hk => t.rbit_raiseX p d x e i hk⟩
  rw [same]

theorem raise (h : s.onlyServices t) (p d x : Nat) : s.onlyServices (t.raise p d x) := h.raiseX p d x false false

theorem raiseOnce (h : s.onlyServices t) (key p d x : Nat) : s.onlyServices (t.raiseOnce key p d x) :=
  ite h ((h.inner rfl).raise p d x)

theorem each {α : Type} (h : s.onlyServices t) {f : α → Block → Block} (hf : ∀ x (b : Block), b.onlyServices (f x b)) (l : List α) :
    s.onlyServices (forEach l f t) :=
  List.foldlRecOn (motive := s.onlyServices) _ _ h fun b hb x _ => hb.trans (hf x b)

theorem ringOffer (h : s.onlyServices t) {n : Nat} (hn : n < 16) (l : List Entry) : s.onlyServices (t.ringOffer n l).1 := by
  have same := Block.eq_of_rest (t.rest_ringOffer n l)
  refine h.trans ⟨same.trans ?_, fun a ha => t.getR_ringOffer (offRing_of_noService ha) n hn l,
    fun q k hk => (t.rbit_ringOffer n hn l q k).trans hk⟩
  rw [same]

theorem put (h : s.onlyServices t) {n : Nat} (hn : n < 16) (h2 : n ≠ 2) (l : List Entry) : s.onlyServices (t.put n l) := by
  rw [Block.put, if_neg h2]
  exact (((h.ringOffer hn l).maybe (refl.raise 0x2D 3 n)).maybe ((refl.raise 0x2D 1 n).setR _ (by decide) (by decide))).maybe
    (refl.raise 0x2D 2 n)

/-! ### Power requests -/

theorem modArb (h : s.onlyServices t) (f : Arbiter → Arbiter) : s.onlyServices (t.modArb f) := h.inner rfl

theorem showBudget (h : s.onlyServices t) (r : ArbReq) : s.onlyServices (t.showBudget r) :=
  h.setR _ (.inl (by unfold pg; omega)) (by unfold pg; omega)

/-- A report of the arbiter, withheld in HOLD. -/
theorem raiseOutsideHold (h : s.onlyServices t) (p d x : Nat) : s.onlyServices (if t.pwr.st == .hold then t else t.raise p d x) :=
  ite h (h.raise p d x)

theorem arbSettle (h : s.onlyServices t) (redo : Bool) (old new : ArbReq) : s.onlyServices (t.arbSettle redo old new) := by
  unfold Block.arbSettle
  exact ((((h.modArb _).showBudget new).maybe (((refl.modArb _).setR _ (by decide) (by decide)).raiseOutsideHold 2 1 _)).maybe
    (refl.modArb _)).maybe ((refl.setR _ (by decide) (by decide)).raiseOutsideHold 2 4 0)

theorem arbWait (h : s.onlyServices t) (free : Nat) (r : ArbReq) : s.onlyServices (t.arbWait free r).1 := by
  simp only [Block.arbWait]
  split
  · exact h.inner rfl
  · exact h

theorem arbRun (h : s.onlyServices t) (redo : Bool) (free : Nat) (blocked : Bool) (l : List ArbReq) :
    s.onlyServices (t.arbRun redo free blocked l) := by
  induction l generalizing t free blocked with
  | nil => exact h
  | cons r l ih =>
    refine ih (arbSettle ?_ _ _ _) _ _
    split
    · exact h.arbWait _ _
    · exact h

theorem arbC0 (h : s.onlyServices t) : s.onlyServices t.arbC0 := by
  unfold Block.arbC0
  exact (((h.maybe ((refl.setR _ (by decide) (by decide)).raiseOutsideHold 2 2 0)).modArb _).setR _ (by decide) (by decide)).setR _
    (by decide) (by decide)

theorem chargeCurrent (h : s.onlyServices t) : s.onlyServices t.chargeCurrent := h.setR _ (by decide) (by decide)

theorem arbEval (h : s.onlyServices t) : s.onlyServices t.arbEval := (ite h (h.arbRun _ _ _ _)).arbC0.chargeCurrent

theorem arbReeval (h : s.onlyServices t) : s.onlyServices t.arbReeval := (h.arbRun _ _ _ _).arbC0.chargeCurrent

theorem arbRequest (h : s.onlyServices t) (page cls mw : Nat) (standing : Bool) :
    s.onlyServices (t.arbRequest page cls mw standing) := by
  unfold Block.arbRequest
  split
  · exact ite h (h.modArb _).arbReeval
  · exact (h.modArb _).showBudget _

theorem arbRelease (h : s.onlyServices t) (page : Nat) : s.onlyServices (t.arbRelease page) := by
  unfold Block.arbRelease
  split
  · exact h
  · exact ite (h.modArb _) ((h.modArb _).setR _ (.inl (by unfold pg; omega)) (by unfold pg; omega))

theorem arbOperation (h : s.onlyServices t) (page cls mw : Nat) : s.onlyServices (t.arbOperation page cls mw).1 := by
  unfold Block.arbOperation
  refine ite ?freed (arbRequest ?freed page cls mw false).arbEval
  split
  · exact ite (h.arbRelease page) h
  · exact h

/-! ### Records: the log store and the record store -/

theorem modStream (h : s.onlyServices t) (k : Nat) (f : LogStream → LogStream) : s.onlyServices (t.modStream k f) := h.inner rfl

theorem storRequest (h : s.onlyServices t) : s.onlyServices t.storRequest := ite (h.arbOperation _ _ _) (h.arbRelease _)

theorem logLose (h : s.onlyServices t) (k stamp : Nat) : s.onlyServices (t.logLose k stamp) :=
  (h.modStream k _).maybe (refl.raise 0x3A 3 0)

theorem stage (h : s.onlyServices t) (k : Nat) (r : LogRec) : s.onlyServices (t.stage k r) :=
  ite h (ite h (ite (h.logLose k _) (ite (h.logLose k _)
    ((ite h (h.put (by decide) (by decide) _)).modStream k _).storRequest)))

theorem putLogged (h : s.onlyServices t) {n : Nat} (hn : n < 16) (h2 : n ≠ 2) (k : Nat) (l : List Entry) :
    s.onlyServices (t.putLogged n k l) :=
  (h.put hn h2 l).maybe (refl.stage k _)

theorem enqueue (h : s.onlyServices t) (c : Commit) : s.onlyServices (t.enqueue c) :=
  setR (h.inner (u := t.modRec (fun r => { r with queue := r.queue ++ [c] })) rfl) _ (by decide) (by decide)

theorem commitRec (h : s.onlyServices t) (id : Nat) (l : List (List Byte)) : s.onlyServices (t.commitRec id l) := by
  unfold Block.commitRec
  split
  · exact h
  · exact h.enqueue _

theorem commitEntry (h : s.onlyServices t) (c : Commit) (segs seq addr len result : Nat) :
    s.onlyServices (t.commitEntry c segs seq addr len result) :=
  ite h (h.put (by decide) (by decide) _)

theorem billSave (h : s.onlyServices t) : s.onlyServices t.billSave := h.commitRec 0x22 _

theorem enqueueLatch (h : s.onlyServices t) (lseq : Nat) (jrn : List Byte) (totals demand : List (List Byte)) (therm : List Byte)
    (flags : Nat) (save more : Bool) : s.onlyServices (t.enqueueLatch lseq jrn totals demand therm flags save more).1 := by
  unfold Block.enqueueLatch
  extract_lets drop waiting emptied mk entry journal sets
  have waited : s.onlyServices waiting := by
    unfold waiting
    clear_value drop
    cases drop with
    | none => exact h
    | some c => exact commitEntry (raise (setR (h.inner rfl) _ (by decide) (by decide)) _ _ _) _ _ _ _ _ _
  have issued : s.onlyServices sets := enqueue (enqueue (waited.inner (u := emptied) rfl) _) _
  exact ite issued ((issued.enqueue _).enqueue _)

theorem modRec (h : s.onlyServices t) (f : RecStore → RecStore) : s.onlyServices (t.modRec f) := h.inner rfl

theorem conflictEnd (h : s.onlyServices t) (id : Nat) : s.onlyServices (t.conflictEnd id) :=
  ((h.modRec _).setR _ (by decide) (by decide)).setR _ (by decide) (by decide)

/-! ### The crypto unit -/

theorem cryptPower (h : s.onlyServices t) : s.onlyServices t.cryptPower := ite h (ite (h.arbOperation _ _ _) (h.arbRelease _))

theorem showLedgerQ (h : s.onlyServices t) (n : Nat) : s.onlyServices (t.showLedgerQ n) :=
  (h.setR (a := pg 0x3C 0x48) _ (by decide) (by decide)).cryptPower

theorem showCrypt (h : s.onlyServices t) : s.onlyServices t.showCrypt :=
  ((h.setR _ (by decide) (by decide)).setR _ (by decide) (by decide)).setR _ (by decide) (by decide)

theorem chainOver (h : s.onlyServices t) (stamp : Nat) (l : List Byte) : s.onlyServices (t.chainOver stamp l) := h.inner rfl

theorem showChain (h : s.onlyServices t) (lseq : Nat) : s.onlyServices (t.showChain lseq) := by
  unfold Block.showChain
  refine setR (setR ?_ _ (by decide) (by decide)) _ (by decide) (by decide)
  exact List.foldlRecOn (motive := s.onlyServices) _ _ h fun b hb i hi => by
    have small : i < 8 := List.mem_range.1 hi
    exact hb.setR _ (.inr (.inl (by have : pg 0x3C (0x60 + 4 * i) / 0x400 = 0x3C := by unfold pg; omega
                                    rw [this]; decide))) (by unfold pg; omega)

theorem drawBytes (h : s.onlyServices t) (n : Nat) : s.onlyServices (t.drawBytes n).2 := by
  induction n generalizing t with
  | zero => exact h
  | succ n ih => exact ih (h.inner rfl)

theorem opStart (h : s.onlyServices t) (o : CryptOp) : s.onlyServices (t.opStart o) :=
  inner (ite (h.drawBytes _) h) rfl

theorem opsStart (h : s.onlyServices t) (fuel : Nat) : s.onlyServices (t.opsStart fuel) := by
  induction fuel generalizing t with
  | zero => exact h.showCrypt
  | succ n ih =>
    unfold Block.opsStart
    dsimp only
    split
    · exact h.cryptPower.showCrypt
    · exact ite h.cryptPower.showCrypt (ih (h.cryptPower.opStart _))

theorem cryptRespond (h : s.onlyServices t) (o : CryptOp) : s.onlyServices (t.cryptRespond o) := by
  unfold Block.cryptRespond
  extract_lets out body answered failed stale
  have sent : s.onlyServices answered := h.put (by decide) (by decide) _
  have counted : s.onlyServices stale := (ite sent (sent.setR _ (by decide) (by decide))).maybe (refl.setR _ (by decide) (by decide))
  exact ite (counted.inner rfl) (counted.raiseOnce _ _ _ _)

theorem cryptFlush (h : s.onlyServices t) (fuel : Nat) : s.onlyServices (t.cryptFlush fuel) := by
  induction fuel generalizing t with
  | zero => exact h.showCrypt
  | succ n ih =>
    unfold Block.cryptFlush
    split
    · exact ite (ih (cryptRespond (h.inner rfl) _)) h.showCrypt
    · exact (h.maybe (refl.setR _ (by decide) (by decide))).showCrypt

theorem yodazaSign (h : s.onlyServices t) (kind lseq : Nat) (hash payload : List Byte) (slot : Nat) :
    s.onlyServices (t.yodazaSign kind lseq hash payload slot).1 :=
  ((h.setR _ (by decide) (by decide)).setR _ (by decide) (by decide)).maybe (refl.raise 0x3C 2 0)

end Block.onlyServices

end Sys2Proof.Machine
end

section
/-! SUPPORT. LATCH_APPLY (R325): the totals are settled first; demand channels, record, Sheaf, tariff switch and commits follow and move
neither the totals nor what the next latch builds on. -/

namespace Sys2Proof.Machine

variable (s : Block)

/-! ### What follows the totals -/

/-- What an apply settles: the closed latch, LSEQ, clears, late marks and totals. -/
def Ledger.settled (l : Ledger) : Option ClosedLatch × Nat × List Nat × List Nat × List (Nat × Nat) :=
  (l.closed, l.lseq, l.clears, l.lateKeys, l.totals)

/-- The settled part stays. -/
def Block.keepsSettled (s t : Block) : Prop := t.led.settled = s.led.settled

namespace Block.keepsSettled

variable {s} {t u : Block}

theorem refl : s.keepsSettled s := rfl

theorem trans (h : s.keepsSettled t) (k : t.keepsSettled u) : s.keepsSettled u := Eq.trans k h

theorem ite {p : Prop} [Decidable p] (h : s.keepsSettled t) (k : s.keepsSettled u) : s.keepsSettled (if p then t else u) := by
  split
  · exact h
  · exact k

/-- A step that a test may leave out. -/
theorem maybe {p : Prop} [Decidable p] (h : s.keepsSettled t) (k : t.keepsSettled u) : s.keepsSettled (if p then u else t) :=
  ite (h.trans k) h

theorem services (h : s.keepsSettled t) (k : t.onlyServices u) : s.keepsSettled u := h.trans (congrArg Ledger.settled k.led)

theorem raise (h : s.keepsSettled t) (p d x : Nat) : s.keepsSettled (t.raise p d x) := h.services (Block.onlyServices.refl.raise p d x)

theorem modLed (h : s.keepsSettled t) {f : Ledger → Ledger} (hf : ∀ l, (f l).settled = l.settled) : s.keepsSettled (t.modLed f) :=
  h.trans (hf t.led)

theorem setR (h : s.keepsSettled t) (a : Nat) (v : Word) : s.keepsSettled (t.setR a v) := h

/-- What does not move the ledger. -/
theorem same (h : s.keepsSettled t) (e : u.led = t.led) : s.keepsSettled u := h.trans (congrArg Ledger.settled e)

theorem each {α : Type} (h : s.keepsSettled t) {f : α → Block → Block} (hf : ∀ x (b : Block), b.keepsSettled (f x b)) (l : List α) :
    s.keepsSettled (forEach l f t) :=
  List.foldlRecOn (motive := s.keepsSettled) _ _ h fun b hb x _ => hb.trans (hf x b)

theorem newViews (h : s.keepsSettled t) (items : List LedItem) : s.keepsSettled (t.newViews items) := by
  unfold Block.newViews
  extract_lets was moved regs renewed
  have formed : s.keepsSettled renewed := h.modLed fun _ => rfl
  refine formed.each (fun i b => ite (raise ?_ _ _ _) refl) regs
  exact refl.modLed fun _ => rfl

theorem demandApply (h : s.keepsSettled t) (c : ClosedLatch) (lseq delta flags : Nat) (e : DemEnd) :
    s.keepsSettled (t.demandApply c lseq delta flags e) := by
  unfold Block.demandApply
  extract_lets ch marks en fl reopen subs sliding prior total start all down short out rate newAll newRate df src dval body closed opened
    drained reported maxed brief
  have again (b : Block) : (reopen b).led = b.led := rfl
  have window : s.keepsSettled opened := (h.same (u := closed) rfl).same (again closed)
  have off : s.keepsSettled drained := window.maybe (refl.same rfl)
  have raised : s.keepsSettled brief := ((off.raise 0x31 1 0).maybe (refl.raise 0x31 2 0)).maybe (refl.raise 0x31 3 0)
  exact ite (ite (h.same (again t)) h) (ite (h.same rfl) (raised.modLed fun _ => rfl))

theorem copLatch (h : s.keepsSettled t) (c : ClosedLatch) : s.keepsSettled (t.copLatch c) := by
  unfold Block.copLatch
  extract_lets g q hk ek heat elec inval iv iv2 dch ended pend r addTo sums sum cop noElec marked
  have add {b : Block} (k : s.keepsSettled b) (o v : Nat) : s.keepsSettled (addTo b o v) := k.same rfl
  have summed : s.keepsSettled sums := add (add h _ _) _ _
  have shown : s.keepsSettled noElec := (summed.setR _ _).setR _ _
  have kept : s.keepsSettled marked := shown.maybe (refl.setR _ _)
  exact kept.same (marked.modTherm_led _)

theorem chainRecord (h : s.keepsSettled t) (lseq stamp : Nat) (es : List Entry) : s.keepsSettled (t.chainRecord lseq stamp es).1 :=
  h.services ((Block.onlyServices.refl.chainOver _ _).showChain _)

theorem sheafTake (h : s.keepsSettled t) (c : ClosedLatch) (lseq trigger skipped : Nat) :
    s.keepsSettled (t.sheafTake c lseq trigger skipped) := by
  have blocks (l : List Nat) (b : Block) : (b.sheafBlocks l).2.led = b.led := by
    induction l generalizing b with
    | nil => rfl
    | cons d l ih => exact ih _
  unfold Block.sheafTake
  extract_lets regs maxima r taken fl d
  exact Block.keepsSettled.modLed (h.same (blocks _ t)) fun _ => rfl

theorem switchOut (h : s.keepsSettled t) (c : ClosedLatch) (lseq : Nat) : s.keepsSettled (t.switchOut c lseq) := by
  unfold Block.switchOut
  split
  · exact h
  · refine raise ?_ _ _ _
    exact h.modLed fun _ => rfl

end Block.keepsSettled

/-! ### The apply of a closed latch -/

/-- One register of an apply: its overflow reported, its total written (R320, R326). -/
def Block.settleItem (s : Block) (x : LedItem) : Block :=
  let s := if x.deltaSat then (s.bump (pg 0x2F 0xF0) 15 0 1).raise 0x2F 2 0 else s
  let s := if x.totSat then (s.bump (pg 0x2F 0xF4) 15 0 1).raise 0x2F 3 0 else s
  s.modLed (fun l => { l with totals := Sparse.set 0 x.idx x.total l.totals })

/-- Totals after the items of an apply. -/
def settledTotals (l : List LedItem) (m : List (Nat × Nat)) : List (Nat × Nat) := l.foldl (fun m x => Sparse.set 0 x.idx x.total m) m

theorem Block.settleItem_led (x : LedItem) :
    (s.settleItem x).led = { s.led with totals := Sparse.set 0 x.idx x.total s.led.totals } := by
  have reported (b : Block) (p : Prop) [Decidable p] (a d : Nat) :
      (if p then (b.bump a 15 0 1).raise 0x2F d 0 else b).led = b.led := by
    split
    · exact Block.raise_led _ _ _ _
    · rfl
  unfold Block.settleItem Block.modLed
  dsimp only
  rw [reported, reported]

theorem Block.settleItems_led (l : List LedItem) :
    (forEach l (fun x b => b.settleItem x) s).led = { s.led with totals := settledTotals l s.led.totals } := by
  induction l generalizing s with
  | nil => rfl
  | cons x l ih =>
    refine (ih (s.settleItem x)).trans ?_
    rw [s.settleItem_led]; rfl

theorem settledTotals_of_mem {f : Nat → LedItem} (own : ∀ i, (f i).idx = i) {l : List Nat} {i : Nat} (m : List (Nat × Nat)) :
    Sparse.get 0 i (settledTotals (l.map f) m) = if i ∈ l then (f i).total else Sparse.get 0 i m := by
  induction l generalizing m with
  | nil => rfl
  | cons j l ih =>
    refine (ih _).trans ?_
    by_cases later : i ∈ l
    · simp [later]
    · by_cases here : i = j
      · simp [here, own]
      · simp [later, here, own, Sparse.get_set_ne]

theorem Ledger.settled_parts {l : Ledger} {c : Option ClosedLatch} {q : Nat} {clears late : List Nat} {m : List (Nat × Nat)}
    (h : l.settled = (c, q, clears, late, m)) :
    l.closed = c ∧ l.lseq = q ∧ l.clears = clears ∧ l.lateKeys = late ∧ l.totals = m := by
  simpa [Ledger.settled] using h

theorem Ledger.totals_of_settled {l m : Ledger} (h : l.settled = m.settled) : l.totals = m.totals := by
  obtain ⟨-, -, -, -, totals⟩ := Ledger.settled_parts h
  exact totals

theorem Ledger.lseq_of_settled {l m : Ledger} (h : l.settled = m.settled) : l.lseq = m.lseq := by
  obtain ⟨-, lseq, -⟩ := Ledger.settled_parts h
  exact lseq

@[simp] theorem Block.showLedger_led : s.showLedger.led = s.led := rfl
@[simp] theorem Block.showDemand_led : s.showDemand.led = s.led := rfl

/-- Registers that an apply settles: enabled in the latch's definitions, or cleared (R325). -/
def Block.appliedRegs (s : Block) (c : ClosedLatch) : List Nat :=
  (List.range 1024).filter (fun i => (Sparse.get 0 (2 * i) c.defs).bit 31 || s.led.clears.contains i)

theorem Block.mem_appliedRegs {c : ClosedLatch} {i : Nat} (h : i < 1024) :
    i ∈ s.appliedRegs c ↔ (Sparse.get 0 (2 * i) c.defs).bit 31 = true ∨ i ∈ s.led.clears := by
  simp [Block.appliedRegs, h]

/-- The ledger's part of an apply, and the pending bit of LEDGER_STAT after it. -/
theorem Block.applyClosed_settled (c : ClosedLatch) (tail : List Byte) :
    (s.applyClosed c tail).led.settled
        = (none, (s.led.lseq + 1) % 2 ^ 48, [], [], settledTotals ((s.appliedRegs c).map (s.ledItem c)) s.led.totals)
      ∧ (s.applyClosed c tail).rbit (pg 0x2F 0x44) 0 = false := by
  unfold Block.applyClosed
  extract_lets hold lseq regs all items totalled viewed lf renewed es full jrn chans metered cop r chained hash listed sheafed switched
    shown q
  have numbered : lseq = (s.led.lseq + 1) % 2 ^ 48 := rfl
  rw [← numbered]
  clear_value lseq
  have totals : totalled.led = { s.led with totals := settledTotals all s.led.totals } := s.settleItems_led all
  have views : viewed.led.settled = totalled.led.settled := Block.keepsSettled.refl.newViews all
  have viewTotals : viewed.led.totals = settledTotals all s.led.totals := by
    rw [show viewed.led.totals = totalled.led.totals from Ledger.totals_of_settled views, totals]
  clear_value viewed
  have cleared : renewed.led.settled = (none, lseq, [], [], viewed.led.totals) := rfl
  have demand : renewed.keepsSettled metered := Block.keepsSettled.refl.each (fun e b => Block.keepsSettled.refl.demandApply ..) chans
  have recorded : renewed.keepsSettled chained := by
    unfold chained r
    split
    · exact demand.copLatch c
    · exact (demand.copLatch c).chainRecord lseq c.close es
  have lists : renewed.keepsSettled listed := recorded.modLed fun _ => rfl
  have sheaf : renewed.keepsSettled sheafed := by
    unfold sheafed
    split
    · refine .ite ?_ ((lists.sheafTake c lseq _ _).services Block.onlyServices.refl.billSave)
      refine Block.keepsSettled.services ?_ Block.onlyServices.refl.billSave
      exact lists.modLed fun _ => rfl
    · exact lists
  have switch : renewed.keepsSettled switched := sheaf.switchOut c lseq
  have displayed : renewed.keepsSettled shown := by
    have counts := switch.same ((Block.showDemand_led _).trans (Block.showLedger_led _))
    exact (counts.services (Block.onlyServices.refl.showLedgerQ _)).setR _ _
  have issued : shown.onlyServices q.1 := Block.onlyServices.refl.enqueueLatch ..
  have bit : q.1.rbit (pg 0x2F 0x44) 0 = false :=
    (Block.rbit_congr (issued.getR (by decide)) 0).trans (Block.rbit_setB_same _ _ _ _ (by decide))
  have kept : q.1.led.settled = (none, lseq, [], [], settledTotals all s.led.totals) := by
    rw [congrArg Ledger.settled issued.led, displayed, cleared, viewTotals]
  split
  · exact ⟨kept, bit⟩
  · exact ⟨kept, bit⟩

end Sys2Proof.Machine
end

section
/-! SUPPORT. LATCH_APPLY with what RESOLVE of TOTALS and the Selvedge commands add to it (R325, R445, R585, R586). -/

namespace Sys2Proof.Machine

variable (s : Block)

/-- The settled part and LEDGER_STAT stay. -/
def Block.keepsApplied (s t : Block) : Prop := s.keepsSettled t ∧ t.getR (pg 0x2F 0x44) = s.getR (pg 0x2F 0x44)

theorem Block.keepsApplied.trans {s t u : Block} (h : s.keepsApplied t) (k : t.keepsApplied u) : s.keepsApplied u :=
  ⟨Block.keepsSettled.trans h.1 k.1, k.2.trans h.2⟩

theorem Block.onlyServices.keepsApplied {s t : Block} (h : s.onlyServices t) : s.keepsApplied t :=
  ⟨Block.keepsSettled.refl.services h, h.getR (by decide)⟩

theorem Block.keepsApplied.modJoin {s t : Block} (h : s.keepsApplied t) (f : Join → Join) : s.keepsApplied (t.modJoin f) := h

theorem Block.keepsApplied.modMc {s t : Block} (h : s.keepsApplied t) (f : Micro → Micro) : s.keepsApplied (t.modMc f) := h

theorem Block.totals_written (f : List (Nat × Nat) → List (Nat × Nat)) :
    ∃ m, s.modLed (fun l => { l with totals := f l.totals }) = s.modLed (fun l => { l with totals := m }) := ⟨f s.led.totals, rfl⟩

/-- A loop that writes totals leaves all but totals. -/
theorem Block.forEach_totals {α : Type} (f : α → Block → Block)
    (hf : ∀ x (b : Block), ∃ m, f x b = b.modLed (fun l => { l with totals := m })) (l : List α) :
    ∃ m, forEach l f s = s.modLed (fun l => { l with totals := m }) := by
  induction l generalizing s with
  | nil => exact ⟨s.led.totals, rfl⟩
  | cons x l ih =>
    obtain ⟨m, first⟩ := hf x s
    obtain ⟨n, rest⟩ := ih (f x s)
    refine ⟨n, rest.trans ?_⟩
    rw [first]; rfl

theorem Block.totalsMerge_totals : ∃ m, s.totalsMerge = s.modLed (fun l => { l with totals := m }) := by
  unfold Block.totalsMerge
  split
  · exact s.forEach_totals _ (fun k b => b.forEach_totals _ (fun i b => b.totals_written _) _) _
  · exact ⟨s.led.totals, rfl⟩

theorem Block.totalsMerge_of_nil (h : s.recs.resolve = []) : s.totalsMerge = s := by
  rw [Block.totalsMerge, h]; rfl

theorem Block.importApply_of_none (c : ClosedLatch) (h : s.join.imp = none) : s.importApply c = s := by
  rw [Block.importApply, h]

/-- An import moves totals, not LSEQ. -/
theorem Block.importApply_lseq (c : ClosedLatch) : (s.importApply c).led.lseq = s.led.lseq := by
  unfold Block.importApply
  split
  · rfl
  next x _ =>
    extract_lets lseq loaded e chained listed marked
    have start : loaded.led.lseq = s.led.lseq := by
      obtain ⟨m, written⟩ := s.forEach_totals _ (fun p b => b.totals_written (Sparse.set 0 p.1 p.2)) x.items
      rw [show loaded = _ from written]; rfl
    have chain : loaded.keepsSettled chained :=
      Block.keepsSettled.refl.services ((Block.onlyServices.refl.chainOver _ _).showChain _)
    have lists : loaded.keepsSettled listed := chain.modLed fun _ => rfl
    have saved : loaded.keepsSettled marked.billSave :=
      (lists.same (u := marked) rfl).services Block.onlyServices.refl.billSave
    exact (Ledger.lseq_of_settled ((saved.setR _ _).raise 0x3D 8 0)).trans start

theorem Block.exportRecord_services (c : ClosedLatch) (hash : List Byte) : s.onlyServices (s.exportRecord c hash).1 :=
  ((Block.onlyServices.refl.setR _ (by decide) (by decide)).setR _ (by decide) (by decide)).maybe (Block.onlyServices.refl.raise 0x3C 2 0)

/-- The apply itself: an import before it, a record sent out after it. -/
theorem Block.latchApplyJoin_of {c : ClosedLatch} (closed : s.led.closed = some c) (due : c.applyAt ≤ s.absPick)
    (loaded : s.led.loaded = true) : ((s.importApply c).applyClosed c []).keepsApplied s.latchApplyJoin := by
  have now : ¬ (decide (s.absPick < c.applyAt) || !s.led.loaded) = true := by simp [loaded, due]
  rw [Block.latchApplyJoin, closed]
  dsimp only
  rw [if_neg now]
  split
  · exact ⟨.refl, rfl⟩
  · exact (Block.exportRecord_services _ c _).keepsApplied.modJoin _

theorem Block.totalsIssued_keeps : s.keepsApplied s.totalsIssued := by
  unfold Block.totalsIssued
  split
  · exact ((Block.onlyServices.refl.modRec _).conflictEnd 0x34).keepsApplied
  · exact ⟨.refl, rfl⟩

/-- LATCH_APPLY of a latch that is due. -/
theorem Block.latchApplyAll_of {c : ClosedLatch} (closed : s.led.closed = some c) (due : c.applyAt ≤ s.absPick)
    (loaded : s.led.loaded = true) : ((s.totalsMerge.importApply c).applyClosed c []).keepsApplied s.latchApplyAll := by
  obtain ⟨m, merged⟩ := s.totalsMerge_totals
  have applied : ((s.totalsMerge.importApply c).applyClosed c []).keepsApplied s.totalsMerge.latchApplyJoin :=
    Block.latchApplyJoin_of _ (by rw [merged]; exact closed) (by rw [merged]; exact due) (by rw [merged]; exact loaded)
  unfold Block.latchApplyAll
  extract_lets now
  have isNow : now = true := by simp [now, closed, due, loaded]
  rw [if_pos isNow]
  exact (applied.trans (Block.totalsIssued_keeps _)).modMc _

/-- The ledger's part of such a LATCH_APPLY, with an import or without. -/
theorem Block.latchApplyAll_ledger {c : ClosedLatch} (closed : s.led.closed = some c) (due : c.applyAt ≤ s.absPick)
    (loaded : s.led.loaded = true) : let t := s.latchApplyAll
    t.led.closed = none ∧ t.led.lseq = (s.led.lseq + 1) % 2 ^ 48 ∧ t.led.clears = [] ∧ t.led.lateKeys = []
      ∧ t.rbit (pg 0x2F 0x44) 0 = false := by
  obtain ⟨settled, bit⟩ := (s.totalsMerge.importApply c).applyClosed_settled c []
  obtain ⟨kept, stat⟩ := s.latchApplyAll_of closed due loaded
  obtain ⟨none_, lseq, clears, late, -⟩ := Ledger.settled_parts (Eq.trans kept settled)
  have number : (s.totalsMerge.importApply c).led.lseq = s.led.lseq := by
    obtain ⟨m, merged⟩ := s.totalsMerge_totals
    rw [Block.importApply_lseq, merged]; rfl
  exact ⟨none_, by rw [lseq, number], clears, late, (Block.rbit_congr stat 0).trans bit⟩

/-- Its totals, where no import and no RESOLVE of TOTALS comes before. -/
theorem Block.latchApplyAll_total {c : ClosedLatch} (closed : s.led.closed = some c) (due : c.applyAt ≤ s.absPick)
    (loaded : s.led.loaded = true) (plain : s.join.imp = none) (unresolved : s.recs.resolve = []) (i : Nat) :
    s.latchApplyAll.total i = if i ∈ s.appliedRegs c then (s.ledItem c i).total else s.total i := by
  obtain ⟨kept, -⟩ := s.latchApplyAll_of closed due loaded
  rw [Block.totalsMerge_of_nil _ unresolved, Block.importApply_of_none _ c plain] at kept
  obtain ⟨-, -, -, -, totals⟩ := Ledger.settled_parts (Eq.trans kept (s.applyClosed_settled c []).1)
  rw [Block.total, totals, settledTotals_of_mem (fun _ => rfl)]; rfl

end Sys2Proof.Machine
end

section
/-! SUPPORT. Signatures that wait in RING4's order, and Sheaves (R339, R342, R344). -/

namespace Sys2Proof.Machine

variable (s : Block)

/-- An entry of RING4 that waits for its signature (R512). -/
def Out4.waits : Out4 → Bool
  | .demand _ _ _ _ _ _ g => g.isNone
  | .sheaf d => d.payload.isSome && d.sig.isNone
  | .switch _ _ _ => false

theorem Block.sigWaiting_eq : s.sigWaiting = s.led.out4.countP Out4.waits := by
  rw [List.countP_eq_length_filter]
  exact congrArg List.length (List.filter_congr fun o _ => by cases o <;> rfl)

/-- An entry that may be written now waits for no signature. -/
theorem Block.waits_of_out4Entry {o : Out4} {e : Entry} (h : s.out4Entry o = some e) : o.waits = false := by
  cases o with
  | demand lseq stamp slot body hash late sig =>
    cases sig with
    | none => simp [Block.out4Entry] at h
    | some g => rfl
  | sheaf d =>
    cases sig : d.sig with
    | none => simp [Block.out4Entry, sig] at h
    | some g => simp [Out4.waits, sig]
  | switch lseq stamp body => rfl

/-- RING4's entries stay. -/
theorem Block.onlyServices.sigWaiting {s t : Block} (h : s.onlyServices t) : t.sigWaiting = s.sigWaiting := by
  rw [Block.sigWaiting, h.led]; rfl

/-- What leaves into RING4 waits for no signature. -/
theorem Block.flush4_sigWaiting (fuel : Nat) : (s.flush4 fuel).sigWaiting = s.sigWaiting := by
  induction fuel generalizing s with
  | zero => exact (Block.onlyServices.refl.showLedgerQ _).sigWaiting
  | succ n ih =>
    unfold Block.flush4
    split
    next o rest out =>
      split
      next e entry =>
        extract_lets left written
        have put : left.onlyServices written := by
          unfold written
          split
          · exact (Block.onlyServices.refl.raise 0x32 1 0).put (by decide) (by decide) _
          · exact Block.onlyServices.refl.putLogged (by decide) (by decide) _ _
        have popped : left.sigWaiting = s.sigWaiting := by
          rw [left.sigWaiting_eq, s.sigWaiting_eq, out, List.countP_cons_of_neg (by simp [s.waits_of_out4Entry entry])]; rfl
        have shown : written.showDemand.sigWaiting = written.sigWaiting := by rw [Block.sigWaiting, Block.showDemand_led]; rfl
        rw [ih, shown, put.sigWaiting, popped]
      · exact (Block.onlyServices.refl.showLedgerQ _).sigWaiting
    · exact (Block.onlyServices.refl.showLedgerQ _).sigWaiting

/-- The first entry that waits, where one does. -/
theorem exists_findIdx_waits {l : List Out4} (h : 0 < l.countP Out4.waits) :
    ∃ o, l[l.findIdx Out4.waits]? = some o ∧ o.waits = true := by
  obtain ⟨o, mem, waits⟩ := List.countP_pos_iff.1 h
  have inside := List.findIdx_lt_length_of_exists ⟨o, mem, waits⟩
  exact ⟨_, List.getElem?_eq_getElem inside, List.findIdx_getElem (w := inside)⟩

/-- One entry signed leaves one fewer that waits. -/
theorem countP_waits_signed {l : List Out4} {i : Nat} {o x : Out4} (at_ : l[i]? = some o) (waits : o.waits = true)
    (signed : x.waits = false) :
    (setNth l i x).countP Out4.waits + 1 = l.countP Out4.waits := by
  obtain ⟨inside, own⟩ := List.getElem?_eq_some_iff.1 at_
  have one : 0 < l.countP Out4.waits := List.countP_pos_iff.2 ⟨l[i], List.getElem_mem inside, by rw [own]; exact waits⟩
  rw [setNth, List.countP_set inside, own, waits, signed]
  simp; omega

/-- After a signature: RING4, then the operations that waited for the engine. -/
theorem Block.signed_sigWaiting : (((s.flush4 1024).opsStart 256).cryptFlush 256).sigWaiting = s.sigWaiting :=
  (Block.onlyServices.sigWaiting ((Block.onlyServices.refl.opsStart _).cryptFlush _)).trans (s.flush4_sigWaiting _)

/-- RING4's waiting entry with its signature, whatever the services did meanwhile. -/
theorem Block.onlyServices.signed_waiting {s t : Block} (h : s.onlyServices t) {i : Nat} {o x : Out4} (at_ : s.led.out4[i]? = some o)
    (waits : o.waits = true) (signed : x.waits = false) :
    (t.modLed (fun l => { l with out4 := setNth l.out4 i x })).sigWaiting + 1 = s.sigWaiting := by
  rw [Block.sigWaiting_eq, s.sigWaiting_eq, ← countP_waits_signed at_ waits signed, ← h.led]; rfl

/-- LEDGER_SIGNATURE_DONE takes one signature off those that wait. -/
theorem Block.signDone_sigWaiting (free : ∀ o ∈ s.husk.ops, ¬ (o.phase = 1 ∧ o.ecc = true)) (up : s.pwr.st ≠ .hold)
    (idle : s.husk.trans = none) (granted : s.granted 0x3C = true) (some_ : 0 < s.sigWaiting) :
    s.signDone.sigWaiting + 1 = s.sigWaiting := by
  have go : ¬ (s.husk.ops.any (fun o => o.phase = 1 && o.ecc) || s.pwr.st == .hold || s.husk.trans.isSome || !s.granted 0x3C) = true := by
    simpa [up, idle, granted] using free
  obtain ⟨o, at_, waits⟩ := exists_findIdx_waits (s.sigWaiting_eq ▸ some_)
  unfold Block.signDone
  rw [if_neg go]
  extract_lets i done
  have first : s.led.out4[i]? = some o := by
    rw [← at_, show i = s.led.out4.findIdx Out4.waits from congrArg (List.findIdx · s.led.out4) (funext fun o => by cases o <;> rfl)]
  have sign (b : Block) : (done b).sigWaiting = b.sigWaiting := b.signed_sigWaiting
  rw [first]
  cases o with
  | demand lseq stamp slot body hash late sig =>
    dsimp only
    rw [sign]
    exact (Block.onlyServices.refl.yodazaSign _ _ _ _ _).signed_waiting first waits rfl
  | sheaf d =>
    dsimp only
    rw [sign, (Block.onlyServices.refl.enqueue _).sigWaiting]
    exact (Block.onlyServices.refl.yodazaSign _ _ _ _ _).signed_waiting first waits (by simp [Out4.waits])
  | switch => cases waits

end Sys2Proof.Machine
end

section
/-! SUPPORT. SHEAF_FORM and BILL_CMD SHEAF (R341, R342, R362). -/

namespace Sys2Proof.Machine

variable (s : Block)

/-- SHEAF_FORM: the first entry of RING4's order takes its number and its payload, the next Sheaf the stamp. -/
theorem Block.sheafForm_of {d : SheafDue} (next : s.sheafNext = some d) :
    ∃ (x : SheafDue) (u : Block) (n : Nat), s.sheafForm = (u.setN (pg 0x32 0x4C) x.shseq).showLedgerQ n
      ∧ u.led = { s.led with out4 := .sheaf x :: s.led.out4.drop 1, prevSheaf := d.rtc }
      ∧ x.shseq = (s.getN (pg 0x32 0x4C) + 1) % 2 ^ 32 ∧ x.payload.isSome = true ∧ x.lseq = d.lseq ∧ x.totals = d.totals
      ∧ x.sig = d.sig := by
  unfold Block.sheafForm
  rw [next]
  dsimp -zeta only
  extract_lets no bitmap p x formed
  exact ⟨x, formed, formed.sigWaiting, rfl, rfl, rfl, rfl, rfl, rfl, rfl⟩

theorem Block.sheafForm_row {d : SheafDue} (next : s.sheafNext = some d) : let t := s.sheafForm
    t.getN (pg 0x32 0x4C) = (s.getN (pg 0x32 0x4C) + 1) % 2 ^ 32 ∧ t.led.prevSheaf = d.rtc
      ∧ ∃ x, t.led.out4 = .sheaf x :: s.led.out4.drop 1 ∧ x.shseq = (s.getN (pg 0x32 0x4C) + 1) % 2 ^ 32 ∧ x.payload.isSome = true
        ∧ x.lseq = d.lseq ∧ x.totals = d.totals ∧ x.sig = d.sig := by
  obtain ⟨x, u, n, formed, ledger, number, rest⟩ := s.sheafForm_of next
  have shown : (u.setN (pg 0x32 0x4C) x.shseq).onlyServices s.sheafForm := formed ▸ Block.onlyServices.refl.showLedgerQ n
  have led := shown.led.trans ledger
  refine ⟨?_, congrArg Ledger.prevSheaf led, x, congrArg Ledger.out4 led, number, rest⟩
  rw [Block.getN_congr (shown.getR (by decide)), Block.getN, Block.getR_setN_same, BitVec.toNat_ofNat, number]
  exact Nat.mod_mod _ _

theorem Block.toReg_billSheaf (ready : s.hostReady = true) : s.toReg 0x32 0x44 (cmdWord 1 0 0) = s.arrive.nextFrame.billCmdSheaf :=
  (s.toReg_of 0x32 0x44 _ ready (by decide) (by decide) (by decide) (by decide)).trans (Block.regWriteTo_cmd _ _ _ _ _ (by decide) rfl)

/-- A follower asks the lead. -/
theorem Block.billCmdSheaf_asks (follows : s.following = true) (on : s.rbit (pg 0x32 0x40) 25 = true)
    (first : s.join.req.any (fun q => q.1) = false) :
    s.billCmdSheaf = (s.modJoin (fun j => { j with req := some (true, none) })).showJoin := by
  rw [Block.billCmdSheaf, follows, on, first, Block.askLatch, follows]; rfl

theorem Block.billCmdSheaf_askedBefore (follows : s.following = true) (on : s.rbit (pg 0x32 0x40) 25 = true)
    (asked : s.join.req.any (fun q => q.1) = true) : s.billCmdSheaf = s.raise 0x32 3 0 := by
  rw [Block.billCmdSheaf, follows, on, asked]; rfl

/-- Without a lead the command makes a Sheaf and a latch wait here. -/
theorem Block.billCmdSheaf_waits (alone : s.following = false) (on : s.rbit (pg 0x32 0x40) 25 = true) (first : s.led.cmdSheaf = false) :
    s.billCmdSheaf = (s.modLed (fun l => { l with cmdSheaf := true })).modWarp (fun w => { w with cmdLatch := true }) := by
  rw [Block.billCmdSheaf, alone, Block.billSheaf, on, first]; rfl

theorem Block.billCmdSheaf_refused (h : s.rbit (pg 0x32 0x40) 25 = false ∨ s.following = false ∧ s.led.cmdSheaf = true) :
    s.billCmdSheaf = s.raise 0x32 3 0 := by
  rw [Block.billCmdSheaf, Block.billSheaf]
  rcases h with off | ⟨alone, waits⟩
  · rw [off, Bool.and_false]; rfl
  · rw [alone, waits, Bool.or_true]; rfl

/-- Settles O43: the apply by its settled part, the signature by RING4's order, the Sheaf and the command by their own rows. -/
theorem latchApplyRows : Obligations.LatchApplyRows := by
  unfold Obligations.LatchApplyRows
  intro s l
  refine ⟨fun c powered closed due loaded => ?apply, fun powered up free idle granted waiting => ?signature, fun d up next => ?form,
    fun ready => ?command⟩
  case apply =>
    obtain ⟨none_, lseq, clears, late, bit⟩ := s.block.latchApplyAll_ledger closed due loaded
    refine leads_of rfl (s.block.onPick_of _ powered) ⟨none_, lseq, clears, late, bit, fun plain unresolved i small => ?_⟩
    have total := s.block.latchApplyAll_total closed due loaded plain unresolved i
    have applied := s.block.mem_appliedRegs (c := c) small
    exact ⟨fun own => total.trans (if_pos (applied.2 own)),
      fun off left => total.trans (if_neg fun own => (applied.1 own).elim (by rw [off]; exact Bool.false_ne_true) left)⟩
  case signature =>
    exact leads_of rfl (s.block.act_of _ powered) (s.block.arrive.signDone_sigWaiting free up idle granted waiting)
  case form => exact leads_of rfl (s.block.actUp_of _ up) (s.block.arrive.sheafForm_row next)
  case command =>
    have command := s.block.toReg_billSheaf ready
    have refused (e : s.block.arrive.nextFrame.billCmdSheaf = s.block.arrive.nextFrame.raise 0x32 3 0) :
        Instr.sheaf.leads s (fun t => t.rbit (pg 0x32 0x0C) 3 = true ∧ s.block.arrive.nextFrame.onlyRaised t [0x32] []) :=
      leads_of rfl (command.trans e) ⟨Block.raise_event _ 0x32 3 0 (by decide), Block.onlyRaised_raise _ 0x32 3 0⟩
    refine ⟨fun follows on => ⟨fun first => ?_, fun asked => ?_⟩, fun alone on first => ?_, fun h => ?_⟩
    · exact next_of rfl (command.trans (Block.billCmdSheaf_asks _ follows on first))
    · exact refused (Block.billCmdSheaf_askedBefore _ follows on asked)
    · exact next_of rfl (command.trans (Block.billCmdSheaf_waits _ alone on first))
    · exact refused (Block.billCmdSheaf_refused _ h)

end Sys2Proof.Machine
end

section
/-! SUPPORT. Ledger commands (R318, R321, R323, R350): LEDGER_CMD, DEF_DATA and VIEW_STAT. -/

namespace Sys2Proof.Machine

variable (s : Block)

/-- The life cycle states in which totals can be cleared: VENDOR and MAKER (R321). -/
theorem Block.clearTotals_open (l : List Nat) (h : s.lcState = 1 ∨ s.lcState = 2) :
    s.clearTotals l = s.modLed (fun d => { d with clears := d.clears ++ l }) :=
  if_pos (by simpa using h)

theorem Block.clearTotals_refused (l : List Nat) (h : ¬ (s.lcState = 1 ∨ s.lcState = 2)) : s.clearTotals l = s.raise 0x2F 4 0 :=
  if_neg (by simpa using h)

/-- LEDGER_CMD CLEAR_ONE names its register in bits 25:16. -/
theorem Block.ledgerCmd_clearOne {i : Nat} (small : i < 1024) : s.ledgerCmd (cmdWord 1 0 i) = s.clearTotals [i] := by
  have cmd : (cmdWord 1 0 i).bits 3 0 = 1 := cmdWord_cmd 1 0 i (by decide) (by decide) (by omega)
  have index : (cmdWord 1 0 i).bits 25 16 = i := by
    rw [cmdWord_bits 1 0 i 25 16 (by decide) (by decide) (by omega)]; omega
  rw [Block.ledgerCmd, cmd, index]; rfl

theorem Block.toReg_clearOne {i : Nat} (ready : s.hostReady = true) (small : i < 1024) :
    s.toRegIf (i < 1024) 0x2F 0x58 (cmdWord 1 0 i) = s.arrive.nextFrame.clearTotals [i] :=
  (s.toRegIf_of _ 0x2F 0x58 _ ready (by simpa using small) (by decide) (by decide) (by decide) (by decide)).trans
    ((Block.regWriteTo_cmd _ 0x2F 0x58 _ _ (by decide) rfl).trans (Block.ledgerCmd_clearOne _ small))

theorem Block.toReg_clearAll (ready : s.hostReady = true) :
    s.toReg 0x2F 0x58 (cmdWord 2 0 0) = s.arrive.nextFrame.clearTotals (List.range 1024) :=
  (s.toReg_of 0x2F 0x58 _ ready (by decide) (by decide) (by decide) (by decide)).trans
    (Block.regWriteTo_cmd _ 0x2F 0x58 _ _ (by decide) rfl)

/-- The step of DEF_ADDR: one on, from 2047 to 0. -/
theorem Block.getN_defNext : s.defNext.getN (pg 0x2F 0x50) = (s.fld (pg 0x2F 0x50) 10 0 + 1) % 2048 := by
  rw [Block.defNext, Block.getN, Block.getR_setN_same, BitVec.toNat_ofNat]
  exact Nat.mod_eq_of_lt (by omega)

theorem Block.onlyRegs_defNext : s.onlyRegs s.defNext [pg 0x2F 0x50] := s.onlyRegs_setR _ _

theorem Block.access_defWrite (v : Word) (ready : s.hostReady = true) :
    s.access 0x2F 0x54 (some v) = s.arrive.nextFrame.defWrite v :=
  (s.toReg_of 0x2F 0x54 v ready (by decide) (by decide) (by decide) (by decide)).trans
    (Block.regWriteTo_cmd _ 0x2F 0x54 v _ (by decide) rfl)

theorem Block.access_defRead (ready : s.hostReady = true) : s.access 0x2F 0x54 none = s.arrive.defNext :=
  (s.fromReg_of 0x2F 0x54 ready (by decide) (by decide)).trans rfl

theorem Block.toReg_viewStat (v : Word) (ready : s.hostReady = true) : s.toReg 0x2F 0x68 v
    = if v.bit 0 then s.arrive.nextFrame.viewClear else s.arrive.nextFrame :=
  (s.toReg_of 0x2F 0x68 v ready (by decide) (by decide) (by decide) (by decide)).trans
    (Block.regWriteTo_cmd _ 0x2F 0x68 v _ (by decide) rfl)

/-- Settles O44: each row's write is its command, and the commands go by the life cycle state or the written bit. -/
theorem ledgerCommands : Obligations.LedgerCommands := by
  unfold Obligations.LedgerCommands
  intro s ready b l open_ rejected next
  have refused {c : Instr} {f : Block → Block} (form : exec c s = .next (s.onBlock f)) {names : List Nat}
      (row : f s.block = b.clearTotals names) (shut : ¬ open_) : rejected c :=
    leads_of form (row.trans (b.clearTotals_refused names shut)) ⟨Block.raise_event _ 0x2F 4 0 (by decide), b.onlyRaised_raise 0x2F 4 0⟩
  refine ⟨fun i small => ⟨fun opened => ?one, fun shut => ?_⟩, fun opened => ?all, fun shut => ?_, fun v => ?write, ?read,
    fun v set => ?cleared, fun v clear => ?_⟩
  case one => exact next_of rfl ((s.block.toReg_clearOne ready small).trans (b.clearTotals_open _ opened))
  · exact refused rfl (s.block.toReg_clearOne ready small) shut
  case all =>
    exact leads_of rfl ((s.block.toReg_clearAll ready).trans (b.clearTotals_open _ opened))
      ⟨fun i small => List.mem_append_right _ (List.mem_range.2 small), rfl⟩
  · exact refused rfl (s.block.toReg_clearAll ready) shut
  case write => exact leads_of rfl (s.block.access_defWrite v ready) ⟨rfl, Block.getN_defNext _, Block.onlyRegs_defNext _⟩
  case read => exact leads_of rfl (s.block.access_defRead ready) ⟨Block.getN_defNext _, Block.onlyRegs_defNext _⟩
  case cleared => exact next_of rfl ((s.block.toReg_viewStat v ready).trans (if_pos set))
  · exact next_of rfl ((s.block.toReg_viewStat v ready).trans (if_neg (by rw [clear]; exact Bool.false_ne_true)))

end Sys2Proof.Machine
end

section
/-! SUPPORT. The passive calendar (R330, R332, R334, R353, R354): CAL_DATA, TAR_CMD and the turn of daylight-saving time. -/

namespace Sys2Proof.Machine

variable (s : Block)

/-! ### Fields of a register -/

/-- A field outside the one written stays. -/
theorem Block.fld_setF_out (a hi lo v hi' lo' : Nat) (h : hi' < lo ∨ hi < lo') (h1 : lo' ≤ hi') (h2 : hi' < 32) :
    (s.setF a hi lo v).fld a hi' lo' = s.fld a hi' lo' := by
  rw [Block.fld, Block.getR_setF_same]
  exact Word.withBits_bits_ne _ _ _ _ _ _ h h1 h2

/-! ### TAR_STAT, CAL_ADDR and what follows them -/

@[simp] theorem Block.setPassive_tar (v : Nat) : (s.setPassive v).tar = s.tar := rfl

theorem Block.passive_setPassive {v : Nat} (h : v < 8) : (s.setPassive v).passive = v :=
  (s.fld_setF_same _ 31 29 v (by decide) (by decide)).trans (Nat.mod_eq_of_lt h)

theorem Block.onlyRegs_setPassive (v : Nat) : s.onlyRegs (s.setPassive v) [pg 0x30 0x68] := s.onlyRegs_setR _ _

/-- What is in force is shown in TAR_STAT and the two versions. -/
theorem Block.onlyRegs_showTariff : s.onlyRegs s.showTariff [pg 0x30 0x68, pg 0x30 0x6C, pg 0x30 0x70] :=
  have stat : pg 0x30 0x68 ∈ [pg 0x30 0x68, pg 0x30 0x6C, pg 0x30 0x70] := by decide
  ((((((((s.onlyRegs_refl _).setR _ stat).setR _ stat).setR _ stat).setR _ stat).setR _ stat).setR _ stat).setR _ (by decide)).setR _
    (by decide)

theorem Block.passive_showTariff : s.showTariff.passive = s.passive := by
  unfold Block.showTariff Block.passive
  dsimp only
  rw [Block.fld_congr (Block.getR_setR_ne _ _ (by decide)), Block.fld_congr (Block.getR_setR_ne _ _ (by decide)), Block.setB,
    Block.fld_setF_out _ _ 28 28 _ 31 29 (by decide) (by decide) (by decide),
    Block.fld_setF_out _ _ 3 0 _ 31 29 (by decide) (by decide) (by decide), Block.setB,
    Block.fld_setF_out _ _ 26 26 _ 31 29 (by decide) (by decide) (by decide),
    Block.fld_setF_out _ _ 7 4 _ 31 29 (by decide) (by decide) (by decide),
    Block.fld_setF_out _ _ 10 8 _ 31 29 (by decide) (by decide) (by decide),
    Block.fld_setF_out _ _ 15 12 _ 31 29 (by decide) (by decide) (by decide)]

theorem Block.onlyRegs_calShow : s.onlyRegs s.calShow [pg 0x30 0x54, pg 0x30 0x58] :=
  ((s.onlyRegs_refl _).setR _ (by decide)).setR _ (by decide)

theorem Block.onlyRegs_calStep : s.onlyRegs s.calStep [pg 0x30 0x50, pg 0x30 0x54, pg 0x30 0x58] :=
  ((s.onlyRegs_refl _).setR _ (by decide)).trans ((Block.onlyRegs_calShow _).mono (by decide))

/-- The step of WORD: one on, from 244 to 0. -/
theorem Block.fld_calStep : s.calStep.fld (pg 0x30 0x50) 7 0
    = if 244 ≤ s.fld (pg 0x30 0x50) 7 0 then 0 else s.fld (pg 0x30 0x50) 7 0 + 1 := by
  rw [Block.calStep, Block.fld_congr ((Block.onlyRegs_calShow _).getR (by decide)),
    Block.fld_setF_same _ _ _ _ _ (by decide) (by decide)]
  split <;> omega

/-! ### CAL_DATA written -/

theorem Block.tarCalWrite_row (v : Word) (addressed : s.rbit (pg 0x30 0x50) 8 = false) (free : s.passive ≠ 3) : let t := s.tarCalWrite v
    let w := s.fld (pg 0x30 0x50) 7 0
    t.tar = { s.tar with passive := setNth s.tar.passive w v } ∧ t.passive = 1
      ∧ t.fld (pg 0x30 0x50) 7 0 = (if 244 ≤ w then 0 else w + 1) := by
  intro t w
  let x := (s.modTar fun c => { c with passive := setNth c.passive w v }).setPassive 1
  have row : t = x.showTariff.calStep := if_neg (by simp [addressed, free])
  have shown := x.onlyRegs_showTariff
  have stepped := x.showTariff.onlyRegs_calStep
  have word : x.showTariff.fld (pg 0x30 0x50) 7 0 = w :=
    Block.fld_congr ((shown.getR (by decide)).trans ((Block.onlyRegs_setPassive _ 1).getR (by decide))) 7 0
  rw [row]
  refine ⟨?_, ?_, by rw [Block.fld_calStep, word]⟩
  · rw [stepped.1, shown.1]; rfl
  · rw [Block.passive, Block.fld_congr (stepped.getR (by decide)), ← Block.passive, Block.passive_showTariff,
      Block.passive_setPassive _ (by decide)]

theorem Block.tarCalWrite_refused (v : Word) (h : s.rbit (pg 0x30 0x50) 8 = true ∨ s.passive = 3) : s.tarCalWrite v = s.tarReject :=
  if_pos (by simpa using h)

theorem Block.access_calWrite (v : Word) (ready : s.hostReady = true) :
    s.access 0x30 0x54 (some v) = s.arrive.nextFrame.tarCalWrite v :=
  (s.toReg_of 0x30 0x54 v ready (by decide) (by decide) (by decide) (by decide)).trans
    (Block.regWriteTo_cmd _ 0x30 0x54 v _ (by decide) rfl)

theorem Block.access_calRead (ready : s.hostReady = true) : s.access 0x30 0x54 none = s.arrive.calStep :=
  (s.fromReg_of 0x30 0x54 ready (by decide) (by decide)).trans rfl

/-! ### TAR_CMD -/

/-- The calendars are committed as record 0x31: it joins the queue, and no register of TARIFF differs. -/
theorem Block.calendarSave_row : (∃ c ∈ s.calendarSave.recs.queue, c.id = 0x31) ∧ s.calendarSave.tar = s.tar
    ∧ ∀ o, 0x40 ≤ o → o < 0x400 → s.calendarSave.getR (pg 0x30 o) = s.getR (pg 0x30 o) :=
  ⟨⟨_, List.mem_append_right _ (List.mem_singleton_self _), rfl⟩, rfl,
    fun o low high => s.getR_setF_ne (by unfold pg; omega) 31 24 _⟩

theorem Block.tarCheck_valid (free : s.passive ≠ 3) (good : calendarBad s.tar.passive = none) :
    s.tarCheck = ((s.setPassive 2).setF (pg 0x30 0x68) 23 16 0xFF).calendarSave := by
  rw [Block.tarCheck, if_neg free, good]

theorem Block.tarCheck_invalid {k : Nat} (free : s.passive ≠ 3) (bad : calendarBad s.tar.passive = some k) :
    s.tarCheck = ((s.setPassive 4).setF (pg 0x30 0x68) 23 16 k).raise 0x30 3 0 := by
  rw [Block.tarCheck, if_neg free, bad]

/-- TAR_STAT after a check: the state and the first failing word. -/
theorem Block.checked_stat {v : Nat} (k : Nat) (h : v < 8) : ((s.setPassive v).setF (pg 0x30 0x68) 23 16 k).passive = v
    ∧ ((s.setPassive v).setF (pg 0x30 0x68) 23 16 k).fld (pg 0x30 0x68) 23 16 = k % 256 :=
  ⟨(Block.fld_setF_out _ _ 23 16 k 31 29 (by decide) (by decide) (by decide)).trans (s.passive_setPassive h),
    Block.fld_setF_same _ _ 23 16 k (by decide) (by decide)⟩

theorem Block.tarCheck_valid_row (free : s.passive ≠ 3) (good : calendarBad s.tar.passive = none) : let t := s.tarCheck
    t.passive = 2 ∧ t.fld (pg 0x30 0x68) 23 16 = 0xFF ∧ (∃ c ∈ t.recs.queue, c.id = 0x31) ∧ t.tar = s.tar := by
  obtain ⟨saved, tar, regs⟩ := ((s.setPassive 2).setF (pg 0x30 0x68) 23 16 0xFF).calendarSave_row
  obtain ⟨state, first⟩ := s.checked_stat (v := 2) 0xFF (by decide)
  have stat := regs 0x68 (by decide) (by decide)
  rw [Block.tarCheck_valid _ free good]
  exact ⟨(Block.fld_congr stat 31 29).trans state, (Block.fld_congr stat 23 16).trans first, saved, tar⟩

theorem Block.tarCheck_invalid_row {k : Nat} (free : s.passive ≠ 3) (bad : calendarBad s.tar.passive = some k) : let t := s.tarCheck
    t.passive = 4 ∧ t.fld (pg 0x30 0x68) 23 16 = k % 256 ∧ t.rbit (pg 0x30 0x0C) 3 = true ∧ t.tar = s.tar
      ∧ s.onlyRaised t [0x30] [pg 0x30 0x68] := by
  obtain ⟨state, first⟩ := s.checked_stat (v := 4) k (by decide)
  have only : s.onlyRegs ((s.setPassive 4).setF (pg 0x30 0x68) 23 16 k) [pg 0x30 0x68] :=
    (s.onlyRegs_setPassive 4).setR _ (List.mem_singleton_self _)
  have raised := (only.onlyRaised [0x30]).raise 3 0 (List.mem_singleton_self 0x30)
  have stat := (Block.onlyRaised_raise ((s.setPassive 4).setF (pg 0x30 0x68) 23 16 k) 0x30 3 0).2 (pg 0x30 0x68) (by decide) (by decide)
  rw [Block.tarCheck_invalid _ free bad]
  exact ⟨(Block.fld_congr stat 31 29).trans state, (Block.fld_congr stat 23 16).trans first, Block.raise_event _ 0x30 3 0 (by decide),
    by rw [raised.1], raised⟩

theorem Block.tarSchedule_row (valid : s.passive = 2) : let t := s.tarSchedule
    t.passive = 3 ∧ (∃ c ∈ t.recs.queue, c.id = 0x31) ∧ t.tar = s.tar := by
  obtain ⟨saved, tar, regs⟩ := (s.setPassive 3).calendarSave_row
  rw [Block.tarSchedule, if_pos valid]
  exact ⟨(Block.fld_congr (regs 0x68 (by decide) (by decide)) 31 29).trans (s.passive_setPassive (by decide)), saved, tar⟩

theorem Block.tarCancel_row (scheduled : s.passive = 3) : let t := s.tarCancel
    t.passive = 2 ∧ t.get64 (pg 0x30 0x60) = 0 ∧ (∃ c ∈ t.recs.queue, c.id = 0x31) ∧ t.tar = s.tar := by
  obtain ⟨saved, tar, regs⟩ := ((s.setPassive 2).set64 (pg 0x30 0x60) 0).calendarSave_row
  have low : s.tarCancel.getR (pg 0x30 0x60) = 0#32 := by
    rw [Block.tarCancel, if_pos scheduled, regs 0x60 (by decide) (by decide), Block.set64, Block.getR_setN_ne _ (by decide),
      Block.getR_setN_same]
  have high : s.tarCancel.getR (pg 0x30 0x60 + 4) = 0#32 := by
    rw [Block.tarCancel, if_pos scheduled]
    exact (regs 0x64 (by decide) (by decide)).trans (Block.getR_setN_same _ _ _)
  refine ⟨?_, by rw [Block.get64, Block.getN, Block.getN, low, high]; rfl, ?_, ?_⟩
  · rw [Block.tarCancel, if_pos scheduled, Block.passive, Block.fld_congr (regs 0x68 (by decide) (by decide)),
      Block.fld_congr (Block.getR_set64_ne _ (by decide) (by decide) _)]
    exact s.passive_setPassive (by decide)
  · rw [Block.tarCancel, if_pos scheduled]; exact saved
  · rw [Block.tarCancel, if_pos scheduled]; exact tar

theorem Block.toReg_tarCmd {c : Nat} {t : Block} (ready : s.hostReady = true)
    (command : s.arrive.nextFrame.cmdWrite 0x30 0x5C (cmdWord c 0 0) = some t) : s.toReg 0x30 0x5C (cmdWord c 0 0) = t :=
  (s.toReg_of 0x30 0x5C _ ready (by decide) (by decide) (by decide) (by decide)).trans (Block.regWriteTo_cmd _ _ _ _ _ (by decide) command)

/-! ### DST_TRANSITION -/

/-- The daylight-saving state by the clock (R330). -/
def Block.dstNow : Bool := s.rtcValid && s.dstAt (minuteOf s.rtcNow)

theorem Block.dstTransition_row (turns : s.dstNow ≠ s.rbit (pg 0x30 0x68) 27) : let t := s.dstTransition
    t.rbit (pg 0x30 0x68) 27 = s.dstNow ∧ t.rbit (pg 0x30 0x0C) 5 = true ∧ s.onlyRaised t [0x30] [pg 0x30 0x68] := by
  have row : s.dstTransition = (s.setB (pg 0x30 0x68) 27 s.dstNow).raise 0x30 5 0 := if_neg (by simpa [Block.dstNow] using turns)
  have kept := (Block.onlyRaised_raise (s.setB (pg 0x30 0x68) 27 s.dstNow) 0x30 5 0).2 (pg 0x30 0x68) (by decide) (by decide)
  rw [row]
  exact ⟨(Block.rbit_congr kept 27).trans (s.rbit_setB_same _ 27 _ (by decide)), Block.raise_event _ 0x30 5 0 (by decide),
    (s.onlyRaised_setR _ _ _).raise 5 0 (List.mem_singleton_self 0x30)⟩

theorem Block.dstTransition_still (stays : s.dstNow = s.rbit (pg 0x30 0x68) 27) : s.dstTransition = s :=
  if_pos (by simpa [Block.dstNow] using stays)

/-! ### The rows -/

/-- Settles O45: each command by the state of the passive image, the turn by the clock. -/
theorem tariffRows : Obligations.TariffRows := by
  unfold Obligations.TariffRows
  intro s b w steps dst saves
  refine ⟨fun ready => ?commands, fun up turns => ?turns, fun up stays => ?stays⟩
  case turns => exact leads_of rfl (s.block.actUp_of _ up) (s.block.arrive.dstTransition_row turns)
  case stays => exact next_of rfl ((s.block.actUp_of _ up).trans (s.block.arrive.dstTransition_still stays))
  intro rejected
  have refused {c : Instr} {f : Block → Block} (form : exec c s = .next (s.onBlock f)) (row : f s.block = b.tarReject) : rejected c :=
    leads_of form row ⟨Block.raise_event _ 0x30 4 0 (by decide), b.onlyRaised_raise 0x30 4 0⟩
  have check : s.block.toReg 0x30 0x5C (cmdWord 1 0 0) = b.tarCheck := s.block.toReg_tarCmd ready rfl
  have schedule : s.block.toReg 0x30 0x5C (cmdWord 2 0 0) = b.tarSchedule := s.block.toReg_tarCmd ready rfl
  have cancel : s.block.toReg 0x30 0x5C (cmdWord 3 0 0) = b.tarCancel := s.block.toReg_tarCmd ready rfl
  refine ⟨fun v => ⟨fun addressed free => ?_, fun h => ?_⟩, ?_, fun free => ⟨fun good => ?_, fun k bad => ?_⟩, fun scheduled => ?_,
    fun valid => ?_, fun other => ?_, fun scheduled => ?_, fun other => ?_⟩
  · exact leads_of rfl (s.block.access_calWrite v ready) (b.tarCalWrite_row v addressed free)
  · exact refused rfl ((s.block.access_calWrite v ready).trans (b.tarCalWrite_refused v h))
  · exact leads_of rfl (s.block.access_calRead ready) ⟨Block.fld_calStep _, Block.onlyRegs_calStep _⟩
  · exact leads_of rfl check (b.tarCheck_valid_row free good)
  · exact leads_of rfl check (b.tarCheck_invalid_row free bad)
  · exact refused rfl (check.trans (if_pos scheduled))
  · exact leads_of rfl schedule (b.tarSchedule_row valid)
  · exact refused rfl (schedule.trans (if_neg other))
  · exact leads_of rfl cancel (b.tarCancel_row scheduled)
  · exact refused rfl (cancel.trans (if_neg other))

end Sys2Proof.Machine
end

section
/-! SUPPORT. Uncorrectable errors (R555, R556): the report of one, and the halt of the engine that read it (R167, R347, R412). -/

namespace Sys2Proof.Machine

variable (s : Block)

/-! ### The report -/

/-- What a report writes beside the raise: UNCOR_CNT, ECC_LAST and SYS's status. -/
theorem Block.onlyRaised_eccUnc (mem addr : Nat) : s.onlyRaised (s.eccUnc mem addr) [0] [pg 0 0x74, pg 0 0x78, pg 0 0x50] :=
  ((((s.onlyRegs_refl _).setR _ (by decide)).setR _ (by decide)).setR _ (by decide)).onlyRaised [0] |>.raise 1 _
    (List.mem_singleton_self 0)

/-- ECC_LAST's word: memory in bits 31:28, address in bits 23:0. -/
def eccLast (mem addr : Nat) : Nat := mem % 16 * 2 ^ 28 + 2 ^ 24 + addr % 2 ^ 24

theorem Block.getR_eccUnc (mem addr : Nat) {a : Nat} (ha : a ∈ [pg 0 0x74, pg 0 0x78, pg 0 0x50]) : (s.eccUnc mem addr).getR a
    = (((s.bump (pg 0 0x74) 15 0 1).setN (pg 0 0x78) (eccLast mem addr)).setB (pg 0 0x50) 1 true).getR a := by
  refine (Block.onlyRaised_raise _ 0 1 (eccLast mem addr)).2 a (by simp) ?_
  simp only [List.mem_cons, List.not_mem_nil, or_false] at ha
  rcases ha with rfl | rfl | rfl <;> decide

theorem Block.eccUnc_count (mem addr : Nat) : (s.eccUnc mem addr).fld (pg 0 0x74) 15 0 = min 65535 (s.fld (pg 0 0x74) 15 0 + 1) := by
  rw [Block.fld_congr (s.getR_eccUnc mem addr (by decide)), Block.fld_congr (Block.getR_setB_ne _ (by decide) 1 true),
    Block.fld_congr (Block.getR_setN_ne _ (by decide) _), Block.fld_bump16]

theorem Block.eccUnc_status (mem addr : Nat) : (s.eccUnc mem addr).rbit (pg 0 0x50) 1 = true :=
  (Block.rbit_congr (s.getR_eccUnc mem addr (by decide)) 1).trans (Block.rbit_setB_same _ _ 1 true (by decide))

theorem Block.eccUnc_event (mem addr : Nat) : (s.eccUnc mem addr).rbit (pg 0 0x0C) 1 = true := Block.raise_event _ 0 1 _ (by decide)

theorem Block.getN_eccUnc (mem addr : Nat) : (s.eccUnc mem addr).getN (pg 0 0x78) = eccLast mem addr := by
  have small : eccLast mem addr < 2 ^ 32 := by unfold eccLast; omega
  rw [Block.getN, s.getR_eccUnc mem addr (by decide), Block.getR_setB_ne _ (by decide), Block.getR_setN_same, BitVec.toNat_ofNat,
    Nat.mod_eq_of_lt small]

theorem Block.fld_eq_div (a hi lo : Nat) : s.fld a hi lo = s.getN a / 2 ^ lo % 2 ^ (hi + 1 - lo) := by
  rw [Block.fld, Word.bits, Nat.shiftRight_eq_div_pow]; rfl

theorem Block.eccUnc_address (mem addr : Nat) : (s.eccUnc mem addr).fld (pg 0 0x78) 23 0 = addr % 2 ^ 24 := by
  rw [Block.fld_eq_div, Block.getN_eccUnc, eccLast]; omega

theorem Block.eccUnc_memory (mem addr : Nat) : (s.eccUnc mem addr).fld (pg 0 0x78) 31 28 = mem % 16 := by
  rw [Block.fld_eq_div, Block.getN_eccUnc, eccLast]; omega

/-! ### What an engine's bookkeeping leaves -/

/-- Registers that neither a service nor an engine's bookkeeping writes: PAGE_STAT of a page of no service, and SYS's own. -/
abbrev plainReg (a : Nat) : Prop := ¬ serviceReg a ∧ (a % 0x400 < 0x40 ∨ a / 0x400 = 0)

/-- Every plain register is kept, and no event is lost. -/
def Block.keepsPlain (s t : Block) : Prop :=
  (∀ a, plainReg a → t.getR a = s.getR a) ∧ ∀ q k, s.rbit (pg q 0x0C) k = true → t.rbit (pg q 0x0C) k = true

namespace Block.keepsPlain

variable {s t u : Block}

theorem refl : s.keepsPlain s := ⟨fun _ _ => rfl, fun _ _ h => h⟩

theorem trans (h : s.keepsPlain t) (k : t.keepsPlain u) : s.keepsPlain u :=
  ⟨fun a ha => (k.1 a ha).trans (h.1 a ha), fun q j hj => k.2 q j (h.2 q j hj)⟩

theorem getR (h : s.keepsPlain t) {a : Nat} (ha : plainReg a) : t.getR a = s.getR a := h.1 a ha
theorem event (h : s.keepsPlain t) {q k : Nat} (hk : s.rbit (pg q 0x0C) k = true) : t.rbit (pg q 0x0C) k = true := h.2 q k hk

theorem services (h : s.keepsPlain t) (k : t.onlyServices u) : s.keepsPlain u := h.trans ⟨fun _ ha => k.getR ha.1, fun _ _ => k.event⟩

theorem inner (h : s.keepsPlain t) (same : u.regs = t.regs) : s.keepsPlain u :=
  h.trans ⟨fun a _ => Block.getR_congr same a, fun _ k hk => (Block.rbit_congr (Block.getR_congr same _) k).trans hk⟩

theorem maybe {p : Prop} [Decidable p] (h : s.keepsPlain t) (k : t.keepsPlain u) : s.keepsPlain (if p then u else t) := by
  split
  · exact h.trans k
  · exact h

theorem each {α : Type} (h : s.keepsPlain t) {f : α → Block → Block} (hf : ∀ x (b : Block), b.keepsPlain (f x b)) (l : List α) :
    s.keepsPlain (forEach l f t) :=
  List.foldlRecOn (motive := s.keepsPlain) _ _ h fun b hb x _ => hb.trans (hf x b)

/-- A register of an engine's page, past the header. -/
theorem engineReg (h : s.keepsPlain t) (e : Nat) {o : Nat} (v : Word) (low : 0x40 ≤ o) (high : o < 0x400) :
    s.keepsPlain (t.setR (pg (mePage e) o) v) := by
  have header : 0x40 ≤ pg (mePage e) o % 0x400 := by unfold pg; omega
  have page : pg (mePage e) o / 0x400 ≠ 0 := by unfold pg mePage; omega
  refine h.trans ⟨fun a ⟨_, ha⟩ => t.getR_setR_ne v ?_, fun q k hk => ?_⟩
  · rintro rfl
    exact ha.elim (by omega) page
  · rwa [Block.rbit_congr (t.getR_setR_ne v (by unfold pg mePage; omega))]

/-! ### Placeholders and what they flush (R412) -/

theorem putHarm (h : s.keepsPlain t) {n : Nat} (hn : n < 16) (h2 : n ≠ 2) (src : Nat) (e : Entry) : s.keepsPlain (t.putHarm n src e) := by
  have copied := h.services (Block.onlyServices.refl.put hn h2 [e])
  unfold Block.putHarm
  dsimp only
  split
  · exact copied
  · split
    · exact copied.inner rfl
    · exact (copied.inner (u := (t.put n [e]).modStor _) rfl).services (Block.onlyServices.refl.stage 3 _)

theorem putEngine (h : s.keepsPlain t) {n : Nat} (hn : n < 16) (h2 : n ≠ 2) (e : Entry) : s.keepsPlain (t.putEngine n e) := by
  unfold Block.putEngine
  split
  · exact h.services (Block.onlyServices.refl.putLogged (by decide) (by decide) 1 [e])
  · exact h.putHarm (by decide) (by decide) _ e
  · exact h.putHarm (by decide) (by decide) _ e
  · exact h.services (Block.onlyServices.refl.put hn h2 [e])

theorem mergeFlush (h : s.keepsPlain t) {n : Nat} (hn : n < 16) (h2 : n ≠ 2) : s.keepsPlain (t.mergeFlush n) := by
  unfold Block.mergeFlush
  extract_lets writers done last out key sorted left
  have dropped : s.keepsPlain left := h.inner rfl
  exact dropped.each (fun m _ => refl.each (fun e _ => refl.putEngine hn h2 e) m.entries) sorted

theorem mergePut (h : s.keepsPlain t) {n : Nat} (hn : n < 16) (h2 : n ≠ 2) (e stamp : Nat) (l : List Entry) :
    s.keepsPlain (t.mergePut n e stamp l) :=
  (h.inner (u := t.modEng _) rfl).mergeFlush hn h2

/-- A program writes one of the engines' rings. -/
theorem invocation_ring {v : Invocation} {r : Nat} (h : v.ring = some r) : r < 16 ∧ r ≠ 2 := by
  unfold Invocation.ring at h
  split at h
  · cases h
  · unfold progRing at h
    split at h <;> cases h <;> decide

theorem placehold (h : s.keepsPlain t) (e : Nat) (v : Invocation) (flags : Nat) : s.keepsPlain (t.placehold e v flags) := by
  unfold Block.placehold
  split
  · exact h
  · next r ring => exact h.mergePut (invocation_ring ring).1 (invocation_ring ring).2 e _ _

/-! ### Misses and the next choice (R166, R167) -/

theorem missNote (h : s.keepsPlain t) (e : Nat) (v : Invocation) (why overrun : Nat) : s.keepsPlain (t.missNote e v why overrun) := by
  unfold Block.missNote
  extract_lets p counted noted overran marked
  have first : s.keepsPlain noted := (((h.engineReg e _ (by decide) (by decide)).engineReg e _ (by decide) (by decide)).engineReg e _
    (by decide) (by decide)).engineReg e (o := 0x60) _ (by decide) (by decide)
  clear_value noted
  have second : s.keepsPlain overran := first.maybe (refl.engineReg e _ (by decide) (by decide))
  clear_value overran
  have third : s.keepsPlain marked := second.maybe (refl.inner rfl)
  exact third.services (Block.onlyServices.refl.raiseX p 1 0 false v.inj)

theorem missed (h : s.keepsPlain t) (e : Nat) (v : Invocation) (why overrun : Nat) : s.keepsPlain (t.missed e v why overrun) :=
  (h.missNote e v why overrun).placehold e v _

theorem engChoose (h : s.keepsPlain t) (e : Nat) : s.keepsPlain (t.engChoose e) := by
  unfold Block.engChoose
  extract_lets q best chosen a
  have queued : s.keepsPlain chosen := h.inner rfl
  clear_value chosen
  clear_value best
  split
  · exact (queued.engineReg _ _ (by decide) (by decide)).engineReg _ _ (by decide) (by decide)
  · exact (queued.engineReg _ _ (by decide) (by decide)).engineReg _ _ (by decide) (by decide)

end Block.keepsPlain

/-- A halt is the raise and FAULT; what it ends afterwards touches no plain register. -/
theorem Block.keepsPlain_engHalt (e d : Nat) : ((s.raise (mePage e) d 0).setPageState (mePage e) psFault).keepsPlain (s.engHalt e d) := by
  unfold Block.engHalt
  extract_lets halted owner q ended
  have missed : halted.keepsPlain ended :=
    Block.keepsPlain.refl.each (fun v b => by
      split
      · exact .refl
      · exact Block.keepsPlain.refl.missed owner v 2 0) q
  split
  · exact missed
  · exact (missed.inner (u := ended.modEngine owner _) rfl).engChoose owner

theorem plainReg_pageStat {e : Nat} (he : e < 16) : plainReg (pg (mePage e) 0x08) := by
  unfold mePage; revert e; decide

/-- The halted engine's page. -/
theorem Block.engHalt_row {e d : Nat} (he : e < 16) (hd : d < 32) :
    (s.engHalt e d).pageState (mePage e) = psFault ∧ (s.engHalt e d).rbit (pg (mePage e) 0x0C) d = true := by
  have kept := s.keepsPlain_engHalt e d
  have event : ((s.raise (mePage e) d 0).setPageState (mePage e) psFault).rbit (pg (mePage e) 0x0C) d = true :=
    (Block.rbit_congr (Block.getR_setF_ne _ (by unfold pg; omega) 2 0 _) d).trans (s.raise_event (mePage e) d 0 hd)
  exact ⟨(Block.fld_congr (kept.getR (plainReg_pageStat he)) 2 0).trans (Block.fld_setF_same _ _ 2 0 psFault (by decide) (by decide)),
    kept.event event⟩

/-- What SYS shows stays in a halt. -/
theorem Block.getR_engHalt_sys (e d : Nat) {a : Nat} (ha : a ∈ [pg 0 0x74, pg 0 0x78, pg 0 0x50]) :
    (s.engHalt e d).getR a = s.getR a := by
  have sys : ¬ serviceReg a ∧ a / 0x400 = 0 := by revert a; decide
  rw [(s.keepsPlain_engHalt e d).getR ⟨sys.1, .inr sys.2⟩, Block.setPageState,
    Block.getR_setF_ne _ (by intro h; have := sys.2; rw [h] at this; unfold pg mePage at this; omega)]
  exact Block.onlyServices.getR (Block.onlyServices.refl.raise (mePage e) d 0) sys.1

theorem Block.rbit_engHalt (e d : Nat) {q k : Nat} (h : s.rbit (pg q 0x0C) k = true) : (s.engHalt e d).rbit (pg q 0x0C) k = true := by
  refine (s.keepsPlain_engHalt e d).event ?_
  rw [Block.setPageState, Block.rbit_congr (Block.getR_setF_ne _ (by unfold pg; omega) 2 0 _)]
  exact Block.onlyServices.event (Block.onlyServices.refl.raise (mePage e) d 0) h

end Sys2Proof.Machine
end

section
/-! SUPPORT. The readers of an error (R555) and the posts (R319, R325). -/

namespace Sys2Proof.Machine

variable (s : Block)

/-! ### The readers -/

/-- What every reader but the ring unit leaves of the report. -/
def Block.eccReported (t : Block) (addr : Nat) : Prop :=
  t.fld (pg 0 0x74) 15 0 = min 65535 (s.fld (pg 0 0x74) 15 0 + 1) ∧ t.rbit (pg 0 0x50) 1 = true ∧ t.rbit (pg 0 0x0C) 1 = true
    ∧ t.fld (pg 0 0x78) 23 0 = addr % 2 ^ 24

/-- SYS's registers and its event kept from the report on: it stands. -/
theorem Block.eccReported_of {mem addr : Nat} {t : Block}
    (kept : ∀ a ∈ [pg 0 0x74, pg 0 0x78, pg 0 0x50], t.getR a = (s.eccUnc mem addr).getR a)
    (event : (s.eccUnc mem addr).rbit (pg 0 0x0C) 1 = true → t.rbit (pg 0 0x0C) 1 = true) : s.eccReported t addr :=
  ⟨(Block.fld_congr (kept _ (by decide)) 15 0).trans (s.eccUnc_count mem addr),
    (Block.rbit_congr (kept _ (by decide)) 1).trans (s.eccUnc_status mem addr), event (s.eccUnc_event mem addr),
    (Block.fld_congr (kept _ (by decide)) 23 0).trans (s.eccUnc_address mem addr)⟩

theorem Block.eccRead_engine (e : Nat) (shared : Bool) (addr : Nat) : s.eccReported (s.eccRead (.engine e shared) addr) addr
    ∧ (e < 16 → (s.eccRead (.engine e shared) addr).pageState (mePage e) = psFault
      ∧ (s.eccRead (.engine e shared) addr).rbit (pg (mePage e) 0x0C) 7 = true) :=
  ⟨s.eccReported_of (fun _ ha => Block.getR_engHalt_sys _ e 7 ha) (Block.rbit_engHalt _ e 7),
    fun he => Block.engHalt_row _ he (by decide)⟩

/-- A staged record is dropped and counted lost. -/
theorem Block.logLose_modStream {k stamp : Nat} {l : LogStream} (f : LogStream → LogStream) (h : s.stor.streams[k]? = some l) :
    ∃ l', ((s.modStream k f).logLose k stamp).stor.streams[k]? = some l' ∧ l'.staged = (f l).staged
      ∧ l'.lost = min 0xFFFFFFFF ((f l).lost + 1) := by
  refine ⟨{ f l with lost := satAdd 0xFFFFFFFF (f l).lost 1, gapCnt := satAdd 0xFFFFFFFF (f l).gapCnt 1,
                     gapStamp := if (f l).gapCnt = 0 then stamp else (f l).gapStamp }, ?_, rfl, rfl⟩
  unfold Block.logLose
  dsimp only
  split <;> simp [Block.modStream, Block.modStor, modNth, h]

theorem Block.eccRead_logStore (k addr : Nat) : s.eccReported (s.eccRead (.logStore k) addr) addr
    ∧ ∀ l r rest, s.stor.streams[k]? = some l → l.staged = r :: rest →
        ∃ l', (s.eccRead (.logStore k) addr).stor.streams[k]? = some l' ∧ l'.staged = rest ∧ l'.lost = min 0xFFFFFFFF (l.lost + 1) := by
  have stor : (s.eccUnc 0 addr).stor = s.stor := by rw [(s.onlyRaised_eccUnc 0 addr).1]
  have services : (s.eccUnc 0 addr).onlyServices (s.eccRead (.logStore k) addr) := by
    unfold Block.eccRead
    dsimp only
    split
    · exact .refl
    · next r _ _ => exact (Block.onlyServices.refl.modStream k _).logLose k r.stamp
  refine ⟨s.eccReported_of (fun a ha => services.getR (by revert a; decide)) services.event, fun l r rest stream staged => ?_⟩
  have head : ((s.eccUnc 0 addr).logStream k).staged = r :: rest := by
    rw [Block.logStream, stor, nth, List.getD_eq_getElem?_getD, stream]; exact staged
  have row : s.eccRead (.logStore k) addr
      = ((s.eccUnc 0 addr).modStream k (fun t => { t with staged := t.staged.drop 1, sent := 0 })).logLose k r.stamp := by
    unfold Block.eccRead
    dsimp only
    rw [head]
  obtain ⟨l', kept, dropped, lost⟩ := Block.logLose_modStream (s.eccUnc 0 addr) (stamp := r.stamp)
    (fun t => { t with staged := t.staged.drop 1, sent := 0 }) (stor ▸ stream)
  rw [row]
  exact ⟨l', kept, dropped.trans (congrArg (List.drop 1) staged), lost⟩

theorem Block.eccRead_other (mem addr : Nat) : s.eccReported (s.eccRead (.other mem) addr) addr
    ∧ (s.eccRead (.other mem) addr).fld (pg 0 0x78) 31 28 = mem % 16
    ∧ s.onlyRaised (s.eccRead (.other mem) addr) [0] [pg 0 0x74, pg 0 0x78, pg 0 0x50] :=
  ⟨s.eccReported_of (fun _ _ => rfl) id, s.eccUnc_memory mem addr, s.onlyRaised_eccUnc mem addr⟩

/-! ### Posts -/

/-- A thermal post taken is acknowledged to its circuit alone. -/
theorem Block.ackTherm_of (p : Post) : ∃ x, s.ackTherm p = { s with therm := x } := by
  unfold Block.ackTherm
  split
  · exact ⟨_, rfl⟩
  · exact ⟨s.therm, rfl⟩

theorem Block.ackTherm_row (p : Post) : (s.ackTherm p).posts = s.posts ∧ (s.ackTherm p).led = s.led := by
  obtain ⟨x, same⟩ := s.ackTherm_of p
  rw [same]
  exact ⟨rfl, rfl⟩

/-- The pulse outputs that follow a post take its energy, and nothing else differs. -/
theorem Block.poutPost_of (p : Post) (rate : Nat) : ∃ x, s.poutPost p rate = { s with pout := x } := by
  refine List.foldlRecOn (motive := fun t : Block => ∃ x : List PulseOut, t = { s with pout := x }) _ _ ⟨s.pout, rfl⟩
    fun b ⟨x, same⟩ k _ => ?_
  dsimp only
  split
  · exact ⟨_, by rw [same]; rfl⟩
  · exact ⟨x, same⟩

theorem Block.ledgerPost_of {p : Post} {rest : List Post} (posts : s.posts = p :: rest) :
    ∃ x, s.ledgerPost = { s.takePost with pout := x } := by
  unfold Block.ledgerPost
  rw [posts]
  dsimp only
  split
  · exact Block.poutPost_of _ p _
  · exact ⟨s.takePost.pout, rfl⟩

/-- A late post: its source is marked, LATE_CNT counts it, detector 1 tells. -/
def Block.refusePost (s : Block) (p : Post) : Block :=
  ((s.modLed (fun l => { l with lateKeys := p.key :: l.lateKeys })).bump (pg 0x2F 0xEC) 15 0 1).raise 0x2F 1 0

/-- Which set a post of the present generation joins. -/
def Ledger.inOpen (l : Ledger) (p : Post) : Prop :=
  (l.closed = none ∧ l.lastClose < p.stamp) ∨ ∃ c, l.closed = some c ∧ c.close < p.stamp ∧ c.set.opened < p.stamp
def Ledger.late (l : Ledger) (p : Post) : Prop :=
  (l.closed = none ∧ p.stamp ≤ l.lastClose) ∨ ∃ c, l.closed = some c ∧ p.stamp ≤ c.set.opened

section
variable {s} {p : Post} {rest : List Post} (posts : s.posts = p :: rest)
include posts

theorem Block.takePost_stale (old : p.gen ≠ s.gen (mePage p.eng)) : s.takePost
    = (({ s with posts := rest } : Block).bump (pg (mePage p.eng) 0x6C) 15 0 1).raiseSeen (staleKey 0x2F) 0x2F 7 0 := by
  unfold Block.takePost
  rw [posts]
  exact if_pos old

theorem Block.takePost_open (same : p.gen = s.gen (mePage p.eng)) (h : s.led.inOpen p) :
    s.takePost = (({ s with posts := rest } : Block).modLed (fun l => { l with sets := l.sets.add p })).ackTherm p := by
  unfold Block.takePost
  rw [posts]
  refine (if_neg (not_not_intro same)).trans ?_
  dsimp only
  rcases h with ⟨closed, after⟩ | ⟨c, closed, after, since⟩
  · rw [closed]; exact if_neg (by omega)
  · rw [closed]
    dsimp only
    rw [if_neg (by omega), if_neg (by omega)]

theorem Block.takePost_closed (same : p.gen = s.gen (mePage p.eng)) {c : ClosedLatch} (closed : s.led.closed = some c)
    (since : c.set.opened < p.stamp) (within : p.stamp ≤ c.close) : s.takePost
      = (({ s with posts := rest } : Block).modLed (fun l => { l with closed := some { c with set := c.set.add p } })).ackTherm p := by
  unfold Block.takePost
  rw [posts]
  refine (if_neg (not_not_intro same)).trans ?_
  dsimp only
  rw [closed]
  dsimp only
  rw [if_neg (by omega), if_pos within]

theorem Block.takePost_late (same : p.gen = s.gen (mePage p.eng)) (h : s.led.late p) :
    s.takePost = ({ s with posts := rest } : Block).refusePost p := by
  unfold Block.takePost
  rw [posts]
  refine (if_neg (not_not_intro same)).trans ?_
  dsimp only
  rcases h with ⟨closed, before⟩ | ⟨c, closed, before⟩
  · rw [closed]; exact if_pos before
  · rw [closed]; exact if_pos before

end

/-- A counter of an engine's page is none that a raise writes. -/
theorem calm_staleCounter (e : Nat) : calmReg (pg (mePage e) 0x6C) := by
  simp only [calmReg, offRing2, dHead, dTail, dSeq, dLost, List.mem_cons, List.not_mem_nil, or_false, not_or]
  unfold pg mePage
  omega

theorem Block.raiseSeen_regs (key p d x : Nat) {a : Nat} (ha : calmReg a) : (s.raiseSeen key p d x).getR a = s.getR a := by
  have once : (s.raiseOnce key p d x).getR a = s.getR a := by
    unfold Block.raiseOnce
    split
    · rfl
    · exact Block.getR_raiseX_calm _ ha p d x false false
  unfold Block.raiseSeen
  dsimp only
  split
  · exact once
  · exact once

theorem Block.raiseSeen_services (key p d x : Nat) : s.onlyServices (s.raiseSeen key p d x) :=
  (Block.onlyServices.refl.raiseOnce key p d x).ite ((Block.onlyServices.refl.raiseOnce key p d x).inner rfl)

theorem Block.takePost_stale_row {s : Block} {p : Post} {rest : List Post} (posts : s.posts = p :: rest)
    (old : p.gen ≠ s.gen (mePage p.eng)) :
    s.takePost.posts = rest ∧ s.takePost.led = s.led
      ∧ s.takePost.fld (pg (mePage p.eng) 0x6C) 15 0 = min 65535 (s.fld (pg (mePage p.eng) 0x6C) 15 0 + 1) := by
  have told := (({ s with posts := rest } : Block).bump (pg (mePage p.eng) 0x6C) 15 0 1).raiseSeen_services (staleKey 0x2F) 0x2F 7 0
  rw [Block.takePost_stale posts old]
  exact ⟨told.posts, told.led, (Block.fld_congr (Block.raiseSeen_regs _ _ _ _ _ (calm_staleCounter p.eng)) 15 0).trans
    (Block.fld_bump16 { s with posts := rest } _)⟩

theorem Block.refusePost_row (p : Post) : (s.refusePost p).posts = s.posts
    ∧ (s.refusePost p).led = { s.led with lateKeys := p.key :: s.led.lateKeys } ∧ (s.refusePost p).rbit (pg 0x2F 0x0C) 1 = true
    ∧ (s.refusePost p).fld (pg 0x2F 0xEC) 15 0 = min 65535 (s.fld (pg 0x2F 0xEC) 15 0 + 1) := by
  have told := Block.onlyServices.refl.raise
    (t := (s.modLed (fun l => { l with lateKeys := p.key :: l.lateKeys })).bump (pg 0x2F 0xEC) 15 0 1) 0x2F 1 0
  exact ⟨told.posts, told.led, Block.raise_event _ 0x2F 1 0 (by decide),
    (Block.fld_congr (told.getR (by decide)) 15 0).trans (Block.fld_bump16 (s.modLed _) _)⟩

section
variable {s} {p : Post} {rest : List Post} (posts : s.posts = p :: rest)
include posts

theorem Block.takePost_open_row (same : p.gen = s.gen (mePage p.eng)) (h : s.led.inOpen p) :
    s.takePost.posts = rest ∧ s.takePost.led = { s.led with sets := s.led.sets.add p } := by
  rw [Block.takePost_open posts same h]
  exact Block.ackTherm_row _ p

theorem Block.takePost_closed_row (same : p.gen = s.gen (mePage p.eng)) {c : ClosedLatch} (closed : s.led.closed = some c)
    (since : c.set.opened < p.stamp) (within : p.stamp ≤ c.close) :
    s.takePost.posts = rest ∧ s.takePost.led = { s.led with closed := some { c with set := c.set.add p } } := by
  rw [Block.takePost_closed posts same closed since within]
  exact Block.ackTherm_row _ p

theorem Block.takePost_late_row (same : p.gen = s.gen (mePage p.eng)) (h : s.led.late p) : s.takePost.posts = rest
    ∧ s.takePost.led = { s.led with lateKeys := p.key :: s.led.lateKeys } ∧ s.takePost.rbit (pg 0x2F 0x0C) 1 = true
    ∧ s.takePost.fld (pg 0x2F 0xEC) 15 0 = min 65535 (s.fld (pg 0x2F 0xEC) 15 0 + 1) := by
  rw [Block.takePost_late posts same h]
  exact Block.refusePost_row { s with posts := rest } p

/-- Whatever becomes of it, the post leaves its way. -/
theorem Block.takePost_posts : s.takePost.posts = rest := by
  by_cases same : p.gen = s.gen (mePage p.eng)
  · match is : s.led.closed with
    | none =>
      rcases Nat.lt_or_ge s.led.lastClose p.stamp with after | before
      · exact (Block.takePost_open_row posts same (.inl ⟨is, after⟩)).1
      · exact (Block.takePost_late_row posts same (.inl ⟨is, before⟩)).1
    | some c =>
      rcases Nat.lt_or_ge c.set.opened p.stamp with since | before
      · rcases Nat.lt_or_ge c.close p.stamp with after | within
        · exact (Block.takePost_open_row posts same (.inr ⟨c, is, after, since⟩)).1
        · exact (Block.takePost_closed_row posts same is since within).1
      · exact (Block.takePost_late_row posts same (.inr ⟨c, is, before⟩)).1
  · exact (Block.takePost_stale_row posts same).1

end

/-- Settles O35: the report by SYS's own registers, kept while its reader acts; the post by its generation and its stamp. -/
theorem eccAndPosts : Obligations.EccAndPosts := by
  unfold Obligations.EccAndPosts
  intro s powered
  refine ⟨fun n addr => next_of rfl (s.block.act_of _ powered), fun reader addr unit => ?reader, fun none_ => ?empty,
    fun p rest posts => ?post⟩
  case reader =>
    refine leads_of (f := fun b => b.act (fun b => b.eccRead reader addr)) rfl (s.block.act_of _ powered) ?_
    cases reader with
    | engine e shared =>
      obtain ⟨⟨count, status, event, address⟩, page⟩ := s.block.arrive.eccRead_engine e shared addr
      exact ⟨count, status, event, address, fun _ _ is he => by cases is; exact page he, fun _ _ _ _ is => (nomatch is),
        fun _ is => nomatch is⟩
    | ringUnit n => exact absurd rfl (unit n)
    | logStore k =>
      obtain ⟨⟨count, status, event, address⟩, stream⟩ := s.block.arrive.eccRead_logStore k addr
      exact ⟨count, status, event, address, fun _ _ is => (nomatch is), fun _ l r rest is => by cases is; exact stream l r rest,
        fun _ is => nomatch is⟩
    | other mem =>
      obtain ⟨⟨count, status, event, address⟩, memory, rest⟩ := s.block.arrive.eccRead_other mem addr
      exact ⟨count, status, event, address, fun _ _ is => (nomatch is), fun _ _ _ _ is => (nomatch is),
        fun _ is => by cases is; exact ⟨memory, rest⟩⟩
  case empty =>
    refine next_of rfl ((s.block.act_of _ powered).trans ?_)
    rw [Block.ledgerPost, Block.arrive_posts, none_]
  case post =>
    obtain ⟨x, same⟩ := s.block.arrive.ledgerPost_of posts
    refine leads_of rfl ((s.block.act_of _ powered).trans same) ⟨Block.takePost_posts (s := s.block.arrive) posts,
      fun old => (Block.takePost_stale_row (s := s.block.arrive) posts old).2, fun gen => ⟨fun is after => ?_, fun c is after since => ?_,
        fun c is since within => ?_, fun h => ?_⟩⟩
    · exact (Block.takePost_open_row (s := s.block.arrive) posts gen (.inl ⟨is, after⟩)).2
    · exact (Block.takePost_open_row (s := s.block.arrive) posts gen (.inr ⟨c, is, after, since⟩)).2
    · exact (Block.takePost_closed_row (s := s.block.arrive) posts gen is since within).2
    · exact (Block.takePost_late_row (s := s.block.arrive) posts gen h).2

end Sys2Proof.Machine
end

section
/-! SUPPORT. Pulse outputs (R364 to R366): an edge emitted from the backlog or the schedule, an edge before its time, and
the end of a pulse. -/

namespace Sys2Proof.Machine

variable (s : Block)

/-! ### POUT_STAT and BACKLOG (R370) -/

theorem Block.onlyRegs.each {α : Type} {s t : Block} {as : List Nat} (h : s.onlyRegs t as) {f : α → Block → Block} {l : List α}
    (hf : ∀ x ∈ l, ∀ b : Block, b.onlyRegs (f x b) as) : s.onlyRegs (forEach l f t) as :=
  List.foldlRecOn (motive := fun u => s.onlyRegs u as) _ _ h fun b hb x hx => hb.trans (hf x hx b)

theorem Block.onlyRegs.maybe {s t u : Block} {as : List Nat} {p : Prop} [Decidable p] (h : s.onlyRegs t as) (k : t.onlyRegs u as) :
    s.onlyRegs (if p then u else t) as := by
  split
  · exact h.trans k
  · exact h

/-- One bit for each output, bit k for output k. -/
def poutFlags (f : Nat → Bool) : Nat := (List.range 4).foldl (fun n k => n + b2n (f k) * 2 ^ k) 0

theorem poutFlags_eq (f : Nat → Bool) : poutFlags f = b2n (f 0) + 2 * b2n (f 1) + 4 * b2n (f 2) + 8 * b2n (f 3) := by
  simp only [poutFlags, List.range, List.range.loop, List.foldl]
  omega

theorem b2n_le (b : Bool) : b2n b ≤ 1 := by cases b <;> decide

theorem poutFlags_lt (f : Nat → Bool) : poutFlags f < 16 := by
  have := b2n_le (f 0)
  have := b2n_le (f 1)
  have := b2n_le (f 2)
  have := b2n_le (f 3)
  rw [poutFlags_eq]
  omega

theorem testBit_poutFlags (f : Nat → Bool) {k : Nat} (hk : k < 4) : (poutFlags f).testBit k = f k := by
  have bits : ∀ a b c d : Bool, ∀ i : Fin 4,
      (b2n a + 2 * b2n b + 4 * b2n c + 8 * b2n d).testBit i = [a, b, c, d][i] := by decide
  rw [poutFlags_eq, bits (f 0) (f 1) (f 2) (f 3) ⟨k, hk⟩]
  obtain rfl | rfl | rfl | rfl : k = 0 ∨ k = 1 ∨ k = 2 ∨ k = 3 := by omega
  all_goals rfl

/-- The word of POUT_STAT: pulses from bit 16 on, backlogs from bit 8 on, running outputs. -/
def Block.poutWord (s : Block) : Nat :=
  poutFlags (fun k => (s.pulse k).pulseEnd.isSome) * 65536 + poutFlags (fun k => decide (0 < (s.pulse k).backlog)) * 256
    + poutFlags (fun k => (s.pulse k).running)

abbrev poutStat : Nat := pg 0x35 0x70

/-- What is shown besides POUT_STAT: the backlogs, and the page's state where a drain ends. -/
abbrev poutShown : List Nat := [pg 0x35 0x84, pg 0x35 0x88, pg 0x35 0x8C, pg 0x35 0x90, pg 0x35 0x08]

theorem Block.showPout_afterStat : (s.setN poutStat s.poutWord).onlyRegs s.showPout poutShown :=
  Block.onlyRegs.maybe
    ((Block.onlyRegs_refl _ _).each fun k hk b => (b.onlyRegs_setR _ _).mono (by revert k; decide))
    (((Block.onlyRegs_setR _ _ _).mono (by decide)))

theorem Block.onlyRegs_showPout : s.onlyRegs s.showPout (poutStat :: poutShown) :=
  ((s.onlyRegs_setR _ _).mono (by simp)).trans (s.showPout_afterStat.mono fun _ h => List.mem_cons_of_mem _ h)

@[simp] theorem Block.showPout_pout : s.showPout.pout = s.pout := by rw [s.onlyRegs_showPout.1]

/-- Bit 16 + k of POUT_STAT: output k is within a pulse. -/
theorem Block.rbit_showPout_pulse {k : Nat} (hk : k < 4) :
    s.showPout.rbit poutStat (16 + k) = (s.pulse k).pulseEnd.isSome := by
  have low : poutFlags (fun k => decide (0 < (s.pulse k).backlog)) * 256 + poutFlags (fun k => (s.pulse k).running) < 2 ^ 16 := by
    have := poutFlags_lt (fun k => decide (0 < (s.pulse k).backlog))
    have := poutFlags_lt (fun k => (s.pulse k).running)
    omega
  rw [Block.rbit, s.showPout_afterStat.getR (by decide), Block.getR_setN_same, Word.bit, BitVec.getLsbD_ofNat, Block.poutWord,
    Nat.add_assoc, Nat.mul_comm, show (65536 : Nat) = 2 ^ 16 from rfl, Nat.testBit_two_pow_mul_add _ low, if_neg (by omega),
    Nat.add_sub_cancel_left, testBit_poutFlags _ hk, decide_eq_true (by omega), Bool.true_and]

/-! ### One output -/

section
variable {s} {k : Nat} {p : PulseOut} (h : s.pout[k]? = some p)
include h

theorem Block.pulse_of : s.pulse k = p := by
  rw [Block.pulse, nth, List.getD_eq_getElem?_getD, h]
  rfl

theorem Block.modPulse_of (f : PulseOut → PulseOut) : (s.modPulse k f).pout[k]? = some (f p) := by
  rw [Block.modPulse, modNth, List.getElem?_modify_eq, h]
  rfl

end

/-- Output k of t, displayed: its backlog and the end of its pulse as in p, and no register but those that are shown differs from s. -/
structure Block.ShowsPulse (s t : Block) (k : Nat) (p : PulseOut) : Prop where
  output : ∃ q, t.pout[k]? = some q ∧ q.backlog = p.backlog ∧ q.pulseEnd = p.pulseEnd
  pulse : t.rbit poutStat (16 + k) = p.pulseEnd.isSome
  regs : ∀ a, a ∉ poutStat :: poutShown → t.getR a = s.getR a

/-- PULSE_CNT of output k (R366). -/
abbrev pulseTotal (k : Nat) : Nat := pg 0x35 (0x74 + 4 * k)

section
variable {s} {k : Nat} (hk : k < 4) {p : PulseOut} (h : s.pout[k]? = some p)
include hk

theorem pulseTotal_notShown : pulseTotal k ∉ poutStat :: poutShown := by simp [pulseTotal, pg]; omega

include h

theorem Block.showPout_shows : s.ShowsPulse s.showPout k p where
  output := ⟨p, by rwa [s.showPout_pout], rfl, rfl⟩
  pulse := by rw [s.rbit_showPout_pulse hk, Block.pulse_of h]
  regs := fun _ => s.onlyRegs_showPout.getR

theorem Block.pulseDrain_shows : s.ShowsPulse (s.pulseDrain k) k p := by
  dsimp only [Block.pulseDrain]
  split
  · obtain ⟨output, pulse, regs⟩ := Block.showPout_shows hk (Block.modPulse_of h fun p => { p with running := false, off := false })
    exact ⟨output, pulse, regs⟩
  · exact Block.showPout_shows hk h

/-- An edge emitted: PULSE_CNT counts it, and the backlog stays. -/
theorem Block.emit_row (t : Nat) : let u := (s.emit k t).pulseDrain k
    u.getN (pulseTotal k) = (s.getN (pulseTotal k) + 1) % 2 ^ 32 ∧ ∃ q, u.pout[k]? = some q ∧ q.backlog = p.backlog := by
  have emitted : (s.emit k t).pout[k]? = some { p with lastEdge := some t, pulseEnd := some (t + s.pulseWidth k) } := by
    rw [Block.emit, Block.showPout_pout, Block.wrapAdd_pout, Block.modPulse_of h]
  obtain ⟨⟨q, drained, backlog, -⟩, -, regs⟩ := Block.pulseDrain_shows hk emitted
  refine ⟨?_, q, drained, backlog⟩
  rw [Block.getN_congr (regs _ (pulseTotal_notShown hk)), Block.emit,
    Block.getN_congr ((Block.onlyRegs_showPout _).getR (pulseTotal_notShown hk)), Block.getN_wrapAdd_same]
  rfl

end

/-! ### POUT_EDGE (R365, R366) -/

/-- The first instant at which output k may emit again: the spacing past its last edge, and no sooner than its pulse's end. -/
def Block.pulseFree (s : Block) (k : Nat) (p : PulseOut) : Nat := match p.lastEdge with
  | some t => t + max (s.pulseSpace k) ((p.pulseEnd.map (· - t)).getD 0)
  | none => 0

/-- The edges scheduled after the first of them is taken. -/
def PulseRun.later (r : PulseRun) (rest : List PulseRun) : List PulseRun :=
  if r.next < r.last then { r with next := r.next + 1 } :: rest else rest

/-- The output once an edge before its time has joined its backlog, full or not before it. -/
def PulseOut.joined (p : PulseOut) (full : Bool) : PulseOut :=
  { p with
    backlog := satAdd 0xFFFFFFFF p.backlog 1
    episode := true
    moved := true
    satEp := full }

/-- An edge before its time joins the backlog. -/
def Block.edgeJoins (s : Block) (k : Nat) (p : PulseOut) (r : PulseRun) (rest : List PulseRun) : Block :=
  (((s.atClk (s.edge r)).modPulse k (fun p => { p with runs := r.later rest })).modPulse k
    (·.joined (decide (p.backlog = 0xFFFFFFFF)))).showPout

/-- Its reports: detector 1 where no episode runs, detector 4 where the backlog is full. -/
def Block.edgeReports (s : Block) (p : PulseOut) : Block :=
  let s := if p.episode then s else s.raise 0x35 1 0
  if decide (p.backlog = 0xFFFFFFFF) && !p.satEp then s.raise 0x35 4 0 else s

section
variable {s} {k : Nat} {p : PulseOut} (h : s.pout[k]? = some p) (running : p.running = true)
include h running

theorem Block.poutEdge_backlog (waits : 0 < p.backlog) (due : s.pulseFree k p < s.time.mono + s.time.pickLen)
    (first : ∀ r ∈ p.runs.head?, s.pulseFree k p ≤ s.edge r) : s.poutEdge k
      = (((s.atClk (max (s.pulseFree k p) s.time.mono)).modPulse k (fun p => { p with backlog := p.backlog - 1 })).emit k
          (max (s.pulseFree k p) s.time.mono)).pulseDrain k := by
  unfold Block.poutEdge
  rw [Block.pulse_of h]
  extract_lets q free stop sched late
  have now : late = true := by
    have due : free < stop := due
    have first : ∀ r ∈ q.runs.head?, free ≤ s.edge r := first
    have waits : 0 < q.backlog := waits
    unfold late sched
    clear_value q free stop
    cases is : q.runs.head? with
    | none => simp [waits, due]
    | some r => simp [waits, due, first r is]
  exact (if_neg (by simp [q, running])).trans (if_pos now)

theorem Block.poutEdge_onTime {r : PulseRun} {rest : List PulseRun} (empty : p.backlog = 0) (runs : p.runs = r :: rest)
    (due : s.edge r < s.time.mono + s.time.pickLen) (allowed : s.pulseFree k p ≤ s.edge r) :
    s.poutEdge k = (((s.atClk (s.edge r)).modPulse k (fun p => { p with runs := r.later rest })).emit k
      (max (s.edge r) s.time.mono)).pulseDrain k := by
  unfold Block.poutEdge
  rw [Block.pulse_of h]
  extract_lets q free stop sched late
  have scheduled : sched = some (s.edge r) := congrArg (·.head?.map s.edge) runs
  have now : late = false := by simp [late, scheduled, q, empty]
  have allowed : free ≤ s.edge r := allowed
  rw [if_neg (by simp [q, running]), if_neg (by simp [now]), show q.runs = r :: rest from runs, scheduled]
  exact (if_neg (Nat.not_le.2 due)).trans (if_pos (by simp [q, empty, allowed]))

theorem Block.poutEdge_early {r : PulseRun} {rest : List PulseRun} (runs : p.runs = r :: rest)
    (due : s.edge r < s.time.mono + s.time.pickLen) (early : s.edge r < s.pulseFree k p) :
    s.poutEdge k = (s.edgeJoins k p r rest).edgeReports p := by
  unfold Block.poutEdge
  rw [Block.pulse_of h]
  extract_lets q free stop sched late
  have scheduled : sched = some (s.edge r) := congrArg (·.head?.map s.edge) runs
  have before : ¬ free ≤ s.edge r := Nat.not_le.2 early
  have now : late = false := by simp [late, scheduled, before]
  rw [if_neg (by simp [q, running]), if_neg (by simp [now]), show q.runs = r :: rest from runs, scheduled]
  exact (if_neg (Nat.not_le.2 due)).trans (if_neg (by simp [before]))

end

theorem Block.onlyRaised.maybe {s t u : Block} {ps as : List Nat} {c : Prop} [Decidable c] (h : s.onlyRaised t ps as)
    (k : t.onlyRaised u ps as) : s.onlyRaised (if c then u else t) ps as := by
  split
  · exact h.trans k
  · exact h

theorem Block.onlyRaised_edgeReports (p : PulseOut) : s.onlyRaised (s.edgeReports p) [0x35] [] := by
  refine Block.onlyRaised.maybe ?_ (Block.onlyRaised_raise _ 0x35 4 0)
  split
  · exact s.onlyRaised_refl _ _
  · exact s.onlyRaised_raise 0x35 1 0

theorem Block.edgeReports_event {p : PulseOut} (first : p.episode = false) : (s.edgeReports p).rbit (pg 0x35 0x0C) 1 = true := by
  have raised : (s.raise 0x35 1 0).rbit (pg 0x35 0x0C) 1 = true := Block.raise_event _ 0x35 1 0 (by decide)
  rw [Block.edgeReports, first]
  simp only [Bool.false_eq_true, if_false]
  split
  · exact Block.rbit_raiseX _ 0x35 4 0 false false raised
  · exact raised

/-- An edge that joins: the backlog one higher up to its top, PULSE_CNT as it was, detector 1 where no episode ran. -/
theorem Block.edgeReports_row {k : Nat} (hk : k < 4) {p : PulseOut} (h : s.pout[k]? = some p) (r : PulseRun) (rest : List PulseRun) :
    let t := (s.edgeJoins k p r rest).edgeReports p
    (∃ q, t.pout[k]? = some q ∧ q.backlog = min 0xFFFFFFFF (p.backlog + 1)) ∧ t.getR (pulseTotal k) = s.getR (pulseTotal k)
      ∧ (p.episode = false → t.rbit (pg 0x35 0x0C) 1 = true) := by
  obtain ⟨⟨q, output, backlog, -⟩, -, regs⟩ := Block.showPout_shows hk (Block.modPulse_of
    (Block.modPulse_of (s := s.atClk (s.edge r)) h fun p => { p with runs := r.later rest }) (·.joined (decide (p.backlog = 0xFFFFFFFF))))
  have kept : (s.edgeJoins k p r rest).getR (pulseTotal k) = s.getR (pulseTotal k) := regs _ (pulseTotal_notShown hk)
  have reports := (s.edgeJoins k p r rest).onlyRaised_edgeReports p
  have quiet : reported [0x35] (pulseTotal k) = false := by
    obtain rfl | rfl | rfl | rfl : k = 0 ∨ k = 1 ∨ k = 2 ∨ k = 3 := by omega
    all_goals decide
  refine ⟨⟨q, ?_, backlog⟩, (reports.2 _ (List.not_mem_nil) quiet).trans kept, Block.edgeReports_event _⟩
  rw [reports.1]
  exact output

/-! ### POUT_PULSE_END (R366) -/

theorem Block.poutEnd_of {k : Nat} {p : PulseOut} (h : s.pout[k]? = some p) {e : Nat} (ends : p.pulseEnd = some e)
    (due : e < s.time.mono + s.time.pickLen) :
    s.poutEnd k = ((s.atClk e).modPulse k (fun p => { p with pulseEnd := none })).pulseDrain k := by
  rw [Block.poutEnd, Block.pulse_of h, ends]
  exact if_neg (Nat.not_le.2 due)

/-! ### The rows -/

/-- Settles O40: an edge by the backlog and the first permitted instant; the end of a pulse by what the output then shows. -/
theorem pulseOutputRows : Obligations.PulseOutputRows := by
  unfold Obligations.PulseOutputRows
  intro s k p up hk h free stop emits queued
  have event (f : Block → Block) : s.block.withinUp (k < 4) f = f s.block := s.block.withinUp_of _ f up (decide_eq_true hk)
  refine ⟨fun running waits due first => ?_, fun r rest running empty runs due allowed => ?_, fun r rest running runs due early => ?_,
    fun e ends due => ?_⟩
  · exact leads_of rfl ((event _).trans (Block.poutEdge_backlog h running waits due first))
      (Block.emit_row hk (Block.modPulse_of (s := s.block.atClk _) h _) _)
  · obtain ⟨count, q, output, backlog⟩ := Block.emit_row hk (Block.modPulse_of (s := s.block.atClk (s.block.edge r)) h
      fun p => { p with runs := r.later rest }) (max (s.block.edge r) s.block.time.mono)
    exact leads_of rfl ((event _).trans (Block.poutEdge_onTime h running empty runs due allowed))
      ⟨count, q, output, backlog.trans empty⟩
  · exact leads_of rfl ((event _).trans (Block.poutEdge_early h running runs due early)) (s.block.edgeReports_row hk h r rest)
  · obtain ⟨⟨q, output, -, ended⟩, shown, -⟩ := Block.pulseDrain_shows hk (Block.modPulse_of (s := s.block.atClk e) h
      fun p => { p with pulseEnd := none })
    exact leads_of rfl ((event _).trans (s.block.poutEnd_of h ends due)) ⟨⟨q, output, ended⟩, shown⟩

end Sys2Proof.Machine
end

section
/-! SUPPORT. The display (R372, R376, R380, R528): keys, what time and the host make it show, and frames. -/

namespace Sys2Proof.Machine

variable (s : Block)

/-- DISP_STAT (R380). -/
abbrev dispStat : Nat := pg 0x37 0x44

/-- The display of the display's state writes DISP_STAT alone. -/
theorem Block.onlyRegs_showDisp : s.onlyRegs s.showDisp [dispStat] := by
  unfold Block.showDisp
  exact s.onlyRegs_setR _ _

@[simp] theorem Block.showDisp_disp : s.showDisp.disp = s.disp := by rw [s.onlyRegs_showDisp.1]

theorem Block.showItem_disp (alt : Bool) (i : Nat) :
    (s.showItem alt i).disp = { s.disp with alt := alt, item := i, since := s.rtcSec, changed := true } :=
  Block.showDisp_disp _

theorem Block.keyAction_disp (manual : Bool) : (s.keyAction manual).disp = { s.disp with manual := manual, lastAct := s.rtcSec } :=
  (Block.raise_disp _ 0x37 4 0).trans (Block.showDisp_disp _)

theorem Block.keyAction_event (manual : Bool) : (s.keyAction manual).rbit (pg 0x37 0x0C) 4 = true := by
  unfold Block.keyAction
  exact Block.raise_event _ 0x37 4 0 (by decide)

/-! ### The reach of the display -/

/-- Nothing differs but the display's inner state and DISP_STAT. -/
def Block.onlyDisp (s t : Block) : Prop := ({ s with disp := t.disp }).onlyRegs t [dispStat]

namespace Block.onlyDisp

variable {s} {t : Block}

theorem refl : s.onlyDisp s := ⟨rfl, fun _ _ => rfl⟩

theorem modDisp (h : s.onlyDisp t) (f : Disp → Disp) : s.onlyDisp (t.modDisp f) := by
  obtain ⟨same, regs⟩ := h
  refine ⟨?_, regs⟩
  rw [same]
  rfl

theorem showDisp (h : s.onlyDisp t) : s.onlyDisp t.showDisp := by
  rw [Block.onlyDisp, t.showDisp_disp]
  exact h.trans t.onlyRegs_showDisp

theorem showItem (h : s.onlyDisp t) (alt : Bool) (i : Nat) : s.onlyDisp (t.showItem alt i) := (h.modDisp _).showDisp

/-- A detector of the page raised besides. -/
theorem raise (h : s.onlyDisp t) (d x : Nat) :
    ({ s with disp := (t.raise 0x37 d x).disp }).onlyRaised (t.raise 0x37 d x) [0x37] [dispStat] := by
  rw [t.raise_disp]
  exact (Block.onlyRegs.onlyRaised h [0x37]).raise d x (List.mem_singleton_self _)

theorem keyAction (h : s.onlyDisp t) (manual : Bool) :
    ({ s with disp := (t.keyAction manual).disp }).onlyRaised (t.keyAction manual) [0x37] [dispStat] := by
  unfold Block.keyAction
  exact (h.modDisp _).showDisp.raise 4 0

theorem getR (h : s.onlyDisp t) {a : Nat} (ha : a ≠ dispStat) : t.getR a = s.getR a := h.2 a (by simpa using ha)

theorem rtcSec (h : s.onlyDisp t) : t.rtcSec = s.rtcSec := by rw [h.1]; rfl

theorem dispOn (h : s.onlyDisp t) : t.dispOn = s.dispOn := by
  have state : t.pageState 0x37 = s.pageState 0x37 := Block.fld_congr (h.getR (by decide)) 2 0
  have power : t.pwr = s.pwr := by rw [h.1]
  rw [Block.dispOn, state, power]
  rfl

theorem itemWord (h : s.onlyDisp t) (alt : Bool) (i : Nat) : t.itemWord alt i = s.itemWord alt i :=
  h.getR (by cases alt <;> simp [dispStat, pg] <;> omega)

theorem itemUsed (h : s.onlyDisp t) (alt : Bool) (i : Nat) : t.itemUsed alt i = s.itemUsed alt i := by
  simp only [Block.itemUsed, h.itemWord]

/-- With the same item shown, the same one is next. -/
theorem nextItem (h : s.onlyDisp t) (alt : t.disp.alt = s.disp.alt) (item : t.disp.item = s.disp.item) : t.nextItem = s.nextItem := by
  rw [Block.nextItem, alt, item, h.itemUsed]
  rfl

end Block.onlyDisp

/-- t shows this item of this list since now in s, and its frame is due. -/
def Block.showsItem (s t : Block) (alt : Bool) (i : Nat) (manual : Bool) : Prop :=
  t.disp.alt = alt ∧ t.disp.item = i ∧ t.disp.manual = manual ∧ t.disp.since = s.rtcSec ∧ t.disp.changed = true

/-- An action of the user or of the timeout: an item shown from now on, detector 4, and nothing but the display's state moved. -/
def Block.displayActs (s t : Block) (alt : Bool) (i : Nat) (manual : Bool) : Prop :=
  s.showsItem t alt i manual ∧ t.rbit (pg 0x37 0x0C) 4 = true ∧ ({ s with disp := t.disp }).onlyRaised t [0x37] [dispStat]

/-! ### Keys (R372) -/

section
variable {s} {u : Block} (h : s.onlyDisp u) (alt : Bool) (i : Nat) (manual : Bool)
include h

theorem Block.onlyDisp.action_disp : ((u.showItem alt i).keyAction manual).disp
    = { u.disp with alt := alt, item := i, since := s.rtcSec, changed := true, manual := manual, lastAct := s.rtcSec } := by
  rw [Block.keyAction_disp, Block.showItem_disp, (h.showItem alt i).rtcSec, h.rtcSec]

theorem Block.onlyDisp.acts : s.displayActs ((u.showItem alt i).keyAction manual) alt i manual := by
  refine ⟨?_, Block.keyAction_event _ _, (h.showItem alt i).keyAction manual⟩
  rw [Block.showsItem, h.action_disp]
  exact ⟨rfl, rfl, rfl, rfl, rfl⟩

end

section
variable {s} (on : s.dispOn = true)
include on

theorem Block.keyAPress_row (accepted : s.disp.ignA = false) :
    s.displayActs s.keyAPress s.disp.alt s.nextItem true ∧ s.keyAPress.disp.keyA = true := by
  have down : s.onlyDisp (s.modDisp (fun d => { d with keyA := true })).showDisp := (Block.onlyDisp.refl.modDisp _).showDisp
  have row : s.keyAPress
      = (((s.modDisp (fun d => { d with keyA := true })).showDisp).showItem s.disp.alt s.nextItem).keyAction true := by
    unfold Block.keyAPress
    simp only [Block.showDisp_disp, Block.modDisp_disp, down.dispOn, accepted, on, Bool.not_true, Bool.or_self, Bool.false_eq_true,
      if_false, down.nextItem (by rw [Block.showDisp_disp, Block.modDisp_disp]) (by rw [Block.showDisp_disp, Block.modDisp_disp])]
  rw [row]
  exact ⟨down.acts s.disp.alt s.nextItem true, by rw [down.action_disp, Block.showDisp_disp, Block.modDisp_disp]⟩

theorem Block.keyBHold_row (accepted : s.disp.ignB = false) :
    s.displayActs s.keyBHold (!s.disp.alt) 0 true ∧ s.keyBHold.disp.keyB = true := by
  have down : s.onlyDisp (s.modDisp (fun d => { d with keyB := true })).showDisp := (Block.onlyDisp.refl.modDisp _).showDisp
  have row : s.keyBHold = (((s.modDisp (fun d => { d with keyB := true })).showDisp).showItem (!s.disp.alt) 0).keyAction true := by
    unfold Block.keyBHold
    simp only [Block.showDisp_disp, Block.modDisp_disp, down.dispOn, accepted, on, Bool.not_true, Bool.or_self, Bool.false_eq_true,
      if_false]
  rw [row]
  exact ⟨down.acts (!s.disp.alt) 0 true, by rw [down.action_disp, Block.showDisp_disp, Block.modDisp_disp]⟩

end

/-- A stuck key: its state changed and detector 3. -/
theorem Block.stuck_row (f : Disp → Disp) : ((s.modDisp f).raise 0x37 3 0).disp = f s.disp
    ∧ ((s.modDisp f).raise 0x37 3 0).rbit (pg 0x37 0x0C) 3 = true
    ∧ ({ s with disp := ((s.modDisp f).raise 0x37 3 0).disp }).onlyRaised ((s.modDisp f).raise 0x37 3 0) [0x37] [] := by
  rw [Block.raise_disp]
  exact ⟨rfl, Block.raise_event _ 0x37 3 0 (by decide), (s.modDisp f).onlyRaised_raise 0x37 3 0⟩

theorem Block.keyStuck_A (accepted : s.disp.ignA = false) (pressed : s.disp.keyA = true) :
    s.keyStuck false = (s.modDisp (fun d => { d with ignA := true })).raise 0x37 3 0 :=
  if_neg (by simp [accepted, pressed])

theorem Block.keyStuck_B (accepted : s.disp.ignB = false) (pressed : s.disp.keyB = true) :
    s.keyStuck true = (s.modDisp (fun d => { d with ignB := true })).raise 0x37 3 0 :=
  if_neg (by simp [accepted, pressed])

theorem Block.keyRelease_row (b : Bool) : (s.keyRelease b).disp
      = (if b then { s.disp with keyB := false, ignB := false } else { s.disp with keyA := false, ignA := false })
    ∧ s.onlyDisp (s.keyRelease b) :=
  ⟨Block.showDisp_disp _, (Block.onlyDisp.refl.modDisp _).showDisp⟩

/-! ### What time and the host show (R372) -/

theorem Block.manualTimeout_row (manual : s.disp.manual = true) (due : s.disp.lastAct + 60 ≤ s.rtcSec) :
    s.displayActs s.manualTimeout false 0 false := by
  rw [Block.manualTimeout, if_pos (by simp [manual, due])]
  exact Block.onlyDisp.refl.acts false 0 false

theorem Block.dwellExpire_row (on : s.dispOn = true) (auto : s.disp.manual = false)
    (due : s.disp.since + s.fld (pg 0x37 0x40) 20 16 ≤ s.rtcSec) :
    s.showsItem s.dwellExpire false s.nextItem false ∧ s.onlyDisp s.dwellExpire := by
  rw [Block.dwellExpire, if_pos (by simp [on, auto, due])]
  refine ⟨?_, Block.onlyDisp.refl.showItem false _⟩
  rw [Block.showsItem, Block.showItem_disp]
  exact ⟨rfl, rfl, auto, rfl, rfl⟩

theorem Block.dispShow_row {alt : Bool} {i : Nat} (used : s.itemUsed alt i = true) : s.showsItem (s.dispShow alt i) alt i true
    ∧ (s.dispShow alt i).disp.lastAct = s.rtcSec ∧ s.onlyDisp (s.dispShow alt i) := by
  have shown := (Block.onlyDisp.refl (s := s)).showItem alt i
  rw [Block.dispShow, if_neg (by simp [used])]
  refine ⟨?_, ?_, (shown.modDisp _).showDisp⟩
  · rw [Block.showsItem, Block.showDisp_disp, Block.modDisp_disp, Block.showItem_disp]
    exact ⟨rfl, rfl, rfl, rfl, rfl⟩
  · rw [Block.showDisp_disp, Block.modDisp_disp]

theorem Block.dispShow_refused {alt : Bool} {i : Nat} (unused : s.itemUsed alt i = false) : s.dispShow alt i = s.raise 0x37 1 0 :=
  if_pos (by simp [unused])

theorem Block.dispAuto_row : s.showsItem s.dispAuto false 0 false ∧ s.onlyDisp s.dispAuto := by
  refine ⟨?_, (Block.onlyDisp.refl.modDisp _).showItem false 0⟩
  rw [Block.showsItem, Block.dispAuto, Block.showItem_disp, (Block.onlyDisp.refl.modDisp _).rtcSec]
  exact ⟨rfl, rfl, rfl, rfl, rfl⟩

/-! ### A frame (R376, R528) -/

/-- The counter of frames. -/
abbrev frameCnt : Nat := pg 0x37 0x4C

theorem Block.dispFrame_stays (h : s.dispOn = false ∨ (s.rbit (pg 0x37 0x40) 31 = true ∧ s.granted 0x37 = false)) : s.dispFrame = s :=
  if_pos (by rcases h with off | ⟨port, refused⟩ <;> simp [*])

/-- What the services leave of a frame: it is no longer due, and it is counted. -/
theorem Block.onlyServices.keeps_frame {t u : Block} {n : Nat} {port : Prop} (h : t.onlyServices u) (changed : t.disp.changed = false)
    (counted : port → t.getN frameCnt = n) : u.disp.changed = false ∧ (port → u.getN frameCnt = n) := by
  refine ⟨by rw [h.1]; exact changed, fun on => ?_⟩
  rw [Block.getN_congr (h.getR (by decide))]
  exact counted on

theorem Block.dispFrame_row (on : s.dispOn = true) (may : s.rbit (pg 0x37 0x40) 31 = false ∨ s.granted 0x37 = true) :
    s.dispFrame.disp.changed = false
      ∧ (s.rbit (pg 0x37 0x40) 31 = true → s.dispFrame.getN frameCnt = (s.getN frameCnt + 1) % 2 ^ 32) := by
  unfold Block.dispFrame
  rw [if_neg (by rcases may with off | granted <;> simp [*])]
  extract_lets d w empty c ids rate annun faulted latched sent
  have faults : s.onlyServices faulted := Block.onlyServices.refl.maybe (Block.onlyServices.refl.raise 0x37 2 0)
  have kept (a : Nat) (ha : ¬ serviceReg a) : latched.getR a = s.getR a := faults.getR ha
  have changed : sent.disp.changed = false := by
    unfold sent
    split
    · rfl
    · rfl
  have counted (port : s.rbit (pg 0x37 0x40) 31 = true) : sent.getN frameCnt = (s.getN frameCnt + 1) % 2 ^ 32 := by
    have goes : latched.rbit (pg 0x37 0x40) 31 = true := (Block.rbit_congr (kept _ (by decide)) 31).trans port
    unfold sent
    rw [if_pos goes, ← Block.getN_congr (kept frameCnt (by decide))]
    exact latched.getN_wrapAdd_same frameCnt 1
  clear_value sent
  have entered := Block.onlyServices.refl (s := sent)
  exact (entered.maybe (entered.put (by decide) (by decide) _)).keeps_frame changed counted

/-! ### The rows -/

/-- DISP_CMD SHOW names its item in bits 21:16 and its list in bit 24. -/
theorem Block.cmdWrite_dispShow (alt : Bool) {i : Nat} (hi : i < 64) :
    s.cmdWrite 0x37 0x48 (cmdWord 1 0 (i + 256 * b2n alt)) = some (s.dispShow alt i) := by
  have small : i + 256 * b2n alt < 65536 := by cases alt <;> simp [b2n] <;> omega
  have cmd := cmdWord_cmd 1 0 (i + 256 * b2n alt) (by decide) (by decide) small
  have item : (cmdWord 1 0 (i + 256 * b2n alt)).bits 21 16 = i := by
    rw [cmdWord_bits _ _ _ 21 16 (by decide) (by decide) small]; cases alt <;> simp [b2n] <;> omega
  have list : (cmdWord 1 0 (i + 256 * b2n alt)).bit 24 = alt := by
    rw [Word.bit, cmdWord, BitVec.getLsbD_ofNat, Nat.testBit_eq_decide_div_mod_eq]
    cases alt <;> simp [b2n] <;> omega
  unfold Block.cmdWrite
  rw [cmd, item, list]
  rfl

theorem Block.toReg_dispShow (alt : Bool) {i : Nat} (ready : s.hostReady = true) (hi : i < 64) :
    s.toRegIf (i < 64) 0x37 0x48 (cmdWord 1 0 (i + 256 * b2n alt)) = s.arrive.nextFrame.dispShow alt i :=
  (s.toRegIf_of _ 0x37 0x48 _ ready (decide_eq_true hi) (by decide) (by decide) (by decide) (by decide)).trans
    (Block.regWriteTo_cmd _ _ _ _ _ (by decide) (Block.cmdWrite_dispShow _ alt hi))

theorem Block.toReg_dispAuto (ready : s.hostReady = true) :
    s.toReg 0x37 0x48 (cmdWord 2 0 0) = s.arrive.nextFrame.dispAuto :=
  (s.toReg_of 0x37 0x48 _ ready (by decide) (by decide) (by decide) (by decide)).trans (Block.regWriteTo_cmd _ _ _ _ _ (by decide) rfl)

/-- Settles O41: keys, time and frames as events where units run, SHOW and AUTO as the host's words. -/
theorem displayRows : Obligations.DisplayRows := by
  unfold Obligations.DisplayRows
  intro s d now stat shows
  let b := s.block.arrive
  refine ⟨fun up => ?events, fun ready => ⟨fun alt i hi => ⟨fun used => ?_, fun unused => ?_⟩, ?_⟩⟩
  case events =>
    have event (f : Block → Block) : s.block.actUp f = f b := s.block.actUp_of f up
    refine ⟨fun on accepted => ?_, fun on accepted => ?_, fun manual due => ?_, fun on auto due => ?_, fun accepted pressed => ?_,
      fun accepted pressed => ?_, fun k => ?_, fun on may => ?_, fun h => ?_⟩
    · obtain ⟨⟨item, raised, reach⟩, key⟩ := Block.keyAPress_row (s := b) on accepted
      exact leads_of rfl (event _) ⟨item, key, raised, reach⟩
    · obtain ⟨⟨item, raised, reach⟩, key⟩ := Block.keyBHold_row (s := b) on accepted
      exact leads_of rfl (event _) ⟨item, key, raised, reach⟩
    · exact leads_of rfl (event _) (b.manualTimeout_row manual due)
    · exact leads_of rfl (event _) (b.dwellExpire_row on auto due)
    · exact leads_of rfl ((event _).trans (b.keyStuck_A accepted pressed)) (b.stuck_row _)
    · exact leads_of rfl ((event _).trans (b.keyStuck_B accepted pressed)) (b.stuck_row _)
    · exact leads_of rfl (event _) (b.keyRelease_row k)
    · exact leads_of rfl (event _) (b.dispFrame_row on may)
    · exact next_of rfl ((event _).trans (b.dispFrame_stays h))
  · exact leads_of rfl (s.block.toReg_dispShow alt ready hi) (b.nextFrame.dispShow_row used)
  · exact leads_of rfl ((s.block.toReg_dispShow alt ready hi).trans (b.nextFrame.dispShow_refused unused))
      ⟨Block.raise_event _ 0x37 1 0 (by decide), b.nextFrame.onlyRaised_raise 0x37 1 0⟩
  · exact leads_of rfl (s.block.toReg_dispAuto ready) b.nextFrame.dispAuto_row

end Sys2Proof.Machine
end

section
/-! SUPPORT. The record store through a record offered to the log store (R463): the offer leaves the queue of commits, whatever power
request, ring entry or report it brings. -/

namespace Sys2Proof.Machine

/-- The record store's state is as it was. -/
def Block.keepsRecs (s t : Block) : Prop := t.recs = s.recs

namespace Block.keepsRecs

variable {s t u : Block}

theorem refl : s.keepsRecs s := rfl

theorem trans (h : s.keepsRecs t) (k : t.keepsRecs u) : s.keepsRecs u := Eq.trans k h

theorem ite {p : Prop} [Decidable p] (h : s.keepsRecs t) (k : s.keepsRecs u) : s.keepsRecs (if p then t else u) := by
  split
  · exact h
  · exact k

/-- A step that a test may leave out. -/
theorem maybe {p : Prop} [Decidable p] (h : s.keepsRecs t) (k : t.keepsRecs u) : s.keepsRecs (if p then u else t) := ite (h.trans k) h

theorem each {α : Type} (h : s.keepsRecs t) {f : α → Block → Block} (hf : ∀ x (b : Block), b.keepsRecs (f x b)) (l : List α) :
    s.keepsRecs (forEach l f t) :=
  List.foldlRecOn (motive := s.keepsRecs) _ _ h fun b hb x _ => hb.trans (hf x b)

theorem setR (h : s.keepsRecs t) (a : Nat) (v : Word) : s.keepsRecs (t.setR a v) := h

theorem modArb (h : s.keepsRecs t) (f : Arbiter → Arbiter) : s.keepsRecs (t.modArb f) := h

theorem modStream (h : s.keepsRecs t) (k : Nat) (f : LogStream → LogStream) : s.keepsRecs (t.modStream k f) := h

theorem raise (h : s.keepsRecs t) (p d x : Nat) : s.keepsRecs (t.raise p d x) := (t.raise_recs p d x).trans h

/-- A counter or a display moved, and a report of it that HOLD withholds. -/
theorem counted (h : s.keepsRecs t) (a : Nat) (v : Word) (p d x : Nat) :
    s.keepsRecs (if (t.setR a v).pwr.st == .hold then t.setR a v else (t.setR a v).raise p d x) :=
  ite h ((h.setR a v).raise p d x)

/-! ### Power requests (R529 to R532) -/

theorem showBudget (h : s.keepsRecs t) (r : ArbReq) : s.keepsRecs (t.showBudget r) := h.setR _ _

theorem arbSettle (h : s.keepsRecs t) (redo : Bool) (old new : ArbReq) : s.keepsRecs (t.arbSettle redo old new) := by
  unfold Block.arbSettle
  exact ((((h.modArb _).showBudget new).maybe ((refl.modArb _).counted _ _ 2 1 _)).maybe (refl.modArb _)).maybe
    (refl.counted _ _ 2 4 0)

theorem arbWait (h : s.keepsRecs t) (free : Nat) (r : ArbReq) : s.keepsRecs (t.arbWait free r).1 := by
  simp only [Block.arbWait]
  split
  · exact h
  · exact h

theorem arbRun (h : s.keepsRecs t) (redo : Bool) (free : Nat) (blocked : Bool) (l : List ArbReq) :
    s.keepsRecs (t.arbRun redo free blocked l) := by
  induction l generalizing t free blocked with
  | nil => exact h
  | cons r l ih =>
    refine ih (arbSettle ?_ _ _ _) _ _
    split
    · exact h.arbWait _ _
    · exact h

theorem arbDone (h : s.keepsRecs t) : s.keepsRecs t.arbC0.chargeCurrent := by
  unfold Block.arbC0
  exact ((((h.maybe (refl.counted _ _ 2 2 0)).modArb _).setR _ _).setR _ _).setR _ _

theorem arbRequest (h : s.keepsRecs t) (page cls mw : Nat) (standing : Bool) : s.keepsRecs (t.arbRequest page cls mw standing) := by
  unfold Block.arbRequest
  split
  · exact ite h ((h.modArb _).arbRun _ _ _ _).arbDone
  · exact (h.modArb _).showBudget _

theorem arbRelease (h : s.keepsRecs t) (page : Nat) : s.keepsRecs (t.arbRelease page) := by
  unfold Block.arbRelease
  split
  · exact h
  · exact ite (h.modArb _) ((h.modArb _).setR _ _)

theorem arbOperation (h : s.keepsRecs t) (page cls mw : Nat) : s.keepsRecs (t.arbOperation page cls mw).1 := by
  unfold Block.arbOperation
  refine ite ?freed (ite (arbRequest ?freed page cls mw false) ((arbRequest ?freed page cls mw false).arbRun _ _ _ _)).arbDone
  split
  · exact ite (h.arbRelease page) h
  · exact h

/-! ### The offer (R463) -/

theorem put (h : s.keepsRecs t) (n : Nat) (l : List Entry) : s.keepsRecs (t.put n l) := (t.put_recs n l).trans h

theorem logLose (h : s.keepsRecs t) (k stamp : Nat) : s.keepsRecs (t.logLose k stamp) := (h.modStream k _).maybe (refl.raise 0x3A 3 0)

theorem storRequest (h : s.keepsRecs t) : s.keepsRecs t.storRequest := ite (h.arbOperation _ _ _) (h.arbRelease _)

theorem stage (h : s.keepsRecs t) (k : Nat) (r : LogRec) : s.keepsRecs (t.stage k r) :=
  ite h (ite h (ite (h.logLose k _) (ite (h.logLose k _) ((ite h (h.put 10 _)).modStream k _).storRequest)))

end Block.keepsRecs

end Sys2Proof.Machine
end

section
/-! SUPPORT. The tamper unit (R383, R384, R386): samples through their filters, the vault buffer's move into the log, and ACK. -/

namespace Sys2Proof.Machine

variable (s : Block)

/-! ### TAMP_STAT and events (R384, R389) -/

theorem Block.getR_showTamp {a : Nat} (h : a ∉ [pg 0x38 0x44, pg 0x38 0x5C, pg 0x38 0x60]) : s.showTamp.getR a = s.getR a := by
  simp only [List.mem_cons, List.not_mem_nil, or_false, not_or] at h
  obtain ⟨stat, newest, base⟩ := h
  rw [Block.showTamp, Block.getR_setN_ne _ base, Block.getR_setN_ne _ newest, Block.getR_setF_ne _ stat, Block.getR_setF_ne _ stat,
    Block.getR_setF_ne _ stat]

@[simp] theorem Block.showTamp_tamp : s.showTamp.tamp = s.tamp := rfl

@[simp] theorem Block.showTamp_recs : s.showTamp.recs = s.recs := rfl

/-- TAMP_CFG (R389). -/
abbrev tampCfg : Nat := pg 0x38 0x40

theorem Block.getR_tampEvent {k : Nat} (hk : k < 2) (kind : Nat) (inj : Bool) :
    (s.tampEvent k kind inj).getR tampCfg = s.getR tampCfg := by
  have counter : tampCfg ≠ if kind = 1 then pg 0x38 (0x50 + 4 * k) else pg 0x38 0x58 := by
    split
    · unfold tampCfg pg; omega
    · decide
  unfold Block.tampEvent
  extract_lets a counted cnt ev
  have kept : counted.getR tampCfg = s.getR tampCfg := by
    unfold counted
    split
    · exact s.getR_bump_ne counter 15 0 1
    · rfl
  split
  · exact (Block.getR_showTamp _ (by decide)).trans kept
  · exact kept

/-- With room in the vault buffer an event joins it. -/
theorem Block.tampEvent_tamp (k kind : Nat) (inj : Bool) : (s.tampEvent k kind inj).tamp.inputs = s.tamp.inputs
    ∧ (s.tamp.vbuf.length < 16 → (s.tampEvent k kind inj).tamp.vbuf.length = s.tamp.vbuf.length + 1
        ∧ (s.tampEvent k kind inj).tamp.lost = s.tamp.lost) := by
  unfold Block.tampEvent
  extract_lets a counted cnt ev
  have kept : counted.tamp = s.tamp := by
    unfold counted
    split
    · rfl
    · rfl
  split
  next room =>
    rw [Block.showTamp_tamp, Block.modTamp_tamp, kept]
    exact ⟨rfl, fun _ => ⟨List.length_append, rfl⟩⟩
  next full =>
    rw [kept] at full
    rw [Block.modTamp_tamp, kept]
    exact ⟨rfl, fun room => absurd room full⟩

/-! ### Samples (R383) -/

/-- From s, t comes to these inputs, its filters configured as before, and to n more events where the vault buffer has room for them. -/
structure Block.Senses (s t : Block) (inputs : List TampInput) (n : Nat) : Prop where
  inputs : t.tamp.inputs = inputs
  config : t.getR tampCfg = s.getR tampCfg
  events : s.tamp.vbuf.length + n ≤ 16 → t.tamp.vbuf.length = s.tamp.vbuf.length + n ∧ t.tamp.lost = s.tamp.lost

namespace Block.Senses

variable {s} {t u : Block} {l m : List TampInput} {n j : Nat}

theorem refl : s.Senses s s.tamp.inputs 0 := ⟨rfl, rfl, fun _ => ⟨rfl, rfl⟩⟩

theorem trans (h : s.Senses t l n) (k : t.Senses u m j) : s.Senses u m (n + j) := by
  refine ⟨k.inputs, k.config.trans h.config, fun room => ?_⟩
  obtain ⟨length, lost⟩ := h.events (by omega)
  obtain ⟨length', lost'⟩ := k.events (by omega)
  exact ⟨by omega, lost'.trans lost⟩

/-- An input's filter written down. -/
theorem put (h : s.Senses t l n) (k : Nat) (i : TampInput) :
    s.Senses (t.modTamp (fun x => { x with inputs := setNth x.inputs k i })).showTamp (setNth l k i) n := by
  obtain ⟨inputs, config, events⟩ := h
  refine ⟨?_, (Block.getR_showTamp _ (by decide)).trans config, events⟩
  rw [Block.showTamp_tamp, ← inputs]
  rfl

/-- An accepted change is an event. -/
theorem event (h : s.Senses t l n) {k : Nat} (hk : k < 2) (kind : Nat) (old new : Bool) :
    s.Senses (if new == old then t else t.tampEvent k kind false) l (n + b2n (old != new)) := by
  refine h.trans (m := l) ?_
  by_cases same : new = old
  · subst same
    simp only [beq_self_eq_true, if_true, bne_self_eq_false]
    exact ⟨h.inputs, rfl, fun _ => ⟨rfl, rfl⟩⟩
  · have changed : b2n (old != new) = 1 := by simp [b2n, Ne.symm same]
    obtain ⟨inputs, events⟩ := t.tampEvent_tamp k kind false
    rw [if_neg (by simpa using same), changed]
    exact ⟨inputs.trans h.inputs, t.getR_tampEvent hk kind false, fun room => events (by omega)⟩

end Block.Senses

/-- What two samples make of an input's filter (R383). -/
def TampInput.sensed (i : TampInput) (cfg : Word) (k : Nat) (before end_ : Bool) : TampInput :=
  if !cfg.bit k then i
  else
    let filt := max 1 (cfg.bits 19 16)
    let run := if before == i.loopLast then min 255 (i.loopRun + 1) else 1
    let swRun := if end_ == i.swLast then min 255 (i.swRun + 1) else 1
    let fault := if filt ≤ run then before else i.loop
    if fault then { i with loopLast := before, loopRun := run, loop := fault, swRun := 0 }
    else ⟨before, run, end_, swRun, fault, if filt ≤ swRun then end_ != cfg.bit (8 + k) else i.isOpen⟩

/-- Accepted changes between two filters. -/
def TampInput.changes (i j : TampInput) : Nat := b2n (i.loop != j.loop) + b2n (i.isOpen != j.isOpen)

theorem TampInput.changes_self (i : TampInput) : i.changes i = 0 := by simp [TampInput.changes, b2n]

theorem Block.tampSense_senses {k : Nat} (hk : k < 2) {i : TampInput} (hi : s.tamp.inputs[k]? = some i) (before end_ : Bool) :
    s.Senses (s.tampSense k before end_) (setNth s.tamp.inputs k (i.sensed (s.getR tampCfg) k before end_))
      (i.changes (i.sensed (s.getR tampCfg) k before end_)) := by
  have own : nth TampInput.reset s.tamp.inputs k = i := by rw [nth, List.getD_eq_getElem?_getD, hi]; rfl
  have again (a b : TampInput) : setNth (setNth s.tamp.inputs k a) k b = setNth s.tamp.inputs k b := List.set_set ..
  unfold Block.tampSense
  rw [own]
  extract_lets cfg filt old run fault j put sampled heard swRun isOpen told
  cases enabled : cfg.bit k with
  | false =>
    have idle : i.sensed (s.getR tampCfg) k before end_ = i := if_pos (congrArg not enabled)
    have kept : setNth s.tamp.inputs k i = s.tamp.inputs := by
      obtain ⟨inside, is⟩ := List.getElem?_eq_some_iff.1 hi
      rw [setNth, ← is, List.set_getElem_self]
    rw [idle, TampInput.changes_self, kept]
    exact .refl
  | true =>
    have senses : ¬ (!cfg.bit k) = true := by simp [enabled]
    have loop : s.Senses heard (setNth s.tamp.inputs k j) (0 + b2n (i.loop != fault)) :=
      (Block.Senses.refl.put k j).event hk _ i.loop fault
    cases faulty : fault with
    | true =>
      have now : i.sensed (s.getR tampCfg) k before end_ = { j with swRun := 0 } := (if_neg senses).trans (if_pos faulty)
      have row := loop.put k { j with swRun := 0 }
      have changes : i.changes { j with swRun := 0 } = 0 + b2n (i.loop != fault) := by simp [TampInput.changes, j, old, b2n]
      rw [again] at row
      rw [now, changes]
      exact row
    | false =>
      have now : i.sensed (s.getR tampCfg) k before end_ = { j with swLast := end_, swRun := swRun, isOpen := isOpen } :=
        (if_neg senses).trans (if_neg (ne_true_of_eq_false faulty))
      have row := (loop.put k { j with swLast := end_, swRun := swRun, isOpen := isOpen }).event hk (if isOpen then 1 else 2)
        i.isOpen isOpen
      have changes : i.changes { j with swLast := end_, swRun := swRun, isOpen := isOpen }
          = 0 + b2n (i.loop != fault) + b2n (i.isOpen != isOpen) := by simp [TampInput.changes, j]
      rw [again] at row
      rw [now, changes]
      exact row

/-- The moment of a drive pulse leaves the tamper unit, the registers and the power state. -/
theorem Block.sampleMoment :
    s.vaultTick.sampled.tamp = s.tamp ∧ s.vaultTick.sampled.regs = s.regs ∧ s.vaultTick.sampled.pwr = s.pwr := by
  have tick : s.vaultTick.tamp = s.tamp ∧ s.vaultTick.regs = s.regs ∧ s.vaultTick.pwr = s.pwr := by
    unfold Block.vaultTick
    split
    · exact ⟨rfl, rfl, rfl⟩
    · exact ⟨rfl, rfl, rfl⟩
  unfold Block.sampled
  split
  · exact tick
  · exact tick

theorem Block.tampSample_senses (on : s.pwr.st ≠ .off) {i j : TampInput} (inputs : s.tamp.inputs = [i, j]) (c0 c1 t0 t1 : Bool) :
    s.Senses (s.tampSample c0 c1 t0 t1) [i.sensed (s.getR tampCfg) 0 c0 c1, j.sensed (s.getR tampCfg) 1 t0 t1]
      (i.changes (i.sensed (s.getR tampCfg) 0 c0 c1) + j.changes (j.sensed (s.getR tampCfg) 1 t0 t1)) := by
  have first := s.tampSense_senses (k := 0) (by decide) (by rw [inputs]; rfl) c0 c1
  rw [inputs] at first
  have second := (s.tampSense 0 c0 c1).tampSense_senses (k := 1) (by decide) (by rw [first.inputs]; rfl) t0 t1
  rw [first.inputs, first.config] at second
  rw [Block.tampSample, if_neg (by simpa using on)]
  exact first.trans second

end Sys2Proof.Machine
end

section
/-! SUPPORT. The tamper log (R384 to R386): the vault buffer moved into it, and its oldest entries freed by ACK. -/

namespace Sys2Proof.Machine

variable (s : Block)

/-! ### The move -/

/-- An entry written takes the next TSEQ; of the tamper unit nothing else moves. -/
theorem Block.tampWrite_tamp (e : TampEvent) : (s.tampWrite e).tamp = { s.tamp with tseq := s.tamp.tseq + 1 } := by
  unfold Block.tampWrite
  extract_lets t a numbered d inj raised
  have offered := (Block.onlyServices.refl.raiseX 0x38 d 0 false inj (t := numbered)).stage 1
    ⟨0x3801, b2n inj * 16, raised.stampNow, e.bytes t, .tamper a⟩
  rw [Block.showTamp_tamp, offered.1]
  rfl

/-- The entry that tells of lost events (R384). -/
def Block.lossEntry (s : Block) : TampEvent := ⟨s.rtcNow, s.stampNow, 0, 5, 4 * b2n (!s.rtcValid), s.tamp.lost, 0⟩

section
variable {s} (room : tampHeld s.tamp < 256) (fuel : Nat)
include room

theorem Block.tampMoveAll_event {e : TampEvent} {rest : List TampEvent} (is : s.tamp.vbuf = e :: rest) :
    s.tampMoveAll (fuel + 1) = ((s.modTamp (fun t => { t with vbuf := rest })).tampWrite e).tampMoveAll fuel := by
  rw [Block.tampMoveAll, if_neg (Nat.not_le.2 room), is]

theorem Block.tampMoveAll_loss (is : s.tamp.vbuf = []) (owed : s.tamp.lost ≠ 0) :
    s.tampMoveAll (fuel + 1) = (s.modTamp (fun t => { t with lost := 0 })).tampWrite s.lossEntry := by
  rw [Block.tampMoveAll, if_neg (Nat.not_le.2 room), is]
  exact if_neg owed

theorem Block.tampMoveAll_done (is : s.tamp.vbuf = []) (told : s.tamp.lost = 0) : s.tampMoveAll (fuel + 1) = s := by
  rw [Block.tampMoveAll, if_neg (Nat.not_le.2 room), is]
  exact if_pos told

end

/-- The tamper unit once all that waits stands in the log. -/
def Tamp.moved (t : Tamp) : Tamp :=
  { t with
    vbuf := []
    lost := 0
    tseq := t.tseq + t.vbuf.length + (if 0 < t.lost then 1 else 0) }

theorem Tamp.moved_done {t : Tamp} (is : t.vbuf = []) (told : t.lost = 0) : t.moved = t := by
  cases t
  subst is told
  rfl

theorem Tamp.moved_loss {t : Tamp} (is : t.vbuf = []) (owed : t.lost ≠ 0) : t.moved = { t with lost := 0, tseq := t.tseq + 1 } := by
  cases t
  subst is
  rw [Tamp.moved, if_pos (Nat.pos_of_ne_zero owed)]
  rfl

theorem Tamp.moved_event {t : Tamp} {e : TampEvent} {rest : List TampEvent} (is : t.vbuf = e :: rest) :
    ({ t with vbuf := rest, tseq := t.tseq + 1 } : Tamp).moved = t.moved := by
  rw [Tamp.moved, Tamp.moved, is, List.length_cons, Nat.add_right_comm t.tseq 1, Nat.add_assoc t.tseq]

/-- With room for the whole buffer and a loss entry, and enough steps, all of it is moved. -/
theorem Block.tampMoveAll_tamp (fuel : Nat) (enough : s.tamp.vbuf.length < fuel) (order : s.tamp.freed ≤ s.tamp.tseq)
    (room : tampHeld s.tamp + s.tamp.vbuf.length < 256) : (s.tampMoveAll fuel).tamp = s.tamp.moved := by
  induction fuel generalizing s with
  | zero => omega
  | succ fuel ih =>
    have place : tampHeld s.tamp < 256 := by omega
    match is : s.tamp.vbuf with
    | [] =>
      by_cases told : s.tamp.lost = 0
      · rw [Block.tampMoveAll_done place fuel is told, Tamp.moved_done is told]
      · rw [Block.tampMoveAll_loss place fuel is told, Block.tampWrite_tamp, Tamp.moved_loss is told]
        rfl
    | e :: rest =>
      have written : ((s.modTamp (fun t => { t with vbuf := rest })).tampWrite e).tamp
          = { s.tamp with vbuf := rest, tseq := s.tamp.tseq + 1 } := Block.tampWrite_tamp _ e
      rw [is, List.length_cons] at enough room
      unfold tampHeld at room
      rw [Block.tampMoveAll_event place fuel is, ih _ (by rw [written]; exact Nat.lt_of_succ_lt_succ enough)
        (by rw [written]; exact Nat.le_succ_of_le order) (by rw [written, tampHeld]; dsimp only; omega), written, Tamp.moved_event is]

/-- The TAMPER record is to be committed: its commit joins the queue. -/
theorem Block.tampCommit_row : s.tampCommit.tamp = s.tamp ∧ (∃ c ∈ s.tampCommit.recs.queue, c.id = 0x21)
    ∧ s.tampCommit.getR (pg 0x38 0x44) = s.getR (pg 0x38 0x44) :=
  ⟨rfl, ⟨_, List.mem_append_right _ (List.mem_singleton_self _), rfl⟩, s.getR_setF_ne (by decide) 31 24 _⟩

/-- What waits takes at least one TSEQ. -/
theorem Tamp.tseq_lt_moved {t : Tamp} (waits : t.vbuf ≠ [] ∨ 0 < t.lost) : t.tseq < t.moved.tseq := by
  rw [Tamp.moved]
  dsimp only
  rcases waits with events | loss
  · have := List.length_pos_iff.2 events
    omega
  · rw [if_pos loss]
    omega

theorem Block.tampMove_row (waits : s.tamp.vbuf ≠ [] ∨ 0 < s.tamp.lost) (permit : s.permit = true) (outside : s.pwr.st ≠ .hold)
    (small : s.tamp.vbuf.length ≤ 16) (order : s.tamp.freed ≤ s.tamp.tseq) (room : tampHeld s.tamp + s.tamp.vbuf.length < 256) :
    (∃ ep, s.tampMove.tamp = { s.tamp.moved with fullEp := ep }) ∧ ∃ c ∈ s.tampMove.recs.queue, c.id = 0x21 := by
  have moved := s.tampMoveAll_tamp 32 (by omega) order room
  have goes : ¬ (s.tamp.vbuf.isEmpty && decide (s.tamp.lost = 0) || !s.permit || s.pwr.st == .hold) = true := by
    have owed : ¬ (s.tamp.vbuf = [] ∧ s.tamp.lost = 0) := by
      rintro ⟨events, loss⟩
      exact waits.elim (absurd events) (by omega)
    simpa [permit, outside] using owed
  unfold Block.tampMove
  rw [if_neg goes]
  extract_lets before log full told shown
  have state : shown.tamp = { s.tamp.moved with fullEp := full } := by
    have same : told.tamp = s.tamp.moved := by
      unfold told
      split
      · exact (Block.raise_tamp _ _ _ _).trans moved
      · exact moved
    exact (Block.showTamp_tamp _).trans (by rw [Block.modTamp_tamp, same])
  have later : shown.tamp.tseq ≠ before := by
    rw [state]
    exact Nat.ne_of_gt (Tamp.tseq_lt_moved waits)
  obtain ⟨tamp, committed, -⟩ := shown.tampCommit_row
  rw [if_neg later]
  exact ⟨⟨full, tamp.trans state⟩, committed⟩

/-! ### The log store's catch-up (R467) -/

/-- The log store's reach: the services alone, and of them not the record store. -/
def Block.onlyLogged (s t : Block) : Prop := s.onlyServices t ∧ s.keepsRecs t

theorem Block.onlyLogged.maybe {s t u : Block} {p : Prop} [Decidable p] (h : s.onlyLogged t) (k : t.onlyLogged u) :
    s.onlyLogged (if p then u else t) :=
  ⟨h.1.maybe k.1, h.2.maybe k.2⟩

/-- A stream that has caught up, its records offered one after the other. -/
theorem Block.onlyLogged_offers {α : Type} (j k : Nat) (f : LogStream → LogStream) (l : List α) (r : α → Block → LogRec) :
    s.onlyLogged (forEach l (fun x b => b.stage k (r x b)) (s.modStream j f)) :=
  ⟨(Block.onlyServices.refl.modStream j f).each (fun x b => Block.onlyServices.refl.stage k (r x b)) l,
    (Block.keepsRecs.refl.modStream j f).each (fun x b => Block.keepsRecs.refl.stage k (r x b)) l⟩

theorem Block.onlyLogged_storCatchUp : s.onlyLogged s.storCatchUp := by
  unfold Block.storCatchUp
  extract_lets staged a sheaves s1 first b entries s2
  have caught : s.onlyLogged first := Block.onlyLogged.maybe ⟨.refl, .refl⟩ (s.onlyLogged_offers 2 2 _ sheaves _)
  exact caught.maybe (first.onlyLogged_offers 1 1 _ entries _)

/-! ### ACK (R386) -/

/-- What ACK may free: entries from the oldest on, at most n, and with locked only those with LOGGED. -/
theorem Block.tampFree_spec (locked : Bool) (n k : Nat) : k ≤ s.tampFree locked n k ∧ s.tampFree locked n k ≤ k + n
    ∧ (locked = false → s.tampFree locked n k = k + n)
    ∧ ∀ i, k ≤ i → i < s.tampFree locked n k → locked = true → s.tampLogged (tampAddr (s.tamp.freed + 1 + i)) = true := by
  induction n generalizing k with
  | zero => exact ⟨Nat.le_refl k, Nat.le_refl k, fun _ => rfl, fun i low high => absurd high (Nat.not_lt.2 low)⟩
  | succ n ih =>
    unfold Block.tampFree
    by_cases stops : (locked && !s.tampLogged (tampAddr (s.tamp.freed + 1 + k))) = true
    · rw [if_pos stops]
      refine ⟨Nat.le_refl k, Nat.le_add_right _ _, fun unlocked => ?_, fun i low high => absurd high (Nat.not_lt.2 low)⟩
      rw [unlocked] at stops
      exact absurd stops Bool.false_ne_true
    · obtain ⟨low, high, all, logged⟩ := ih (k + 1)
      rw [if_neg stops]
      refine ⟨by omega, by omega, fun unlocked => by rw [all unlocked]; omega, fun i since below lock => ?_⟩
      rcases Nat.eq_or_lt_of_le since with rfl | above
      · simpa [lock] using stops
      · exact logged i above below lock

theorem Block.tampFree_congr {s t : Block} (tamp : t.tamp = s.tamp) (feram : t.feram = s.feram) (locked : Bool) (n k : Nat) :
    t.tampFree locked n k = s.tampFree locked n k := by
  induction n generalizing k with
  | zero => rfl
  | succ n ih =>
    have logged (a : Nat) : t.tampLogged a = s.tampLogged a := by rw [Block.tampLogged, Block.feramGet, feram]; rfl
    rw [Block.tampFree, Block.tampFree, tamp, logged, ih]

/-- Entries that ACK_SEQ names, as a distance from what is freed. -/
def Block.ackWant (s : Block) : Nat :=
  let diff := (s.getN (pg 0x38 0x4C) + 2 ^ 32 - s.tamp.freed % 2 ^ 32) % 2 ^ 32
  if diff < 2 ^ 31 then min diff (tampHeld s.tamp) else 0

/-- Entries that ACK frees. -/
def Block.ackFrees (s : Block) : Nat := s.tampFree (decide (3 ≤ s.lcState)) s.ackWant 0

theorem Block.ackFrees_arrive : s.arrive.nextFrame.ackFrees = s.ackFrees :=
  Block.tampFree_congr (s := s) (t := s.arrive.nextFrame) rfl rfl (decide (3 ≤ s.lcState)) s.ackWant 0

/-- ACK before its commit: the entries freed, and ACK_RESULT. -/
def Block.ackShown (s : Block) : Block :=
  ((s.modTamp (fun t => { t with freed := t.freed + s.ackFrees })).showTamp).setF (pg 0x38 0x44) 31 30
    (if s.ackFrees = 0 then 3 else if s.ackFrees < s.ackWant then 2 else 1)

theorem Block.tampAck_eq : s.tampAck = if s.ackFrees = 0 then s.ackShown else s.ackShown.tampCommit := rfl

theorem Block.ackShown_result : s.ackShown.fld (pg 0x38 0x44) 31 30
    = if s.ackFrees = 0 then 3 else if s.ackFrees < s.ackWant then 2 else 1 := by
  rw [Block.ackShown, Block.fld_setF_same _ _ _ _ _ (by decide) (by decide)]
  split
  · rfl
  · split
    · rfl
    · rfl

theorem Block.ackShown_tamp : s.ackShown.tamp = { s.tamp with freed := s.tamp.freed + s.ackFrees } := by
  rw [Block.ackShown, Block.setF_tamp, Block.showTamp_tamp, Block.modTamp_tamp]

theorem Block.ackShown_recs : s.ackShown.recs = s.recs := by
  rw [Block.ackShown, Block.setF_recs, Block.showTamp_recs, Block.modTamp_recs]

theorem Block.tampAck_row : s.tampAck.tamp = { s.tamp with freed := s.tamp.freed + s.ackFrees }
    ∧ s.tampAck.fld (pg 0x38 0x44) 31 30 = (if s.ackFrees = 0 then 3 else if s.ackFrees < s.ackWant then 2 else 1)
    ∧ (s.ackFrees = 0 → s.tampAck.recs = s.recs) ∧ (0 < s.ackFrees → ∃ c ∈ s.tampAck.recs.queue, c.id = 0x21) := by
  rw [Block.tampAck_eq, ← s.ackShown_result, ← s.ackShown_tamp]
  by_cases nothing : s.ackFrees = 0
  · rw [if_pos nothing]
    exact ⟨rfl, rfl, fun _ => s.ackShown_recs, fun frees => absurd nothing (Nat.ne_of_gt frees)⟩
  · obtain ⟨tamp, committed, stat⟩ := s.ackShown.tampCommit_row
    rw [if_neg nothing]
    exact ⟨tamp, Block.fld_congr stat 31 30, fun zero => absurd zero nothing, fun _ => committed⟩

/-! ### The rows -/

/-- TAMP_CMD (R389) by its command. ACK is then told from any block in its place, so that the kernel does not unfold what it does. -/
theorem Block.cmdWrite_tamper (v : Word) : s.cmdWrite 0x38 0x48 v = some (match v.bits 3 0 with
    | 0 => s
    | 1 => s.tampAck
    | _ => s.raise 0x38 6 0) := rfl

theorem Block.cmdWrite_ack : s.cmdWrite 0x38 0x48 (cmdWord 1 0 0) = some s.tampAck := by
  have ack (t : Block) : (match (cmdWord 1 0 0).bits 3 0 with
      | 0 => s
      | 1 => t
      | _ => s.raise 0x38 6 0) = t := rfl
  exact (s.cmdWrite_tamper _).trans (congrArg some (ack s.tampAck))

theorem Block.toReg_ack (ready : s.hostReady = true) : s.toReg 0x38 0x48 (cmdWord 1 0 0) = s.arrive.nextFrame.tampAck :=
  (s.toReg_of 0x38 0x48 _ ready (by decide) (by decide) (by decide) (by decide)).trans
    (Block.regWriteTo_cmd _ _ _ _ _ (by decide) (Block.cmdWrite_ack _))

/-- Settles O42: the samples input by input, the move entry by entry with its commit kept, and ACK by what it may free. -/
theorem tamperRows : Obligations.TamperRows := by
  unfold Obligations.TamperRows
  intro s cfg filt senses changes
  refine ⟨fun i j c0 c1 t0 t1 on inputs => ?samples, fun powered permit outside waits small room order => ?move, fun ready => ?ack⟩
  case samples =>
    obtain ⟨tamp, regs, pwr⟩ := s.block.sampleMoment
    have row := s.block.vaultTick.sampled.tampSample_senses (by rw [pwr]; exact on) (by rw [tamp]; exact inputs) c0 c1 t0 t1
    rw [Block.getR_congr regs] at row
    obtain ⟨sensed, -, events⟩ := row
    rw [tamp, ← Nat.add_assoc] at events
    exact leads_of rfl rfl ⟨sensed, events⟩
  case move =>
    obtain ⟨⟨ep, moved⟩, c, queued, isTamper⟩ := s.block.arrive.tampMove_row waits permit outside small order room
    obtain ⟨services, recs⟩ := s.block.arrive.tampMove.onlyLogged_storCatchUp
    have state : s.block.arrive.tampMove.storCatchUp.tamp = { s.block.tamp.moved with fullEp := ep } := by
      rw [services.1]
      exact moved
    refine leads_of rfl (s.block.act_of _ powered) ⟨by rw [state]; rfl, by rw [state]; rfl, by rw [state]; rfl, c, ?_, isTamper⟩
    rw [show s.block.arrive.tampMove.storCatchUp.recs = _ from recs]
    exact queued
  case ack =>
    let b := s.block.arrive.nextFrame
    obtain ⟨freed, shown, idle, committed⟩ := b.tampAck_row
    obtain ⟨-, most, all, logged⟩ := s.block.tampFree_spec (decide (3 ≤ s.block.lcState)) s.block.ackWant 0
    rw [show b.ackFrees = s.block.ackFrees from s.block.ackFrees_arrive] at freed shown idle committed
    exact leads_of rfl (s.block.toReg_ack ready) ⟨freed, by rwa [Nat.zero_add] at most,
      fun unlocked => (all (decide_eq_false (Nat.not_le.2 unlocked))).trans (Nat.zero_add _),
      fun i below locked => logged i (Nat.zero_le i) below (decide_eq_true locked), shown, idle, committed⟩

end Sys2Proof.Machine
end
